-- ==== Sys2Proof/Word.lean ====
section
/-! DEFINITION. The word types of the OU9640's register space (R64: aligned 32-bit words) and the signed
arithmetic operators of R9. -/

namespace Sys2Proof

/-- A register word (R64). -/
abbrev Word := BitVec 32

/-- A byte of an addressed memory (R33). -/
abbrev Byte := BitVec 8

/-- A number of IEEE 754 binary64 (R138), by its encoding. -/
abbrev F64 := BitVec 64

end Sys2Proof
end

