-- ==== Sys2Proof/Syntax.lean ====
section
/-! DEFINITION. The commands of the block, one constructor of Instr for each row of spec/opcode_table.json, and the
data that a command carries. The table gives its rows no operands; the operands here are what the row's rule says
the outside world brings: the sender of an access, a written value, the content of a frame or image, a level of a
pin, or the outcome of a check whose arithmetic lies outside the block. -/

namespace Sys2Proof

abbrev Carrel := Fin 192
abbrev WingIx := Fin 4
abbrev CoreIx := Fin 8
abbrev Tid := Fin 256
abbrev Dc := Fin 512
abbrev MbxIx := Fin 32
abbrev PwmIx := Fin 16
abbrev FbIx := Fin 24
abbrev PortIx := Fin 64
abbrev CanIx := Fin 4
abbrev PathIx := Fin 16
abbrev EthIx := Fin 2

/-- Who makes an access: the agent code of R15, and the Synzon endpoint address for agent code 11 (R128). -/
structure Sender where
  agent : Fin 14
  ep : Fin 4096 := 0
  deriving DecidableEq, Repr

/-- The width of an access (R64): registers take aligned words, and an aligned 64-bit access is split. -/
inductive Width where
  | byte | half | word | dword
  deriving DecidableEq, Repr

/-- What the ECC of a memory finds at an access (R33). -/
inductive Ecc where
  | none | corr | uncorr
  deriving DecidableEq, Repr

/-- The sources of a system reset (R83). -/
inductive RstSrc where
  | powerOn | brownout | external | watchdog | software | island | debug
  deriving DecidableEq, Repr

/-- What a core asks of a cacheable address (R100, R102): a load or store, an instruction fetch, or the cache-block
operations cbo.clean, cbo.inval and cbo.flush. -/
inductive CacheOp where
  | data | fetch | clean | inval | flush
  deriving DecidableEq, Repr

/-- A request of an agent to the interconnect (R15): to a register, at its place in the register space, or where `mem` is
given to that physical address (R59). `hi` is the upper word of a 64-bit write; `op` is what a core asks of its caches,
`ecc` what the ECC or parity of the memory or cache that answers finds (R33). -/
structure BusReq where
  snd : Sender
  addr : Fin 16777216
  wr : Bool
  width : Width := .word
  val : Word := 0#32
  hi : Word := 0#32
  mem : Option (Fin (2 ^ 40)) := none
  op : CacheOp := .data
  ecc : Ecc := .none
  deriving DecidableEq, Repr

/-- What the block's own hardware does to a register in one home-domain clock (R29): the fields that it updates with
their value, and the bits that it sets. -/
structure HwUpd where
  mask : Word := 0#32
  val : Word := 0#32
  sets : Word := 0#32
  deriving DecidableEq, Repr

/-! ### Vessel motion (07_vessel_motion_frames.md) -/

/-- A vector, a unit quaternion, and the pose of a frame in another (R137), of binary64 numbers. -/
structure V3 where
  x : F64 := 0#64
  y : F64 := 0#64
  z : F64 := 0#64
  deriving DecidableEq, Repr, Inhabited

structure Q4 where
  w : F64 := 0x3FF0000000000000#64
  x : F64 := 0#64
  y : F64 := 0#64
  z : F64 := 0#64
  deriving DecidableEq, Repr, Inhabited

structure Pose where
  p : V3 := {}
  q : Q4 := {}
  deriving DecidableEq, Repr, Inhabited

/-- The error-state filter (R143): Deck Time at which it stands; pose and velocity of V in E; the biases of gyro, specific
force and position reference; the covariance of the 18 error states by rows. The rate is that of the
last sample without its bias. -/
structure Est where
  t : Nat := 0
  pose : Pose := {}
  vel : V3 := {}
  rate : V3 := {}
  bg : V3 := {}
  ba : V3 := {}
  br : V3 := {}
  cov : List F64 := []
  deriving DecidableEq, Repr, Inhabited

/-- The estimate of a target (R142, R147): Deck Time at which it stands, pose, velocity and rate of Tn in E. -/
structure TgtEst where
  t : Nat := 0
  pose : Pose := {}
  vel : V3 := {}
  rate : V3 := {}
  deriving DecidableEq, Repr, Inhabited

/-- A measurement (R143): 0 position, 1 heading, 2 horizontal velocity, 3 zero horizontal velocity, 4 + n target n; its
innovation, and its standard deviations. -/
structure Innov where
  kind : Nat
  z : List F64
  sd : List F64
  /-- The target in V, of a target item. -/
  rel : Pose := {}
  deriving DecidableEq, Repr, Inhabited

/-! ### Synzon frames (15_synzon_link.md) -/

/-- What a receiver sees of a frame before its body (R351, R354 to R356): whether every code-group was valid, the
CRC passed and the length fits the header, the header's fields, and the arrival of /S/ relative to the instant of
the command, in 1/16 ns (R367). -/
structure FrameHdr where
  codeOk : Bool := true
  crcOk : Bool := true
  lenOk : Bool := true
  kindOk : Bool := true
  src : Fin 4096
  dst : Fin 4096
  cycle : Nat
  claim : Nat := 0
  ack : Option (Nat × Nat) := none
  arr : Int := 0
  deriving DecidableEq, Repr

/-- The CYCLE_START body (R357). -/
structure CsBody where
  deckTime : Nat
  corr : Nat := 0
  entry : Nat := 0
  go : Bool := false
  abort : Bool := false
  swTarget : Nat := 0
  swId : Nat := 0
  swCount : Nat := 0
  seat : Nat := 0
  digest : Nat := 0
  rev : Nat := 0xB0
  fwset : Nat := 0
  cold : Bool := false
  deriving DecidableEq, Repr

/-- A feedback item (R358). -/
structure FbItem where
  pos : Int := 0
  vfb : Int := 0
  status : Nat := 0
  age : Nat := 0
  deriving DecidableEq, Repr

/-- A command item (R359). -/
structure CmdItem where
  seq : Nat := 0
  en : Bool := false
  home : Bool := false
  homeSet : Bool := false
  step : Bool := false
  value : Int := 0
  deriving DecidableEq, Repr

/-- An IMU sample item (R139). -/
structure ImuItem where
  time : Nat
  force : List Int := [0, 0, 0]
  rate : List Int := [0, 0, 0]
  valid : Bool := true
  selftestFail : Bool := false
  saturated : Bool := false
  age : Nat := 0
  deriving DecidableEq, Repr

/-- A target pose item (R142). -/
structure TgtItem where
  time : Nat
  pos : List Int := [0, 0, 0]
  quat : List Int := [0, 0, 0, 0]
  target : Nat
  valid : Bool := true
  age : Nat := 0
  /-- Standard deviations in 0.1 mm and in 10 µrad. -/
  posSd : Nat := 0
  attSd : Nat := 0
  deriving DecidableEq, Repr

/-- An item of a safety payload (R302, R332). -/
inductive SafeItem where
  | track (time : Nat) (pos : List Int) (vel : List Int) (r h sigma slot cls : Nat) (valid present : Bool)
  | command (dst axis func limit : Nat)
  | status (axis func flags kfb vel count : Nat)
  deriving DecidableEq, Repr

/-- A safety payload (R332); `checkOk` says that its bytes came undamaged, and `check` is the safety check that came or
goes with them, where none is given the one of its bytes. -/
structure SafePayload where
  src : Nat
  kind : Nat
  seq : Nat
  items : List SafeItem := []
  checkOk : Bool := true
  check : Option Nat := none
  deriving DecidableEq, Repr

/-- A service message (R361): its type and its fields in the order of its body. -/
structure SvcMsg where
  typ : Nat
  body : List Nat := []
  dst : Nat := 0xFFF
  waited : Nat := 0
  deriving DecidableEq, Repr

/-- The body of a DISCOVERY frame other than LOAD (R388). -/
structure DiscBody where
  op : Nat
  hops : Nat := 0
  hop : Nat := 0
  reply : Bool := false
  fail : Bool := false
  path : List Nat := []
  ret : List Nat := []
  tag : Nat := 0
  result : Nat := 0
  reason : Nat := 0
  operand : List Nat := []
  deriving DecidableEq, Repr

/-- The body of a LOAD frame (R394). -/
structure LoadBody where
  img : Nat
  chunk : Nat
  length : Nat
  data : List (BitVec 8) := []
  deriving DecidableEq, Repr

/-- A twin write (R413). -/
structure TwinWrite where
  addr : Nat
  agent : Nat
  val : Word
  deriving DecidableEq, Repr

/-- A resynchronisation record (R416): KIND, SUB, INDEX and its body's fields in the order listed. -/
structure RsRec where
  kind : Nat
  sub : Nat := 0
  index : Nat := 0
  body : List Int := []
  deriving DecidableEq, Repr

/-- The TWIN body (R413). -/
structure TwinBody where
  health : Bool := true
  handover : Bool := false
  rs : Bool := false
  writes : List TwinWrite := []
  records : List RsRec := []
  deriving DecidableEq, Repr

/-- The content of a frame by KIND (R355). -/
inductive FrameBody where
  | cycleStart (b : CsBody)
  | feedback (items : List FbItem)
  | command (items : List CmdItem) (cfgTag : Nat)
  | safety (p : SafePayload)
  | dataImu (items : List ImuItem)
  | dataTgt (items : List TgtItem)
  | join
  | discovery (b : DiscBody)
  | load (b : LoadBody)
  | twin (b : TwinBody)
  deriving DecidableEq, Repr

/-- A frame that the device hands to a port (R354). -/
structure TxFrame where
  port : Nat
  src : Nat
  dst : Nat
  cycle : Nat
  claim : Nat := 0
  ack : Option (Nat × Nat) := none
  body : FrameBody
  svc : Option SvcMsg := none
  deriving DecidableEq, Repr

/-- A CAN frame on a bus (R438, R450). -/
structure CanFrame where
  ident : Fin (2 ^ 29)
  ide : Bool := false
  dlc : Fin 16 := 0
  fdf : Bool := false
  brs : Bool := false
  esi : Bool := false
  rtr : Bool := false
  data : List (BitVec 8) := []
  deriving DecidableEq, Repr

/-! ### The configuration image -/

/-- What an item of a slot is bound to (R363). -/
inductive ItemRef where
  | carrel (c : Nat)
  | imu (i : Nat)
  | target (t : Nat)
  deriving DecidableEq, Repr

/-- A slot of a Catalogue entry (R363). -/
structure Slot where
  start : Nat
  len : Nat
  sender : Nat
  kind : Nat
  dst : Nat
  items : List ItemRef := []
  allow : Nat := 0
  /-- The links the frame crosses and its interval on each, as R538 forms them: link number, start, end (ticks). -/
  links : List (Nat × Nat × Nat) := []
  /-- The path delay to this device, in 2^-4 ns (R393). -/
  delta : Nat := 0
  deriving DecidableEq, Repr

/-- A Catalogue entry (R363). -/
structure CatEntry where
  valid : Bool := false
  joinStart : Nat := 0
  slots : List Slot := []
  deriving DecidableEq, Repr

/-- An entry of the device table (R387). `pathOk` is false where PATH passes through a device that is neither a Hub
nor a Coordinator or Reserve with STAR ports. -/
structure DevEntry where
  path : List Nat := []
  endpoint : Nat
  role : Nat
  seat : Nat
  uid : Nat := 0
  pin : Bool := false
  boot : Bool := false
  third : Bool := false
  model : Nat := 0
  star : Bool := false
  dlyX : Nat := 0
  dlyY : Nat := 0
  deriving DecidableEq, Repr

/-- An entry of the routing table (R393). -/
structure RtEntry where
  xport : Nat := 0
  xv : Bool := false
  yport : Nat := 0
  yv : Bool := false
  isLocal : Bool := false
  hops : Nat := 0
  delta : Nat := 0
  deriving DecidableEq, Repr

/-! ### Images (22_security_and_records.md) -/

/-- What the verification of R485 reads of an image: whether MAGIC, HDR_VER, BODY_LEN and the zero fields are right,
the header's fields, the hash of its public key, whether the signature over D verifies, D, and for a token the first
32 bytes of its body and its permission word. -/
structure ImgHdr where
  formOk : Bool := true
  typ : Nat
  slot : Nat
  rev : Nat := 0xB0
  roles : Nat := 0xF
  bind : Nat := 0
  ctr : Nat := 1
  ctrVal : Nat := 0
  fwset : Nat := 0
  entry : Nat := 0
  keyHash : Nat := 0
  sigOk : Bool := true
  digest : Nat := 0
  chal : Nat := 0
  perm : Nat := 0
  deriving DecidableEq, Repr

/-! ### Host and network (20_host_memory_network.md) -/

/-- An Ethernet frame from its destination address up to its payload's end, and whether its FCS is right. -/
structure EthFrame where
  data : List (BitVec 8)
  fcsOk : Bool := true
  deriving DecidableEq, Repr

/-- What the host sends: an access through an inbound window, an access of the MSI-X structures of BAR4, or the
control bits of its configuration space that the rules name. -/
inductive PcieTlp where
  | window (w : Fin 2) (off : Fin (2 ^ 24)) (wr : Bool) (val : Word) (poisoned : Bool)
  | msix (off : Fin 4096) (wr : Bool) (val : Word) (poisoned : Bool)
  | control (busMaster fmask : Bool)
  deriving DecidableEq, Repr

/-- The format of a row (R196): fractional bits and the analysed range. -/
structure RowFmt where
  f : Nat := 0
  lo : Int := -2147483648
  hi : Int := 2147483647
  deriving DecidableEq, Repr

/-- A fixed pose of the kinematic records: a rotation matrix by rows in 2^-30, and a position in its row's format. -/
structure FixPose where
  rot : List Int := [1073741824, 0, 0, 0, 1073741824, 0, 0, 0, 1073741824]
  pos : List Int := [0, 0, 0]
  deriving DecidableEq, Repr

/-- A joint of a machine (R196): its carrel and the conversion constants of R201 and R202; whether it is prismatic, its
fixed pose F_j, the conversion of its row value to a turn (R199), W⁻¹, N and q_pref. -/
structure JointCfg where
  carrel : Nat
  prism : Bool := false
  fix : FixPose := {}
  kt : Int := 0
  kts : Nat := 0
  winv : Int := 0
  nw : Int := 0
  qpref : Int := 0
  kq : Int := 0
  s : Nat := 0
  ofs : Int := 0
  kv : Int := 0
  t : Nat := 0
  ka : Int := 0
  u : Nat := 0
  gq : Int := 0
  g : Nat := 0
  qmin : Int := 0
  qmax : Int := 0
  deriving DecidableEq, Repr

/-- A variant of a machine (R196, R197). -/
structure VariantCfg where
  lock : Nat := 0
  task : Nat := 0
  ikTol : Nat := 0
  stopTol : Nat := 0
  sig : Nat := 0
  lambda : Nat := 1
  kNs : Int := 0
  deriving DecidableEq, Repr

/-- A machine of the image (R196, R175): chain joints, carrels of its tool joints, variants, equivalent radius; the pose of
its base in V, its tool centre point, its tool joints for forward kinematics, and the row formats by quantity and row
(Machine.Quantity). -/
structure MachCfg where
  joints : List JointCfg := []
  tools : List Nat := []
  variants : List VariantCfg := []
  rotR : Nat := 0
  base : Pose := {}
  tool : FixPose := {}
  toolFk : List JointCfg := []
  rows : List ((Nat × Nat) × RowFmt) := []
  deriving DecidableEq, Repr

/-- An actuator of the thrust allocation (R207): 0 AZIMUTH, 1 FIXED, 2 FIN. -/
structure ActCfg where
  kind : Nat
  /-- Carrel of the azimuth or fin angle, and of the propeller speed. -/
  angle : Nat := 0
  speed : Nat := 0
  tmax : Nat := 1
  /-- The 17 entries of the speed table (R209). -/
  table : List Nat := []
  /-- Counts of one turn (azimuth), and counts for 2^28 units of fin angle. -/
  scale : Nat := 0
  lo : List Int := []
  hi : List Int := []
  /-- The column of B of each variable over the six rows. -/
  cols : List (List Int) := []
  deriving DecidableEq, Repr

/-- The allocation of the image (R207, R208). -/
structure TaCfg where
  acts : List ActCfg := []
  /-- What the product G c of a fin is shifted by (R198): c has so many fractional bits more than its element of B. -/
  gShift : Nat := 0
  demand : Nat := 0
  tol : List Nat := []
  lambda : Nat := 1
  /-- W⁻¹ of each variable, Q⁻¹ of each row, and the row formats (R198, R208). -/
  winv : List Int := []
  qinv : List Int := []
  rows : List ((Nat × Nat) × RowFmt) := []
  deriving DecidableEq, Repr

/-- Where a number stands in the bytes that an SPI IMU answers: first byte, length (big-endian, signed), and its scale
factor, k · 2^-s in the format of R138. -/
structure SpiField where
  off : Nat := 0
  len : Nat := 2
  k : Int := 1
  s : Nat := 0
  deriving DecidableEq, Repr

/-- The SPI descriptor of an IMU (R139): command bytes, the fields of specific force and rate (x, y, z), and where each
status bit (VALID, SELFTEST_FAIL, SATURATED) stands: byte, bit, and whether it is inverted. -/
structure SpiDesc where
  cmd : List (BitVec 8) := []
  force : List SpiField := []
  rate : List SpiField := []
  status : List (Nat × Nat × Bool) := []
  deriving DecidableEq, Repr

/-- What the image gives the VMF (R139, R140, R142, R143): mounting poses of the IMUs in V, their SPI descriptors, the
poses of the sensors in V by endpoint, process and measurement noise, the time constant of the position reference
bias, and the start and length of its area in Solver SRAM (R216). -/
structure VmfCfg where
  mount : List (Nat × Pose) := []
  spi : List (Nat × SpiDesc) := []
  sensors : List (Nat × Pose) := []
  noise : List F64 := []
  tau : F64 := 0#64
  dpAt : Nat := 0
  dpLen : Nat := 0
  deriving DecidableEq, Repr

/-- The geometry of an auxiliary carrel (R152): P fixed in V, the unit direction u in its frame, and k in counts per
metre. -/
structure AuxCfg where
  p : V3 := {}
  u : V3 := {}
  k : F64 := 0#64
  deriving DecidableEq, Repr

/-- What the image gives of a carrel that moves elements of the scene (R308): K in 2^-52 m or rad per count, and AMAX in the
internal format. -/
structure SCar where
  k : Nat := 0
  amax : Nat := 0
  deriving DecidableEq, Repr

/-- A machine capsule or hung load (R299, R300), by its number (R298). A capsule has its machine, the joint whose frame it is
fixed to (none: the base), among chain and tool joints, E0 and E1 there in 2^-20 m. A load has its carrying capsule, its
rope (length at count 0 in 2^-20 m, KR in 2^-52 m per count, rope carrel), h and SINSW in 2^-30. ρ and ρ_L are in
2^-20 m. -/
structure SElem where
  machine : Nat := 0
  l0 : Int := 0
  kr : Int := 0
  rope : Option Nat := none
  joint : Option Nat := none
  e0 : List Int := [0, 0, 0]
  e1 : List Int := [0, 0, 0]
  rho : Nat := 0
  carry : Nat := 0
  h : Nat := 0
  sinsw : Nat := 0
  deriving DecidableEq, Repr

/-- A rule of pairs (R305): stop category, W and C in mm. -/
structure SRule where
  cat : Nat := 1
  w : Nat := 0
  c : Nat := 0
  deriving DecidableEq, Repr

/-- A static zone (R301): the frame it is fixed in (0 V, 1 L, 2 E, 4 to 7 Tn), and there a box, by its pose and three
half-extents, or a capsule, lengths in 2^-20 m; the mask of the machines that it pairs with, and its rule. -/
structure SZone where
  frame : Nat := 0
  box : Bool := true
  pose : Pose := {}
  half : List Int := [0, 0, 0]
  e0 : List Int := [0, 0, 0]
  e1 : List Int := [0, 0, 0]
  rho : Nat := 0
  machs : Nat := 0
  rule : SRule := {}
  deriving DecidableEq, Repr

/-- A track class (R305): mask of machines, stop category, W and C in mm, VH in mm/s, K_SIGMA. -/
structure SClass where
  machs : Nat := 0
  cat : Nat := 1
  w : Nat := 0
  c : Nat := 0
  vh : Nat := 0
  kSigma : Nat := 0
  deriving DecidableEq, Repr

/-- A perception unit (R303): endpoint, range of slots, PU_TMO in ns, loss action 1 REDUCE, 2 STOP2, 3 STOP1, mask of
machines. -/
structure SUnit where
  ep : Nat
  lo : Nat := 0
  hi : Nat := 63
  tmo : Nat := 0
  loss : Nat := 3
  machs : Nat := 0
  deriving DecidableEq, Repr

/-- The scene of the Separation Monitor (R298 to R316): `cars` the constants by carrel, `matrix` the pairs of machines and
`selfs` the pairs of elements of one machine that are enabled, with the machine rule. `zr` gives Z_r in mm by machine,
`zones` the zones by element number; CAP and SV_INVALID in mm, ages and horizons in ms. -/
structure SsmCfg where
  machs : List Nat := []
  elems : List (Nat × SElem) := []
  cars : List (Nat × SCar) := []
  matrix : List (Nat × Nat) := []
  selfs : List (Nat × Nat) := []
  rule : SRule := {}
  classes : List (Nat × SClass) := []
  units : List (Nat × SUnit) := []
  zones : List (Nat × SZone) := []
  zr : List (Nat × Nat) := []
  cap : Nat := 32767
  release : Nat := 1
  ageMax : Nat := 2000
  svInvalid : Nat := 0
  /-- SV_HORIZON in ms, and the stop times in ns of the machines planned in a frame other than V (R310). -/
  svHorizon : Nat := 4000
  stopNs : List Nat := []
  /-- SV_UMAX_F and SV_WMAX_F by frame (R310). -/
  svMax : List (Nat × F64 × F64) := []
  deriving DecidableEq, Repr

/-- A supervised axis of the safety parameters (R327, R336 to R338): carrel, machine, STO group, interfaces of the two
channels, its stop-ramp row, and its tolerances. Speeds are in the speed-parameter format of R161. -/
structure AxisCfg where
  carrel : Nat := 0
  machine : Nat := 0
  group : Nat := 0
  fbA : Nat := 0
  fbB : Nat := 0
  vb : Nat := 0
  vstop : Nat := 0
  a1 : Nat := 0
  a2 : Nat := 0
  vtol : Nat := 0
  vrest : Nat := 0
  lag : Nat := 1
  restCyc : Nat := 1
  sosWin : Nat := 0
  slsCyc : Nat := 1
  slsStop1 : Bool := false
  limits : List Nat := []
  measTol : Nat := 0
  posTol : Nat := 0
  measCyc : Nat := 1
  /-- B_FILT: filter length of channel B's counter in SAFE clocks (R336). -/
  bFilt : Nat := 0
  deriving DecidableEq, Repr

/-- A safe input (R331): ANTIV, action 0 NONE, 1 SLS, 2 SS2, 3 SS1, 4 STO, target mask, LATCHED. -/
structure SInCfg where
  antiv : Bool := false
  action : Nat := 0
  mask : Nat := 0
  latched : Bool := false
  deriving DecidableEq, Repr

/-- A safety connection (R333, R334): source endpoint, KIND, SF_TMO, loss action as a machine demand with its mask,
the decider's index for COMMAND, and for STATUS the remote inputs that demand an action: input, demand, machines. -/
structure ConnCfg where
  src : Nat
  kind : Nat
  tmo : Nat := 1
  loss : Nat := 0
  mask : Nat := 0
  decider : Nat := 0
  inputs : List (Nat × Nat × Nat) := []
  /-- Axes that the source supervises: axis, machine and carrel. -/
  axes : List (Nat × Nat × Nat) := []
  deriving DecidableEq, Repr

/-- A machine of a decider: its carrels, the rope carrels of its loads among them, with the four speed limits of each
(R317, R328). -/
structure SMachCfg where
  cars : List (Nat × List Nat) := []
  deriving DecidableEq, Repr

/-- The safety parameters of the image, held in the Safety Island's memories (R321). -/
structure SafeCfg where
  axes : List (Nat × AxisCfg) := []
  ins : List (Nat × SInCfg) := []
  conns : List (Nat × ConnCfg) := []
  machs : List (Nat × SMachCfg) := []
  mbx : Nat := 0
  optLen : Nat := 0
  deciderLoss : Nat := 3
  ssmTol : Nat := 0
  psig : Nat := 0
  ssm : SsmCfg := {}
  deriving DecidableEq, Repr

/-- What an accepted configuration image gives the device. Where a register's Reset column reads Image, the value is
in `regs` by the register's address. (log 36, DEDUCED) -/
structure Image where
  regs : List (Nat × Nat) := []
  cat : List CatEntry := []
  devs : List DevEntry := []
  routes : List (Nat × RtEntry) := []
  digest : Nat := 0
  fwset : Nat := 0
  coordSeatA : Nat := 0
  coordSeatB : Nat := 0
  machs : List (Nat × MachCfg) := []
  /-- The bytes of the machine and actuator records, as the loader places them in Solver SRAM (R196, R216). -/
  recs : List (BitVec 8) := []
  ta : TaCfg := {}
  safe : SafeCfg := {}
  /-- Carrels that exist in the image, and auxiliary carrels planned in a frame with that frame's number (R151, R152). -/
  cars : List Nat := []
  auxFrames : List (Nat × Nat) := []
  auxGeo : List (Nat × AuxCfg) := []
  vmf : VmfCfg := {}
  deriving DecidableEq, Repr

/-! ### The commands -/

/-- The commands of the block: one constructor for each row of the table of commands, those with operands first (so that
the number of each such constructor stays below the compiler's limit). An operand with a default stands for what may come
with the command: other requests in its clock (R15, R29, R85), the width of an access (R64), an ECC error (R33). -/
inductive Instr where
  /-- PORN_RELEASE (R79). -/
  | pornRelease (straps : Fin 8192)
  /-- BROWNOUT_RELEASE (R83). -/
  | brownoutRelease (straps : Fin 8192)
  /-- WATCHDOG_KICK (R91). -/
  | watchdogKick (snd : Sender) (v : Word)
  /-- WATCHDOG_ENABLE (R90). -/
  | watchdogEnable (snd : Sender) (v : Word)
  /-- SOFTWARE_RESET (R90). -/
  | softwareReset (snd : Sender) (v : Word) (also : List RstSrc := [])
  /-- DEBUG_SYSTEM_RESET (R495). -/
  | debugSystemReset (snd : Sender) (v : Word) (also : List RstSrc := [])
  /-- IMAGE_FETCH_DONE (R95). -/
  | imageFetchDone (images : List ImgHdr)
  /-- CONFIG_IMAGE_ACCEPT (R96). -/
  | configImageAccept (h : ImgHdr) (img : Image)
  /-- ALWAYS_ON_POWER_UP (R83). -/
  | alwaysOnPowerUp (writing : Bool)
  /-- REGISTER_WRITE (R7). -/
  | registerWrite (a : Fin 16777216) (snd : Sender) (v : Word) (w : Width := .word) (hi : Word := 0#32) (also : List BusReq := [])
  /-- DECODE_ERROR_CLEAR (R77). -/
  | decodeErrorClear (snd : Sender) (v : Word)
  /-- POSTED_WRITE_COMPLETE (R23). -/
  | postedWriteComplete (p : Fin 4096) (hw : HwUpd := {})
  /-- PAIR_LO_READ (R74). -/
  | pairLoRead (a : Fin 16777216) (snd : Sender) (w : Width := .word) (ecc : Ecc := .none) (also : List BusReq := [])
  /-- PAIR_HI_WRITE (R74). -/
  | pairHiWrite (a : Fin 16777216) (snd : Sender) (v : Word)
  /-- PAGE_SOFT_RESET (R68). -/
  | pageSoftReset (p : Fin 4096) (snd : Sender)
  /-- PAGE_SOFT_RESET_DONE (R68). -/
  | pageSoftResetDone (p : Fin 4096)
  /-- PAGE_DISABLE (R70). -/
  | pageDisable (p : Fin 4096) (snd : Sender)
  /-- PAGE_ENABLE (R70). -/
  | pageEnable (p : Fin 4096) (snd : Sender)
  /-- IRQ_FORCE (R71). -/
  | irqForce (p : Fin 4096) (snd : Sender) (v : Word)
  /-- IRQ_CLEAR (R71). -/
  | irqClear (p : Fin 4096) (snd : Sender) (v : Word) (hw : Word := 0#32)
  /-- PAGE_LOCK_KEY (R72). -/
  | pageLockKey (p : Fin 4096) (snd : Sender)
  /-- PAGE_LOCK_CLOSE (R72). -/
  | pageLockClose (p : Fin 4096) (snd : Sender)
  /-- LOCK_WINDOW_EXPIRE (R72). -/
  | lockWindowExpire (p : Fin 4096)
  /-- CYCLE_START_TICK (R42). -/
  | cycleStartTick (diff : Bool) (ecc : Ecc := .none) (off : Fin 4096 := 0)
  /-- FEEDBACK_LATCH (R42). -/
  | feedbackLatch (spi : List (Nat × List (BitVec 8)))
  /-- TARGET_REACHED (R168). -/
  | targetReached (c : Carrel)
  /-- SAMPLE_WINDOW_END (R263). -/
  | sampleWindowEnd (p : PwmIx) (u : List Bool) (v : List Bool) (w : List Bool)
  /-- CURRENT_LOOP_DONE (R227). -/
  | currentLoopDone (p : PwmIx) (wait : Fin 25)
  /-- PWM_RELOAD (R257). -/
  | pwmReload (p : PwmIx)
  /-- DECK_TIME_STEP_COMMIT (R38). -/
  | deckTimeStepCommit (snd : Sender) (v : Word)
  /-- THREAD_CREATE (R107). -/
  | threadCreate (snd : Sender)
  /-- THREAD_RESUME (R107). -/
  | threadResume (snd : Sender)
  /-- THREAD_SUSPEND (R107). -/
  | threadSuspend (snd : Sender)
  /-- THREAD_WAKE (R107). -/
  | threadWake (snd : Sender)
  /-- THREAD_DELETE (R107). -/
  | threadDelete (snd : Sender)
  /-- DISP_NEXT_READ (R110). -/
  | dispNextRead (h : CoreIx) (snd : Sender)
  /-- THREAD_YIELD (R107). -/
  | threadYield (h : CoreIx) (snd : Sender)
  /-- THREAD_WAIT (R107). -/
  | threadWait (h : CoreIx) (snd : Sender) (v : Word)
  /-- THREAD_EXIT (R107). -/
  | threadExit (h : CoreIx) (snd : Sender)
  /-- EVENT_POST_SOFTWARE (R113). -/
  | eventPostSoftware (snd : Sender) (v : Word)
  /-- WAIT_TIMEOUT (R116). -/
  | waitTimeout (t : Tid)
  /-- CORE_RELEASE (R101). -/
  | coreRelease (snd : Sender) (v : Word)
  /-- DISP_COUNTER_WRITE (R112). -/
  | dispCounterWrite (snd : Sender) (v : Word)
  /-- MACHINE_TIMER_INTERRUPT (R103). -/
  | machineTimerInterrupt (h : CoreIx)
  /-- PLIC_CLAIM (R105). -/
  | plicClaim (x : Fin 16) (snd : Sender) (also : List BusReq := [])
  /-- PLIC_COMPLETE (R105). -/
  | plicComplete (x : Fin 16) (snd : Sender) (v : Word)
  /-- DISPATCH_ECC_ERROR (R119). -/
  | dispatchEccError (kind : Fin 2) (idx : Dc) (uncorr : Bool)
  /-- MAILBOX_DATA_WRITE (R126). -/
  | mailboxDataWrite (m : MbxIx) (i : Fin 16) (snd : Sender) (v : Word)
  /-- MAILBOX_POST (R126). -/
  | mailboxPost (m : MbxIx) (snd : Sender) (v : Word) (also : List (Sender × Word) := [])
  /-- MAILBOX_ACK (R129). -/
  | mailboxAck (m : MbxIx) (snd : Sender) (v : Word)
  /-- MAILBOX_CANCEL (R126). -/
  | mailboxCancel (m : MbxIx) (snd : Sender)
  /-- MAILBOX_STAGE_TIMEOUT (R126). -/
  | mailboxStageTimeout (m : MbxIx)
  /-- LOAN_ACQUIRE (R134). -/
  | loanAcquire (n : Fin 64) (snd : Sender) (also : List Sender := [])
  /-- LOAN_RELEASE (R134). -/
  | loanRelease (n : Fin 64) (snd : Sender) (v : Word)
  /-- LOAN_FORCE (R135). -/
  | loanForce (snd : Sender) (v : Word)
  /-- NAV_RECORD_COMMIT (R141). -/
  | navRecordCommit (snd : Sender) (hi : Word)
  /-- VMF_RUN_ENABLE (R146). -/
  | vmfRunEnable (snd : Sender) (v : Word)
  /-- VMF_RUN_DISABLE (R146). -/
  | vmfRunDisable (snd : Sender) (v : Word)
  /-- VMF_REALIGN (R146). -/
  | vmfRealign (snd : Sender) (v : Word)
  /-- PREDICTION_QUERY (R150). -/
  | predictionQuery (snd : Sender) (hi : Word)
  /-- MACHINE_FRAME_REQUEST (R153). -/
  | machineFrameRequest (m : PathIx) (snd : Sender) (v : Word)
  /-- PROFILE_GO (R177). -/
  | profileGo (c : Carrel) (snd : Sender)
  /-- PROFILE_STOP (R166). -/
  | profileStop (c : Carrel) (snd : Sender)
  /-- PROFILE_HOME (R178). -/
  | profileHome (c : Carrel) (snd : Sender)
  /-- HOMING_TIMEOUT (R180). -/
  | homingTimeout (c : Carrel)
  /-- CARREL_ENABLE (R229). -/
  | carrelEnable (c : Carrel) (snd : Sender)
  /-- CARREL_DISABLE (R229). -/
  | carrelDisable (c : Carrel) (snd : Sender)
  /-- PATH_GO (R175). -/
  | pathGo (m : PathIx) (snd : Sender)
  /-- PATH_STOP (R175). -/
  | pathStop (m : PathIx) (snd : Sender)
  /-- PATH_FLUSH (R192). -/
  | pathFlush (m : PathIx) (snd : Sender)
  /-- PATH_SEGMENT_PUSH (R175). -/
  | pathSegmentPush (m : PathIx) (snd : Sender)
  /-- SOLVER_FK_DONE, `clk` WING clocks after FBD (R194, R217). -/
  | solverFkDone (clk : Nat := 0)
  /-- IK_BATCH_DONE (R201). -/
  | ikBatchDone (clk : Nat)
  /-- THRUST_ALLOCATION_DONE (R208). -/
  | thrustAllocationDone (clk : Nat)
  /-- TA_COMMIT (R211). -/
  | taCommit (snd : Sender) (v : Word)
  /-- VARIANT_REQUEST (R197). -/
  | variantRequest (m : PathIx) (snd : Sender) (v : Word)
  /-- DP_JOB_SUBMIT (R213). -/
  | dpJobSubmit (snd : Sender) (v : Word)
  /-- DP_JOB_DONE (R213). -/
  | dpJobDone (reason : Fin 6) (its : Nat) (pivot : Bool) (out : List Byte)
  /-- SOLVER_ECC_ERROR (R218). -/
  | solverEccError (kind : Fin 3) (m : PathIx) (uncorr : Bool)
  /-- FOLIO_SWAP_REQUEST (R232). -/
  | folioSwapRequest (c : Carrel) (snd : Sender) (v : Word)
  /-- FOLIO_SWAP (R232). -/
  | folioSwap (c : Carrel)
  /-- GROUP_SWAP_REQUEST (R233). -/
  | groupSwapRequest (w : WingIx) (snd : Sender) (v : Word)
  /-- TRACE_ARM (R235). -/
  | traceArm (w : WingIx) (snd : Sender)
  /-- DIAG_TRIGGER (R235). -/
  | diagTrigger (w : WingIx) (snd : Sender)
  /-- INJECT_START (R236). -/
  | injectStart (w : WingIx) (snd : Sender)
  /-- DIAG_ABORT (R237). -/
  | diagAbort (w : WingIx) (snd : Sender)
  /-- LEDGER_DATA_READ (R244). -/
  | ledgerDataRead (w : WingIx) (snd : Sender)
  /-- LOOP_ENGINE_ECC_ERROR (R238). -/
  | loopEngineEccError (c : Carrel) (shadow : Bool) (uncorr : Bool)
  /-- PWM_CHANNEL_ENABLE (R253). -/
  | pwmChannelEnable (p : PwmIx) (snd : Sender) (paired : Bool)
  /-- PWM_CHANNEL_DISABLE (R254). -/
  | pwmChannelDisable (p : PwmIx) (snd : Sender) (paired : Bool)
  /-- PWM_COMPARE_WRITE (R257). -/
  | pwmCompareWrite (p : PwmIx) (snd : Sender) (v : Word)
  /-- PWM_PERIOD_WRITE (R257). -/
  | pwmPeriodWrite (p : PwmIx) (snd : Sender) (v : Word)
  /-- DEAD_TIME_MODE_WRITE (R252). -/
  | deadTimeModeWrite (snd : Sender) (adaptive : Bool)
  /-- SWITCH_NODE_EDGE (R251). -/
  | switchNodeEdge (p : PwmIx) (l : Fin 3) (high : Bool) (sn : Option Nat)
  /-- OVERCURRENT_TRIP (R266). -/
  | overcurrentTrip (i : Fin 48) (ones : Nat)
  /-- SDM_CLOCK_WRITE (R261). -/
  | sdmClockWrite (j : Fin 8) (snd : Sender) (v : Word)
  /-- QUAD_TRANSITION (R276): the lines stood for `held` samples (R275). -/
  | quadTransition (i : FbIx) (a : Bool) (b : Bool) (held : Nat := 16)
  /-- HALL_STATE_CHANGE (R277). -/
  | hallStateChange (i : FbIx) (h : Fin 8) (held : Nat := 16)
  /-- SSI_READ_START (R278). -/
  | ssiReadStart (i : FbIx) (high : Bool)
  /-- SSI_READ_COMMAND (R278). -/
  | ssiReadCommand (i : FbIx) (snd : Sender) (high : Bool)
  /-- SSI_READ_DONE (R278): `line` lists the samples of FBi_A from bit 0 on; empty, they spell `raw` and `trail`. -/
  | ssiReadDone (i : FbIx) (raw : Nat) (trail : Nat) (line : List Bool := [])
  /-- INDEX_EDGE (R286): FBi_Z comes to `level`, none its active one (R285). -/
  | indexEdge (i : FbIx) (level : Option Bool := none) (held : Nat := 16)
  /-- INDEX_ARM (R285). -/
  | indexArm (i : FbIx) (snd : Sender)
  /-- SWITCH_EDGE (R279). -/
  | switchEdge (i : FbIx) (l : Fin 3) (level : Bool) (held : Nat := 16)
  /-- CAPTURE_EDGE (R289). -/
  | captureEdge (n : PwmIx) (level : Bool) (held : Nat := 16)
  /-- COMPARE_RESTART (R287). -/
  | compareRestart (i : FbIx) (snd : Sender)
  /-- COMPARE_PULSE_END (R288). -/
  | comparePulseEnd (n : PwmIx)
  /-- NODE_FEEDBACK_LATCH (R280). -/
  | nodeFeedbackLatch (f : FbIx)
  /-- SPEED_TIMEOUT (R284). -/
  | speedTimeout (i : FbIx)
  /-- GPIO_EDGE_EVENT (R296). -/
  | gpioEdgeEvent (line : PortIx) (level : Bool) (held : Nat := 16)
  /-- SSM_PASS_DONE_A (R315). -/
  | ssmPassDoneA (clk : Nat) (ecc : Fin 3)
  /-- SSM_PASS_DONE_B (R315). -/
  | ssmPassDoneB (clk : Nat) (ecc : Fin 3)
  /-- PERCEPTION_UNIT_LOST (R304). -/
  | perceptionUnitLost (u : Fin 8)
  /-- SAFE_START_TESTS_DONE (R324). -/
  | safeStartTestsDone (passed : Bool)
  /-- DELIBERATE_RESET (R326). -/
  | deliberateReset (skew : Nat) (lo : Nat) (hi : Nat) (fault : Bool)
  /-- INTERNAL_FAULT (R345). -/
  | internalFault (code : Fin 11)
  /-- SAFE_INPUT_CHANGE (R331). -/
  | safeInputChange (n : PwmIx) (chB : Bool) (level : Bool)
  /-- SAFE_INPUT_DISCREPANCY (R331). -/
  | safeInputDiscrepancy (n : PwmIx)
  /-- SAFETY_CONNECTION_LOST (R334). -/
  | safetyConnectionLost (k : MbxIx)
  /-- SAFE_RELEASE (R343). -/
  | safeRelease (outcome : Fin 3) (kfb : Fin 16)
  /-- SAFE_STOP_REQUEST (R343). -/
  | safeStopRequest (outcome : Fin 3)
  /-- SAFE_SLS_SET (R343). -/
  | safeSlsSet (outcome : Fin 3)
  /-- SAFE_SLS_CLEAR (R343). -/
  | safeSlsClear (outcome : Fin 3)
  /-- SAFE_CLEAR_EVENTS (R343). -/
  | safeClearEvents (outcome : Fin 3)
  /-- OFF_PULSE_TEST (R341). -/
  | offPulseTest (g : Fin 8) (ch : Fin 2) (passed : Bool)
  /-- STO_READBACK_MISMATCH (R340). -/
  | stoReadbackMismatch (g : Fin 8) (ch : Fin 2)
  /-- CONTACTOR_FEEDBACK_TIMEOUT (R342). -/
  | contactorFeedbackTimeout (n : CanIx)
  /-- PORT_ENABLE (R352). -/
  | portEnable (k : PortIx) (snd : Sender) (v : Word)
  /-- LINK_SYNC_ACQUIRED (R352). -/
  | linkSyncAcquired (k : PortIx)
  /-- LINK_SYNC_LOST (R352). -/
  | linkSyncLost (k : PortIx)
  /-- DELAY_REQUEST_SEND (R353). -/
  | delayRequestSend (k : PortIx)
  /-- DELAY_REQUEST_RX (R353). -/
  | delayRequestRx (k : PortIx) (clash : Bool)
  /-- DELAY_RESPONSE_RX (R353). -/
  | delayResponseRx (k : PortIx) (rtt : Nat)
  /-- DELAY_RESPONSE_TIMEOUT (R353). -/
  | delayResponseTimeout (k : PortIx)
  /-- CYCLE_START_FRAME_RX (R367). -/
  | cycleStartFrameRx (k : PortIx) (h : FrameHdr) (b : CsBody)
  /-- FEEDBACK_FRAME_RX (R358). -/
  | feedbackFrameRx (k : PortIx) (h : FrameHdr) (items : List FbItem)
  /-- COMMAND_FRAME_RX (R359). -/
  | commandFrameRx (k : PortIx) (h : FrameHdr) (items : List CmdItem) (cfgTag : Nat)
  /-- SAFETY_FRAME_RX (R333). -/
  | safetyFrameRx (k : PortIx) (h : FrameHdr) (p : SafePayload)
  /-- DATA_FRAME_RX (R360). -/
  | dataFrameRx (k : PortIx) (h : FrameHdr) (imus : List ImuItem) (tgts : List TgtItem)
  /-- JOIN_FRAME_RX (R377). -/
  | joinFrameRx (k : PortIx) (h : FrameHdr) (f : TxFrame) (short : Bool)
  /-- TWIN_FRAME_RX (R413). -/
  | twinFrameRx (k : PortIx) (h : FrameHdr) (b : TwinBody)
  /-- DISCOVERY_FRAME_RX (R389). -/
  | discoveryFrameRx (k : PortIx) (h : FrameHdr) (b : DiscBody) (inside : Bool)
  /-- FRAME_FORWARD (R374). -/
  | frameForward (k : PortIx) (h : FrameHdr) (f : TxFrame) (resid : Nat) (lower : Bool) (ecc : Ecc := .none)
  /-- SLOT_FRAME_SEND (R364). -/
  | slotFrameSend (j : Fin 65) (imus : List ImuItem) (tgts : List TgtItem) (ld : LoadBody)
  /-- ACCESS_REQ (R362). -/
  | accessReq (src : Fin 4096) (tag : Nat) (cnt : Fin 9) (wr : Bool) (a : Fin (2 ^ 40)) (ws : List Word) (also : List BusReq := [])
  /-- ACCESS_RSP (R362). -/
  | accessRsp (tag : Nat) (result : Nat) (reason : Nat) (words : List Word)
  /-- ACCEDE (R376). -/
  | accede (k : PortIx) (ep : Nat) (chan : Nat)
  /-- CUTOFF (R376). -/
  | cutoff (ep : Nat) (chan : Nat)
  /-- CONFLICT (R372). -/
  | conflict (seat : Nat)
  /-- MISMATCH (R398). -/
  | mismatch (src : Fin 4096) (why : Nat)
  /-- LOAD_STAT (R396). -/
  | loadStat (src : Fin 4096) (result : Nat)
  /-- RESYNC_REQ (R416). -/
  | resyncReq (src : Fin 4096)
  /-- DISC_REPORT (R420). -/
  | discReport (src : Fin 4096) (count : Nat)
  /-- CLAIM_ACK (R418). -/
  | claimAck (src : Fin 4096)
  /-- SYNZON_ENABLE (R370). -/
  | synzonEnable (snd : Sender) (v : Word)
  /-- SYNZON_DISABLE (R370). -/
  | synzonDisable (snd : Sender) (v : Word)
  /-- CATALOGUE_SWITCH_REQUEST (R378). -/
  | catalogueSwitchRequest (snd : Sender) (v : Word)
  /-- REMOTE_ACCESS_GO (R362). -/
  | remoteAccessGo (snd : Sender) (v : Word)
  /-- SEND_WAKE (R380). -/
  | sendWake (k : PortIx) (snd : Sender)
  /-- DISCOVERY_WALK_START (R391). -/
  | discoveryWalkStart (snd : Sender)
  /-- REDISCOVERY (R391). -/
  | rediscovery (snd : Sender)
  /-- IMAGE_LOAD_ENABLE (R394). -/
  | imageLoadEnable (snd : Sender) (v : Word)
  /-- IDENTIFY (R390). -/
  | identify (k : PortIx) (src : Fin 4096) (b : DiscBody)
  /-- ASSIGN (R392). -/
  | assign (k : PortIx) (src : Fin 4096) (b : DiscBody)
  /-- WRITE (R390). -/
  | write (k : PortIx) (src : Fin 4096) (b : DiscBody)
  /-- READ (R390). -/
  | read (k : PortIx) (src : Fin 4096) (b : DiscBody)
  /-- SEAL (R392). -/
  | seal (k : PortIx) (src : Fin 4096) (b : DiscBody)
  /-- LOAD (R394). -/
  | load (b : LoadBody)
  /-- LOADED_IMAGE_VERIFY (R394). -/
  | loadedImageVerify (k : Fin 8) (chunks : Nat) (h : ImgHdr) (img : Image)
  /-- ROUTE_COMMIT (R401). -/
  | routeCommit (snd : Sender) (v : Word)
  /-- TWIN_WRITE_GO (R414). -/
  | twinWriteGo (snd : Sender)
  /-- COORDINATOR_SWAP (R418). -/
  | coordinatorSwap (snd : Sender)
  /-- RESYNC_COMMAND (R416). -/
  | resyncCommand (snd : Sender)
  /-- YIELD (R408). -/
  | yield (snd : Sender) (v : Word)
  /-- DSP_SUBMIT (R430). -/
  | dspSubmit (w : WingIx) (snd : Sender) (v : Word)
  /-- DSP_JOB_START (R430). -/
  | dspJobStart (w : WingIx)
  /-- DSP_JOB_DONE (R431). -/
  | dspJobDone (w : WingIx) (clk : Nat) (ecc : Bool)
  /-- DSP_SUSPEND (R432). -/
  | dspSuspend (w : WingIx) (snd : Sender) (v : Word)
  /-- DSP_SUSPENDED (R432). -/
  | dspSuspended (w : WingIx) (n : Nat)
  /-- DSP_RESUME (R432). -/
  | dspResume (w : WingIx) (snd : Sender) (v : Word)
  /-- DSP_RUN_NEXT (R432). -/
  | dspRunNext (w : WingIx) (snd : Sender) (v : Word)
  /-- DSP_ABORT (R434). -/
  | dspAbort (w : WingIx) (snd : Sender) (v : Word) (n : Nat)
  /-- CAN_FRAME_RX (R441). -/
  | canFrameRx (i : CanIx) (f : CanFrame) (ago : Nat)
  /-- CAN_RXF_POP (R442). -/
  | canRxfPop (i : CanIx) (snd : Sender) (v : Word)
  /-- CAN_HP_READ (R443). -/
  | canHpRead (i : CanIx) (snd : Sender) (also : List BusReq := [])
  /-- CAN_TXF_PUSH (R444). -/
  | canTxfPush (i : CanIx) (snd : Sender) (v : Word)
  /-- CAN_TXD_SEND (R444). -/
  | canTxdSend (i : CanIx) (snd : Sender) (v : Word)
  /-- CAN_TX_DECISION (R444). -/
  | canTxDecision (i : CanIx)
  /-- CAN_TX_ATTEMPT_END (R445). -/
  | canTxAttemptEnd (i : CanIx) (outcome : Fin 3) (tecUp : Bool) (delay : Option Nat)
  /-- CAN_TXF_ABORT (R446). -/
  | canTxfAbort (i : CanIx) (snd : Sender) (v : Word)
  /-- CAN_TXD_ABORT (R446). -/
  | canTxdAbort (i : CanIx) (snd : Sender) (v : Word)
  /-- CAN_MODE_INIT (R447). -/
  | canModeInit (i : CanIx) (busy : Bool) (snd : Sender) (v : Word)
  /-- CAN_MODE_NORMAL (R445). -/
  | canModeNormal (i : CanIx) (snd : Sender) (v : Word)
  /-- CAN_MODE_LISTEN (R438). -/
  | canModeListen (i : CanIx) (snd : Sender) (v : Word)
  /-- CAN_MODE_RESTRICTED (R438). -/
  | canModeRestricted (i : CanIx) (snd : Sender) (v : Word)
  /-- CAN_BUS_OFF_RECOVERY_DONE (R445). -/
  | canBusOffRecoveryDone (i : CanIx)
  /-- PCIE_INBOUND_TLP (R453). -/
  | pcieInboundTlp (t : PcieTlp) (also : List BusReq := [])
  /-- MSIX_SOURCE_RISE (R454). -/
  | msixSourceRise (v : Fin 64)
  /-- MSIX_FIRE (R454). -/
  | msixFire (snd : Sender) (hi : Bool) (v : Word)
  /-- MSIX_UNMASK (R454). -/
  | msixUnmask (v : Option (Fin 64))
  /-- PCIE_OUTBOUND_ACCESS (R455). -/
  | pcieOutboundAccess (snd : Sender) (off : Fin (2 ^ 35)) (wr : Option Word)
  /-- ETH_FRAME_RX (R459). -/
  | ethFrameRx (i : EthIx) (f : EthFrame)
  /-- ETH_TAIL_WRITE (R460). -/
  | ethTailWrite (snd : Sender) (i : EthIx) (q : Fin 3) (v : Word)
  /-- ETH_TX_DONE (R460). -/
  | ethTxDone (i : EthIx)
  /-- SDRAM_TRAINING_DONE (R465). -/
  | sdramTrainingDone (ok : Bool)
  /-- SDRAM_SCRUB (R467). -/
  | sdramScrub (ce : Bool)
  /-- SDRAM_ECC_ERROR (R466). -/
  | sdramEccError (addr : Fin (2 ^ 40)) (ue : Bool)
  /-- XSPI_PROGRAM (R470). -/
  | xspiProgram (snd : Sender)
  /-- XSPI_ERASE (R470). -/
  | xspiErase (snd : Sender)
  /-- XSPI_OP_DONE (R470). -/
  | xspiOpDone (ok : Bool)
  /-- SPI_TRANSFER_GO (R471). -/
  | spiTransferGo (snd : Sender) (k : Fin 2) (v : Word)
  /-- SPI_TRANSFER_DONE (R471). -/
  | spiTransferDone (k : Fin 2) (rx : List Byte)
  /-- SMB_TRANSACTION_GO (R472). -/
  | smbTransactionGo (snd : Sender) (c : Fin 2) (v : Word)
  /-- SMB_TRANSACTION_DONE (R472). -/
  | smbTransactionDone (c : Fin 2) (err : Option (Fin 3)) (rx : List Byte)
  /-- SMB_CLOCK_TIMEOUT (R472). -/
  | smbClockTimeout (c : Fin 2)
  /-- POWER_STATE_REQUEST (R477). -/
  | powerStateRequest (snd : Sender) (v : Word)
  /-- GPIO_WAKE (R479). -/
  | gpioWake (line : Fin 8) (falling : Bool)
  /-- POWER_STATE_EXIT_DONE (R476). -/
  | powerStateExitDone (d : Fin 5) (slept : Nat)
  /-- KEY_PROGRAM (R488). -/
  | keyProgram (snd : Sender)
  /-- KEY_REVOKE (R488). -/
  | keyRevoke (snd : Sender)
  /-- OTP_COMMAND_DONE (R488). -/
  | otpCommandDone (ok : Bool)
  /-- COUNTER_ADVANCE (R489). -/
  | counterAdvance (snd : Sender) (v : Word)
  /-- LIFECYCLE_ADVANCE (R490). -/
  | lifecycleAdvance (snd : Sender) (v : Word) (rel : ImgHdr) (ret : ImgHdr)
  /-- RETURN_CHALLENGE (R492). -/
  | returnChallenge (snd : Sender) (v : Word)
  /-- SECRET_PROGRAM (R493). -/
  | secretProgram (snd : Sender) (v : Word)
  /-- SECRET_LOCK (R493). -/
  | secretLock (snd : Sender) (v : Word)
  /-- ATTESTATION_GO (R497). -/
  | attestationGo (snd : Sender) (v : Word)
  /-- ATTESTATION_DONE (R497). -/
  | attestationDone (rngOk : Bool)
  /-- EVENT_ARCHIVE_POST (R499). -/
  | eventArchivePost (snd : Sender) (v : Word)
  /-- DEBUG_AUTH_REQUEST (R494). -/
  | debugAuthRequest (snd : Option Sender) (v : Word)
  /-- DEBUG_TOKEN_CHECK_DONE (R494). -/
  | debugTokenCheckDone (tok : ImgHdr)
  /-- DEBUG_CHALLENGE_READ (R494). -/
  | debugChallengeRead (snd : Option Sender)
  /-- DEBUG_TOKEN_WRITE (R494). -/
  | debugTokenWrite (snd : Option Sender) (v : Word)
  /-- DEBUG_LOCK (R495). -/
  | debugLock (snd : Sender) (v : Word)
  /-- COLOPHON_READ (R496). -/
  | colophonRead (snd : Sender)
  /-- PCIE_LINK_UP (R451). -/
  | pcieLinkUp (width : Fin 3) (gen : Fin 3)
  /-- PCIE_OUTBOUND_COMPLETION (R455). -/
  | pcieOutboundCompletion (ok : Bool) (data : Word)
  /-- ETH_LINK_CHANGE (R463). -/
  | ethLinkChange (i : EthIx) (up : Bool) (speed : Fin 3)
  /-- CAN_BUS_ERROR (R449). -/
  | canBusError (i : CanIx) (kind : Fin 3) (at_ : Fin 3) (heavy : Bool)
  /-- SMB_TARGET_ACCESS (R472). -/
  | smbTargetAccess (c : Fin 2) (addr : Fin 128) (wr : Option (List Byte)) (n : Nat)
  /-- STEP_PULSE (R182). -/
  | stepPulse (c : Carrel)
  /-- POWER_ON_RESET (R83). -/
  | powerOnReset (also : List RstSrc := [])
  /-- BROWNOUT_DETECT (R83). -/
  | brownoutDetect (also : List RstSrc := [])
  /-- EXTERNAL_RESET (R83). -/
  | externalReset (also : List RstSrc := [])
  /-- WATCHDOG_EXPIRE (R91). -/
  | watchdogExpire (also : List RstSrc := [])
  /-- SAFETY_ISLAND_RESET_REQUEST (R83). -/
  | safetyIslandResetRequest (also : List RstSrc := [])
  /-- APPLICATION_RELEASE (R84). -/
  | applicationRelease
  /-- OTP_READ_DONE (R92). -/
  | otpReadDone
  /-- MEMORY_INIT_DONE (R92). -/
  | memoryInitDone
  /-- IMAGE_VERIFY (R485). -/
  | imageVerify
  /-- SAFETY_POWER_ON_RESET (R83). -/
  | safetyPowerOnReset
  /-- PROFILE_TICK (R166). -/
  | profileTick
  /-- LOOP_PASS_START (R222). -/
  | loopPassStart
  /-- LOOP_PASS_DONE (R228). -/
  | loopPassDone
  /-- COMMAND_LATCH (R43). -/
  | commandLatch (kfb : Fin 16 := 15)
  /-- SERVICE_TICK (R54). -/
  | serviceTick
  /-- DECK_TIME_STEP (R38). -/
  | deckTimeStep
  /-- CYCLE_START_TIMEOUT (R537). -/
  | cycleStartTimeout
  /-- ACQUIRING_TIMEOUT (R39). -/
  | acquiringTimeout
  /-- DISPATCH_ASSIGN (R109). -/
  | dispatchAssign
  /-- EVENT_DELIVER (R112). -/
  | eventDeliver
  /-- STALL_EVENT_ADMIT (R114). -/
  | stallEventAdmit
  /-- COALESCE_ENQUEUE (R115). -/
  | coalesceEnqueue
  /-- VMF_UPDATE_DONE (R144). -/
  | vmfUpdateDone
  /-- WAVE_FFT_SUBMIT (R148). -/
  | waveFftSubmit
  /-- WAVE_FIT_DONE (R148). -/
  | waveFitDone
  /-- PREDICTION_QUERY_DONE (R150). -/
  | predictionQueryDone
  /-- DEBUG_HALT_START (R256). -/
  | debugHaltStart (core : Option (Fin 8) := none)
  /-- DEBUG_HALT_END (R256). -/
  | debugHaltEnd (core : Option (Fin 8) := none)
  /-- JOIN_QUEUE_FORWARD (R377). -/
  | joinQueueForward
  /-- SERVICE_MESSAGE_DROP (R361). -/
  | serviceMessageDrop
  /-- LISTEN_EXPIRE (R370). -/
  | listenExpire
  /-- COLD_START_COMPLETE (R370). -/
  | coldStartComplete
  /-- HOLD_TIMEOUT (R370). -/
  | holdTimeout
  /-- CATALOGUE_SWITCH_DECIDE (R378). -/
  | catalogueSwitchDecide
  /-- CATALOGUE_SWITCH_APPLY (R378). -/
  | catalogueSwitchApply
  /-- REMOTE_ACCESS_TIMEOUT (R362). -/
  | remoteAccessTimeout
  /-- WAKE_RECEIVED (R380). -/
  | wakeReceived
  /-- DISCOVERY_REPLY_TIMEOUT (R391). -/
  | discoveryReplyTimeout
  /-- MISMATCH_REPORT_SEND (R398). -/
  | mismatchReportSend
  /-- HELD_CARREL_DISABLE (R398). -/
  | heldCarrelDisable
  /-- DISC_REPORT_SEND (R407). -/
  | discReportSend
  /-- MISSED_CYCLE_CHECK (R408). -/
  | missedCycleCheck
  /-- TWIN_WRITE_APPLY (R414). -/
  | twinWriteApply
  /-- RESYNC_REQ_REPEAT (R416). -/
  | resyncReqRepeat
  /-- HANDOVER_ACK_TIMEOUT (R418). -/
  | handoverAckTimeout
  /-- PROOF_TEST_DUE (R419). -/
  | proofTestDue
  /-- PCIE_OUTBOUND_TIMEOUT (R455). -/
  | pcieOutboundTimeout
  /-- PCIE_RESET (R456). -/
  | pcieReset
  /-- SDRAM_FILL_DONE (R465). -/
  | sdramFillDone
  /-- POWER_STATE_ENTRY (R478). -/
  | powerStateEntry
  /-- RTC_WAKE (R479). -/
  | rtcWake
  /-- LIFECYCLE_TRANSITION_DONE (R490). -/
  | lifecycleTransitionDone
  /-- EVENT_ARCHIVE_WRITE (R499). -/
  | eventArchiveWrite
  /-- POWERED_HOUR (R500). -/
  | poweredHour
  /-- SPORN_RELEASE (R324). -/
  | spornRelease
  /-- HUB_SERVICE_TICK_START (R54). -/
  | hubServiceTickStart
  deriving DecidableEq, Repr

end Sys2Proof
end

