-- ==== Sys2Proof/Config.lean ====
section
/-! DEFINITION. What the spec leaves open: the free values. Each is a constant without a body, so that nothing in
Lean can evaluate it or prove a value of it; the counter `State.free` (or the operands) is the argument it is
applied to. -/

namespace Sys2Proof.Config

/-- A number that the spec leaves open, one for each use (the argument is State.free). Assumption 2. (log 2, DESIGN CHOICE) -/
opaque freeNat : Nat → Nat

/-- A signed number that the spec leaves open, one for each use. Assumption 2. (log 2, DESIGN CHOICE) -/
opaque freeInt : Nat → Int

/-- A yes-or-no outcome that the spec leaves open, one for each use. Assumption 2. (log 2, DESIGN CHOICE) -/
opaque freeBool : Nat → Bool

/-- The CODE of a hardware record of the Event Archive: R498 gives the field and no values. The argument is the
kind of the event. Assumption 3. (log 3, DESIGN CHOICE) -/
opaque eaCode : Nat → BitVec 8

/-- The die temperature that a record of the Event Archive carries (R498). Assumption 3. (log 3, DESIGN CHOICE) -/
opaque dieTemp : Nat → BitVec 8

/-- Random bits of the device's random source (R492, R494), by use. Assumption 4. (log 4, DESIGN CHOICE) -/
opaque random : Nat → Nat

/-- A result of a cryptographic function of the device (digest, MAC or signature) over the numbers given.
Assumption 4. (log 4, DESIGN CHOICE) -/
opaque digest : List Nat → Nat

/-- Whether the Falcon-1024 signature in a signature block verifies over the signed part (R484, R485). Assumption 4. (log 4, DESIGN CHOICE) -/
opaque sigValid (signed block : List Nat) : Bool

/-- Whether the position distance of a path segment, in 2^-32 unit, is rounded up where it is not a whole number: R175
gives no rounding. Assumption 12. (log 12, DESIGN CHOICE) -/
opaque pathRoundUp (p0 p1 : List Int) : Bool

/-- The rounding of ROT_R times the rotation angle between two different orientations to 2^-32 unit: R175 gives none. 0, 1
or 2 modulo 3 takes the number one below, the rounded number or the one above. Assumption 12. (log 12, DESIGN CHOICE) -/
opaque pathArc (q0 q1 : List Int) (rotR : Nat) : Nat

/-- The hashes of Crifeska keys 0x10 and 0x11 in the boot ROM (R487). Assumption 4. (log 4, DESIGN CHOICE) -/
opaque romKeyHash (slot : Nat) : Nat

/-- The failure code for a customer image whose CTR is 0: R485 refuses it and states no code. Assumption 28. (log 28, DESIGN CHOICE) -/
opaque ctrZeroCode : BitVec 8

/-- A word of the colophon that the rules do not fix (R496). Assumption 4. (log 4, DESIGN CHOICE) -/
opaque colophon (i : Nat) : BitVec 32

/-- The failure code shown for a debug token whose challenge or permission word is wrong: R494 states none.
Assumption 28. (log 28, DESIGN CHOICE) -/
opaque tokenCode : BitVec 8

/-! ### Binary64 functions of the VMF (07_vessel_motion_frames.md). Assumption 108. (log 108, DESIGN CHOICE) -/

/-- Sine, cosine, four-quadrant arc tangent (y, x) and arc sine in binary64: no rule gives their last bits. -/
opaque sin64 : F64 → F64
opaque cos64 : F64 → F64
opaque atan264 : F64 → F64 → F64
opaque asin64 : F64 → F64

/-- The integer that a result which is no number converts to. -/
opaque nanInt : Int

/-- The reciprocal of a pivot that is 0 after its raise: R198 has no quotient there. Assumption 14. (log 14, DESIGN CHOICE) -/
opaque recipZero : Int

/-- The magnitude of gravity in the nominal state of the filter, m/s² (R143): no rule gives it. Assumption 15. (log 15, DESIGN
CHOICE) -/
opaque gravity : F64

/-- The bytes of scratch that a firmware job of a kind and sizes needs (R213). Assumption 53. (log 53, DESIGN CHOICE) -/
opaque dpScratch (kind a b c : Nat) : Nat

/-- The residual of an IMU's sample against the filter's propagated state (R140). -/
opaque imuResidual (e : Est) (force rate : V3) : F64

/-- The estimate of a target after an accepted item (R142, R147), from the measured pose of the target in E. -/
opaque tgtCorrect (noise : List F64) (t : TgtEst) (z : Innov) (epoch : Nat) : TgtEst

/-- The 24-bit sample that the wave FFT takes of degree of freedom d (R148, R435). -/
opaque waveSample (d : Nat) (x : F64) : Int

end Sys2Proof.Config
end

