-- ==== Sys2Proof/Machine/Bits.lean ====
section
/-! DEFINITION. Bit fields of a register word, the arithmetic operators of R9, and sparse maps in one canonical
form (addresses strictly rising, no entry equal to what an unlisted key reads as). -/

namespace Sys2Proof.Machine

/-- The field of `len` bits at bit `lo` of a word, as a number. -/
def fld (w : Word) (lo len : Nat) : Nat := (w.toNat >>> lo) % 2 ^ len

/-- The word with the field of `len` bits at bit `lo` replaced by `v`. -/
def setFld (w : Word) (lo len v : Nat) : Word :=
  (w &&& ~~~(BitVec.ofNat 32 ((2 ^ len - 1) * 2 ^ lo))) ||| BitVec.ofNat 32 ((v % 2 ^ len) * 2 ^ lo)

/-- The word with bit `i` set to `b`. -/
def setBit (w : Word) (i : Nat) (b : Bool) : Word :=
  if b then w ||| BitVec.twoPow 32 i else w &&& ~~~(BitVec.twoPow 32 i)

/-- Bit `i` of a number. -/
def nbit (n i : Nat) : Bool := n.testBit i

/-- The low `bits` bits of `n` read as a two's-complement number. -/
def sx (bits n : Nat) : Int :=
  let m := n % 2 ^ bits
  if 2 * m < 2 ^ bits then (m : Int) else (m : Int) - (2 ^ bits : Nat)

/-- The low `bits` bits of a signed number. -/
def lowBits (bits : Nat) (x : Int) : Nat := (x % (2 ^ bits : Nat)).toNat

/-- `clamp(x, lo, hi)` of R9. -/
def clamp (x lo hi : Int) : Int := if x < lo then lo else if hi < x then hi else x

/-- `sat(x, n)` of R9. -/
def sat (x : Int) (n : Nat) : Int := clamp x (-(2 ^ (n - 1) : Nat)) ((2 ^ (n - 1) : Nat) - 1)

/-- `a >> n` of R9: arithmetic right shift, rounding towards minus infinity. -/
def shr (a : Int) (n : Nat) : Int := a / (2 ^ n : Nat)

/-- `a << n` of R9. -/
def shl (a : Int) (n : Nat) : Int := a * (2 ^ n : Nat)

/-- `a / b` of R9: division truncating towards zero. -/
def tdiv (a b : Int) : Int := Int.tdiv a b

/-- Saturating addition of a counter that stops at `top`. -/
def satAdd (n k top : Nat) : Nat := if top < n + k then top else n + k

/-! ### Sparse maps -/

/-- A map from Nat in the form of a list of listed keys. -/
abbrev Sparse (α : Type) := List (Nat × α)

/-- What key `k` reads as: the listed entry, else the default. -/
def sget {α : Type} (d : Nat → α) : Sparse α → Nat → α
  | [], k => d k
  | (j, v) :: m, k => if j = k then v else sget d m k

/-- The map without key `k`. -/
def serase {α : Type} (k : Nat) : Sparse α → Sparse α
  | [] => []
  | (j, v) :: m => if j = k then serase k m else (j, v) :: serase k m

/-- The map with an entry put at its place in the order of keys. -/
def sinsert {α : Type} (k : Nat) (v : α) : Sparse α → Sparse α
  | [] => [(k, v)]
  | (j, w) :: m => if k < j then (k, v) :: (j, w) :: m else (j, w) :: sinsert k v m

/-- The map in which key `k` reads as `v`; a value equal to the default removes the entry. -/
def sset {α : Type} [DecidableEq α] (d : Nat → α) (m : Sparse α) (k : Nat) (v : α) : Sparse α :=
  if v = d k then serase k m else sinsert k v (serase k m)

/-- Keys strictly rising above `lo`, and no entry equal to the default. -/
def scanonFrom {α : Type} [DecidableEq α] (d : Nat → α) : Nat → Sparse α → Bool
  | _, [] => true
  | lo, (j, v) :: m => decide (lo ≤ j) && decide (v ≠ d j) && scanonFrom d (j + 1) m

/-- The canonical form of a sparse map. -/
def scanon {α : Type} [DecidableEq α] (d : Nat → α) (m : Sparse α) : Bool := scanonFrom d 0 m

/-! ### Cyclic checks -/

/-- One bit of a reflected polynomial, and a register over one byte. -/
def crcBit (poly c : Nat) : Nat := if c % 2 = 1 then (c / 2) ^^^ poly else c / 2
def crcByte (poly c : Nat) (b : Byte) : Nat := (List.range 8).foldl (fun c _ => crcBit poly c) (c ^^^ b.toNat)

/-- CRC-32C of R356. -/
def crc32c (l : List Byte) : Nat := l.foldl (crcByte 0x82F63B78) 0xFFFFFFFF ^^^ 0xFFFFFFFF

/-- One bit, and one byte, of a check that is not reflected: most significant bit first, in a register of 32 bits. -/
def crcMsbBit (poly c : Nat) : Nat := if 2 ^ 31 ≤ c then (c * 2 % 2 ^ 32) ^^^ poly else c * 2
def crcMsbByte (poly c : Nat) (b : Byte) : Nat := (List.range 8).foldl (fun c _ => crcMsbBit poly c) (c ^^^ (b.toNat * 2 ^ 24))

/-- The safety check of R332. -/
def safeCheck (l : List Byte) : Nat := l.foldl (crcMsbByte 0x741B8CD7) 0xFFFFFFFF

/-- A number as n bytes, least significant byte first. -/
def leBytes (n v : Nat) : List Byte := (List.range n).map (fun k => BitVec.ofNat 8 (v / 256 ^ k))

end Sys2Proof.Machine
end

