-- ==== Sys2Proof/Machine/Trig.lean ====
section
/-! DEFINITION. Fixed-point arithmetic of R9, R198 and R199: rounding, the integer square root, sine and cosine, the
four-quadrant arc tangent of R209. -/

namespace Sys2Proof.Machine

/-- `rnd(x, s)` of R198. -/
def rnd (x : Int) (s : Nat) : Int := if s = 0 then x else shr (x + 2 ^ (s - 1)) s

/-- The largest r below 2^bits with r² ≤ x, bit by bit. -/
def isqrtBits (x : Nat) : Nat → Nat → Nat
  | 0, r => r
  | b + 1, r => if (r + 2 ^ b) * (r + 2 ^ b) ≤ x then isqrtBits x b (r + 2 ^ b) else isqrtBits x b r

/-- The integer square root of R198, for x below 2^80. -/
def isqrt (x : Nat) : Nat := isqrtBits x 40 0

/-- 2π in units of 2^-100. -/
def twoPi : Nat := 7964883625991394727376702227904

/-- The Taylor series of the sine by Horner's rule: x·(1 − x²/(2k(2k+1))·(...)), in units of 2^-100; `n` counts the
terms left and `k` the factor in hand. -/
def sinHorner (x2 : Int) : Nat → Nat → Int
  | 0, _ => 2 ^ 100
  | n + 1, k => 2 ^ 100 - x2 * sinHorner x2 n (k + 1) / (2 ^ 100 * ((2 * k) * (2 * k + 1)))

/-- sin(2π j / 4096) in units of 2^-100, for 0 ≤ j ≤ 1024. -/
def sinQuarter (j : Nat) : Int :=
  let x : Int := ((twoPi * j / 4096 : Nat) : Int)
  x * sinHorner (x * x / 2 ^ 100) 24 1 / 2 ^ 100

/-- round(a · sin(2π j / 4096)) for 0 ≤ j ≤ 1024, rounding half away from zero. At j = 0 and j = 1024 the sine is
exactly 0 and 1. -/
def sinRound (a j : Nat) : Int :=
  if j = 0 then 0 else if j = 1024 then (a : Int) else (2 * (a : Int) * sinQuarter j + 2 ^ 100) / 2 ^ 101

/-- round(a · sin(2π i / 4096)) for any i. -/
def sinTab (a i : Nat) : Int :=
  let j := i % 4096
  if j ≤ 1024 then sinRound a j else if j ≤ 2048 then sinRound a (2048 - j)
  else if j ≤ 3072 then -sinRound a (j - 2048) else -sinRound a (4096 - j)

/-- sin θ of R199, θ in 2^-32 turn. -/
def sinT (th : Nat) : Int :=
  let i := th % 2 ^ 32 / 2 ^ 20
  let f := th / 16 % 65536
  sinTab (2 ^ 30) i + shr ((sinTab (2 ^ 30) (i + 1) - sinTab (2 ^ 30) i) * f) 16

/-- cos θ of R199. -/
def cosT (th : Nat) : Int := sinT (th + 2 ^ 30)

/-- AT[i] = round(2^32 · atan(2^-i) / 2π) of R209. -/
def atanTab : List Int :=
  [536870912, 316933406, 167458907, 85004756, 42667331, 21354465, 10679838, 5340245, 2670163, 1335087] ++
  [667544, 333772, 166886, 83443, 41722, 20861, 10430, 5215, 2608, 1304] ++
  [652, 326, 163, 81, 41, 20, 10, 5, 3, 1]

/-- The iterations of atan2 in R209. -/
def atanLoop : List Int → Nat → Int → Int → Int → Int
  | [], _, _, _, z => z
  | a :: as, i, x, y, z =>
    if 0 ≤ y then atanLoop as (i + 1) (x + shr y i) (y - shr x i) (z + a)
    else atanLoop as (i + 1) (x - shr y i) (y + shr x i) (z - a)

/-- atan2 of R209, in 2^-32 turn. -/
def atan2T (fy fx : Int) : Nat :=
  lowBits 32 (if fx < 0 then atanLoop atanTab 0 (-fx) (-fy) (2 ^ 31) else atanLoop atanTab 0 fx fy 0)

end Sys2Proof.Machine
end

