-- ==== Sys2Proof/Machine/F64.lean ====
section
/-! DEFINITION. IEEE 754 binary64 as the VMF and the Solver's double-precision lanes compute in it (R138, R212), and
vectors, rotations and rigid motions over it (R137). Every operation rounds once, to nearest with ties to even; the
order of the operations of a formula is the model's (assumption 108). (log 108, DESIGN CHOICE) -/

namespace Sys2Proof

open Sys2Proof.Machine

/-! ### binary64 -/

/-- Not a number. -/
def F64.nan : F64 := 0x7FF8000000000000#64
/-- An infinity. -/
def F64.inf (neg : Bool) : F64 := if neg then 0xFFF0000000000000#64 else 0x7FF0000000000000#64
def F64.one : F64 := 0x3FF0000000000000#64
def F64.two : F64 := 0x4000000000000000#64
def F64.half : F64 := 0x3FE0000000000000#64
def F64.pi : F64 := 0x400921FB54442D18#64

def F64.isNeg (x : F64) : Bool := x.getLsbD 63
/-- The biased exponent and the fraction. -/
def F64.expo (x : F64) : Nat := x.toNat / 2 ^ 52 % 2 ^ 11
def F64.frac (x : F64) : Nat := x.toNat % 2 ^ 52
def F64.isNan (x : F64) : Bool := decide (F64.expo x = 2047 ∧ F64.frac x ≠ 0)
def F64.isInf (x : F64) : Bool := decide (F64.expo x = 2047 ∧ F64.frac x = 0)

/-- The signed significand of a finite number, in units of 2^-1074. -/
def F64.units (x : F64) : Int :=
  let m := if F64.expo x = 0 then F64.frac x else (F64.frac x + 2 ^ 52) * 2 ^ (F64.expo x - 1)
  if F64.isNeg x then -(m : Int) else m

/-- A magnitude of n / d units of 2^-1074 rounded to nearest, ties to even. -/
def F64.round (neg : Bool) (n d : Nat) : F64 :=
  let q := n / d
  -- the exponent's shift: the significand keeps 53 bits
  let sh := (Nat.log2 q + 1) - 53
  let m := n / (d * 2 ^ sh)
  let r := n % (d * 2 ^ sh)
  let m := if d * 2 ^ sh < 2 * r ∨ (2 * r = d * 2 ^ sh ∧ m % 2 = 1) then m + 1 else m
  -- the hidden bit and a carry out of the significand count into the exponent field
  let e := min (m + sh * 2 ^ 52) (2047 * 2 ^ 52)
  BitVec.ofNat 64 (e + if neg then 2 ^ 63 else 0)

/-- A signed number of units of 2^-1074. -/
def F64.ofUnits (x : Int) : F64 := F64.round (decide (x < 0)) x.natAbs 1

/-- x · 2^-k for an integer x (R138): exact for every input format. -/
def F64.ofInt (x : Int) (k : Nat) : F64 := F64.round (decide (x < 0)) (x.natAbs * 2 ^ 1074) (2 ^ k)

def F64.neg (x : F64) : F64 := x ^^^ 0x8000000000000000#64
def F64.abs (x : F64) : F64 := x &&& 0x7FFFFFFFFFFFFFFF#64

def F64.add (x y : F64) : F64 :=
  if F64.isNan x || F64.isNan y then F64.nan
  else if F64.isInf x then (if F64.isInf y && F64.isNeg x != F64.isNeg y then F64.nan else x)
  else if F64.isInf y then y
  else
    let s := F64.units x + F64.units y
    if s = 0 then (if F64.isNeg x && F64.isNeg y then 0x8000000000000000#64 else 0#64) else F64.ofUnits s
def F64.sub (x y : F64) : F64 := F64.add x (F64.neg y)

def F64.mul (x y : F64) : F64 :=
  let n := F64.isNeg x != F64.isNeg y
  if F64.isNan x || F64.isNan y then F64.nan
  else if F64.isInf x || F64.isInf y then (if F64.units x = 0 ∧ F64.isInf x = false ∨ F64.units y = 0 ∧ F64.isInf y = false then F64.nan else F64.inf n)
  else F64.round n ((F64.units x).natAbs * (F64.units y).natAbs) (2 ^ 1074)

def F64.div (x y : F64) : F64 :=
  let n := F64.isNeg x != F64.isNeg y
  if F64.isNan x || F64.isNan y then F64.nan
  else if F64.isInf x then (if F64.isInf y then F64.nan else F64.inf n)
  else if F64.isInf y then (if n then 0x8000000000000000#64 else 0#64)
  else if F64.units y = 0 then (if F64.units x = 0 then F64.nan else F64.inf n)
  else F64.round n ((F64.units x).natAbs * 2 ^ 1074) (F64.units y).natAbs

/-- The square root: its integer part with 120 bits below the units, and a bit for what is left. -/
def F64.sqrt (x : F64) : F64 :=
  if F64.isNan x then F64.nan
  else if F64.units x = 0 ∧ F64.isInf x = false then x
  else if F64.isNeg x then F64.nan
  else if F64.isInf x then x
  else
    let v := (F64.units x).natAbs * 2 ^ 1074 * 2 ^ 240
    let r := isqrtBits v ((Nat.log2 v) / 2 + 1) 0
    F64.round false (2 * r + if r * r = v then 0 else 1) (2 ^ 121)

/-- The order of the numbers that are none of NaN. -/
def F64.key (x : F64) : Int := if F64.isInf x then (if F64.isNeg x then -(2 ^ 2200 : Int) else 2 ^ 2200) else F64.units x
def F64.lt (x y : F64) : Bool := !F64.isNan x && !F64.isNan y && decide (F64.key x < F64.key y)

/-- x · 2^k rounded to the nearest integer, ties away from zero (R138). An infinity counts as beyond every
format, and what is no number becomes a number that stays open. -/
def F64.toInt (x : F64) (k : Nat) : Int :=
  if F64.isNan x then Config.nanInt
  else if F64.isInf x then (if F64.isNeg x then -(2 ^ 100 : Int) else 2 ^ 100)
  else
    let n := (F64.units x).natAbs * 2 ^ k
    let q : Nat := (2 * n + 2 ^ 1074) / 2 ^ 1075
    if F64.isNeg x then -(q : Int) else q


/-- A quantity of the VMF at a boundary with the device (R138): rounded, then saturated to 32 bits; whether it
saturated. -/
def fix32 (x : F64) (k : Nat) : Int × Bool :=
  let n := F64.toInt x k
  (sat n 32, decide (sat n 32 ≠ n))

/-! ### Vectors and rotations (R137) -/

def V3.map2 (f : F64 → F64 → F64) (a b : V3) : V3 := ⟨f a.x b.x, f a.y b.y, f a.z b.z⟩
def V3.add : V3 → V3 → V3 := map2 F64.add
def V3.sub : V3 → V3 → V3 := map2 F64.sub
def V3.neg (a : V3) : V3 := ⟨F64.neg a.x, F64.neg a.y, F64.neg a.z⟩
def V3.scale (k : F64) (a : V3) : V3 := ⟨F64.mul k a.x, F64.mul k a.y, F64.mul k a.z⟩
def V3.dot (a b : V3) : F64 := F64.add (F64.add (F64.mul a.x b.x) (F64.mul a.y b.y)) (F64.mul a.z b.z)
def V3.cross (a b : V3) : V3 :=
  ⟨F64.sub (F64.mul a.y b.z) (F64.mul a.z b.y), F64.sub (F64.mul a.z b.x) (F64.mul a.x b.z), F64.sub (F64.mul a.x b.y) (F64.mul a.y b.x)⟩
def V3.norm (a : V3) : F64 := F64.sqrt (dot a a)
def V3.toList (a : V3) : List F64 := [a.x, a.y, a.z]
def V3.ofList (l : List F64) : V3 := ⟨l.getD 0 0, l.getD 1 0, l.getD 2 0⟩
/-- Three numbers of a fixed-point format (R138). -/
def V3.ofInts (l : List Int) (k : Nat) : V3 := ⟨F64.ofInt (l.getD 0 0) k, F64.ofInt (l.getD 1 0) k, F64.ofInt (l.getD 2 0) k⟩
/-- The fixed-point format of a vector (R138). -/
def V3.toFix (a : V3) (k : Nat) : List (Int × Bool) := a.toList.map (fun x => fix32 x k)

/-- w ≥ 0 (R137). -/
def Q4.pos (q : Q4) : Q4 := if F64.lt q.w 0#64 then ⟨F64.neg q.w, F64.neg q.x, F64.neg q.y, F64.neg q.z⟩ else q
def Q4.conj (q : Q4) : Q4 := ⟨q.w, F64.neg q.x, F64.neg q.y, F64.neg q.z⟩
def Q4.vec (q : Q4) : V3 := ⟨q.x, q.y, q.z⟩
def Q4.toList (q : Q4) : List F64 := [q.w, q.x, q.y, q.z]
def Q4.mul (a b : Q4) : Q4 :=
  let v := (V3.scale a.w b.vec).add ((V3.scale b.w a.vec).add (a.vec.cross b.vec))
  ⟨F64.sub (F64.mul a.w b.w) (a.vec.dot b.vec), v.x, v.y, v.z⟩
/-- R(q) x (R137). -/
def Q4.rot (q : Q4) (x : V3) : V3 :=
  let t := V3.scale F64.two (q.vec.cross x)
  x.add ((V3.scale q.w t).add (q.vec.cross t))
/-- The same with w ≥ 0 and norm 1. -/
def Q4.unit (q : Q4) : Q4 :=
  let n := F64.sqrt (F64.add (F64.mul q.w q.w) (q.vec.dot q.vec))
  pos ⟨F64.div q.w n, F64.div q.x n, F64.div q.y n, F64.div q.z n⟩
/-- The rotation of `a` rad about a unit axis. -/
def Q4.axisAngle (u : V3) (a : F64) : Q4 :=
  let h := F64.mul F64.half a
  let v := V3.scale (Config.sin64 h) u
  pos ⟨Config.cos64 h, v.x, v.y, v.z⟩
/-- The rotation of a rotation vector. -/
def Q4.exp (v : V3) : Q4 :=
  let n := v.norm
  if n = 0#64 then {} else axisAngle (V3.scale (F64.div F64.one n) v) n
/-- Roll, pitch and yaw in the z-y-x convention (R137). -/
def Q4.ofEuler (e : V3) : Q4 :=
  (mul (axisAngle ⟨0, 0, F64.one⟩ e.z) (mul (axisAngle ⟨0, F64.one, 0⟩ e.y) (axisAngle ⟨F64.one, 0, 0⟩ e.x))).pos
def Q4.toEuler (q : Q4) : V3 :=
  let m := F64.mul
  let d := fun x => F64.mul F64.two x
  ⟨Config.atan264 (d (F64.add (m q.w q.x) (m q.y q.z))) (F64.sub F64.one (d (F64.add (m q.x q.x) (m q.y q.y)))),
   Config.asin64 (d (F64.sub (m q.w q.y) (m q.z q.x))),
   Config.atan264 (d (F64.add (m q.w q.z) (m q.x q.y))) (F64.sub F64.one (d (F64.add (m q.y q.y) (m q.z q.z))))⟩
/-- The rotation angle, 0 to π. -/
def Q4.angle (q : Q4) : F64 := F64.mul F64.two (Config.atan264 q.vec.norm (F64.abs q.w))
/-- The rotation vector of a rotation. -/
def Q4.log (q : Q4) : V3 :=
  let n := q.pos.vec.norm
  if n = 0#64 then {} else V3.scale (F64.div q.angle n) q.pos.vec
/-- Four numbers in 2^-30, negated where w < 0 (R137, R138). -/
def Q4.ofInts (l : List Int) : Q4 :=
  pos ⟨F64.ofInt (l.getD 0 0) 30, F64.ofInt (l.getD 1 0) 30, F64.ofInt (l.getD 2 0) 30, F64.ofInt (l.getD 3 0) 30⟩

/-- A received quaternion in 2^-30: with w < 0 it is negated (R137). -/
def posQuat (q : List Int) : List Int := if q.getD 0 0 < 0 then q.map (fun x => sat (-x) 32) else q

/-- The pose of C in A from those of B in A and C in B. -/
def Pose.comp (a b : Pose) : Pose := ⟨a.p.add (a.q.rot b.p), (a.q.mul b.q).pos⟩
def Pose.inv (a : Pose) : Pose := ⟨(a.q.conj.rot a.p).neg, a.q.conj.pos⟩
def Pose.act (a : Pose) (x : V3) : V3 := a.p.add (a.q.rot x)

/-! ### Motion of frames -/

/-- The motion of frame B in frame A (R137): pose, velocity and acceleration of B's origin in A coordinates, angular
rate and its derivative in B coordinates. -/
structure Motion where
  pose : Pose := {}
  vel : V3 := {}
  acc : V3 := {}
  rate : V3 := {}
  racc : V3 := {}
  deriving DecidableEq, Repr

/-- The motion of A in B, of B in A. -/
def Motion.inv (m : Motion) : Motion :=
  let r := m.pose.inv
  let rv := r.q.rot m.vel
  let w := m.rate
  -- y = −Rᵀ p: its derivatives in B's axes
  let vel := ((w.cross r.p).add rv).neg
  let acc := (((m.racc.cross r.p).add (w.cross vel)).add ((r.q.rot m.acc).sub (w.cross rv))).neg
  ⟨r, vel, acc, (m.pose.q.rot w).neg, (m.pose.q.rot m.racc).neg⟩

/-- The motion of C in A, from those of B in A and of C in B. -/
def Motion.comp (a b : Motion) : Motion :=
  let x := b.pose.p
  let w := a.rate
  let vel := a.vel.add (a.pose.q.rot (b.vel.add (w.cross x)))
  let acc := a.acc.add (a.pose.q.rot ((b.acc.add (a.racc.cross x)).add ((w.cross (w.cross x)).add (V3.scale F64.two (w.cross b.vel)))))
  let wb := b.pose.q.conj.rot w
  ⟨a.pose.comp b.pose, vel, acc, wb.add b.rate, ((b.pose.q.conj.rot a.racc).add b.racc).add (wb.cross b.rate)⟩

/-- A vector and a motion in the formats of R138, and whether a number saturated. R138 has no format for an angular
acceleration, which is handed as it is. (log 108, DESIGN CHOICE) -/
def V3.fix (v : V3) (k : Nat) : V3 × Bool :=
  let l := v.toFix k
  (V3.ofInts (l.map Prod.fst) k, l.any Prod.snd)
def Pose.fix (p : Pose) : Pose × Bool :=
  let x := p.p.fix 20
  let q := p.q.unit.toList.map (fun x => fix32 x 30)
  (⟨x.1, Q4.ofInts (q.map Prod.fst)⟩, x.2 || q.any Prod.snd)
def Motion.fix (m : Motion) : Motion × Bool :=
  let p := m.pose.fix
  let v := m.vel.fix 20
  let a := m.acc.fix 20
  let w := m.rate.fix 28
  (⟨p.1, v.1, a.1, w.1, m.racc⟩, p.2 || v.2 || a.2 || w.2)

end Sys2Proof
end

