-- ==== Sys2Proof/Machine/Reg.lean ====
section
/-! DEFINITION. The absolute address of every register of the register tables of spec/ (R55, R61, R65 and the tables
of each block's chapter), under the register's own name. An index before `n` is the page's own (wing, carrel,
channel, port, ...); `n` is the index within a numbered run of registers. -/

namespace Sys2Proof.Machine.R

/-- The page of carrel c (R11). -/
def carPage (c : Nat) : Nat := 0x40100000 + (c / 48) * 0x40000 + (16 + c % 48) * 0x1000

-- PWMC
def TB_CTRL : Nat := 0x40300000 + 0x40
def TB_STAT : Nat := 0x40300000 + 0x44
def TB_DT_LO : Nat := 0x40300000 + 0x48
def TB_DT_HI : Nat := 0x40300000 + 0x4C
def TB_CYC_LO : Nat := 0x40300000 + 0x50
def TB_CYC_HI : Nat := 0x40300000 + 0x54
def TB_TICK : Nat := 0x40300000 + 0x58
def TB_FREQ_ADJ : Nat := 0x40300000 + 0x5C
def TB_SLEW_MAX : Nat := 0x40300000 + 0x60
def TB_STEP_LO : Nat := 0x40300000 + 0x64
def TB_STEP_HI : Nat := 0x40300000 + 0x68
def TB_FB_DEADLINE : Nat := 0x40300000 + 0x6C
def TB_APP_DEADLINE : Nat := 0x40300000 + 0x70
def TB_SVC_CNT : Nat := 0x40300000 + 0x74
def TB_ERR : Nat := 0x40300000 + 0x78
def TB_CMD_LATE_CNT : Nat := 0x40300000 + 0x7C
def TB_OFFSET : Nat := 0x40300000 + 0x80
def PWM_COM_CFG : Nat := 0x40300000 + 0x100
def PWM_COM_STAT : Nat := 0x40300000 + 0x104
def PWM_DT_FIX : Nat := 0x40300000 + 0x108
def PWM_ADT_TGT : Nat := 0x40300000 + 0x10C
def PWM_ADT_LIM : Nat := 0x40300000 + 0x110
def PWM_COM_ERR : Nat := 0x40300000 + 0x114
-- HDR
def PAGE_ID (page : Nat) : Nat := page + 0x0
def PAGE_VER (page : Nat) : Nat := page + 0x4
def PAGE_CTRL (page : Nat) : Nat := page + 0x8
def PAGE_STAT (page : Nat) : Nat := page + 0xC
def IRQ_RAW (page : Nat) : Nat := page + 0x10
def IRQ_EN (page : Nat) : Nat := page + 0x14
def IRQ_FORCE (page : Nat) : Nat := page + 0x18
def IRQ_CLR (page : Nat) : Nat := page + 0x1C
def PAGE_LOCK (page : Nat) : Nat := page + 0x20
def PAGE_ERR (page : Nat) : Nat := page + 0x24
-- SYS
def SYS_ID : Nat := 0x40000000 + 0x40
def SYS_UID_LO : Nat := 0x40000000 + 0x44
def SYS_UID_HI : Nat := 0x40000000 + 0x48
def SYS_DECERR_LO : Nat := 0x40000000 + 0x4C
def SYS_DECERR_HI : Nat := 0x40000000 + 0x50
def SYS_STRAP : Nat := 0x40000000 + 0x54
def SYS_RST_CAUSE : Nat := 0x40000000 + 0x58
def SYS_RST_CTRL : Nat := 0x40000000 + 0x5C
def SYS_WDT_CTRL : Nat := 0x40000000 + 0x60
def SYS_WDT_KICK : Nat := 0x40000000 + 0x64
def SYS_WDT_CNT : Nat := 0x40000000 + 0x68
def SYS_BOOT_STAT : Nat := 0x40000000 + 0x6C
-- DISP0
def DISP_CTRL : Nat := 0x40010000 + 0x40
def DISP_STAT : Nat := 0x40010000 + 0x44
def DISP_ERR : Nat := 0x40010000 + 0x48
def DISP_EV_POST : Nat := 0x40010000 + 0x4C
def DISP_COAL_CNT : Nat := 0x40010000 + 0x50
def DISP_QHWM : Nat := 0x40010000 + 0x54
def DISP_CORE_REL : Nat := 0x40010000 + 0x58
def DISP_BOOT_ADDR_LO : Nat := 0x40010000 + 0x5C
def DISP_BOOT_ADDR_HI : Nat := 0x40010000 + 0x60
def DISP_ECC_INFO : Nat := 0x40010000 + 0x64
-- DISPC
def DISP_NEXT (h : Nat) : Nat := (0x40011000 + h * 0x1000) + 0x40
def DISP_RUN (h : Nat) : Nat := (0x40011000 + h * 0x1000) + 0x44
def DISP_RUN_TOKEN_LO (h : Nat) : Nat := (0x40011000 + h * 0x1000) + 0x48
def DISP_RUN_TOKEN_HI (h : Nat) : Nat := (0x40011000 + h * 0x1000) + 0x4C
def DISP_WAIT_LO (h : Nat) : Nat := (0x40011000 + h * 0x1000) + 0x50
def DISP_WAIT_HI (h : Nat) : Nat := (0x40011000 + h * 0x1000) + 0x54
def DISP_CMD (h : Nat) : Nat := (0x40011000 + h * 0x1000) + 0x58
def DISP_MSIP (h : Nat) : Nat := (0x40011000 + h * 0x1000) + 0x5C
def DISP_MTIMECMP_LO (h : Nat) : Nat := (0x40011000 + h * 0x1000) + 0x60
def DISP_MTIMECMP_HI (h : Nat) : Nat := (0x40011000 + h * 0x1000) + 0x64
def DISP_IRQ_STAT (h : Nat) : Nat := (0x40011000 + h * 0x1000) + 0x68
-- DISP9
def DISP_TH_SEL : Nat := 0x40019000 + 0x40
def DISP_TH_CFG : Nat := 0x40019000 + 0x44
def DISP_TH_STATE : Nat := 0x40019000 + 0x48
def DISP_TH_TOKEN_LO : Nat := 0x40019000 + 0x4C
def DISP_TH_TOKEN_HI : Nat := 0x40019000 + 0x50
def DISP_TH_CMD : Nat := 0x40019000 + 0x54
-- DISP10
def DISP_DC_SEL : Nat := 0x4001A000 + 0x40
def DISP_DC_CFG : Nat := 0x4001A000 + 0x44
def DISP_DC_COUNT : Nat := 0x4001A000 + 0x48
def DISP_DC_STAT : Nat := 0x4001A000 + 0x4C
-- DISP11
def DISP_PEND (n : Nat) : Nat := 0x4001B000 + 0x40 + n * 0x4
-- DISP12
def PLIC_PRIO (n : Nat) : Nat := 0x4001C000 + 0x40 + n * 0x4
def PLIC_PEND (n : Nat) : Nat := 0x4001C000 + 0x840 + n * 0x4
-- DISP13
def PLIC_EN (n : Nat) : Nat := 0x4001D000 + 0x40 + n * 0x4
-- DISP14
def PLIC_THR (n : Nat) : Nat := 0x4001E000 + 0x40 + n * 0x8
def PLIC_CLAIM (n : Nat) : Nat := 0x4001E000 + 0x44 + n * 0x8
-- MBX
def MBX_CFG (m : Nat) : Nat := (0x40020000 + m * 0x1000) + 0x40
def MBX_OWNER (m : Nat) : Nat := (0x40020000 + m * 0x1000) + 0x44
def MBX_FEP (m : Nat) : Nat := (0x40020000 + m * 0x1000) + 0x48
def MBX_ACK_EV (m : Nat) : Nat := (0x40020000 + m * 0x1000) + 0x4C
def MBX_STAT (m : Nat) : Nat := (0x40020000 + m * 0x1000) + 0x50
def MBX_STAMP (m : Nat) : Nat := (0x40020000 + m * 0x1000) + 0x54
def MBX_POST (m : Nat) : Nat := (0x40020000 + m * 0x1000) + 0x58
def MBX_ACK (m : Nat) : Nat := (0x40020000 + m * 0x1000) + 0x5C
def MBX_LAST_STAMP (m : Nat) : Nat := (0x40020000 + m * 0x1000) + 0x60
def MBX_LAST_RC (m : Nat) : Nat := (0x40020000 + m * 0x1000) + 0x64
def MBX_CTRL (m : Nat) : Nat := (0x40020000 + m * 0x1000) + 0x68
def MBX_ERR (m : Nat) : Nat := (0x40020000 + m * 0x1000) + 0x6C
def MBX_DUP_CNT (m : Nat) : Nat := (0x40020000 + m * 0x1000) + 0x70
def MBX_DATA (m : Nat) (n : Nat) : Nat := (0x40020000 + m * 0x1000) + 0x80 + n * 0x4
-- LOAN
def LOAN (n : Nat) : Nat := 0x40040000 + 0x40 + n * 0x4
def LOAN_PEEK (n : Nat) : Nat := 0x40040000 + 0x140 + n * 0x4
def LOAN_HELD_LO : Nat := 0x40040000 + 0x240
def LOAN_HELD_HI : Nat := 0x40040000 + 0x244
def LOAN_FORCE_LO : Nat := 0x40040000 + 0x248
def LOAN_FORCE_HI : Nat := 0x40040000 + 0x24C
def LOAN_ERR : Nat := 0x40040000 + 0x250
-- VMF
def VMF_CTRL : Nat := 0x40210000 + 0x40
def VMF_STAT : Nat := 0x40210000 + 0x44
def VMF_ERR : Nat := 0x40210000 + 0x48
def VMF_UPD_CNT : Nat := 0x40210000 + 0x4C
def VMF_ALIGN_LEN : Nat := 0x40210000 + 0x50
def VMF_IMU_AGE_MAX : Nat := 0x40210000 + 0x54
def VMF_NAV_TMO : Nat := 0x40210000 + 0x58
def VMF_TGT_TMO : Nat := 0x40210000 + 0x5C
def VMF_COAST_MAX : Nat := 0x40210000 + 0x60
def VMF_GATE : Nat := 0x40210000 + 0x64
def VMF_IMU_TOL : Nat := 0x40210000 + 0x68
def VMF_PCHK : Nat := 0x40210000 + 0x6C
def VMF_WAVE_STAT : Nat := 0x40210000 + 0x70
def VMF_FIT_CNT : Nat := 0x40210000 + 0x74
def VMF_MFRAME (n : Nat) : Nat := 0x40210000 + 0xC0 + n * 0x4
def Record_VL (n : Nat) : Nat := 0x40210000 + 0x100 + n * 0x4
def Record_VE (n : Nat) : Nat := 0x40210000 + 0x140 + n * 0x4
def Record_TnE (n : Nat) : Nat := 0x40210000 + 0x180 + n * 0x4
def Record_PRED (n : Nat) : Nat := 0x40210000 + 0x280 + n * 0x4
def VMF_PRED_SEL : Nat := 0x40210000 + 0x2C0
def VMF_PRED_T_LO : Nat := 0x40210000 + 0x2C4
def VMF_PRED_T_HI : Nat := 0x40210000 + 0x2C8
def VMF_PRED_STAT : Nat := 0x40210000 + 0x2CC
def VMF_WAVE (n : Nat) : Nat := 0x40210000 + 0x300 + n * 0x4
def VMF_IMU_CFG (n : Nat) : Nat := 0x40210000 + 0x400 + n * 0x10
def VMF_IMU_STAT (n : Nat) : Nat := 0x40210000 + 0x404 + n * 0x10
def VMF_IMU_REJ_CNT (n : Nat) : Nat := 0x40210000 + 0x408 + n * 0x10
def VMF_NAV_PN : Nat := 0x40210000 + 0x440
def VMF_NAV_PE : Nat := 0x40210000 + 0x444
def VMF_NAV_PD : Nat := 0x40210000 + 0x448
def VMF_NAV_HDG : Nat := 0x40210000 + 0x44C
def VMF_NAV_VN : Nat := 0x40210000 + 0x450
def VMF_NAV_VE : Nat := 0x40210000 + 0x454
def VMF_NAV_SIG : Nat := 0x40210000 + 0x458
def VMF_NAV_VALID : Nat := 0x40210000 + 0x45C
def VMF_NAV_T_LO : Nat := 0x40210000 + 0x460
def VMF_NAV_T_HI : Nat := 0x40210000 + 0x464
def VMF_TGT_CFG (n : Nat) : Nat := 0x40210000 + 0x470 + n * 0x4
def VMF_AUXFR (n : Nat) : Nat := 0x40210000 + 0x4C0 + n * 0x4
-- CAR
def PS_CFG (c : Nat) : Nat := (carPage c) + 0x100
def PS_CMD (c : Nat) : Nat := (carPage c) + 0x104
def PS_STAT (c : Nat) : Nat := (carPage c) + 0x108
def PS_ERR (c : Nat) : Nat := (carPage c) + 0x10C
def PS_POS_LO (c : Nat) : Nat := (carPage c) + 0x110
def PS_POS_HI (c : Nat) : Nat := (carPage c) + 0x114
def PS_VEL_LO (c : Nat) : Nat := (carPage c) + 0x118
def PS_VEL_HI (c : Nat) : Nat := (carPage c) + 0x11C
def PS_TARGET (c : Nat) : Nat := (carPage c) + 0x120
def PS_VSTART (c : Nat) : Nat := (carPage c) + 0x124
def PS_VBREAK (c : Nat) : Nat := (carPage c) + 0x128
def PS_VMAX (c : Nat) : Nat := (carPage c) + 0x12C
def PS_VSTOP (c : Nat) : Nat := (carPage c) + 0x130
def PS_A1 (c : Nat) : Nat := (carPage c) + 0x134
def PS_A2 (c : Nat) : Nat := (carPage c) + 0x138
def PS_SOFT_MIN (c : Nat) : Nat := (carPage c) + 0x140
def PS_SOFT_MAX (c : Nat) : Nat := (carPage c) + 0x144
def PS_SPEED_LIM (c : Nat) : Nat := (carPage c) + 0x148
def PS_SR_VB (c : Nat) : Nat := (carPage c) + 0x14C
def PS_SR_VSTOP (c : Nat) : Nat := (carPage c) + 0x150
def PS_SR_A1 (c : Nat) : Nat := (carPage c) + 0x154
def PS_SR_A2 (c : Nat) : Nat := (carPage c) + 0x158
def PS_SR_DIST_LO (c : Nat) : Nat := (carPage c) + 0x15C
def PS_SR_DIST_HI (c : Nat) : Nat := (carPage c) + 0x160
def PS_AUX_OFS_LO (c : Nat) : Nat := (carPage c) + 0x164
def PS_AUX_OFS_HI (c : Nat) : Nat := (carPage c) + 0x168
def PS_FOLLOW_TOL (c : Nat) : Nat := (carPage c) + 0x16C
def PS_FOLLOW_DEV (c : Nat) : Nat := (carPage c) + 0x170
def PS_HOME_CFG (c : Nat) : Nat := (carPage c) + 0x180
def PS_HOME_VFAST (c : Nat) : Nat := (carPage c) + 0x184
def PS_HOME_VSLOW (c : Nat) : Nat := (carPage c) + 0x188
def PS_HOME_OFFSET (c : Nat) : Nat := (carPage c) + 0x18C
def PS_HOME_RANGE (c : Nat) : Nat := (carPage c) + 0x190
def PS_HOME_TMO (c : Nat) : Nat := (carPage c) + 0x194
def PS_HOME_ILIM (c : Nat) : Nat := (carPage c) + 0x198
def PS_STEP_CFG (c : Nat) : Nat := (carPage c) + 0x1A0
def PS_VSTEP_CFG (c : Nat) : Nat := (carPage c) + 0x1A4
def PS_VSTEP_AMP (c : Nat) : Nat := (carPage c) + 0x1A8
def CAR_CTRL (c : Nat) : Nat := (carPage c) + 0x40
def CAR_STAT (c : Nat) : Nat := (carPage c) + 0x44
def CAR_BIND (c : Nat) : Nat := (carPage c) + 0x48
def CAR_REMOTE (c : Nat) : Nat := (carPage c) + 0x4C
def CAR_MACH (c : Nat) : Nat := (carPage c) + 0x50
def CAR_RATE (c : Nat) : Nat := (carPage c) + 0x54
def CAR_SPD_TMO (c : Nat) : Nat := (carPage c) + 0x58
def LE_CFG (c : Nat) : Nat := (carPage c) + 0x200
def LE_STAT (c : Nat) : Nat := (carPage c) + 0x204
def LE_ERR (c : Nat) : Nat := (carPage c) + 0x208
def LE_SWAP (c : Nat) : Nat := (carPage c) + 0x20C
def LE_SS_RATE (c : Nat) : Nat := (carPage c) + 0x210
def LE_VLIM (c : Nat) : Nat := (carPage c) + 0x214
def LE_ILIM (c : Nat) : Nat := (carPage c) + 0x218
def LE_VMOD (c : Nat) : Nat := (carPage c) + 0x21C
def LE_IDREF (c : Nat) : Nat := (carPage c) + 0x220
def LE_ELEC_K (c : Nat) : Nat := (carPage c) + 0x224
def LE_ELEC_OFS (c : Nat) : Nat := (carPage c) + 0x228
def LE_ELEC_LEAD (c : Nat) : Nat := (carPage c) + 0x22C
def LE_OUT (c : Nat) : Nat := (carPage c) + 0x230
def LE_INTEG (c : Nat) : Nat := (carPage c) + 0x234
def LE_IQ_MEAS (c : Nat) : Nat := (carPage c) + 0x238
def LE_VFB (c : Nat) : Nat := (carPage c) + 0x23C
def SHADOW_FOLIO (c : Nat) (n : Nat) : Nat := (carPage c) + 0x400 + n * 0x4
def LIVE_FOLIO (c : Nat) (n : Nat) : Nat := (carPage c) + 0x600 + n * 0x4
-- PS
def PATH_CMD (w : Nat) (n : Nat) : Nat := (0x40102000 + w * 0x40000) + 0x100 + n * 0x80
def PATH_STAT (w : Nat) (n : Nat) : Nat := (0x40102000 + w * 0x40000) + 0x104 + n * 0x80
def PATH_ERR (w : Nat) (n : Nat) : Nat := (0x40102000 + w * 0x40000) + 0x108 + n * 0x80
def PATH_S_LO (w : Nat) (n : Nat) : Nat := (0x40102000 + w * 0x40000) + 0x10C + n * 0x80
def PATH_S_HI (w : Nat) (n : Nat) : Nat := (0x40102000 + w * 0x40000) + 0x110 + n * 0x80
def PATH_VSTART (w : Nat) (n : Nat) : Nat := (0x40102000 + w * 0x40000) + 0x114 + n * 0x80
def PATH_VB (w : Nat) (n : Nat) : Nat := (0x40102000 + w * 0x40000) + 0x118 + n * 0x80
def PATH_VMAX (w : Nat) (n : Nat) : Nat := (0x40102000 + w * 0x40000) + 0x11C + n * 0x80
def PATH_VSTOP (w : Nat) (n : Nat) : Nat := (0x40102000 + w * 0x40000) + 0x120 + n * 0x80
def PATH_A1 (w : Nat) (n : Nat) : Nat := (0x40102000 + w * 0x40000) + 0x124 + n * 0x80
def PATH_A2 (w : Nat) (n : Nat) : Nat := (0x40102000 + w * 0x40000) + 0x128 + n * 0x80
def PATH_SR_A1 (w : Nat) (n : Nat) : Nat := (0x40102000 + w * 0x40000) + 0x12C + n * 0x80
def PATH_SR_A2 (w : Nat) (n : Nat) : Nat := (0x40102000 + w * 0x40000) + 0x130 + n * 0x80
def PATH_SR_VB (w : Nat) (n : Nat) : Nat := (0x40102000 + w * 0x40000) + 0x134 + n * 0x80
def PATH_SR_VSTOP (w : Nat) (n : Nat) : Nat := (0x40102000 + w * 0x40000) + 0x138 + n * 0x80
def PATH_SEG_X (w : Nat) (n : Nat) : Nat := (0x40102000 + w * 0x40000) + 0x13C + n * 0x80
def PATH_SEG_Y (w : Nat) (n : Nat) : Nat := (0x40102000 + w * 0x40000) + 0x140 + n * 0x80
def PATH_SEG_Z (w : Nat) (n : Nat) : Nat := (0x40102000 + w * 0x40000) + 0x144 + n * 0x80
def PATH_SEG_QW (w : Nat) (n : Nat) : Nat := (0x40102000 + w * 0x40000) + 0x148 + n * 0x80
def PATH_SEG_QX (w : Nat) (n : Nat) : Nat := (0x40102000 + w * 0x40000) + 0x14C + n * 0x80
def PATH_SEG_QY (w : Nat) (n : Nat) : Nat := (0x40102000 + w * 0x40000) + 0x150 + n * 0x80
def PATH_SEG_QZ (w : Nat) (n : Nat) : Nat := (0x40102000 + w * 0x40000) + 0x154 + n * 0x80
def PATH_SEG_PUSH (w : Nat) (n : Nat) : Nat := (0x40102000 + w * 0x40000) + 0x158 + n * 0x80
-- SOLV
def SOLV_CTRL : Nat := 0x40200000 + 0x40
def SOLV_STAT : Nat := 0x40200000 + 0x44
def SOLV_ERR : Nat := 0x40200000 + 0x48
def SOLV_PIVOT_FLOOR : Nat := 0x40200000 + 0x4C
def SOLV_PIVOT_INFO : Nat := 0x40200000 + 0x50
def SOLV_OVF_INFO : Nat := 0x40200000 + 0x54
def SOLV_RANGE_INFO : Nat := 0x40200000 + 0x58
def SOLV_PASS_CLK : Nat := 0x40200000 + 0x5C
def SOLV_PASS_MAX : Nat := 0x40200000 + 0x60
def SOLV_DP_PIVOT_REL : Nat := 0x40200000 + 0x64
def SOLV_DPJ_SUBMIT : Nat := 0x40200000 + 0x68
def SOLV_DPJ_STAT : Nat := 0x40200000 + 0x6C
def SOLV_DPJ_DONE_CNT : Nat := 0x40200000 + 0x70
def SOLV_M_CFG (n : Nat) : Nat := 0x40200000 + 0x100 + n * 0x10
def SOLV_M_VAR (n : Nat) : Nat := 0x40200000 + 0x104 + n * 0x10
def SOLV_M_STAT (n : Nat) : Nat := 0x40200000 + 0x108 + n * 0x10
def SOLV_M_SIG (n : Nat) : Nat := 0x40200000 + 0x10C + n * 0x10
def TA_DEM (n : Nat) : Nat := 0x40200000 + 0x200 + n * 0x4
def TA_COMMIT : Nat := 0x40200000 + 0x218
def TA_STAT : Nat := 0x40200000 + 0x21C
def TA_RES (n : Nat) : Nat := 0x40200000 + 0x220 + n * 0x4
def TA_GAIN (n : Nat) : Nat := 0x40200000 + 0x240 + n * 0x4
def TA_OUT_A (n : Nat) : Nat := 0x40200000 + 0x280 + n * 0x8
def TA_OUT_B (n : Nat) : Nat := 0x40200000 + 0x284 + n * 0x8
def TA_AZ (n : Nat) : Nat := 0x40200000 + 0x2E0 + n * 0x4
-- LE
def LE_GSWAP_LO (w : Nat) : Nat := (0x40101000 + w * 0x40000) + 0x40
def LE_GSWAP_HI (w : Nat) : Nat := (0x40101000 + w * 0x40000) + 0x44
def LE_PASS_CLK (w : Nat) : Nat := (0x40101000 + w * 0x40000) + 0x48
def LE_PASS_MAX (w : Nat) : Nat := (0x40101000 + w * 0x40000) + 0x4C
def LE_CUR_LAT_MAX (w : Nat) : Nat := (0x40101000 + w * 0x40000) + 0x50
def LE_WERR (w : Nat) : Nat := (0x40101000 + w * 0x40000) + 0x54
-- WING
def WING_DIAG_MODE (w : Nat) : Nat := (0x40100000 + w * 0x40000) + 0x40
def WING_DIAG_CMD (w : Nat) : Nat := (0x40100000 + w * 0x40000) + 0x44
def WING_DIAG_STAT (w : Nat) : Nat := (0x40100000 + w * 0x40000) + 0x48
def WING_TR_DECIM (w : Nat) : Nat := (0x40100000 + w * 0x40000) + 0x4C
def WING_TR_TRIG (w : Nat) : Nat := (0x40100000 + w * 0x40000) + 0x50
def WING_TR_LEVEL (w : Nat) : Nat := (0x40100000 + w * 0x40000) + 0x54
def WING_TR_POST (w : Nat) : Nat := (0x40100000 + w * 0x40000) + 0x58
def WING_TAP (w : Nat) (n : Nat) : Nat := (0x40100000 + w * 0x40000) + 0x60 + n * 0x4
def WING_INJ_CFG (w : Nat) : Nat := (0x40100000 + w * 0x40000) + 0xA0
def WING_INJ_AMP (w : Nat) : Nat := (0x40100000 + w * 0x40000) + 0xA4
def WING_INJ_FINC (w : Nat) : Nat := (0x40100000 + w * 0x40000) + 0xA8
def WING_INJ_FEND (w : Nat) : Nat := (0x40100000 + w * 0x40000) + 0xAC
def WING_INJ_FSTEP (w : Nat) : Nat := (0x40100000 + w * 0x40000) + 0xB0
def WING_INJ_LEN (w : Nat) : Nat := (0x40100000 + w * 0x40000) + 0xB4
def WING_INJ_PRBS (w : Nat) : Nat := (0x40100000 + w * 0x40000) + 0xB8
-- LEDGER
def LEDGER_ADDR (w : Nat) : Nat := (0x40104000 + w * 0x40000) + 0x40
def LEDGER_DATA (w : Nat) : Nat := (0x40104000 + w * 0x40000) + 0x44
def LEDGER_WPTR (w : Nat) : Nat := (0x40104000 + w * 0x40000) + 0x48
def LEDGER_TRIG_PTR (w : Nat) : Nat := (0x40104000 + w * 0x40000) + 0x4C
-- PWMCH
def PWM_CH_CFG (p : Nat) : Nat := (0x40380000 + p * 0x1000) + 0x40
def PWM_CH_CTRL (p : Nat) : Nat := (0x40380000 + p * 0x1000) + 0x44
def PWM_CH_STAT (p : Nat) : Nat := (0x40380000 + p * 0x1000) + 0x48
def PWM_CH_CNT (p : Nat) : Nat := (0x40380000 + p * 0x1000) + 0x4C
def PWM_CH_PERIOD (p : Nat) : Nat := (0x40380000 + p * 0x1000) + 0x50
def PWM_CH_PERIOD_ACT (p : Nat) : Nat := (0x40380000 + p * 0x1000) + 0x54
def PWM_CH_CMP_U (p : Nat) : Nat := (0x40380000 + p * 0x1000) + 0x58
def PWM_CH_CMP_V (p : Nat) : Nat := (0x40380000 + p * 0x1000) + 0x5C
def PWM_CH_CMP_W (p : Nat) : Nat := (0x40380000 + p * 0x1000) + 0x60
def PWM_CH_CMP_ACT_U (p : Nat) : Nat := (0x40380000 + p * 0x1000) + 0x64
def PWM_CH_CMP_ACT_V (p : Nat) : Nat := (0x40380000 + p * 0x1000) + 0x68
def PWM_CH_CMP_ACT_W (p : Nat) : Nat := (0x40380000 + p * 0x1000) + 0x6C
def PWM_CH_SE (p : Nat) : Nat := (0x40380000 + p * 0x1000) + 0x70
def PWM_CH_MINP (p : Nat) : Nat := (0x40380000 + p * 0x1000) + 0x74
def PWM_CH_ADT_U (p : Nat) : Nat := (0x40380000 + p * 0x1000) + 0x78
def PWM_CH_ADT_V (p : Nat) : Nat := (0x40380000 + p * 0x1000) + 0x7C
def PWM_CH_ADT_W (p : Nat) : Nat := (0x40380000 + p * 0x1000) + 0x80
def PWM_CH_ADT_MISS (p : Nat) : Nat := (0x40380000 + p * 0x1000) + 0x84
def PWM_CH_ERR (p : Nat) : Nat := (0x40380000 + p * 0x1000) + 0x88
def PWM_CH_SDM (p : Nat) : Nat := (0x40380000 + p * 0x1000) + 0x8C
def PWM_CH_SUMTOL (p : Nat) : Nat := (0x40380000 + p * 0x1000) + 0x90
-- SDM
def SDM_CLK (n : Nat) : Nat := 0x40310000 + 0x40 + n * 0x4
def SDM_IN_CFG (n : Nat) : Nat := 0x40310000 + 0x80 + n * 0x20
def SDM_IN_GAIN (n : Nat) : Nat := 0x40310000 + 0x84 + n * 0x20
def SDM_IN_OFS (n : Nat) : Nat := 0x40310000 + 0x88 + n * 0x20
def SDM_IN_SH (n : Nat) : Nat := 0x40310000 + 0x8C + n * 0x20
def SDM_IN_OC (n : Nat) : Nat := 0x40310000 + 0x90 + n * 0x20
def SDM_IN_RAW (n : Nat) : Nat := 0x40310000 + 0x94 + n * 0x20
def SDM_IN_VAL (n : Nat) : Nat := 0x40310000 + 0x98 + n * 0x20
def SDM_IN_STAT (n : Nat) : Nat := 0x40310000 + 0x9C + n * 0x20
-- FBK
def FBK_CFG (i : Nat) : Nat := (0x40320000 + i * 0x1000) + 0x40
def FBK_CMD (i : Nat) : Nat := (0x40320000 + i * 0x1000) + 0x44
def FBK_STAT (i : Nat) : Nat := (0x40320000 + i * 0x1000) + 0x48
def FBK_ERR (i : Nat) : Nat := (0x40320000 + i * 0x1000) + 0x4C
def FBK_COUNT (i : Nat) : Nat := (0x40320000 + i * 0x1000) + 0x50
def FBK_LC_POS (i : Nat) : Nat := (0x40320000 + i * 0x1000) + 0x54
def FBK_LC_VEL (i : Nat) : Nat := (0x40320000 + i * 0x1000) + 0x58
def FBK_LS_POS (i : Nat) : Nat := (0x40320000 + i * 0x1000) + 0x5C
def FBK_LS_VEL (i : Nat) : Nat := (0x40320000 + i * 0x1000) + 0x60
def FBK_LATCH_TICK (i : Nat) : Nat := (0x40320000 + i * 0x1000) + 0x64
def FBK_SAT_MIN (i : Nat) : Nat := (0x40320000 + i * 0x1000) + 0x68
def FBK_SAT_MAX (i : Nat) : Nat := (0x40320000 + i * 0x1000) + 0x6C
def FBK_SPD_TMO (i : Nat) : Nat := (0x40320000 + i * 0x1000) + 0x70
def FBK_ERRCNT (i : Nat) : Nat := (0x40320000 + i * 0x1000) + 0x74
def FBK_IDX_PERIOD (i : Nat) : Nat := (0x40320000 + i * 0x1000) + 0x78
def FBK_IDX_TOL (i : Nat) : Nat := (0x40320000 + i * 0x1000) + 0x7C
def FBK_IDX_REF (i : Nat) : Nat := (0x40320000 + i * 0x1000) + 0x80
def FBK_IDX_LATCH (i : Nat) : Nat := (0x40320000 + i * 0x1000) + 0x84
def FBK_IDX_DEV (i : Nat) : Nat := (0x40320000 + i * 0x1000) + 0x88
def FBK_HOMESW (i : Nat) : Nat := (0x40320000 + i * 0x1000) + 0x8C
def FBK_SSI_CFG (i : Nat) : Nat := (0x40320000 + i * 0x1000) + 0x90
def FBK_SSI_START (i : Nat) : Nat := (0x40320000 + i * 0x1000) + 0x94
def FBK_SSI_RAW (i : Nat) : Nat := (0x40320000 + i * 0x1000) + 0x98
def FBK_SSI_TRAIL (i : Nat) : Nat := (0x40320000 + i * 0x1000) + 0x9C
def FBK_SSI_JUMP (i : Nat) : Nat := (0x40320000 + i * 0x1000) + 0xA0
def FBK_EDGE_T_LO (i : Nat) : Nat := (0x40320000 + i * 0x1000) + 0xA4
def FBK_EDGE_T_HI (i : Nat) : Nat := (0x40320000 + i * 0x1000) + 0xA8
def FBK_CMP_CTRL (i : Nat) : Nat := (0x40320000 + i * 0x1000) + 0xAC
def FBK_CMP_POS (i : Nat) (n : Nat) : Nat := (0x40320000 + i * 0x1000) + 0x100 + n * 0x8
def FBK_CMP_ACT (i : Nat) (n : Nat) : Nat := (0x40320000 + i * 0x1000) + 0x104 + n * 0x8
-- CMP
def CMP_OUT (n : Nat) : Nat := 0x40552000 + 0x40 + n * 0x4
def CMP_OVERLAP : Nat := 0x40552000 + 0x80
def CMP_LEVEL : Nat := 0x40552000 + 0x84
-- CAP
def CAP_CFG (n : Nat) : Nat := 0x40551000 + 0x40 + n * 0x10
def CAP_POS (n : Nat) : Nat := 0x40551000 + 0x44 + n * 0x10
def CAP_TIME_LO (n : Nat) : Nat := 0x40551000 + 0x48 + n * 0x10
def CAP_TIME_HI (n : Nat) : Nat := 0x40551000 + 0x4C + n * 0x10
def CAP_STAT : Nat := 0x40551000 + 0x140
-- GPIO
def GPIO_DIR_LO : Nat := 0x40550000 + 0x40
def GPIO_DIR_HI : Nat := 0x40550000 + 0x44
def GPIO_OUT_LO : Nat := 0x40550000 + 0x48
def GPIO_OUT_HI : Nat := 0x40550000 + 0x4C
def GPIO_IN_LO : Nat := 0x40550000 + 0x50
def GPIO_IN_HI : Nat := 0x40550000 + 0x54
def GPIO_FILT : Nat := 0x40550000 + 0x58
def GPIO_EV_STAT : Nat := 0x40550000 + 0x5C
def GPIO_EV_CFG (n : Nat) : Nat := 0x40550000 + 0x80 + n * 0x4
def GPIO_EV_CNT (n : Nat) : Nat := 0x40550000 + 0x100 + n * 0x4
-- SSM
def SSM_STAT : Nat := 0x40220000 + 0x40
def SSM_ERR : Nat := 0x40220000 + 0x44
def SSM_PASS_CNT : Nat := 0x40220000 + 0x48
def SSM_PASS_CLK : Nat := 0x40220000 + 0x4C
def SSM_PASS_MAX : Nat := 0x40220000 + 0x50
def SSM_SCENE : Nat := 0x40220000 + 0x54
def SSM_NPAIR : Nat := 0x40220000 + 0x58
def SSM_TRACK_LO : Nat := 0x40220000 + 0x5C
def SSM_TRACK_HI : Nat := 0x40220000 + 0x60
def SSM_UNIT : Nat := 0x40220000 + 0x64
def SSM_FRAME : Nat := 0x40220000 + 0x68
def SSM_M_DEM (n : Nat) : Nat := 0x40220000 + 0x100 + n * 0x4
def SSM_M_PAIR (n : Nat) : Nat := 0x40220000 + 0x140 + n * 0x4
def SSM_DIAG_SEL : Nat := 0x40220000 + 0x180
def SSM_DIAG_D : Nat := 0x40220000 + 0x184
def SSM_DIAG_SA : Nat := 0x40220000 + 0x188
def SSM_DIAG_SB : Nat := 0x40220000 + 0x18C
def SSM_DIAG_C : Nat := 0x40220000 + 0x190
def SSM_DIAG_Z : Nat := 0x40220000 + 0x194
def SSM_DIAG_SV : Nat := 0x40220000 + 0x198
def SSM_DIAG_SP : Nat := 0x40220000 + 0x19C
-- SAFE01
def SAFE_MIRROR_CYC (page : Nat) : Nat := 0x40600040 + page * 0x1000
def SAFE_CH_STATE (ch : Nat) : Nat := (0x40600000 + ch * 0x1000) + 0x44
def SAFE_CH_EVT (ch : Nat) : Nat := (0x40600000 + ch * 0x1000) + 0x48
def SAFE_CH_OUT (ch : Nat) : Nat := (0x40600000 + ch * 0x1000) + 0x4C
def SAFE_CH_CONN (ch : Nat) : Nat := (0x40600000 + ch * 0x1000) + 0x50
def SAFE_CH_CONN_ERR (ch : Nat) : Nat := (0x40600000 + ch * 0x1000) + 0x54
def SAFE_CH_DISC_CNT (ch : Nat) : Nat := (0x40600000 + ch * 0x1000) + 0x58
def SAFE_CH_PSIG (ch : Nat) : Nat := (0x40600000 + ch * 0x1000) + 0x5C
def SAFE_CH_AXIS (ch : Nat) (n : Nat) : Nat := (0x40600000 + ch * 0x1000) + 0x60 + n * 0x4
def SAFE_CH_MDEM (ch : Nat) (n : Nat) : Nat := (0x40600000 + ch * 0x1000) + 0xC0 + n * 0x4
-- SAFE2
def SAFE_SIN_A : Nat := 0x40602000 + 0x44
def SAFE_SIN_B : Nat := 0x40602000 + 0x48
def SAFE_SIN_STATE : Nat := 0x40602000 + 0x4C
def SAFE_STO_OUT : Nat := 0x40602000 + 0x50
def SAFE_STO_FB : Nat := 0x40602000 + 0x54
def SAFE_KOUT : Nat := 0x40602000 + 0x58
def SAFE_OPT_STAT : Nat := 0x40602000 + 0x5C
def SAFE_RST_STAT : Nat := 0x40602000 + 0x60
-- SAFE3
def SAFE_SSMB_ERR : Nat := 0x40603000 + 0x44
def SAFE_SSMB_PASS_CNT : Nat := 0x40603000 + 0x48
def SAFE_SSMB_PASS_CLK : Nat := 0x40603000 + 0x4C
def SAFE_SSMB_DEM (n : Nat) : Nat := 0x40603000 + 0x100 + n * 0x4
def SAFE_SSMB_PAIR (n : Nat) : Nat := 0x40603000 + 0x140 + n * 0x4
-- SZN
def SZN_CTRL : Nat := 0x40400000 + 0x40
def SZN_STAT : Nat := 0x40400000 + 0x44
def SZN_ERR : Nat := 0x40400000 + 0x48
def SZN_ID : Nat := 0x40400000 + 0x4C
def SZN_HOLD_MAX : Nat := 0x40400000 + 0x50
def SZN_CAT_REQ : Nat := 0x40400000 + 0x54
def SZN_CAT_STAT : Nat := 0x40400000 + 0x58
def SZN_TM : Nat := 0x40400000 + 0x5C
def SZN_FIRST : Nat := 0x40400000 + 0x60
def SZN_LOST : Nat := 0x40400000 + 0x64
def SZN_TX_REPEAT : Nat := 0x40400000 + 0x68
def SZN_RA_DST : Nat := 0x40400000 + 0x6C
def SZN_RA_ADDR_LO : Nat := 0x40400000 + 0x70
def SZN_RA_ADDR_HI : Nat := 0x40400000 + 0x74
def SZN_RA_CMD : Nat := 0x40400000 + 0x78
def SZN_RA_STAT : Nat := 0x40400000 + 0x7C
def SZN_RA_DATA (n : Nat) : Nat := 0x40400000 + 0x80 + n * 0x4
def SZN_CAT (n : Nat) : Nat := 0x40400000 + 0xA0 + n * 0x4
def SZN_SLOT_SEL : Nat := 0x40400000 + 0xC0
def SZN_SLOT_A : Nat := 0x40400000 + 0xC4
def SZN_SLOT_B : Nat := 0x40400000 + 0xC8
def SZN_SLOT_C : Nat := 0x40400000 + 0xCC
-- SZP
def SZP_CFG (k : Nat) : Nat := (0x40480000 + k * 0x1000) + 0x40
def SZP_STAT (k : Nat) : Nat := (0x40480000 + k * 0x1000) + 0x44
def SZP_ERR (k : Nat) : Nat := (0x40480000 + k * 0x1000) + 0x48
def SZP_DELAY (k : Nat) : Nat := (0x40480000 + k * 0x1000) + 0x4C
def SZP_CRC_CNT (k : Nat) : Nat := (0x40480000 + k * 0x1000) + 0x50
def SZP_GUARD_CNT (k : Nat) : Nat := (0x40480000 + k * 0x1000) + 0x54
def SZP_RX_CNT (k : Nat) : Nat := (0x40480000 + k * 0x1000) + 0x58
def SZP_TX_CNT (k : Nat) : Nat := (0x40480000 + k * 0x1000) + 0x5C
def SZP_CMD (k : Nat) : Nat := (0x40480000 + k * 0x1000) + 0x60
-- FAB
def FAB_CTRL : Nat := 0x40410000 + 0x40
def FAB_STAT : Nat := 0x40410000 + 0x44
def FAB_ERR : Nat := 0x40410000 + 0x48
def FAB_DIGEST_LO : Nat := 0x40410000 + 0x4C
def FAB_DIGEST_HI : Nat := 0x40410000 + 0x50
def FAB_FWSET : Nat := 0x40410000 + 0x54
def FAB_NDEV : Nat := 0x40410000 + 0x58
def FAB_DEV_SEL : Nat := 0x40410000 + 0x5C
def FAB_DEV_STAT : Nat := 0x40410000 + 0x60
def FAB_DEV_UID_LO : Nat := 0x40410000 + 0x64
def FAB_DEV_UID_HI : Nat := 0x40410000 + 0x68
def FAB_RT_SEL : Nat := 0x40410000 + 0x6C
def FAB_RT_A : Nat := 0x40410000 + 0x70
def FAB_RT_B : Nat := 0x40410000 + 0x74
def FAB_RT_MISS_CNT : Nat := 0x40410000 + 0x78
-- RED
def RED_CTRL : Nat := 0x40420000 + 0x40
def RED_STAT : Nat := 0x40420000 + 0x44
def RED_ERR : Nat := 0x40420000 + 0x48
def RED_CLAIM : Nat := 0x40420000 + 0x4C
def RED_MISS : Nat := 0x40420000 + 0x50
def RED_PEER : Nat := 0x40420000 + 0x54
def RED_NODE_CFG : Nat := 0x40420000 + 0x58
def RED_ORPHAN : Nat := 0x40420000 + 0x5C
def RED_DISC_TOL : Nat := 0x40420000 + 0x60
def RED_DISC_CNT : Nat := 0x40420000 + 0x64
def RED_HOLD_CNT : Nat := 0x40420000 + 0x68
def RED_DIRECT_CNT : Nat := 0x40420000 + 0x6C
def RED_TW_ADDR_LO : Nat := 0x40420000 + 0x70
def RED_TW_ADDR_HI : Nat := 0x40420000 + 0x74
def RED_TW_DATA : Nat := 0x40420000 + 0x78
def RED_TW_GO : Nat := 0x40420000 + 0x7C
def RED_TW_STAT : Nat := 0x40420000 + 0x80
def RED_SWAP_CNT : Nat := 0x40420000 + 0x84
def RED_SWAP_T_LO : Nat := 0x40420000 + 0x88
def RED_SWAP_T_HI : Nat := 0x40420000 + 0x8C
def RED_PT_INTERVAL : Nat := 0x40420000 + 0x90
def RED_DISC_RPT : Nat := 0x40420000 + 0x94
-- DSP
def DSP_CTRL (w : Nat) : Nat := (0x40103000 + w * 0x40000) + 0x40
def DSP_STAT (w : Nat) : Nat := (0x40103000 + w * 0x40000) + 0x44
def DSP_ERR (w : Nat) : Nat := (0x40103000 + w * 0x40000) + 0x48
def DSP_SUBMIT (w : Nat) : Nat := (0x40103000 + w * 0x40000) + 0x4C
def DSP_CMD (w : Nat) : Nat := (0x40103000 + w * 0x40000) + 0x50
def DSP_JOB (w : Nat) : Nat := (0x40103000 + w * 0x40000) + 0x54
def DSP_LOOP (w : Nat) (n : Nat) : Nat := (0x40103000 + w * 0x40000) + 0x58 + n * 0x4
def DSP_CLK (w : Nat) : Nat := (0x40103000 + w * 0x40000) + 0x64
def DSP_DONE_CNT (w : Nat) : Nat := (0x40103000 + w * 0x40000) + 0x68
def DSP_VMF_AREA (w : Nat) : Nat := (0x40103000 + w * 0x40000) + 0x6C
-- CAN
def CAN_CTRL (i : Nat) : Nat := (0x40500000 + i * 0x1000) + 0x40
def CAN_STAT (i : Nat) : Nat := (0x40500000 + i * 0x1000) + 0x44
def CAN_ERR (i : Nat) : Nat := (0x40500000 + i * 0x1000) + 0x48
def CAN_NBT (i : Nat) : Nat := (0x40500000 + i * 0x1000) + 0x4C
def CAN_DBT (i : Nat) : Nat := (0x40500000 + i * 0x1000) + 0x50
def CAN_TDC (i : Nat) : Nat := (0x40500000 + i * 0x1000) + 0x54
def CAN_RETRY (i : Nat) : Nat := (0x40500000 + i * 0x1000) + 0x58
def CAN_ECNT (i : Nat) : Nat := (0x40500000 + i * 0x1000) + 0x5C
def CAN_LOST_CNT (i : Nat) : Nat := (0x40500000 + i * 0x1000) + 0x60
def CAN_EV_CFG (i : Nat) : Nat := (0x40500000 + i * 0x1000) + 0x64
def CAN_TXCMD (i : Nat) : Nat := (0x40500000 + i * 0x1000) + 0x68
def CAN_TXF_ID (i : Nat) : Nat := (0x40500000 + i * 0x1000) + 0x100
def CAN_TXF_CTL (i : Nat) : Nat := (0x40500000 + i * 0x1000) + 0x104
def CAN_TXF_DATA (i : Nat) (n : Nat) : Nat := (0x40500000 + i * 0x1000) + 0x108 + n * 0x4
def CAN_TXF_PUSH (i : Nat) : Nat := (0x40500000 + i * 0x1000) + 0x148
def CAN_TXD_ID (i : Nat) : Nat := (0x40500000 + i * 0x1000) + 0x180
def CAN_TXD_CTL (i : Nat) : Nat := (0x40500000 + i * 0x1000) + 0x184
def CAN_TXD_DATA (i : Nat) (n : Nat) : Nat := (0x40500000 + i * 0x1000) + 0x188 + n * 0x4
def CAN_TXD_SEND (i : Nat) : Nat := (0x40500000 + i * 0x1000) + 0x1C8
def CAN_RXF_ID (i : Nat) : Nat := (0x40500000 + i * 0x1000) + 0x200
def CAN_RXF_CTL (i : Nat) : Nat := (0x40500000 + i * 0x1000) + 0x204
def CAN_RXF_TS (i : Nat) : Nat := (0x40500000 + i * 0x1000) + 0x208
def CAN_RXF_DATA (i : Nat) (n : Nat) : Nat := (0x40500000 + i * 0x1000) + 0x20C + n * 0x4
def CAN_RXF_POP (i : Nat) : Nat := (0x40500000 + i * 0x1000) + 0x24C
def CAN_HP_ID (i : Nat) : Nat := (0x40500000 + i * 0x1000) + 0x280
def CAN_HP_CTL (i : Nat) : Nat := (0x40500000 + i * 0x1000) + 0x284
def CAN_HP_TS (i : Nat) : Nat := (0x40500000 + i * 0x1000) + 0x288
def CAN_HP_DATA (i : Nat) (n : Nat) : Nat := (0x40500000 + i * 0x1000) + 0x28C + n * 0x4
def CAN_FLT_ID (i : Nat) (n : Nat) : Nat := (0x40500000 + i * 0x1000) + 0x400 + n * 0x10
def CAN_FLT_MASK (i : Nat) (n : Nat) : Nat := (0x40500000 + i * 0x1000) + 0x404 + n * 0x10
def CAN_FLT_CFG (i : Nat) (n : Nat) : Nat := (0x40500000 + i * 0x1000) + 0x408 + n * 0x10
-- PCIE
def PCIE_STAT : Nat := 0x40520000 + 0x40
def PCIE_ERR : Nat := 0x40520000 + 0x44
def PCIE_ID : Nat := 0x40520000 + 0x48
def PCIE_IB_BASE (n : Nat) : Nat := 0x40520000 + 0x50 + n * 0x8
def PCIE_IB_CFG (n : Nat) : Nat := 0x40520000 + 0x54 + n * 0x8
def PCIE_OB_BASE_LO : Nat := 0x40520000 + 0x60
def PCIE_OB_BASE_HI : Nat := 0x40520000 + 0x64
def PCIE_OB_TMO : Nat := 0x40520000 + 0x68
def PCIE_MSIX_FIRE_LO : Nat := 0x40520000 + 0x6C
def PCIE_MSIX_FIRE_HI : Nat := 0x40520000 + 0x70
def PCIE_MSIX_SRC (n : Nat) : Nat := 0x40520000 + 0x100 + n * 0x4
-- ETH
def ETH_CTRL (i : Nat) : Nat := (0x40510000 + i * 0x1000) + 0x40
def ETH_STAT (i : Nat) : Nat := (0x40510000 + i * 0x1000) + 0x44
def ETH_ERR (i : Nat) : Nat := (0x40510000 + i * 0x1000) + 0x48
def ETH_MAC_LO (i : Nat) : Nat := (0x40510000 + i * 0x1000) + 0x4C
def ETH_MAC_HI (i : Nat) : Nat := (0x40510000 + i * 0x1000) + 0x50
def ETH_MCH_LO (i : Nat) : Nat := (0x40510000 + i * 0x1000) + 0x54
def ETH_MCH_HI (i : Nat) : Nat := (0x40510000 + i * 0x1000) + 0x58
def ETH_VID (i : Nat) (n : Nat) : Nat := (0x40510000 + i * 0x1000) + 0x60 + n * 0x4
def ETH_RING_BASE (i : Nat) (n : Nat) : Nat := (0x40510000 + i * 0x1000) + 0xA0 + n * 0x10
def ETH_RING_SIZE (i : Nat) (n : Nat) : Nat := (0x40510000 + i * 0x1000) + 0xA4 + n * 0x10
def ETH_RING_HEAD (i : Nat) (n : Nat) : Nat := (0x40510000 + i * 0x1000) + 0xA8 + n * 0x10
def ETH_RING_TAIL (i : Nat) (n : Nat) : Nat := (0x40510000 + i * 0x1000) + 0xAC + n * 0x10
def ETH_RX_LAT (i : Nat) : Nat := (0x40510000 + i * 0x1000) + 0xD0
def ETH_TX_LAT (i : Nat) : Nat := (0x40510000 + i * 0x1000) + 0xD4
def ETH_DROP_CNT (i : Nat) : Nat := (0x40510000 + i * 0x1000) + 0xD8
-- SDC
def SDC_CTRL : Nat := 0x40530000 + 0x40
def SDC_STAT : Nat := 0x40530000 + 0x44
def SDC_ERR : Nat := 0x40530000 + 0x48
def SDC_CFG : Nat := 0x40530000 + 0x4C
def SDC_TIM (n : Nat) : Nat := 0x40530000 + 0x50 + n * 0x4
def SDC_CE_CNT : Nat := 0x40530000 + 0x80
def SDC_ECC_ADDR_LO : Nat := 0x40530000 + 0x84
def SDC_ECC_ADDR_HI : Nat := 0x40530000 + 0x88
def SDC_FILL_PTR : Nat := 0x40530000 + 0x8C
-- XSPI
def XSPI_CTRL : Nat := 0x40540000 + 0x40
def XSPI_STAT : Nat := 0x40540000 + 0x44
def XSPI_ADDR : Nat := 0x40540000 + 0x48
def XSPI_CMD : Nat := 0x40540000 + 0x4C
def SPI_CFG (n : Nat) : Nat := 0x40540000 + 0x200 + n * 0x40
def SPI_CMD (n : Nat) : Nat := 0x40540000 + 0x204 + n * 0x40
def SPI_STAT (n : Nat) : Nat := 0x40540000 + 0x208 + n * 0x40
def SPI_DATA (n : Nat) : Nat := 0x40540000 + 0x20C + n * 0x40
def SMB_CFG (n : Nat) : Nat := 0x40540000 + 0x300 + n * 0x40
def SMB_CMD (n : Nat) : Nat := 0x40540000 + 0x304 + n * 0x40
def SMB_STAT (n : Nat) : Nat := 0x40540000 + 0x308 + n * 0x40
def SMB_ERR (n : Nat) : Nat := 0x40540000 + 0x30C + n * 0x40
def SMB_DATA (n : Nat) : Nat := 0x40540000 + 0x310 + n * 0x40
-- PWR
def PWR_REQ : Nat := 0x40001000 + 0x40
def PWR_STAT : Nat := 0x40001000 + 0x44
def PWR_ERR : Nat := 0x40001000 + 0x48
def PWR_REFUSE : Nat := 0x40001000 + 0x4C
def PWR_WAKE_EN : Nat := 0x40001000 + 0x50
def PWR_WAKE_POL : Nat := 0x40001000 + 0x54
def PWR_WAKE_TGT : Nat := 0x40001000 + 0x58
def PWR_WAKE_SRC : Nat := 0x40001000 + 0x5C
def PWR_RTC_LO : Nat := 0x40001000 + 0x60
def PWR_RTC_HI : Nat := 0x40001000 + 0x64
def PWR_RTC_CMP_LO : Nat := 0x40001000 + 0x68
def PWR_RTC_CMP_HI : Nat := 0x40001000 + 0x6C
def PWR_RESUME_LO : Nat := 0x40001000 + 0x70
def PWR_RESUME_HI : Nat := 0x40001000 + 0x74
def PWR_SCRATCH (n : Nat) : Nat := 0x40001000 + 0x80 + n * 0x4
-- SEC
def SEC_STAT : Nat := 0x40002000 + 0x40
def SEC_LC_ADV : Nat := 0x40002000 + 0x44
def SEC_ERR : Nat := 0x40002000 + 0x48
def SEC_KEY_SEL : Nat := 0x40002000 + 0x4C
def SEC_KEY_HASH (n : Nat) : Nat := 0x40002000 + 0x50 + n * 0x4
def SEC_KEY_CMD : Nat := 0x40002000 + 0x70
def SEC_CTR_SEL : Nat := 0x40002000 + 0x74
def SEC_CTR : Nat := 0x40002000 + 0x78
def SEC_CTR_ADV : Nat := 0x40002000 + 0x7C
def SEC_ATT_ADDR_LO : Nat := 0x40002000 + 0x80
def SEC_ATT_ADDR_HI : Nat := 0x40002000 + 0x84
def SEC_ATT_CMD : Nat := 0x40002000 + 0x88
def SEC_ATT_STAT : Nat := 0x40002000 + 0x8C
def SEC_IMG_SEL : Nat := 0x40002000 + 0x90
def SEC_IMG_INFO : Nat := 0x40002000 + 0x94
def SEC_IMG_D (n : Nat) : Nat := 0x40002000 + 0x98 + n * 0x4
def SEC_EA_STAT : Nat := 0x40002000 + 0xC0
def SEC_EA_SEL : Nat := 0x40002000 + 0xC4
def SEC_EA_POST_CODE : Nat := 0x40002000 + 0xC8
def SEC_EA_POST : Nat := 0x40002000 + 0xCC
def SEC_EA_ARG (n : Nat) : Nat := 0x40002000 + 0xD0 + n * 0x4
def SEC_POH : Nat := 0x40002000 + 0xE0
def SEC_COL_ADDR : Nat := 0x40002000 + 0xE4
def SEC_COL_DATA : Nat := 0x40002000 + 0xE8
def SEC_SECRET_PROG : Nat := 0x40002000 + 0xEC
def SEC_SECRET_LOCK : Nat := 0x40002000 + 0xF0
def SEC_RET_CMD : Nat := 0x40002000 + 0xF4
def SEC_RET_ADDR0 : Nat := 0x40002000 + 0xF8
def SEC_RET_ADDR1 : Nat := 0x40002000 + 0xFC
def SEC_EA_DATA (n : Nat) : Nat := 0x40002000 + 0x100 + n * 0x4
def SEC_SECRET (n : Nat) : Nat := 0x40002000 + 0x200 + n * 0x4
def SEC_RET_CHAL (n : Nat) : Nat := 0x40002000 + 0x300 + n * 0x4
-- DBG
def DBG_AUTH_STAT : Nat := 0x40003000 + 0x40
def DBG_CTRL : Nat := 0x40003000 + 0x44
def DBG_SYSRST : Nat := 0x40003000 + 0x48
def DBG_AUTH_REQ : Nat := 0x40003000 + 0x4C
def DBG_TOK_ADDR : Nat := 0x40003000 + 0x50
def DBG_TOK_DATA : Nat := 0x40003000 + 0x54
def DBG_CHAL (n : Nat) : Nat := 0x40003000 + 0x60 + n * 0x4

end Sys2Proof.Machine.R
end

