-- ==== Sys2Proof/Machine/RegTable.lean ====
section
/-! DEFINITION. The register tables of spec/, row by row: offset in the page, step and count of a numbered run, the
bits of each access code of R7, and the reset value before straps and image (R8). -/

namespace Sys2Proof.Machine

/-- One row of a register table. The masks say which bits carry the access codes RW, W1C, W1S, WO and RWL of R7;
bits in none of them are RO or reserved. -/
structure RegDef where
  name : String
  off : Nat
  stride : Nat
  count : Nat
  rw : Nat
  w1c : Nat
  w1s : Nat
  wo : Nat
  rwl : Nat
  rst : Nat
  deriving DecidableEq, Repr

/-- The registers of the PWMC page (R55 of 02_cycle_and_time_base.md, R270 of 11_power_stage.md). -/
def regs_pwmc : List RegDef :=
  [ ⟨"TB_CTRL", 0x40, 0x4, 1, 0xF, 0x0, 0x0, 0x0, 0x0, 0x8⟩,
    ⟨"TB_STAT", 0x44, 0x4, 1, 0x0, 0x0, 0x0, 0x0, 0x0, 0x0⟩,
    ⟨"TB_DT_LO", 0x48, 0x4, 1, 0x0, 0x0, 0x0, 0x0, 0x0, 0x0⟩,
    ⟨"TB_DT_HI", 0x4C, 0x4, 1, 0x0, 0x0, 0x0, 0x0, 0x0, 0x0⟩,
    ⟨"TB_CYC_LO", 0x50, 0x4, 1, 0x0, 0x0, 0x0, 0x0, 0x0, 0x0⟩,
    ⟨"TB_CYC_HI", 0x54, 0x4, 1, 0x0, 0x0, 0x0, 0x0, 0x0, 0x0⟩,
    ⟨"TB_TICK", 0x58, 0x4, 1, 0x0, 0x0, 0x0, 0x0, 0x0, 0x0⟩,
    ⟨"TB_FREQ_ADJ", 0x5C, 0x4, 1, 0xFFFFFFFF, 0x0, 0x0, 0x0, 0x0, 0x0⟩,
    ⟨"TB_SLEW_MAX", 0x60, 0x4, 1, 0x7F, 0x0, 0x0, 0x0, 0x0, 0xA⟩,
    ⟨"TB_STEP_LO", 0x64, 0x4, 1, 0xFFFFFFFF, 0x0, 0x0, 0x0, 0x0, 0x0⟩,
    ⟨"TB_STEP_HI", 0x68, 0x4, 1, 0xFFFFFFFF, 0x0, 0x0, 0x0, 0x0, 0x0⟩,
    ⟨"TB_FB_DEADLINE", 0x6C, 0x4, 1, 0x0, 0x0, 0x0, 0x0, 0xFFF, 0x4B0⟩,
    ⟨"TB_APP_DEADLINE", 0x70, 0x4, 1, 0x0, 0x0, 0x0, 0x0, 0xFFF, 0xAF0⟩,
    ⟨"TB_SVC_CNT", 0x74, 0x4, 1, 0x0, 0x0, 0x0, 0x0, 0x0, 0x0⟩,
    ⟨"TB_ERR", 0x78, 0x4, 1, 0x0, 0x7F, 0x0, 0x0, 0x0, 0x0⟩,
    ⟨"TB_CMD_LATE_CNT", 0x7C, 0x4, 1, 0xFFFF, 0x0, 0x0, 0x0, 0x0, 0x0⟩,
    ⟨"TB_OFFSET", 0x80, 0x4, 1, 0x0, 0x0, 0x0, 0x0, 0x0, 0x0⟩,
    ⟨"PWM_COM_CFG", 0x100, 0x4, 1, 0x0, 0x0, 0x0, 0x0, 0x4, 0x0⟩,
    ⟨"PWM_COM_STAT", 0x104, 0x4, 1, 0x0, 0x0, 0x0, 0x0, 0x0, 0x0⟩,
    ⟨"PWM_DT_FIX", 0x108, 0x4, 1, 0x0, 0x0, 0x0, 0x0, 0x3FF, 0xC8⟩,
    ⟨"PWM_ADT_TGT", 0x10C, 0x4, 1, 0x0, 0x0, 0x0, 0x0, 0xF07FF, 0x30100⟩,
    ⟨"PWM_ADT_LIM", 0x110, 0x4, 1, 0x0, 0x0, 0x0, 0x0, 0x3FF03FF, 0xC80004⟩,
    ⟨"PWM_COM_ERR", 0x114, 0x4, 1, 0x0, 0x3, 0x0, 0x0, 0x0, 0x0⟩ ]

/-- The registers of the HDR page (R65 of 03_address_map_and_pages.md). -/
def regs_hdr : List RegDef :=
  [ ⟨"PAGE_ID", 0x0, 0x4, 1, 0x0, 0x0, 0x0, 0x0, 0x0, 0x0⟩,
    ⟨"PAGE_VER", 0x4, 0x4, 1, 0x0, 0x0, 0x0, 0x0, 0x0, 0x100⟩,
    ⟨"PAGE_CTRL", 0x8, 0x4, 1, 0x0, 0x0, 0x0, 0x0, 0x3, 0x1⟩,
    ⟨"PAGE_STAT", 0xC, 0x4, 1, 0x0, 0x0, 0x0, 0x0, 0x0, 0x8⟩,
    ⟨"IRQ_RAW", 0x10, 0x4, 1, 0x0, 0x0, 0x0, 0x0, 0x0, 0x0⟩,
    ⟨"IRQ_EN", 0x14, 0x4, 1, 0xFFFFFFFF, 0x0, 0x0, 0x0, 0x0, 0x0⟩,
    ⟨"IRQ_FORCE", 0x18, 0x4, 1, 0x0, 0x0, 0x0, 0x0, 0xFFFFFFFF, 0x0⟩,
    ⟨"IRQ_CLR", 0x1C, 0x4, 1, 0x0, 0xFFFFFFFF, 0x0, 0x0, 0x0, 0x0⟩,
    ⟨"PAGE_LOCK", 0x20, 0x4, 1, 0x0, 0x0, 0x0, 0xFFFFFFFF, 0x0, 0x0⟩,
    ⟨"PAGE_ERR", 0x24, 0x4, 1, 0x0, 0x0, 0x0, 0x0, 0x0, 0x0⟩ ]

/-- The registers of the SYS page (R77 of 03_address_map_and_pages.md, R87 of 04_straps_reset_power_up.md). -/
def regs_sys : List RegDef :=
  [ ⟨"SYS_ID", 0x40, 0x4, 1, 0x0, 0x0, 0x0, 0x0, 0x0, 0x9640B0⟩,
    ⟨"SYS_UID_LO", 0x44, 0x4, 1, 0x0, 0x0, 0x0, 0x0, 0x0, 0x0⟩,
    ⟨"SYS_UID_HI", 0x48, 0x4, 1, 0x0, 0x0, 0x0, 0x0, 0x0, 0x0⟩,
    ⟨"SYS_DECERR_LO", 0x4C, 0x4, 1, 0x0, 0x0, 0x0, 0x0, 0x0, 0x0⟩,
    ⟨"SYS_DECERR_HI", 0x50, 0x4, 1, 0x0, 0x2000, 0x0, 0x0, 0x0, 0x0⟩,
    ⟨"SYS_STRAP", 0x54, 0x4, 1, 0x0, 0x0, 0x0, 0x0, 0x0, 0x0⟩,
    ⟨"SYS_RST_CAUSE", 0x58, 0x4, 1, 0x0, 0x7F, 0x0, 0x0, 0x0, 0x0⟩,
    ⟨"SYS_RST_CTRL", 0x5C, 0x4, 1, 0x0, 0x0, 0x0, 0x0, 0x1, 0x0⟩,
    ⟨"SYS_WDT_CTRL", 0x60, 0x4, 1, 0x0, 0x0, 0x0, 0x0, 0xFFFF0003, 0x3E80000⟩,
    ⟨"SYS_WDT_KICK", 0x64, 0x4, 1, 0x0, 0x0, 0x0, 0xFFFFFFFF, 0x0, 0x0⟩,
    ⟨"SYS_WDT_CNT", 0x68, 0x4, 1, 0x0, 0x0, 0x0, 0x0, 0x0, 0x3E8⟩,
    ⟨"SYS_BOOT_STAT", 0x6C, 0x4, 1, 0x0, 0x0, 0x0, 0x0, 0x0, 0x0⟩ ]

/-- The registers of the DISP0 page (R121 of 05_processors_and_dispatch.md). DISP_BOOT_ADDR_LO takes a write whose bits 1 and 0 are not
0 and drops them: R121 says only that they must be 0. (log 84, DEDUCED) -/
def regs_disp0 : List RegDef :=
  [ ⟨"DISP_CTRL", 0x40, 0x4, 1, 0x0, 0x0, 0x0, 0x0, 0x7, 0x4⟩,
    ⟨"DISP_STAT", 0x44, 0x4, 1, 0x0, 0x0, 0x0, 0x0, 0x0, 0x0⟩,
    ⟨"DISP_ERR", 0x48, 0x4, 1, 0x0, 0x7F, 0x0, 0x0, 0x0, 0x0⟩,
    ⟨"DISP_EV_POST", 0x4C, 0x4, 1, 0x0, 0x0, 0x0, 0x3FF, 0x0, 0x0⟩,
    ⟨"DISP_COAL_CNT", 0x50, 0x4, 1, 0xFFFF, 0x0, 0x0, 0x0, 0x0, 0x0⟩,
    ⟨"DISP_QHWM", 0x54, 0x4, 1, 0x7FF, 0x0, 0x0, 0x0, 0x0, 0x0⟩,
    ⟨"DISP_CORE_REL", 0x58, 0x4, 1, 0x0, 0x0, 0xFF, 0x0, 0x0, 0x1⟩,
    ⟨"DISP_BOOT_ADDR_LO", 0x5C, 0x4, 1, 0xFFFFFFFC, 0x0, 0x0, 0x0, 0x0, 0x0⟩,
    ⟨"DISP_BOOT_ADDR_HI", 0x60, 0x4, 1, 0xFF, 0x0, 0x0, 0x0, 0x0, 0x0⟩,
    ⟨"DISP_ECC_INFO", 0x64, 0x4, 1, 0x0, 0x0, 0x0, 0x0, 0x0, 0x0⟩ ]

/-- The registers of the DISPC page (R122 of 05_processors_and_dispatch.md). -/
def regs_dispc : List RegDef :=
  [ ⟨"DISP_NEXT", 0x40, 0x4, 1, 0x0, 0x0, 0x0, 0x0, 0x0, 0x0⟩,
    ⟨"DISP_RUN", 0x44, 0x4, 1, 0x0, 0x0, 0x0, 0x0, 0x0, 0x0⟩,
    ⟨"DISP_RUN_TOKEN_LO", 0x48, 0x4, 1, 0x0, 0x0, 0x0, 0x0, 0x0, 0x0⟩,
    ⟨"DISP_RUN_TOKEN_HI", 0x4C, 0x4, 1, 0x0, 0x0, 0x0, 0x0, 0x0, 0x0⟩,
    ⟨"DISP_WAIT_LO", 0x50, 0x4, 1, 0xFFFFFFFF, 0x0, 0x0, 0x0, 0x0, 0x0⟩,
    ⟨"DISP_WAIT_HI", 0x54, 0x4, 1, 0xFFFFFFFF, 0x0, 0x0, 0x0, 0x0, 0x0⟩,
    ⟨"DISP_CMD", 0x58, 0x4, 1, 0x0, 0x0, 0x0, 0xFFFF, 0x0, 0x0⟩,
    ⟨"DISP_MSIP", 0x5C, 0x4, 1, 0x1, 0x0, 0x0, 0x0, 0x0, 0x0⟩,
    ⟨"DISP_MTIMECMP_LO", 0x60, 0x4, 1, 0xFFFFFFFF, 0x0, 0x0, 0x0, 0x0, 0xFFFFFFFF⟩,
    ⟨"DISP_MTIMECMP_HI", 0x64, 0x4, 1, 0xFFFFFFFF, 0x0, 0x0, 0x0, 0x0, 0xFFFFFFFF⟩,
    ⟨"DISP_IRQ_STAT", 0x68, 0x4, 1, 0x0, 0x0, 0x0, 0x0, 0x0, 0x0⟩ ]

/-- The registers of the DISP9 page (R123 of 05_processors_and_dispatch.md). -/
def regs_disp9 : List RegDef :=
  [ ⟨"DISP_TH_SEL", 0x40, 0x4, 1, 0xFF, 0x0, 0x0, 0x0, 0x0, 0x0⟩,
    ⟨"DISP_TH_CFG", 0x44, 0x4, 1, 0x1FFF, 0x0, 0x0, 0x0, 0x0, 0x1FE0⟩,
    ⟨"DISP_TH_STATE", 0x48, 0x4, 1, 0x0, 0x0, 0x0, 0x0, 0x0, 0x0⟩,
    ⟨"DISP_TH_TOKEN_LO", 0x4C, 0x4, 1, 0xFFFFFFFF, 0x0, 0x0, 0x0, 0x0, 0x0⟩,
    ⟨"DISP_TH_TOKEN_HI", 0x50, 0x4, 1, 0xFFFFFFFF, 0x0, 0x0, 0x0, 0x0, 0x0⟩,
    ⟨"DISP_TH_CMD", 0x54, 0x4, 1, 0x0, 0x0, 0x0, 0xF, 0x0, 0x0⟩ ]

/-- The registers of the DISP10 page (R124 of 05_processors_and_dispatch.md). -/
def regs_disp10 : List RegDef :=
  [ ⟨"DISP_DC_SEL", 0x40, 0x4, 1, 0x1FF, 0x0, 0x0, 0x0, 0x0, 0x0⟩,
    ⟨"DISP_DC_CFG", 0x44, 0x4, 1, 0x7FFFFFFF, 0x0, 0x0, 0x0, 0x0, 0x0⟩,
    ⟨"DISP_DC_COUNT", 0x48, 0x4, 1, 0xFFFFFFFF, 0x0, 0x0, 0x0, 0x0, 0x0⟩,
    ⟨"DISP_DC_STAT", 0x4C, 0x4, 1, 0x0, 0x300, 0x0, 0x0, 0x0, 0x0⟩ ]

/-- The registers of the DISP11 page (R125 of 05_processors_and_dispatch.md). -/
def regs_disp11 : List RegDef :=
  [ ⟨"DISP_PEND", 0x40, 0x4, 32, 0x0, 0x0, 0x0, 0x0, 0x0, 0x0⟩ ]

/-- The registers of the DISP12 page (R125 of 05_processors_and_dispatch.md). -/
def regs_disp12 : List RegDef :=
  [ ⟨"PLIC_PRIO", 0x44, 0x4, 511, 0x7, 0x0, 0x0, 0x0, 0x0, 0x0⟩,
    ⟨"PLIC_PEND", 0x840, 0x4, 16, 0x0, 0x0, 0x0, 0x0, 0x0, 0x0⟩ ]

/-- The registers of the DISP13 page (R125 of 05_processors_and_dispatch.md). -/
def regs_disp13 : List RegDef :=
  [ ⟨"PLIC_EN", 0x40, 0x4, 256, 0xFFFFFFFF, 0x0, 0x0, 0x0, 0x0, 0x0⟩ ]

/-- The registers of the DISP14 page (R125 of 05_processors_and_dispatch.md). -/
def regs_disp14 : List RegDef :=
  [ ⟨"PLIC_THR", 0x40, 0x8, 16, 0x7, 0x0, 0x0, 0x0, 0x0, 0x0⟩,
    ⟨"PLIC_CLAIM", 0x44, 0x8, 16, 0x1FF, 0x0, 0x0, 0x0, 0x0, 0x0⟩ ]

/-- The registers of the MBX page (R133 of 06_mailboxes_and_loans.md). -/
def regs_mbx : List RegDef :=
  [ ⟨"MBX_CFG", 0x40, 0x4, 1, 0x0, 0x0, 0x0, 0x0, 0x1F, 0x10⟩,
    ⟨"MBX_OWNER", 0x44, 0x4, 1, 0x0, 0x0, 0x0, 0x0, 0x3FFF, 0x0⟩,
    ⟨"MBX_FEP", 0x48, 0x4, 1, 0x0, 0x0, 0x0, 0x0, 0xFFF0FFF, 0x0⟩,
    ⟨"MBX_ACK_EV", 0x4C, 0x4, 1, 0x0, 0x0, 0x0, 0x0, 0x83FF, 0x0⟩,
    ⟨"MBX_STAT", 0x50, 0x4, 1, 0x0, 0x0, 0x0, 0x0, 0x0, 0x0⟩,
    ⟨"MBX_STAMP", 0x54, 0x4, 1, 0x0, 0x0, 0x0, 0x0, 0x0, 0x0⟩,
    ⟨"MBX_POST", 0x58, 0x4, 1, 0x0, 0x0, 0x0, 0xFFFF, 0x0, 0x0⟩,
    ⟨"MBX_ACK", 0x5C, 0x4, 1, 0x0, 0x0, 0x0, 0xFFFF, 0x0, 0x0⟩,
    ⟨"MBX_LAST_STAMP", 0x60, 0x4, 1, 0x0, 0x0, 0x0, 0x0, 0x0, 0x0⟩,
    ⟨"MBX_LAST_RC", 0x64, 0x4, 1, 0x0, 0x0, 0x0, 0x0, 0x0, 0x0⟩,
    ⟨"MBX_CTRL", 0x68, 0x4, 1, 0x0, 0x0, 0x0, 0x1, 0x0, 0x0⟩,
    ⟨"MBX_ERR", 0x6C, 0x4, 1, 0x0, 0x1F, 0x0, 0x0, 0x0, 0x0⟩,
    ⟨"MBX_DUP_CNT", 0x70, 0x4, 1, 0xFFFF, 0x0, 0x0, 0x0, 0x0, 0x0⟩,
    ⟨"MBX_DATA", 0x80, 0x4, 16, 0xFFFFFFFF, 0x0, 0x0, 0x0, 0x0, 0x0⟩ ]

/-- The registers of the LOAN page (R135 of 06_mailboxes_and_loans.md). -/
def regs_loan : List RegDef :=
  [ ⟨"LOAN", 0x40, 0x4, 64, 0xFFFFFFFF, 0x0, 0x0, 0x0, 0x0, 0x0⟩,
    ⟨"LOAN_PEEK", 0x140, 0x4, 64, 0x0, 0x0, 0x0, 0x0, 0x0, 0x0⟩,
    ⟨"LOAN_HELD_LO", 0x240, 0x4, 1, 0x0, 0x0, 0x0, 0x0, 0x0, 0x0⟩,
    ⟨"LOAN_HELD_HI", 0x244, 0x4, 1, 0x0, 0x0, 0x0, 0x0, 0x0, 0x0⟩,
    ⟨"LOAN_FORCE_LO", 0x248, 0x4, 1, 0x0, 0x0, 0x0, 0x0, 0xFFFFFFFF, 0x0⟩,
    ⟨"LOAN_FORCE_HI", 0x24C, 0x4, 1, 0x0, 0x0, 0x0, 0x0, 0xFFFFFFFF, 0x0⟩,
    ⟨"LOAN_ERR", 0x250, 0x4, 1, 0x0, 0x3, 0x0, 0x0, 0x0, 0x0⟩ ]

/-- The registers of the VMF page (R155 of 07_vessel_motion_frames.md). -/
def regs_vmf : List RegDef :=
  [ ⟨"VMF_CTRL", 0x40, 0x4, 1, 0x0, 0x0, 0x0, 0x0, 0x3FFF, 0x0⟩,
    ⟨"VMF_STAT", 0x44, 0x4, 1, 0x0, 0x0, 0x0, 0x0, 0x0, 0x0⟩,
    ⟨"VMF_ERR", 0x48, 0x4, 1, 0x0, 0x3FFF, 0x0, 0x0, 0x0, 0x0⟩,
    ⟨"VMF_UPD_CNT", 0x4C, 0x4, 1, 0x0, 0x0, 0x0, 0x0, 0x0, 0x0⟩,
    ⟨"VMF_ALIGN_LEN", 0x50, 0x4, 1, 0x0, 0x0, 0x0, 0x0, 0xFFFF, 0x7D0⟩,
    ⟨"VMF_IMU_AGE_MAX", 0x54, 0x4, 1, 0x0, 0x0, 0x0, 0x0, 0xFF, 0x10⟩,
    ⟨"VMF_NAV_TMO", 0x58, 0x4, 1, 0x0, 0x0, 0x0, 0x0, 0xFFFF, 0x7D0⟩,
    ⟨"VMF_TGT_TMO", 0x5C, 0x4, 1, 0x0, 0x0, 0x0, 0x0, 0xFFFF, 0x1F4⟩,
    ⟨"VMF_COAST_MAX", 0x60, 0x4, 1, 0x0, 0x0, 0x0, 0x0, 0xFFFF, 0x7D0⟩,
    ⟨"VMF_GATE", 0x64, 0x4, 1, 0x0, 0x0, 0x0, 0x0, 0xFFFF, 0x1045⟩,
    ⟨"VMF_IMU_TOL", 0x68, 0x4, 1, 0x0, 0x0, 0x0, 0x0, 0xFFFFFFFF, 0x51F0200⟩,
    ⟨"VMF_PCHK", 0x6C, 0x4, 1, 0x0, 0x0, 0x0, 0x0, 0xFFFFFFFF, 0x6403E8⟩,
    ⟨"VMF_WAVE_STAT", 0x70, 0x4, 1, 0x0, 0x0, 0x0, 0x0, 0x0, 0x0⟩,
    ⟨"VMF_FIT_CNT", 0x74, 0x4, 1, 0x0, 0x0, 0x0, 0x0, 0x0, 0x0⟩,
    ⟨"VMF_MFRAME", 0xC0, 0x4, 16, 0x7, 0x100, 0x0, 0x0, 0x0, 0x0⟩,
    ⟨"Record_VL", 0x100, 0x4, 16, 0x0, 0x0, 0x0, 0x0, 0x0, 0x0⟩,
    ⟨"Record_VE", 0x140, 0x4, 16, 0x0, 0x0, 0x0, 0x0, 0x0, 0x0⟩,
    ⟨"Record_TnE", 0x180, 0x4, 64, 0x0, 0x0, 0x0, 0x0, 0x0, 0x0⟩,
    ⟨"Record_PRED", 0x280, 0x4, 16, 0x0, 0x0, 0x0, 0x0, 0x0, 0x0⟩,
    ⟨"VMF_PRED_SEL", 0x2C0, 0x4, 1, 0x7, 0x0, 0x0, 0x0, 0x0, 0x0⟩,
    ⟨"VMF_PRED_T_LO", 0x2C4, 0x4, 1, 0xFFFFFFFF, 0x0, 0x0, 0x0, 0x0, 0x0⟩,
    ⟨"VMF_PRED_T_HI", 0x2C8, 0x4, 1, 0xFFFFFFFF, 0x0, 0x0, 0x0, 0x0, 0x0⟩,
    ⟨"VMF_PRED_STAT", 0x2CC, 0x4, 1, 0x0, 0x0, 0x0, 0x0, 0x0, 0x0⟩,
    ⟨"VMF_WAVE", 0x300, 0x4, 64, 0x0, 0x0, 0x0, 0x0, 0x0, 0x0⟩ ] ++
  [ ⟨"VMF_IMU_CFG", 0x400, 0x10, 4, 0x0, 0x0, 0x0, 0x0, 0xFFFF, 0x0⟩,
    ⟨"VMF_IMU_STAT", 0x404, 0x10, 4, 0x0, 0x0, 0x0, 0x0, 0x0, 0x0⟩,
    ⟨"VMF_IMU_REJ_CNT", 0x408, 0x10, 4, 0xFFFF, 0x0, 0x0, 0x0, 0x0, 0x0⟩,
    ⟨"VMF_NAV_PN", 0x440, 0x4, 1, 0xFFFFFFFF, 0x0, 0x0, 0x0, 0x0, 0x0⟩,
    ⟨"VMF_NAV_PE", 0x444, 0x4, 1, 0xFFFFFFFF, 0x0, 0x0, 0x0, 0x0, 0x0⟩,
    ⟨"VMF_NAV_PD", 0x448, 0x4, 1, 0xFFFFFFFF, 0x0, 0x0, 0x0, 0x0, 0x0⟩,
    ⟨"VMF_NAV_HDG", 0x44C, 0x4, 1, 0xFFFFFFFF, 0x0, 0x0, 0x0, 0x0, 0x0⟩,
    ⟨"VMF_NAV_VN", 0x450, 0x4, 1, 0xFFFFFFFF, 0x0, 0x0, 0x0, 0x0, 0x0⟩,
    ⟨"VMF_NAV_VE", 0x454, 0x4, 1, 0xFFFFFFFF, 0x0, 0x0, 0x0, 0x0, 0x0⟩,
    ⟨"VMF_NAV_SIG", 0x458, 0x4, 1, 0xFFFFFFFF, 0x0, 0x0, 0x0, 0x0, 0x0⟩,
    ⟨"VMF_NAV_VALID", 0x45C, 0x4, 1, 0x7, 0x0, 0x0, 0x0, 0x0, 0x0⟩,
    ⟨"VMF_NAV_T_LO", 0x460, 0x4, 1, 0xFFFFFFFF, 0x0, 0x0, 0x0, 0x0, 0x0⟩,
    ⟨"VMF_NAV_T_HI", 0x464, 0x4, 1, 0xFFFFFFFF, 0x0, 0x0, 0x0, 0x0, 0x0⟩,
    ⟨"VMF_TGT_CFG", 0x470, 0x4, 4, 0x0, 0x0, 0x0, 0x0, 0x1FFF, 0x0⟩,
    ⟨"VMF_AUXFR", 0x4C0, 0x4, 24, 0x0, 0x0, 0x0, 0x0, 0x0, 0x0⟩ ]

/-- The registers of the CAR page (R186 of 08_profile_sequencer.md, R239 of 10_loop_engine.md, R240 of 10_loop_engine.md). -/
def regs_car : List RegDef :=
  [ ⟨"PS_CFG", 0x100, 0x4, 1, 0x0, 0x0, 0x0, 0x0, 0xFF07F, 0x1000⟩,
    ⟨"PS_CMD", 0x104, 0x4, 1, 0x0, 0x0, 0x0, 0x7, 0x0, 0x0⟩,
    ⟨"PS_STAT", 0x108, 0x4, 1, 0x0, 0x0, 0x0, 0x0, 0x0, 0x0⟩,
    ⟨"PS_ERR", 0x10C, 0x4, 1, 0x0, 0xFF, 0x0, 0x0, 0x0, 0x0⟩,
    ⟨"PS_POS_LO", 0x110, 0x4, 1, 0x0, 0x0, 0x0, 0x0, 0x0, 0x0⟩,
    ⟨"PS_POS_HI", 0x114, 0x4, 1, 0x0, 0x0, 0x0, 0x0, 0x0, 0x0⟩,
    ⟨"PS_VEL_LO", 0x118, 0x4, 1, 0x0, 0x0, 0x0, 0x0, 0x0, 0x0⟩,
    ⟨"PS_VEL_HI", 0x11C, 0x4, 1, 0x0, 0x0, 0x0, 0x0, 0x0, 0x0⟩,
    ⟨"PS_TARGET", 0x120, 0x4, 1, 0xFFFFFFFF, 0x0, 0x0, 0x0, 0x0, 0x0⟩,
    ⟨"PS_VSTART", 0x124, 0x4, 1, 0xFFFFFFFF, 0x0, 0x0, 0x0, 0x0, 0x0⟩,
    ⟨"PS_VBREAK", 0x128, 0x4, 1, 0xFFFFFFFF, 0x0, 0x0, 0x0, 0x0, 0x0⟩,
    ⟨"PS_VMAX", 0x12C, 0x4, 1, 0xFFFFFFFF, 0x0, 0x0, 0x0, 0x0, 0x0⟩,
    ⟨"PS_VSTOP", 0x130, 0x4, 1, 0xFFFFFFFF, 0x0, 0x0, 0x0, 0x0, 0x0⟩,
    ⟨"PS_A1", 0x134, 0x4, 1, 0xFFFFFFFF, 0x0, 0x0, 0x0, 0x0, 0x0⟩,
    ⟨"PS_A2", 0x138, 0x4, 1, 0xFFFFFFFF, 0x0, 0x0, 0x0, 0x0, 0x0⟩,
    ⟨"PS_SOFT_MIN", 0x140, 0x4, 1, 0x0, 0x0, 0x0, 0x0, 0xFFFFFFFF, 0x80000000⟩,
    ⟨"PS_SOFT_MAX", 0x144, 0x4, 1, 0x0, 0x0, 0x0, 0x0, 0xFFFFFFFF, 0x7FFFFFFF⟩,
    ⟨"PS_SPEED_LIM", 0x148, 0x4, 1, 0x0, 0x0, 0x0, 0x0, 0x0, 0xFFFFFFFF⟩,
    ⟨"PS_SR_VB", 0x14C, 0x4, 1, 0x0, 0x0, 0x0, 0x0, 0x0, 0x0⟩,
    ⟨"PS_SR_VSTOP", 0x150, 0x4, 1, 0x0, 0x0, 0x0, 0x0, 0x0, 0x0⟩,
    ⟨"PS_SR_A1", 0x154, 0x4, 1, 0x0, 0x0, 0x0, 0x0, 0x0, 0x0⟩,
    ⟨"PS_SR_A2", 0x158, 0x4, 1, 0x0, 0x0, 0x0, 0x0, 0x0, 0x0⟩,
    ⟨"PS_SR_DIST_LO", 0x15C, 0x4, 1, 0x0, 0x0, 0x0, 0x0, 0x0, 0x0⟩,
    ⟨"PS_SR_DIST_HI", 0x160, 0x4, 1, 0x0, 0x0, 0x0, 0x0, 0x0, 0x0⟩ ] ++
  [ ⟨"PS_AUX_OFS_LO", 0x164, 0x4, 1, 0x0, 0x0, 0x0, 0x0, 0x0, 0x0⟩,
    ⟨"PS_AUX_OFS_HI", 0x168, 0x4, 1, 0x0, 0x0, 0x0, 0x0, 0x0, 0x0⟩,
    ⟨"PS_FOLLOW_TOL", 0x16C, 0x4, 1, 0xFFFFFFFF, 0x0, 0x0, 0x0, 0x0, 0x400⟩,
    ⟨"PS_FOLLOW_DEV", 0x170, 0x4, 1, 0x0, 0x0, 0x0, 0x0, 0x0, 0x0⟩,
    ⟨"PS_HOME_CFG", 0x180, 0x4, 1, 0x0, 0x0, 0x0, 0x0, 0xFFFF, 0x0⟩,
    ⟨"PS_HOME_VFAST", 0x184, 0x4, 1, 0xFFFFFFFF, 0x0, 0x0, 0x0, 0x0, 0x0⟩,
    ⟨"PS_HOME_VSLOW", 0x188, 0x4, 1, 0xFFFFFFFF, 0x0, 0x0, 0x0, 0x0, 0x0⟩,
    ⟨"PS_HOME_OFFSET", 0x18C, 0x4, 1, 0xFFFFFFFF, 0x0, 0x0, 0x0, 0x0, 0x0⟩,
    ⟨"PS_HOME_RANGE", 0x190, 0x4, 1, 0xFFFFFFFF, 0x0, 0x0, 0x0, 0x0, 0xFFFFFFFF⟩,
    ⟨"PS_HOME_TMO", 0x194, 0x4, 1, 0xFFFF, 0x0, 0x0, 0x0, 0x0, 0xEA60⟩,
    ⟨"PS_HOME_ILIM", 0x198, 0x4, 1, 0xFFFF, 0x0, 0x0, 0x0, 0x0, 0x4000⟩,
    ⟨"PS_STEP_CFG", 0x1A0, 0x4, 1, 0x0, 0x0, 0x0, 0x0, 0x3FFFF0F, 0x0⟩,
    ⟨"PS_VSTEP_CFG", 0x1A4, 0x4, 1, 0x0, 0x0, 0x0, 0x0, 0xF7, 0x0⟩,
    ⟨"PS_VSTEP_AMP", 0x1A8, 0x4, 1, 0xFFFFFFFF, 0x0, 0x0, 0x0, 0x0, 0x0⟩,
    ⟨"CAR_CTRL", 0x40, 0x4, 1, 0x0, 0x0, 0x0, 0x0, 0x1, 0x0⟩,
    ⟨"CAR_STAT", 0x44, 0x4, 1, 0x0, 0x0, 0x0, 0x0, 0x0, 0x0⟩,
    ⟨"CAR_BIND", 0x48, 0x4, 1, 0x0, 0x0, 0x0, 0x0, 0x0, 0x0⟩,
    ⟨"CAR_REMOTE", 0x4C, 0x4, 1, 0x0, 0x0, 0x0, 0x0, 0x0, 0x0⟩,
    ⟨"CAR_MACH", 0x50, 0x4, 1, 0x0, 0x0, 0x0, 0x0, 0x0, 0x0⟩,
    ⟨"CAR_RATE", 0x54, 0x4, 1, 0x0, 0x0, 0x0, 0x0, 0x0, 0x2⟩,
    ⟨"CAR_SPD_TMO", 0x58, 0x4, 1, 0x0, 0x0, 0x0, 0x0, 0x0, 0xF4240⟩,
    ⟨"LE_CFG", 0x200, 0x4, 1, 0x0, 0x0, 0x0, 0x0, 0x1FF, 0x0⟩,
    ⟨"LE_STAT", 0x204, 0x4, 1, 0x0, 0x0, 0x0, 0x0, 0x0, 0x0⟩,
    ⟨"LE_ERR", 0x208, 0x4, 1, 0x0, 0x1F, 0x0, 0x0, 0x0, 0x0⟩ ] ++
  [ ⟨"LE_SWAP", 0x20C, 0x4, 1, 0x0, 0x0, 0x0, 0x0, 0x1, 0x0⟩,
    ⟨"LE_SS_RATE", 0x210, 0x4, 1, 0x0, 0x0, 0x0, 0x0, 0xFFFFFFFF, 0x10000⟩,
    ⟨"LE_VLIM", 0x214, 0x4, 1, 0x0, 0x0, 0x0, 0x0, 0xFFFFFFFF, 0x1000000⟩,
    ⟨"LE_ILIM", 0x218, 0x4, 1, 0x0, 0x0, 0x0, 0x0, 0xFFFFFFFF, 0x20000000⟩,
    ⟨"LE_VMOD", 0x21C, 0x4, 1, 0x0, 0x0, 0x0, 0x0, 0xFFFFFFFF, 0x24F34E8B⟩,
    ⟨"LE_IDREF", 0x220, 0x4, 1, 0xFFFFFFFF, 0x0, 0x0, 0x0, 0x0, 0x0⟩,
    ⟨"LE_ELEC_K", 0x224, 0x4, 1, 0x0, 0x0, 0x0, 0x0, 0x0, 0x0⟩,
    ⟨"LE_ELEC_OFS", 0x228, 0x4, 1, 0x0, 0x0, 0x0, 0x0, 0xFFFFFFFF, 0x0⟩,
    ⟨"LE_ELEC_LEAD", 0x22C, 0x4, 1, 0x0, 0x0, 0x0, 0x0, 0xFFFF, 0x0⟩,
    ⟨"LE_OUT", 0x230, 0x4, 1, 0x0, 0x0, 0x0, 0x0, 0x0, 0x0⟩,
    ⟨"LE_INTEG", 0x234, 0x4, 1, 0x0, 0x0, 0x0, 0x0, 0x0, 0x0⟩,
    ⟨"LE_IQ_MEAS", 0x238, 0x4, 1, 0x0, 0x0, 0x0, 0x0, 0x0, 0x0⟩,
    ⟨"LE_VFB", 0x23C, 0x4, 1, 0x0, 0x0, 0x0, 0x0, 0x0, 0x0⟩,
    ⟨"SHADOW_FOLIO", 0x400, 0x4, 52, 0xFFFFFFFF, 0x0, 0x0, 0x0, 0x0, 0x0⟩,
    ⟨"SHADOW_SHIFTS", 0x4D0, 0x4, 13, 0x1F1F1F1F, 0x0, 0x0, 0x0, 0x0, 0x0⟩,
    ⟨"LIVE_FOLIO", 0x600, 0x4, 65, 0x0, 0x0, 0x0, 0x0, 0x0, 0x0⟩ ]

/-- The registers of the PS page (R192 of 08_profile_sequencer.md). -/
def regs_ps : List RegDef :=
  [ ⟨"PATH_CMD", 0x100, 0x80, 4, 0x0, 0x0, 0x0, 0x7, 0x0, 0x0⟩,
    ⟨"PATH_STAT", 0x104, 0x80, 4, 0x0, 0x0, 0x0, 0x0, 0x0, 0x0⟩,
    ⟨"PATH_ERR", 0x108, 0x80, 4, 0x0, 0xF, 0x0, 0x0, 0x0, 0x0⟩,
    ⟨"PATH_S_LO", 0x10C, 0x80, 4, 0x0, 0x0, 0x0, 0x0, 0x0, 0x0⟩,
    ⟨"PATH_S_HI", 0x110, 0x80, 4, 0x0, 0x0, 0x0, 0x0, 0x0, 0x0⟩,
    ⟨"PATH_VSTART", 0x114, 0x80, 4, 0xFFFFFFFF, 0x0, 0x0, 0x0, 0x0, 0x0⟩,
    ⟨"PATH_VB", 0x118, 0x80, 4, 0xFFFFFFFF, 0x0, 0x0, 0x0, 0x0, 0x0⟩,
    ⟨"PATH_VMAX", 0x11C, 0x80, 4, 0xFFFFFFFF, 0x0, 0x0, 0x0, 0x0, 0x0⟩,
    ⟨"PATH_VSTOP", 0x120, 0x80, 4, 0xFFFFFFFF, 0x0, 0x0, 0x0, 0x0, 0x0⟩,
    ⟨"PATH_A1", 0x124, 0x80, 4, 0xFFFFFFFF, 0x0, 0x0, 0x0, 0x0, 0x0⟩,
    ⟨"PATH_A2", 0x128, 0x80, 4, 0xFFFFFFFF, 0x0, 0x0, 0x0, 0x0, 0x0⟩,
    ⟨"PATH_SR_A1", 0x12C, 0x80, 4, 0x0, 0x0, 0x0, 0x0, 0x0, 0x0⟩,
    ⟨"PATH_SR_A2", 0x130, 0x80, 4, 0x0, 0x0, 0x0, 0x0, 0x0, 0x0⟩,
    ⟨"PATH_SR_VB", 0x134, 0x80, 4, 0x0, 0x0, 0x0, 0x0, 0x0, 0x0⟩,
    ⟨"PATH_SR_VSTOP", 0x138, 0x80, 4, 0x0, 0x0, 0x0, 0x0, 0x0, 0x0⟩,
    ⟨"PATH_SEG_X", 0x13C, 0x80, 4, 0xFFFFFFFF, 0x0, 0x0, 0x0, 0x0, 0x0⟩,
    ⟨"PATH_SEG_Y", 0x140, 0x80, 4, 0xFFFFFFFF, 0x0, 0x0, 0x0, 0x0, 0x0⟩,
    ⟨"PATH_SEG_Z", 0x144, 0x80, 4, 0xFFFFFFFF, 0x0, 0x0, 0x0, 0x0, 0x0⟩,
    ⟨"PATH_SEG_QW", 0x148, 0x80, 4, 0xFFFFFFFF, 0x0, 0x0, 0x0, 0x0, 0x0⟩,
    ⟨"PATH_SEG_QX", 0x14C, 0x80, 4, 0xFFFFFFFF, 0x0, 0x0, 0x0, 0x0, 0x0⟩,
    ⟨"PATH_SEG_QY", 0x150, 0x80, 4, 0xFFFFFFFF, 0x0, 0x0, 0x0, 0x0, 0x0⟩,
    ⟨"PATH_SEG_QZ", 0x154, 0x80, 4, 0xFFFFFFFF, 0x0, 0x0, 0x0, 0x0, 0x0⟩,
    ⟨"PATH_SEG_PUSH", 0x158, 0x80, 4, 0x0, 0x0, 0x0, 0x1, 0x0, 0x0⟩ ]

/-- The registers of the SOLV page (R217 of 09_kinematics_solver.md). -/
def regs_solv : List RegDef :=
  [ ⟨"SOLV_CTRL", 0x40, 0x4, 1, 0x0, 0x0, 0x0, 0x0, 0x7, 0x0⟩,
    ⟨"SOLV_STAT", 0x44, 0x4, 1, 0x0, 0x0, 0x0, 0x0, 0x0, 0x0⟩,
    ⟨"SOLV_ERR", 0x48, 0x4, 1, 0x0, 0xFFFF, 0x0, 0x0, 0x0, 0x0⟩,
    ⟨"SOLV_PIVOT_FLOOR", 0x4C, 0x4, 1, 0x0, 0x0, 0x0, 0x0, 0xFFFF, 0x80⟩,
    ⟨"SOLV_PIVOT_INFO", 0x50, 0x4, 1, 0x0, 0x0, 0x0, 0x0, 0x0, 0x0⟩,
    ⟨"SOLV_OVF_INFO", 0x54, 0x4, 1, 0x0, 0x0, 0x0, 0x0, 0x0, 0x0⟩,
    ⟨"SOLV_RANGE_INFO", 0x58, 0x4, 1, 0x0, 0x0, 0x0, 0x0, 0x0, 0x0⟩,
    ⟨"SOLV_PASS_CLK", 0x5C, 0x4, 1, 0x0, 0x0, 0x0, 0x0, 0x0, 0x0⟩,
    ⟨"SOLV_PASS_MAX", 0x60, 0x4, 1, 0xFFFF, 0x0, 0x0, 0x0, 0x0, 0x0⟩,
    ⟨"SOLV_DP_PIVOT_REL", 0x64, 0x4, 1, 0x0, 0x0, 0x0, 0x0, 0x3F, 0x28⟩,
    ⟨"SOLV_DPJ_SUBMIT", 0x68, 0x4, 1, 0x0, 0x0, 0x0, 0xFFFF8, 0x0, 0x0⟩,
    ⟨"SOLV_DPJ_STAT", 0x6C, 0x4, 1, 0x0, 0x0, 0x0, 0x0, 0x0, 0x0⟩,
    ⟨"SOLV_DPJ_DONE_CNT", 0x70, 0x4, 1, 0x0, 0x0, 0x0, 0x0, 0x0, 0x0⟩,
    ⟨"SOLV_M_CFG", 0x100, 0x10, 16, 0x0, 0x0, 0x0, 0x0, 0x0, 0x0⟩,
    ⟨"SOLV_M_VAR", 0x104, 0x10, 16, 0x3, 0x8, 0x0, 0x0, 0x0, 0x0⟩,
    ⟨"SOLV_M_STAT", 0x108, 0x10, 16, 0x0, 0x0, 0x0, 0x0, 0x0, 0x0⟩,
    ⟨"SOLV_M_SIG", 0x10C, 0x10, 16, 0x0, 0x0, 0x0, 0x0, 0x0, 0x0⟩,
    ⟨"TA_DEM", 0x200, 0x4, 6, 0xFFFFFFFF, 0x0, 0x0, 0x0, 0x0, 0x0⟩,
    ⟨"TA_COMMIT", 0x218, 0x4, 1, 0x0, 0x0, 0x0, 0x1, 0x0, 0x0⟩,
    ⟨"TA_STAT", 0x21C, 0x4, 1, 0x0, 0x0, 0x0, 0x0, 0x0, 0x0⟩,
    ⟨"TA_RES", 0x220, 0x4, 6, 0x0, 0x0, 0x0, 0x0, 0x0, 0x0⟩,
    ⟨"TA_GAIN", 0x240, 0x4, 12, 0xFFFFFFFF, 0x0, 0x0, 0x0, 0x0, 0x0⟩,
    ⟨"TA_OUT_A", 0x280, 0x8, 12, 0x0, 0x0, 0x0, 0x0, 0x0, 0x0⟩,
    ⟨"TA_OUT_B", 0x284, 0x8, 12, 0x0, 0x0, 0x0, 0x0, 0x0, 0x0⟩ ] ++
  [ ⟨"TA_AZ", 0x2E0, 0x4, 12, 0x0, 0x0, 0x0, 0x0, 0x0, 0x0⟩ ]

/-- The registers of the LE page (R242 of 10_loop_engine.md). -/
def regs_le : List RegDef :=
  [ ⟨"LE_GSWAP_LO", 0x40, 0x4, 1, 0x0, 0x0, 0x0, 0x0, 0xFFFFFFFF, 0x0⟩,
    ⟨"LE_GSWAP_HI", 0x44, 0x4, 1, 0x0, 0x0, 0x0, 0x0, 0xFFFF, 0x0⟩,
    ⟨"LE_PASS_CLK", 0x48, 0x4, 1, 0x0, 0x0, 0x0, 0x0, 0x0, 0x0⟩,
    ⟨"LE_PASS_MAX", 0x4C, 0x4, 1, 0x7FF, 0x0, 0x0, 0x0, 0x0, 0x0⟩,
    ⟨"LE_CUR_LAT_MAX", 0x50, 0x4, 1, 0xFF, 0x0, 0x0, 0x0, 0x0, 0x0⟩,
    ⟨"LE_WERR", 0x54, 0x4, 1, 0x0, 0x1, 0x0, 0x0, 0x0, 0x0⟩ ]

/-- The registers of the WING page (R243 of 10_loop_engine.md). -/
def regs_wing : List RegDef :=
  [ ⟨"WING_DIAG_MODE", 0x40, 0x4, 1, 0x0, 0x0, 0x0, 0x0, 0x3, 0x0⟩,
    ⟨"WING_DIAG_CMD", 0x44, 0x4, 1, 0x0, 0x0, 0x0, 0x7, 0x0, 0x0⟩,
    ⟨"WING_DIAG_STAT", 0x48, 0x4, 1, 0x0, 0x0, 0x0, 0x0, 0x0, 0x0⟩,
    ⟨"WING_TR_DECIM", 0x4C, 0x4, 1, 0xFF, 0x0, 0x0, 0x0, 0x0, 0x1⟩,
    ⟨"WING_TR_TRIG", 0x50, 0x4, 1, 0x3, 0x0, 0x0, 0x0, 0x0, 0x0⟩,
    ⟨"WING_TR_LEVEL", 0x54, 0x4, 1, 0xFFFFFFFF, 0x0, 0x0, 0x0, 0x0, 0x0⟩,
    ⟨"WING_TR_POST", 0x58, 0x4, 1, 0x3FFF, 0x0, 0x0, 0x0, 0x0, 0x0⟩,
    ⟨"WING_TAP", 0x60, 0x4, 16, 0x8F3F, 0x0, 0x0, 0x0, 0x0, 0x0⟩,
    ⟨"WING_INJ_CFG", 0xA0, 0x4, 1, 0xFF373F, 0x0, 0x0, 0x0, 0x0, 0x0⟩,
    ⟨"WING_INJ_AMP", 0xA4, 0x4, 1, 0xFFFFFFFF, 0x0, 0x0, 0x0, 0x0, 0x0⟩,
    ⟨"WING_INJ_FINC", 0xA8, 0x4, 1, 0xFFFFFFFF, 0x0, 0x0, 0x0, 0x0, 0x0⟩,
    ⟨"WING_INJ_FEND", 0xAC, 0x4, 1, 0xFFFFFFFF, 0x0, 0x0, 0x0, 0x0, 0x0⟩,
    ⟨"WING_INJ_FSTEP", 0xB0, 0x4, 1, 0xFFFFFFFF, 0x0, 0x0, 0x0, 0x0, 0x0⟩,
    ⟨"WING_INJ_LEN", 0xB4, 0x4, 1, 0x3FFF, 0x0, 0x0, 0x0, 0x0, 0x0⟩,
    ⟨"WING_INJ_PRBS", 0xB8, 0x4, 1, 0xFF7FFF, 0x0, 0x0, 0x0, 0x0, 0x1⟩ ]

/-- The registers of the LEDGER page (R244 of 10_loop_engine.md). -/
def regs_ledger : List RegDef :=
  [ ⟨"LEDGER_ADDR", 0x40, 0x4, 1, 0x3FFF, 0x0, 0x0, 0x0, 0x0, 0x0⟩,
    ⟨"LEDGER_DATA", 0x44, 0x4, 1, 0x0, 0x0, 0x0, 0x0, 0x0, 0x0⟩,
    ⟨"LEDGER_WPTR", 0x48, 0x4, 1, 0x0, 0x0, 0x0, 0x0, 0x0, 0x0⟩,
    ⟨"LEDGER_TRIG_PTR", 0x4C, 0x4, 1, 0x0, 0x0, 0x0, 0x0, 0x0, 0x0⟩ ]

/-- The registers of the PWMCH page (R272 of 11_power_stage.md). -/
def regs_pwmch : List RegDef :=
  [ ⟨"PWM_CH_CFG", 0x40, 0x4, 1, 0x0, 0x0, 0x0, 0x0, 0x0, 0x381⟩,
    ⟨"PWM_CH_CTRL", 0x44, 0x4, 1, 0x0, 0x0, 0x0, 0x0, 0x3, 0x0⟩,
    ⟨"PWM_CH_STAT", 0x48, 0x4, 1, 0x0, 0x0, 0x0, 0x0, 0x0, 0x0⟩,
    ⟨"PWM_CH_CNT", 0x4C, 0x4, 1, 0x0, 0x0, 0x0, 0x0, 0x0, 0x0⟩,
    ⟨"PWM_CH_PERIOD", 0x50, 0x4, 1, 0xFFFF, 0x0, 0x0, 0x0, 0x0, 0xC35⟩,
    ⟨"PWM_CH_PERIOD_ACT", 0x54, 0x4, 1, 0x0, 0x0, 0x0, 0x0, 0x0, 0xC35⟩,
    ⟨"PWM_CH_CMP_U", 0x58, 0x4, 1, 0x1FFFFF, 0x0, 0x0, 0x0, 0x0, 0x0⟩,
    ⟨"PWM_CH_CMP_V", 0x5C, 0x4, 1, 0x1FFFFF, 0x0, 0x0, 0x0, 0x0, 0x0⟩,
    ⟨"PWM_CH_CMP_W", 0x60, 0x4, 1, 0x1FFFFF, 0x0, 0x0, 0x0, 0x0, 0x0⟩,
    ⟨"PWM_CH_CMP_ACT_U", 0x64, 0x4, 1, 0x0, 0x0, 0x0, 0x0, 0x0, 0x0⟩,
    ⟨"PWM_CH_CMP_ACT_V", 0x68, 0x4, 1, 0x0, 0x0, 0x0, 0x0, 0x0, 0x0⟩,
    ⟨"PWM_CH_CMP_ACT_W", 0x6C, 0x4, 1, 0x0, 0x0, 0x0, 0x0, 0x0, 0x0⟩,
    ⟨"PWM_CH_SE", 0x70, 0x4, 1, 0x0, 0x0, 0x0, 0x0, 0xFFFF, 0xB90⟩,
    ⟨"PWM_CH_MINP", 0x74, 0x4, 1, 0x0, 0x0, 0x0, 0x0, 0xFF, 0x0⟩,
    ⟨"PWM_CH_ADT_U", 0x78, 0x4, 1, 0x0, 0x0, 0x0, 0x0, 0x0, 0x0⟩,
    ⟨"PWM_CH_ADT_V", 0x7C, 0x4, 1, 0x0, 0x0, 0x0, 0x0, 0x0, 0x0⟩,
    ⟨"PWM_CH_ADT_W", 0x80, 0x4, 1, 0x0, 0x0, 0x0, 0x0, 0x0, 0x0⟩,
    ⟨"PWM_CH_ADT_MISS", 0x84, 0x4, 1, 0xFFFF, 0x0, 0x0, 0x0, 0x0, 0x0⟩,
    ⟨"PWM_CH_ERR", 0x88, 0x4, 1, 0x0, 0x7F, 0x0, 0x0, 0x0, 0x0⟩,
    ⟨"PWM_CH_SDM", 0x8C, 0x4, 1, 0x0, 0x0, 0x0, 0x0, 0x0, 0x0⟩,
    ⟨"PWM_CH_SUMTOL", 0x90, 0x4, 1, 0x0, 0x0, 0x0, 0x0, 0xFFFFFFFF, 0x4000000⟩ ]

/-- The registers of the SDM page (R273 of 11_power_stage.md). -/
def regs_sdm : List RegDef :=
  [ ⟨"SDM_CLK", 0x40, 0x4, 8, 0x0, 0x0, 0x0, 0x0, 0x13F, 0xA⟩,
    ⟨"SDM_IN_CFG", 0x80, 0x20, 48, 0x0, 0x0, 0x0, 0x0, 0x1FF7F, 0x4000⟩,
    ⟨"SDM_IN_GAIN", 0x84, 0x20, 48, 0x0, 0x0, 0x0, 0x0, 0xFFFFFFFF, 0x0⟩,
    ⟨"SDM_IN_OFS", 0x88, 0x20, 48, 0xFFFFFFFF, 0x0, 0x0, 0x0, 0x0, 0x0⟩,
    ⟨"SDM_IN_SH", 0x8C, 0x20, 48, 0x0, 0x0, 0x0, 0x0, 0x3F, 0x0⟩,
    ⟨"SDM_IN_OC", 0x90, 0x20, 48, 0x0, 0x0, 0x0, 0x0, 0x13F3F3F, 0x0⟩,
    ⟨"SDM_IN_RAW", 0x94, 0x20, 48, 0x0, 0x0, 0x0, 0x0, 0x0, 0x0⟩,
    ⟨"SDM_IN_VAL", 0x98, 0x20, 48, 0x0, 0x0, 0x0, 0x0, 0x0, 0x0⟩,
    ⟨"SDM_IN_STAT", 0x9C, 0x20, 48, 0x0, 0x3, 0x0, 0x0, 0x0, 0x0⟩ ]

/-- The registers of the FBK page (R291 of 12_position_feedback.md). -/
def regs_fbk : List RegDef :=
  [ ⟨"FBK_CFG", 0x40, 0x4, 1, 0x0, 0x0, 0x0, 0x0, 0xFFFF, 0x0⟩,
    ⟨"FBK_CMD", 0x44, 0x4, 1, 0x0, 0x0, 0x0, 0x7, 0x0, 0x0⟩,
    ⟨"FBK_STAT", 0x48, 0x4, 1, 0x0, 0x0, 0x0, 0x0, 0x0, 0x0⟩,
    ⟨"FBK_ERR", 0x4C, 0x4, 1, 0x0, 0x3F, 0x0, 0x0, 0x0, 0x0⟩,
    ⟨"FBK_COUNT", 0x50, 0x4, 1, 0x0, 0x0, 0x0, 0x0, 0x0, 0x0⟩,
    ⟨"FBK_LC_POS", 0x54, 0x4, 1, 0x0, 0x0, 0x0, 0x0, 0x0, 0x0⟩,
    ⟨"FBK_LC_VEL", 0x58, 0x4, 1, 0x0, 0x0, 0x0, 0x0, 0x0, 0x0⟩,
    ⟨"FBK_LS_POS", 0x5C, 0x4, 1, 0x0, 0x0, 0x0, 0x0, 0x0, 0x0⟩,
    ⟨"FBK_LS_VEL", 0x60, 0x4, 1, 0x0, 0x0, 0x0, 0x0, 0x0, 0x0⟩,
    ⟨"FBK_LATCH_TICK", 0x64, 0x4, 1, 0x0, 0x0, 0x0, 0x0, 0xFFF, 0xB90⟩,
    ⟨"FBK_SAT_MIN", 0x68, 0x4, 1, 0x0, 0x0, 0x0, 0x0, 0xFFFFFFFF, 0x80000000⟩,
    ⟨"FBK_SAT_MAX", 0x6C, 0x4, 1, 0x0, 0x0, 0x0, 0x0, 0xFFFFFFFF, 0x7FFFFFFF⟩,
    ⟨"FBK_SPD_TMO", 0x70, 0x4, 1, 0x0, 0x0, 0x0, 0x0, 0xFFFFFF, 0xF4240⟩,
    ⟨"FBK_ERRCNT", 0x74, 0x4, 1, 0xFFFF, 0x0, 0x0, 0x0, 0x0, 0x0⟩,
    ⟨"FBK_IDX_PERIOD", 0x78, 0x4, 1, 0x0, 0x0, 0x0, 0x0, 0xFFFFFFFF, 0x0⟩,
    ⟨"FBK_IDX_TOL", 0x7C, 0x4, 1, 0x0, 0x0, 0x0, 0x0, 0xFFFF, 0x4⟩,
    ⟨"FBK_IDX_REF", 0x80, 0x4, 1, 0x0, 0x0, 0x0, 0x0, 0x0, 0x0⟩,
    ⟨"FBK_IDX_LATCH", 0x84, 0x4, 1, 0x0, 0x0, 0x0, 0x0, 0x0, 0x0⟩,
    ⟨"FBK_IDX_DEV", 0x88, 0x4, 1, 0x0, 0x0, 0x0, 0x0, 0x0, 0x0⟩,
    ⟨"FBK_HOMESW", 0x8C, 0x4, 1, 0x0, 0x0, 0x0, 0x0, 0xFFF, 0x0⟩,
    ⟨"FBK_SSI_CFG", 0x90, 0x4, 1, 0x0, 0x0, 0x0, 0x0, 0xFFFFFFF, 0x1414019⟩,
    ⟨"FBK_SSI_START", 0x94, 0x4, 1, 0x0, 0x0, 0x0, 0x0, 0xFFF, 0x0⟩,
    ⟨"FBK_SSI_RAW", 0x98, 0x4, 1, 0x0, 0x0, 0x0, 0x0, 0x0, 0x0⟩,
    ⟨"FBK_SSI_TRAIL", 0x9C, 0x4, 1, 0x0, 0x0, 0x0, 0x0, 0x0, 0x0⟩ ] ++
  [ ⟨"FBK_SSI_JUMP", 0xA0, 0x4, 1, 0x0, 0x0, 0x0, 0x0, 0xFFFFFFFF, 0x1000⟩,
    ⟨"FBK_EDGE_T_LO", 0xA4, 0x4, 1, 0x0, 0x0, 0x0, 0x0, 0x0, 0x0⟩,
    ⟨"FBK_EDGE_T_HI", 0xA8, 0x4, 1, 0x0, 0x0, 0x0, 0x0, 0x0, 0x0⟩,
    ⟨"FBK_CMP_CTRL", 0xAC, 0x4, 1, 0x0, 0x0, 0x0, 0x0, 0xFF, 0x0⟩,
    ⟨"FBK_CMP_POS", 0x100, 0x8, 32, 0xFFFFFFFF, 0x0, 0x0, 0x0, 0x0, 0x0⟩,
    ⟨"FBK_CMP_ACT", 0x104, 0x8, 32, 0xFF, 0x0, 0x0, 0x0, 0x0, 0x0⟩ ]

/-- The registers of the CMP page (R294 of 12_position_feedback.md). -/
def regs_cmp : List RegDef :=
  [ ⟨"CMP_OUT", 0x40, 0x4, 16, 0x0, 0x0, 0x0, 0x0, 0x3FF, 0x1⟩,
    ⟨"CMP_OVERLAP", 0x80, 0x4, 1, 0xFFFF, 0x0, 0x0, 0x0, 0x0, 0x0⟩,
    ⟨"CMP_LEVEL", 0x84, 0x4, 1, 0x0, 0x0, 0x0, 0x0, 0x0, 0x0⟩ ]

/-- The registers of the CAP page (R295 of 12_position_feedback.md). -/
def regs_cap : List RegDef :=
  [ ⟨"CAP_CFG", 0x40, 0x10, 16, 0x0, 0x0, 0x0, 0x0, 0x1F7F, 0x0⟩,
    ⟨"CAP_POS", 0x44, 0x10, 16, 0x0, 0x0, 0x0, 0x0, 0x0, 0x0⟩,
    ⟨"CAP_TIME_LO", 0x48, 0x10, 16, 0x0, 0x0, 0x0, 0x0, 0x0, 0x0⟩,
    ⟨"CAP_TIME_HI", 0x4C, 0x10, 16, 0x0, 0x0, 0x0, 0x0, 0x0, 0x0⟩,
    ⟨"CAP_STAT", 0x140, 0x4, 1, 0x0, 0xFFFFFFFF, 0x0, 0x0, 0x0, 0x0⟩ ]

/-- The registers of the GPIO page (R297 of 12_position_feedback.md). -/
def regs_gpio : List RegDef :=
  [ ⟨"GPIO_DIR_LO", 0x40, 0x4, 1, 0xFFFFFFFF, 0x0, 0x0, 0x0, 0x0, 0x0⟩,
    ⟨"GPIO_DIR_HI", 0x44, 0x4, 1, 0xFFFFFFFF, 0x0, 0x0, 0x0, 0x0, 0x0⟩,
    ⟨"GPIO_OUT_LO", 0x48, 0x4, 1, 0xFFFFFFFF, 0x0, 0x0, 0x0, 0x0, 0x0⟩,
    ⟨"GPIO_OUT_HI", 0x4C, 0x4, 1, 0xFFFFFFFF, 0x0, 0x0, 0x0, 0x0, 0x0⟩,
    ⟨"GPIO_IN_LO", 0x50, 0x4, 1, 0x0, 0x0, 0x0, 0x0, 0x0, 0x0⟩,
    ⟨"GPIO_IN_HI", 0x54, 0x4, 1, 0x0, 0x0, 0x0, 0x0, 0x0, 0x0⟩,
    ⟨"GPIO_FILT", 0x58, 0x4, 1, 0xF, 0x0, 0x0, 0x0, 0x0, 0x3⟩,
    ⟨"GPIO_EV_STAT", 0x5C, 0x4, 1, 0x0, 0xFFFFFFFF, 0x0, 0x0, 0x0, 0x0⟩,
    ⟨"GPIO_EV_CFG", 0x80, 0x4, 32, 0xFF, 0x0, 0x0, 0x0, 0x0, 0x0⟩,
    ⟨"GPIO_EV_CNT", 0x100, 0x4, 32, 0xFFFF, 0x0, 0x0, 0x0, 0x0, 0x0⟩ ]

/-- The registers of the SSM page (R320 of 13_separation_monitor.md). -/
def regs_ssm : List RegDef :=
  [ ⟨"SSM_STAT", 0x40, 0x4, 1, 0x0, 0x0, 0x0, 0x0, 0x0, 0x0⟩,
    ⟨"SSM_ERR", 0x44, 0x4, 1, 0x0, 0xFF, 0x0, 0x0, 0x0, 0x0⟩,
    ⟨"SSM_PASS_CNT", 0x48, 0x4, 1, 0x0, 0x0, 0x0, 0x0, 0x0, 0x0⟩,
    ⟨"SSM_PASS_CLK", 0x4C, 0x4, 1, 0x0, 0x0, 0x0, 0x0, 0x0, 0x0⟩,
    ⟨"SSM_PASS_MAX", 0x50, 0x4, 1, 0xFFFF, 0x0, 0x0, 0x0, 0x0, 0x0⟩,
    ⟨"SSM_SCENE", 0x54, 0x4, 1, 0x0, 0x0, 0x0, 0x0, 0x0, 0x0⟩,
    ⟨"SSM_NPAIR", 0x58, 0x4, 1, 0x0, 0x0, 0x0, 0x0, 0x0, 0x0⟩,
    ⟨"SSM_TRACK_LO", 0x5C, 0x4, 1, 0x0, 0x0, 0x0, 0x0, 0x0, 0x0⟩,
    ⟨"SSM_TRACK_HI", 0x60, 0x4, 1, 0x0, 0x0, 0x0, 0x0, 0x0, 0x0⟩,
    ⟨"SSM_UNIT", 0x64, 0x4, 1, 0x0, 0x0, 0x0, 0x0, 0x0, 0xFF00⟩,
    ⟨"SSM_FRAME", 0x68, 0x4, 1, 0x0, 0x0, 0x0, 0x0, 0x0, 0x0⟩,
    ⟨"SSM_M_DEM", 0x100, 0x4, 16, 0x0, 0x0, 0x0, 0x0, 0x0, 0x80010003⟩,
    ⟨"SSM_M_PAIR", 0x140, 0x4, 16, 0x0, 0x0, 0x0, 0x0, 0x0, 0x0⟩,
    ⟨"SSM_DIAG_SEL", 0x180, 0x4, 1, 0xF, 0x0, 0x0, 0x0, 0x0, 0x0⟩,
    ⟨"SSM_DIAG_D", 0x184, 0x4, 1, 0x0, 0x0, 0x0, 0x0, 0x0, 0x0⟩,
    ⟨"SSM_DIAG_SA", 0x188, 0x4, 1, 0x0, 0x0, 0x0, 0x0, 0x0, 0x0⟩,
    ⟨"SSM_DIAG_SB", 0x18C, 0x4, 1, 0x0, 0x0, 0x0, 0x0, 0x0, 0x0⟩,
    ⟨"SSM_DIAG_C", 0x190, 0x4, 1, 0x0, 0x0, 0x0, 0x0, 0x0, 0x0⟩,
    ⟨"SSM_DIAG_Z", 0x194, 0x4, 1, 0x0, 0x0, 0x0, 0x0, 0x0, 0x0⟩,
    ⟨"SSM_DIAG_SV", 0x198, 0x4, 1, 0x0, 0x0, 0x0, 0x0, 0x0, 0x0⟩,
    ⟨"SSM_DIAG_SP", 0x19C, 0x4, 1, 0x0, 0x0, 0x0, 0x0, 0x0, 0x0⟩ ]

/-- The registers of the SAFE01 page (R347 of 14_safety_island.md). -/
def regs_safe01 : List RegDef :=
  [ ⟨"SAFE_MIRROR_CYC", 0x40, 0x4, 1, 0x0, 0x0, 0x0, 0x0, 0x0, 0x0⟩,
    ⟨"SAFE_CH_STATE", 0x44, 0x4, 1, 0x0, 0x0, 0x0, 0x0, 0x0, 0x0⟩,
    ⟨"SAFE_CH_EVT", 0x48, 0x4, 1, 0x0, 0x0, 0x0, 0x0, 0x0, 0x0⟩,
    ⟨"SAFE_CH_OUT", 0x4C, 0x4, 1, 0x0, 0x0, 0x0, 0x0, 0x0, 0x0⟩,
    ⟨"SAFE_CH_CONN", 0x50, 0x4, 1, 0x0, 0x0, 0x0, 0x0, 0x0, 0x0⟩,
    ⟨"SAFE_CH_CONN_ERR", 0x54, 0x4, 1, 0x0, 0x0, 0x0, 0x0, 0x0, 0x0⟩,
    ⟨"SAFE_CH_DISC_CNT", 0x58, 0x4, 1, 0x0, 0x0, 0x0, 0x0, 0x0, 0x0⟩,
    ⟨"SAFE_CH_PSIG", 0x5C, 0x4, 1, 0x0, 0x0, 0x0, 0x0, 0x0, 0x0⟩,
    ⟨"SAFE_CH_AXIS", 0x60, 0x4, 24, 0x0, 0x0, 0x0, 0x0, 0x0, 0x4⟩,
    ⟨"SAFE_CH_MDEM", 0xC0, 0x4, 16, 0x0, 0x0, 0x0, 0x0, 0x0, 0x3⟩ ]

/-- The registers of the SAFE2 page (R348 of 14_safety_island.md). -/
def regs_safe2 : List RegDef :=
  [ ⟨"SAFE_MIRROR_CYC", 0x40, 0x4, 1, 0x0, 0x0, 0x0, 0x0, 0x0, 0x0⟩,
    ⟨"SAFE_SIN_A", 0x44, 0x4, 1, 0x0, 0x0, 0x0, 0x0, 0x0, 0x0⟩,
    ⟨"SAFE_SIN_B", 0x48, 0x4, 1, 0x0, 0x0, 0x0, 0x0, 0x0, 0x0⟩,
    ⟨"SAFE_SIN_STATE", 0x4C, 0x4, 1, 0x0, 0x0, 0x0, 0x0, 0x0, 0xFFFF⟩,
    ⟨"SAFE_STO_OUT", 0x50, 0x4, 1, 0x0, 0x0, 0x0, 0x0, 0x0, 0x0⟩,
    ⟨"SAFE_STO_FB", 0x54, 0x4, 1, 0x0, 0x0, 0x0, 0x0, 0x0, 0x0⟩,
    ⟨"SAFE_KOUT", 0x58, 0x4, 1, 0x0, 0x0, 0x0, 0x0, 0x0, 0x0⟩,
    ⟨"SAFE_OPT_STAT", 0x5C, 0x4, 1, 0x0, 0x0, 0x0, 0x0, 0x0, 0x0⟩,
    ⟨"SAFE_RST_STAT", 0x60, 0x4, 1, 0x0, 0x0, 0x0, 0x0, 0x0, 0x0⟩ ]

/-- The registers of the SAFE3 page (R349 of 14_safety_island.md). -/
def regs_safe3 : List RegDef :=
  [ ⟨"SAFE_MIRROR_CYC", 0x40, 0x4, 1, 0x0, 0x0, 0x0, 0x0, 0x0, 0x0⟩,
    ⟨"SAFE_SSMB_ERR", 0x44, 0x4, 1, 0x0, 0x0, 0x0, 0x0, 0x0, 0x0⟩,
    ⟨"SAFE_SSMB_PASS_CNT", 0x48, 0x4, 1, 0x0, 0x0, 0x0, 0x0, 0x0, 0x0⟩,
    ⟨"SAFE_SSMB_PASS_CLK", 0x4C, 0x4, 1, 0x0, 0x0, 0x0, 0x0, 0x0, 0x0⟩,
    ⟨"SAFE_SSMB_DEM", 0x100, 0x4, 16, 0x0, 0x0, 0x0, 0x0, 0x0, 0x80010003⟩,
    ⟨"SAFE_SSMB_PAIR", 0x140, 0x4, 16, 0x0, 0x0, 0x0, 0x0, 0x0, 0x0⟩ ]

/-- The registers of the SZN page (R383 of 15_synzon_link.md). -/
def regs_szn : List RegDef :=
  [ ⟨"SZN_CTRL", 0x40, 0x4, 1, 0x0, 0x0, 0x0, 0x0, 0x3, 0x0⟩,
    ⟨"SZN_STAT", 0x44, 0x4, 1, 0x0, 0x0, 0x0, 0x0, 0x0, 0x0⟩,
    ⟨"SZN_ERR", 0x48, 0x4, 1, 0x0, 0x3FF, 0x0, 0x0, 0x0, 0x0⟩,
    ⟨"SZN_ID", 0x4C, 0x4, 1, 0x0, 0x0, 0x0, 0x0, 0x0, 0x0⟩,
    ⟨"SZN_HOLD_MAX", 0x50, 0x4, 1, 0x0, 0x0, 0x0, 0x0, 0xFF, 0x40⟩,
    ⟨"SZN_CAT_REQ", 0x54, 0x4, 1, 0x0, 0x0, 0x0, 0x0, 0xF, 0x0⟩,
    ⟨"SZN_CAT_STAT", 0x58, 0x4, 1, 0x0, 0x0, 0x0, 0x0, 0x0, 0x0⟩,
    ⟨"SZN_TM", 0x5C, 0x4, 1, 0x0, 0x0, 0x0, 0x0, 0x0, 0x0⟩,
    ⟨"SZN_FIRST", 0x60, 0x4, 1, 0xFFFFFFFF, 0x0, 0x0, 0x0, 0x0, 0x0⟩,
    ⟨"SZN_LOST", 0x64, 0x4, 1, 0xFFFFFFFF, 0x0, 0x0, 0x0, 0x0, 0x0⟩,
    ⟨"SZN_TX_REPEAT", 0x68, 0x4, 1, 0xFFFF, 0x0, 0x0, 0x0, 0x0, 0x0⟩,
    ⟨"SZN_RA_DST", 0x6C, 0x4, 1, 0xFFF, 0x0, 0x0, 0x0, 0x0, 0x0⟩,
    ⟨"SZN_RA_ADDR_LO", 0x70, 0x4, 1, 0xFFFFFFFF, 0x0, 0x0, 0x0, 0x0, 0x0⟩,
    ⟨"SZN_RA_ADDR_HI", 0x74, 0x4, 1, 0xFF, 0x0, 0x0, 0x0, 0x0, 0x0⟩,
    ⟨"SZN_RA_CMD", 0x78, 0x4, 1, 0x0, 0x0, 0x0, 0x3F, 0x0, 0x0⟩,
    ⟨"SZN_RA_STAT", 0x7C, 0x4, 1, 0x0, 0x0, 0x0, 0x0, 0x0, 0x0⟩,
    ⟨"SZN_RA_DATA", 0x80, 0x4, 8, 0xFFFFFFFF, 0x0, 0x0, 0x0, 0x0, 0x0⟩,
    ⟨"SZN_CAT", 0xA0, 0x4, 8, 0x0, 0x0, 0x0, 0x0, 0x0, 0x0⟩,
    ⟨"SZN_SLOT_SEL", 0xC0, 0x4, 1, 0x1FF, 0x0, 0x0, 0x0, 0x0, 0x0⟩,
    ⟨"SZN_SLOT_A", 0xC4, 0x4, 1, 0x0, 0x0, 0x0, 0x0, 0x0, 0x0⟩,
    ⟨"SZN_SLOT_B", 0xC8, 0x4, 1, 0x0, 0x0, 0x0, 0x0, 0x0, 0x0⟩,
    ⟨"SZN_SLOT_C", 0xCC, 0x4, 1, 0x0, 0x0, 0x0, 0x0, 0x0, 0x0⟩ ]

/-- The registers of the SZP page (R385 of 15_synzon_link.md). -/
def regs_szp : List RegDef :=
  [ ⟨"SZP_CFG", 0x40, 0x4, 1, 0x0, 0x0, 0x0, 0x0, 0xF, 0x0⟩,
    ⟨"SZP_STAT", 0x44, 0x4, 1, 0x0, 0x0, 0x0, 0x0, 0x0, 0x0⟩,
    ⟨"SZP_ERR", 0x48, 0x4, 1, 0x0, 0xFFF, 0x0, 0x0, 0x0, 0x0⟩,
    ⟨"SZP_DELAY", 0x4C, 0x4, 1, 0x0, 0x0, 0x0, 0x0, 0x0, 0x0⟩,
    ⟨"SZP_CRC_CNT", 0x50, 0x4, 1, 0xFFFFFFFF, 0x0, 0x0, 0x0, 0x0, 0x0⟩,
    ⟨"SZP_GUARD_CNT", 0x54, 0x4, 1, 0xFFFFFFFF, 0x0, 0x0, 0x0, 0x0, 0x0⟩,
    ⟨"SZP_RX_CNT", 0x58, 0x4, 1, 0x0, 0x0, 0x0, 0x0, 0x0, 0x0⟩,
    ⟨"SZP_TX_CNT", 0x5C, 0x4, 1, 0x0, 0x0, 0x0, 0x0, 0x0, 0x0⟩,
    ⟨"SZP_CMD", 0x60, 0x4, 1, 0x0, 0x0, 0x0, 0x1, 0x0, 0x0⟩ ]

/-- The registers of the FAB page (R401 of 16_fabric.md). -/
def regs_fab : List RegDef :=
  [ ⟨"FAB_CTRL", 0x40, 0x4, 1, 0x0, 0x0, 0x0, 0x0, 0x7, 0x0⟩,
    ⟨"FAB_STAT", 0x44, 0x4, 1, 0x0, 0x0, 0x0, 0x0, 0x0, 0x0⟩,
    ⟨"FAB_ERR", 0x48, 0x4, 1, 0x0, 0x1FF, 0x0, 0x0, 0x0, 0x0⟩,
    ⟨"FAB_DIGEST_LO", 0x4C, 0x4, 1, 0x0, 0x0, 0x0, 0x0, 0xFFFFFFFF, 0x0⟩,
    ⟨"FAB_DIGEST_HI", 0x50, 0x4, 1, 0x0, 0x0, 0x0, 0x0, 0xFFFFFFFF, 0x0⟩,
    ⟨"FAB_FWSET", 0x54, 0x4, 1, 0x0, 0x0, 0x0, 0x0, 0xFFFFFF, 0x0⟩,
    ⟨"FAB_NDEV", 0x58, 0x4, 1, 0x0, 0x0, 0x0, 0x0, 0x0, 0x0⟩,
    ⟨"FAB_DEV_SEL", 0x5C, 0x4, 1, 0xFFF, 0x0, 0x0, 0x0, 0x0, 0x0⟩,
    ⟨"FAB_DEV_STAT", 0x60, 0x4, 1, 0x0, 0x0, 0x0, 0x0, 0x0, 0x0⟩,
    ⟨"FAB_DEV_UID_LO", 0x64, 0x4, 1, 0x0, 0x0, 0x0, 0x0, 0x0, 0x0⟩,
    ⟨"FAB_DEV_UID_HI", 0x68, 0x4, 1, 0x0, 0x0, 0x0, 0x0, 0x0, 0x0⟩,
    ⟨"FAB_RT_SEL", 0x6C, 0x4, 1, 0xFFF, 0x0, 0x0, 0x0, 0x0, 0x0⟩,
    ⟨"FAB_RT_A", 0x70, 0x4, 1, 0x0, 0x0, 0x0, 0x0, 0x1FFFF, 0x0⟩,
    ⟨"FAB_RT_B", 0x74, 0x4, 1, 0x0, 0x0, 0x0, 0x0, 0xFFFFF, 0x0⟩,
    ⟨"FAB_RT_MISS_CNT", 0x78, 0x4, 1, 0xFFFF, 0x0, 0x0, 0x0, 0x0, 0x0⟩ ]

/-- The registers of the RED page (R421 of 17_redundancy.md). -/
def regs_red : List RegDef :=
  [ ⟨"RED_CTRL", 0x40, 0x4, 1, 0x0, 0x0, 0x0, 0x0, 0x7, 0x0⟩,
    ⟨"RED_STAT", 0x44, 0x4, 1, 0x0, 0x0, 0x0, 0x0, 0x0, 0x0⟩,
    ⟨"RED_ERR", 0x48, 0x4, 1, 0x0, 0x7FF, 0x0, 0x0, 0x0, 0x0⟩,
    ⟨"RED_CLAIM", 0x4C, 0x4, 1, 0x0, 0x0, 0x0, 0x0, 0x0, 0x0⟩,
    ⟨"RED_MISS", 0x50, 0x4, 1, 0x0, 0x0, 0x0, 0x0, 0xF, 0x2⟩,
    ⟨"RED_PEER", 0x54, 0x4, 1, 0x0, 0x0, 0x0, 0x0, 0x0, 0x0⟩,
    ⟨"RED_NODE_CFG", 0x58, 0x4, 1, 0x0, 0x0, 0x0, 0x0, 0x0, 0x0⟩,
    ⟨"RED_ORPHAN", 0x5C, 0x4, 1, 0x0, 0x0, 0x0, 0x0, 0xF, 0x4⟩,
    ⟨"RED_DISC_TOL", 0x60, 0x4, 1, 0x0, 0x0, 0x0, 0x0, 0xFFFFFFFF, 0x10000⟩,
    ⟨"RED_DISC_CNT", 0x64, 0x4, 1, 0xFFFF, 0x0, 0x0, 0x0, 0x0, 0x0⟩,
    ⟨"RED_HOLD_CNT", 0x68, 0x4, 1, 0xFFFF, 0x0, 0x0, 0x0, 0x0, 0x0⟩,
    ⟨"RED_DIRECT_CNT", 0x6C, 0x4, 1, 0xFFFF, 0x0, 0x0, 0x0, 0x0, 0x0⟩,
    ⟨"RED_TW_ADDR_LO", 0x70, 0x4, 1, 0xFFFFFFFF, 0x0, 0x0, 0x0, 0x0, 0x0⟩,
    ⟨"RED_TW_ADDR_HI", 0x74, 0x4, 1, 0xFF, 0x0, 0x0, 0x0, 0x0, 0x0⟩,
    ⟨"RED_TW_DATA", 0x78, 0x4, 1, 0xFFFFFFFF, 0x0, 0x0, 0x0, 0x0, 0x0⟩,
    ⟨"RED_TW_GO", 0x7C, 0x4, 1, 0x0, 0x0, 0x0, 0x1, 0x0, 0x0⟩,
    ⟨"RED_TW_STAT", 0x80, 0x4, 1, 0x0, 0x0, 0x0, 0x0, 0x0, 0x0⟩,
    ⟨"RED_SWAP_CNT", 0x84, 0x4, 1, 0x0, 0x0, 0x0, 0x0, 0x0, 0x0⟩,
    ⟨"RED_SWAP_T_LO", 0x88, 0x4, 1, 0x0, 0x0, 0x0, 0x0, 0x0, 0x0⟩,
    ⟨"RED_SWAP_T_HI", 0x8C, 0x4, 1, 0x0, 0x0, 0x0, 0x0, 0x0, 0x0⟩,
    ⟨"RED_PT_INTERVAL", 0x90, 0x4, 1, 0x0, 0x0, 0x0, 0x0, 0xFFFF, 0x2D0⟩,
    ⟨"RED_DISC_RPT", 0x94, 0x4, 1, 0x0, 0x0, 0x0, 0x0, 0x0, 0x0⟩ ]

/-- The registers of the DSP page (R437 of 18_spectral_processors.md). -/
def regs_dsp : List RegDef :=
  [ ⟨"DSP_CTRL", 0x40, 0x4, 1, 0x0, 0x0, 0x0, 0x0, 0x1, 0x1⟩,
    ⟨"DSP_STAT", 0x44, 0x4, 1, 0x0, 0x0, 0x0, 0x0, 0x0, 0x0⟩,
    ⟨"DSP_ERR", 0x48, 0x4, 1, 0x0, 0x1F, 0x0, 0x0, 0x0, 0x0⟩,
    ⟨"DSP_SUBMIT", 0x4C, 0x4, 1, 0x0, 0x0, 0x0, 0x1FFFF8, 0x0, 0x0⟩,
    ⟨"DSP_CMD", 0x50, 0x4, 1, 0x0, 0x0, 0x0, 0xF, 0x0, 0x0⟩,
    ⟨"DSP_JOB", 0x54, 0x4, 1, 0x0, 0x0, 0x0, 0x0, 0x0, 0x0⟩,
    ⟨"DSP_LOOP", 0x58, 0x4, 3, 0x0, 0x0, 0x0, 0x0, 0x0, 0x0⟩,
    ⟨"DSP_CLK", 0x64, 0x4, 1, 0x0, 0x0, 0x0, 0x0, 0x0, 0x0⟩,
    ⟨"DSP_DONE_CNT", 0x68, 0x4, 1, 0x0, 0x0, 0x0, 0x0, 0x0, 0x0⟩,
    ⟨"DSP_VMF_AREA", 0x6C, 0x4, 1, 0x0, 0x0, 0x0, 0x0, 0x0, 0x0⟩ ]

/-- The registers of the CAN page (R450 of 19_can_fd.md). -/
def regs_can : List RegDef :=
  [ ⟨"CAN_CTRL", 0x40, 0x4, 1, 0x0, 0x0, 0x0, 0x0, 0x7F, 0x0⟩,
    ⟨"CAN_STAT", 0x44, 0x4, 1, 0x0, 0x0, 0x0, 0x0, 0x0, 0x0⟩,
    ⟨"CAN_ERR", 0x48, 0x4, 1, 0x0, 0x1FF, 0x0, 0x0, 0x0, 0x0⟩,
    ⟨"CAN_NBT", 0x4C, 0x4, 1, 0x0, 0x0, 0x0, 0x0, 0x7FFFFFF, 0x1F3EFC0⟩,
    ⟨"CAN_DBT", 0x50, 0x4, 1, 0x0, 0x0, 0x0, 0x0, 0x3FFFF, 0x1DFC0⟩,
    ⟨"CAN_TDC", 0x54, 0x4, 1, 0x0, 0x0, 0x0, 0x0, 0x7F, 0x0⟩,
    ⟨"CAN_RETRY", 0x58, 0x4, 1, 0x0, 0x0, 0x0, 0x0, 0xFF, 0x10⟩,
    ⟨"CAN_ECNT", 0x5C, 0x4, 1, 0x0, 0x0, 0x0, 0x0, 0x0, 0x0⟩,
    ⟨"CAN_LOST_CNT", 0x60, 0x4, 1, 0xFFFFFFFF, 0x0, 0x0, 0x0, 0x0, 0x0⟩,
    ⟨"CAN_EV_CFG", 0x64, 0x4, 1, 0x7F, 0x0, 0x0, 0x0, 0x0, 0x1⟩,
    ⟨"CAN_TXCMD", 0x68, 0x4, 1, 0x0, 0x0, 0x0, 0x3, 0x0, 0x0⟩,
    ⟨"CAN_TXF_ID", 0x100, 0x4, 1, 0x3FFFFFFF, 0x0, 0x0, 0x0, 0x0, 0x0⟩,
    ⟨"CAN_TXF_CTL", 0x104, 0x4, 1, 0xFF, 0x0, 0x0, 0x0, 0x0, 0x0⟩,
    ⟨"CAN_TXF_DATA", 0x108, 0x4, 16, 0xFFFFFFFF, 0x0, 0x0, 0x0, 0x0, 0x0⟩,
    ⟨"CAN_TXF_PUSH", 0x148, 0x4, 1, 0x0, 0x0, 0x0, 0x1, 0x0, 0x0⟩,
    ⟨"CAN_TXD_ID", 0x180, 0x4, 1, 0x3FFFFFFF, 0x0, 0x0, 0x0, 0x0, 0x0⟩,
    ⟨"CAN_TXD_CTL", 0x184, 0x4, 1, 0xFF, 0x0, 0x0, 0x0, 0x0, 0x0⟩,
    ⟨"CAN_TXD_DATA", 0x188, 0x4, 16, 0xFFFFFFFF, 0x0, 0x0, 0x0, 0x0, 0x0⟩,
    ⟨"CAN_TXD_SEND", 0x1C8, 0x4, 1, 0x0, 0x0, 0x0, 0x1, 0x0, 0x0⟩,
    ⟨"CAN_RXF_ID", 0x200, 0x4, 1, 0x0, 0x0, 0x0, 0x0, 0x0, 0x0⟩,
    ⟨"CAN_RXF_CTL", 0x204, 0x4, 1, 0x0, 0x0, 0x0, 0x0, 0x0, 0x0⟩,
    ⟨"CAN_RXF_TS", 0x208, 0x4, 1, 0x0, 0x0, 0x0, 0x0, 0x0, 0x0⟩,
    ⟨"CAN_RXF_DATA", 0x20C, 0x4, 16, 0x0, 0x0, 0x0, 0x0, 0x0, 0x0⟩,
    ⟨"CAN_RXF_POP", 0x24C, 0x4, 1, 0x0, 0x0, 0x0, 0x1, 0x0, 0x0⟩ ] ++
  [ ⟨"CAN_HP_ID", 0x280, 0x4, 1, 0x0, 0x0, 0x0, 0x0, 0x0, 0x0⟩,
    ⟨"CAN_HP_CTL", 0x284, 0x4, 1, 0x0, 0x0, 0x0, 0x0, 0x0, 0x0⟩,
    ⟨"CAN_HP_TS", 0x288, 0x4, 1, 0x0, 0x0, 0x0, 0x0, 0x0, 0x0⟩,
    ⟨"CAN_HP_DATA", 0x28C, 0x4, 16, 0x0, 0x0, 0x0, 0x0, 0x0, 0x0⟩,
    ⟨"CAN_FLT_ID", 0x400, 0x10, 64, 0x0, 0x0, 0x0, 0x0, 0x3FFFFFFF, 0x0⟩,
    ⟨"CAN_FLT_MASK", 0x404, 0x10, 64, 0x0, 0x0, 0x0, 0x0, 0x1FFFFFFF, 0x0⟩,
    ⟨"CAN_FLT_CFG", 0x408, 0x10, 64, 0x0, 0x0, 0x0, 0x0, 0x1F, 0x0⟩ ]

/-- The registers of the PCIE page (R457 of 20_host_memory_network.md). -/
def regs_pcie : List RegDef :=
  [ ⟨"PCIE_STAT", 0x40, 0x4, 1, 0x0, 0x0, 0x0, 0x0, 0x0, 0x0⟩,
    ⟨"PCIE_ERR", 0x44, 0x4, 1, 0x0, 0x1F, 0x0, 0x0, 0x0, 0x0⟩,
    ⟨"PCIE_ID", 0x48, 0x4, 1, 0x0, 0x0, 0x0, 0x0, 0x0, 0x0⟩,
    ⟨"PCIE_IB_BASE", 0x50, 0x8, 1, 0xFFFF, 0x0, 0x0, 0x0, 0x0, 0x10⟩,
    ⟨"PCIE_IB_BASE", 0x58, 0x8, 1, 0xFFFF, 0x0, 0x0, 0x0, 0x0, 0x40⟩,
    ⟨"PCIE_IB_CFG", 0x54, 0x8, 2, 0x1, 0x0, 0x0, 0x0, 0x0, 0x1⟩,
    ⟨"PCIE_OB_BASE_LO", 0x60, 0x4, 1, 0xFFFFF000, 0x0, 0x0, 0x0, 0x0, 0x0⟩,
    ⟨"PCIE_OB_BASE_HI", 0x64, 0x4, 1, 0xFFFFFFFF, 0x0, 0x0, 0x0, 0x0, 0x0⟩,
    ⟨"PCIE_OB_TMO", 0x68, 0x4, 1, 0xFF, 0x0, 0x0, 0x0, 0x0, 0x32⟩,
    ⟨"PCIE_MSIX_FIRE_LO", 0x6C, 0x4, 1, 0x0, 0x0, 0x0, 0xFFFFFFFF, 0x0, 0x0⟩,
    ⟨"PCIE_MSIX_FIRE_HI", 0x70, 0x4, 1, 0x0, 0x0, 0x0, 0xFFFFFFFF, 0x0, 0x0⟩,
    ⟨"PCIE_MSIX_SRC", 0x100, 0x4, 64, 0x1FF, 0x0, 0x0, 0x0, 0x0, 0x0⟩ ]

/-- The registers of the ETH page (R463 of 20_host_memory_network.md). -/
def regs_eth : List RegDef :=
  [ ⟨"ETH_CTRL", 0x40, 0x4, 1, 0x0, 0x0, 0x0, 0x0, 0x1F, 0x0⟩,
    ⟨"ETH_STAT", 0x44, 0x4, 1, 0x0, 0x0, 0x0, 0x0, 0x0, 0x0⟩,
    ⟨"ETH_ERR", 0x48, 0x4, 1, 0x0, 0xF, 0x0, 0x0, 0x0, 0x0⟩,
    ⟨"ETH_MAC_LO", 0x4C, 0x4, 1, 0xFFFFFFFF, 0x0, 0x0, 0x0, 0x0, 0x0⟩,
    ⟨"ETH_MAC_HI", 0x50, 0x4, 1, 0xFFFF, 0x0, 0x0, 0x0, 0x0, 0x0⟩,
    ⟨"ETH_MCH_LO", 0x54, 0x4, 1, 0xFFFFFFFF, 0x0, 0x0, 0x0, 0x0, 0x0⟩,
    ⟨"ETH_MCH_HI", 0x58, 0x4, 1, 0xFFFFFFFF, 0x0, 0x0, 0x0, 0x0, 0x0⟩,
    ⟨"ETH_VID", 0x60, 0x4, 16, 0x8FFF, 0x0, 0x0, 0x0, 0x0, 0x0⟩,
    ⟨"ETH_RING_BASE", 0xA0, 0x10, 3, 0xFFFFFFFF, 0x0, 0x0, 0x0, 0x0, 0x0⟩,
    ⟨"ETH_RING_SIZE", 0xA4, 0x10, 3, 0x7FF, 0x0, 0x0, 0x0, 0x0, 0x10⟩,
    ⟨"ETH_RING_HEAD", 0xA8, 0x10, 3, 0x0, 0x0, 0x0, 0x0, 0x0, 0x0⟩,
    ⟨"ETH_RING_TAIL", 0xAC, 0x10, 3, 0x3FF, 0x0, 0x0, 0x0, 0x0, 0x0⟩,
    ⟨"ETH_RX_LAT", 0xD0, 0x4, 1, 0xFFFF, 0x0, 0x0, 0x0, 0x0, 0x0⟩,
    ⟨"ETH_TX_LAT", 0xD4, 0x4, 1, 0xFFFF, 0x0, 0x0, 0x0, 0x0, 0x0⟩,
    ⟨"ETH_DROP_CNT", 0xD8, 0x4, 1, 0xFFFF, 0x0, 0x0, 0x0, 0x0, 0x0⟩ ]

/-- The registers of the SDC page (R468 of 20_host_memory_network.md). -/
def regs_sdc : List RegDef :=
  [ ⟨"SDC_CTRL", 0x40, 0x4, 1, 0x3, 0x0, 0x0, 0x0, 0x0, 0x1⟩,
    ⟨"SDC_STAT", 0x44, 0x4, 1, 0x0, 0x0, 0x0, 0x0, 0x0, 0x0⟩,
    ⟨"SDC_ERR", 0x48, 0x4, 1, 0x0, 0x7, 0x0, 0x0, 0x0, 0x0⟩,
    ⟨"SDC_CFG", 0x4C, 0x4, 1, 0x0, 0x0, 0x0, 0x0, 0x1F, 0x0⟩,
    ⟨"SDC_TIM", 0x50, 0x4, 12, 0x0, 0x0, 0x0, 0x0, 0xFFFFFFFF, 0x0⟩,
    ⟨"SDC_CE_CNT", 0x80, 0x4, 1, 0xFFFF, 0x0, 0x0, 0x0, 0x0, 0x0⟩,
    ⟨"SDC_ECC_ADDR_LO", 0x84, 0x4, 1, 0x0, 0x0, 0x0, 0x0, 0x0, 0x0⟩,
    ⟨"SDC_ECC_ADDR_HI", 0x88, 0x4, 1, 0x0, 0x0, 0x0, 0x0, 0x0, 0x0⟩,
    ⟨"SDC_FILL_PTR", 0x8C, 0x4, 1, 0x0, 0x0, 0x0, 0x0, 0x0, 0x0⟩ ]

/-- The registers of the XSPI page (R473 of 20_host_memory_network.md). -/
def regs_xspi : List RegDef :=
  [ ⟨"XSPI_CTRL", 0x40, 0x4, 1, 0x0, 0x0, 0x0, 0x0, 0x3, 0x0⟩,
    ⟨"XSPI_STAT", 0x44, 0x4, 1, 0x0, 0x0, 0x0, 0x0, 0x0, 0x0⟩,
    ⟨"XSPI_ADDR", 0x48, 0x4, 1, 0xFFFFFFF, 0x0, 0x0, 0x0, 0x0, 0x0⟩,
    ⟨"XSPI_CMD", 0x4C, 0x4, 1, 0x0, 0x0, 0x0, 0x3, 0x0, 0x0⟩,
    ⟨"SPI_CFG", 0x200, 0x40, 2, 0x3FF03, 0x0, 0x0, 0x0, 0x0, 0x400⟩,
    ⟨"SPI_CMD", 0x204, 0x40, 2, 0x0, 0x0, 0x0, 0x13F, 0x0, 0x0⟩,
    ⟨"SPI_STAT", 0x208, 0x40, 2, 0x0, 0x0, 0x0, 0x0, 0x0, 0x0⟩,
    ⟨"SPI_DATA", 0x20C, 0x40, 2, 0xFF, 0x0, 0x0, 0x0, 0x0, 0x0⟩,
    ⟨"SMB_CFG", 0x300, 0x40, 2, 0x0, 0x0, 0x0, 0x0, 0xFFF, 0x0⟩,
    ⟨"SMB_CMD", 0x304, 0x40, 2, 0x0, 0x0, 0x0, 0x80FF07FF, 0x0, 0x0⟩,
    ⟨"SMB_STAT", 0x308, 0x40, 2, 0x0, 0x0, 0x0, 0x0, 0x0, 0x0⟩,
    ⟨"SMB_ERR", 0x30C, 0x40, 2, 0x0, 0xF, 0x0, 0x0, 0x0, 0x0⟩,
    ⟨"SMB_DATA", 0x310, 0x40, 2, 0xFF, 0x0, 0x0, 0x0, 0x0, 0x0⟩ ]

/-- The registers of the PWR page (R482 of 21_power_states.md). -/
def regs_pwr : List RegDef :=
  [ ⟨"PWR_REQ", 0x40, 0x4, 1, 0x0, 0x0, 0x0, 0x0, 0x1F7, 0x0⟩,
    ⟨"PWR_STAT", 0x44, 0x4, 1, 0x0, 0x0, 0x0, 0x0, 0x0, 0x0⟩,
    ⟨"PWR_ERR", 0x48, 0x4, 1, 0x0, 0x3, 0x0, 0x0, 0x0, 0x0⟩,
    ⟨"PWR_REFUSE", 0x4C, 0x4, 1, 0x0, 0x0, 0x0, 0x0, 0x0, 0x0⟩,
    ⟨"PWR_WAKE_EN", 0x50, 0x4, 1, 0x7FF, 0x0, 0x0, 0x0, 0x0, 0x0⟩,
    ⟨"PWR_WAKE_POL", 0x54, 0x4, 1, 0xFF, 0x0, 0x0, 0x0, 0x0, 0x0⟩,
    ⟨"PWR_WAKE_TGT", 0x58, 0x4, 1, 0x1F, 0x0, 0x0, 0x0, 0x0, 0x1F⟩,
    ⟨"PWR_WAKE_SRC", 0x5C, 0x4, 1, 0x0, 0x3FFF, 0x0, 0x0, 0x0, 0x0⟩,
    ⟨"PWR_RTC_LO", 0x60, 0x4, 1, 0x0, 0x0, 0x0, 0x0, 0x0, 0x0⟩,
    ⟨"PWR_RTC_HI", 0x64, 0x4, 1, 0x0, 0x0, 0x0, 0x0, 0x0, 0x0⟩,
    ⟨"PWR_RTC_CMP_LO", 0x68, 0x4, 1, 0xFFFFFFFF, 0x0, 0x0, 0x0, 0x0, 0xFFFFFFFF⟩,
    ⟨"PWR_RTC_CMP_HI", 0x6C, 0x4, 1, 0xFFFF, 0x0, 0x0, 0x0, 0x0, 0xFFFF⟩,
    ⟨"PWR_RESUME_LO", 0x70, 0x4, 1, 0xFFFFFFFC, 0x0, 0x0, 0x0, 0x0, 0x0⟩,
    ⟨"PWR_RESUME_HI", 0x74, 0x4, 1, 0xFF, 0x0, 0x0, 0x0, 0x0, 0x0⟩,
    ⟨"PWR_SCRATCH", 0x80, 0x4, 64, 0xFFFFFFFF, 0x0, 0x0, 0x0, 0x0, 0x0⟩ ]

/-- The registers of the SEC page (R502 of 22_security_and_records.md). -/
def regs_sec : List RegDef :=
  [ ⟨"SEC_STAT", 0x40, 0x4, 1, 0x0, 0x0, 0x0, 0x0, 0x0, 0x0⟩,
    ⟨"SEC_LC_ADV", 0x44, 0x4, 1, 0x0, 0x0, 0x0, 0xFFFFFFFF, 0x0, 0x0⟩,
    ⟨"SEC_ERR", 0x48, 0x4, 1, 0x0, 0x3F, 0x0, 0x0, 0x0, 0x0⟩,
    ⟨"SEC_KEY_SEL", 0x4C, 0x4, 1, 0x7, 0x0, 0x0, 0x0, 0x0, 0x0⟩,
    ⟨"SEC_KEY_HASH", 0x50, 0x4, 8, 0xFFFFFFFF, 0x0, 0x0, 0x0, 0x0, 0x0⟩,
    ⟨"SEC_KEY_CMD", 0x70, 0x4, 1, 0x0, 0x0, 0x0, 0x3, 0x0, 0x0⟩,
    ⟨"SEC_CTR_SEL", 0x74, 0x4, 1, 0x3F, 0x0, 0x0, 0x0, 0x0, 0x0⟩,
    ⟨"SEC_CTR", 0x78, 0x4, 1, 0x0, 0x0, 0x0, 0x0, 0x0, 0x0⟩,
    ⟨"SEC_CTR_ADV", 0x7C, 0x4, 1, 0x0, 0x0, 0x0, 0xFF, 0x0, 0x0⟩,
    ⟨"SEC_ATT_ADDR_LO", 0x80, 0x4, 1, 0xFFFFFFF8, 0x0, 0x0, 0x0, 0x0, 0x0⟩,
    ⟨"SEC_ATT_ADDR_HI", 0x84, 0x4, 1, 0xFF, 0x0, 0x0, 0x0, 0x0, 0x0⟩,
    ⟨"SEC_ATT_CMD", 0x88, 0x4, 1, 0x0, 0x0, 0x0, 0x1, 0x0, 0x0⟩,
    ⟨"SEC_ATT_STAT", 0x8C, 0x4, 1, 0x0, 0x0, 0x0, 0x0, 0x0, 0x0⟩,
    ⟨"SEC_IMG_SEL", 0x90, 0x4, 1, 0x7, 0x0, 0x0, 0x0, 0x0, 0x0⟩,
    ⟨"SEC_IMG_INFO", 0x94, 0x4, 1, 0x0, 0x0, 0x0, 0x0, 0x0, 0x0⟩,
    ⟨"SEC_IMG_D", 0x98, 0x4, 8, 0x0, 0x0, 0x0, 0x0, 0x0, 0x0⟩,
    ⟨"SEC_EA_STAT", 0xC0, 0x4, 1, 0x0, 0x0, 0x0, 0x0, 0x0, 0x0⟩,
    ⟨"SEC_EA_SEL", 0xC4, 0x4, 1, 0xFF, 0x0, 0x0, 0x0, 0x0, 0x0⟩,
    ⟨"SEC_EA_POST_CODE", 0xC8, 0x4, 1, 0xFFFF, 0x0, 0x0, 0x0, 0x0, 0x0⟩,
    ⟨"SEC_EA_POST", 0xCC, 0x4, 1, 0x0, 0x0, 0x0, 0x1, 0x0, 0x0⟩,
    ⟨"SEC_EA_ARG", 0xD0, 0x4, 4, 0xFFFFFFFF, 0x0, 0x0, 0x0, 0x0, 0x0⟩,
    ⟨"SEC_POH", 0xE0, 0x4, 1, 0x0, 0x0, 0x0, 0x0, 0x0, 0x0⟩,
    ⟨"SEC_COL_ADDR", 0xE4, 0x4, 1, 0xFFC, 0x0, 0x0, 0x0, 0x0, 0x0⟩,
    ⟨"SEC_COL_DATA", 0xE8, 0x4, 1, 0x0, 0x0, 0x0, 0x0, 0x0, 0x0⟩ ] ++
  [ ⟨"SEC_SECRET_PROG", 0xEC, 0x4, 1, 0x0, 0x0, 0x0, 0x3F, 0x0, 0x0⟩,
    ⟨"SEC_SECRET_LOCK", 0xF0, 0x4, 1, 0x0, 0x0, 0x1, 0x0, 0x0, 0x0⟩,
    ⟨"SEC_RET_CMD", 0xF4, 0x4, 1, 0x0, 0x0, 0x0, 0x1, 0x0, 0x0⟩,
    ⟨"SEC_RET_ADDR0", 0xF8, 0x4, 1, 0xFFFFFFFF, 0x0, 0x0, 0x0, 0x0, 0x0⟩,
    ⟨"SEC_RET_ADDR1", 0xFC, 0x4, 1, 0xFFFFFFFF, 0x0, 0x0, 0x0, 0x0, 0x0⟩,
    ⟨"SEC_EA_DATA", 0x100, 0x4, 64, 0x0, 0x0, 0x0, 0x0, 0x0, 0x0⟩,
    ⟨"SEC_SECRET", 0x200, 0x4, 64, 0x0, 0x0, 0x0, 0x0, 0x0, 0x0⟩,
    ⟨"SEC_RET_CHAL", 0x300, 0x4, 8, 0x0, 0x0, 0x0, 0x0, 0x0, 0x0⟩ ]

/-- The registers of the DBG page (R503 of 22_security_and_records.md). -/
def regs_dbg : List RegDef :=
  [ ⟨"DBG_AUTH_STAT", 0x40, 0x4, 1, 0x0, 0x0, 0x0, 0x0, 0x0, 0x0⟩,
    ⟨"DBG_CTRL", 0x44, 0x4, 1, 0x0, 0x0, 0x1, 0x0, 0x0, 0x0⟩,
    ⟨"DBG_SYSRST", 0x48, 0x4, 1, 0x0, 0x0, 0x0, 0x1, 0x0, 0x0⟩,
    ⟨"DBG_AUTH_REQ", 0x4C, 0x4, 1, 0x0, 0x0, 0x0, 0x1, 0x0, 0x0⟩,
    ⟨"DBG_TOK_ADDR", 0x50, 0x4, 1, 0x1FFC, 0x0, 0x0, 0x0, 0x0, 0x0⟩,
    ⟨"DBG_TOK_DATA", 0x54, 0x4, 1, 0x0, 0x0, 0x0, 0xFFFFFFFF, 0x0, 0x0⟩,
    ⟨"DBG_CHAL", 0x60, 0x4, 8, 0x0, 0x0, 0x0, 0x0, 0x0, 0x0⟩ ]

/-- The home domains of R22. -/
inductive Home where
  | fab | rtc | wing | dp | tb | sz | can | sdc | safe
  deriving DecidableEq, Repr

/-- One register page of R61: block code, page index, wing, home domain and register table. -/
structure PageDef where
  code : Nat
  index : Nat
  wing : Nat
  home : Home
  regs : List RegDef
  deriving DecidableEq, Repr

/-- The pages of wing window w by page number q in the window (R62). -/
def wingPage (w q : Nat) : Option PageDef :=
  if q = 0 then some ⟨0x10, 0, w, .wing, regs_wing⟩
  else if q = 1 then some ⟨0x11, 1, w, .wing, regs_le⟩
  else if q = 2 then some ⟨0x12, 2, w, .wing, regs_ps⟩
  else if q = 3 then some ⟨0x13, 3, w, .wing, regs_dsp⟩
  else if q = 4 then some ⟨0x14, 4, w, .wing, regs_ledger⟩
  else if 16 ≤ q ∧ q < 64 then some ⟨0x15, q, w, .wing, regs_car⟩
  else none

/-- The register tables of the sixteen DISP pages (R120). -/
def dispRegs (q : Nat) : List RegDef :=
  if q = 0 then regs_disp0 else if q ≤ 8 then regs_dispc
  else if q = 9 then regs_disp9 else if q = 10 then regs_disp10
  else if q = 11 then regs_disp11 else if q = 12 then regs_disp12
  else if q = 13 then regs_disp13 else if q = 14 then regs_disp14 else []

/-- The registers of mailbox 0, whose sender resets to the PCIe host (R133). -/
def regs_mbx0 : List RegDef := regs_mbx.map (fun r => if r.off = 0x44 then { r with rst := 0x400 } else r)

/-- The page with number n in the register space (n = (address − 0x4000_0000) / 0x1000), after R61 and R62. -/
def pageAt (n : Nat) : Option PageDef :=
  if n = 0x000 then some ⟨0x01, 0, 0, .fab, regs_sys⟩
  else if n = 0x001 then some ⟨0x02, 0, 0, .rtc, regs_pwr⟩
  else if n = 0x002 then some ⟨0x03, 0, 0, .fab, regs_sec⟩
  else if n = 0x003 then some ⟨0x04, 0, 0, .fab, regs_dbg⟩
  else if n < 0x010 then none
  else if n < 0x020 then some ⟨0x05, n - 0x010, 0, .fab, dispRegs (n - 0x010)⟩
  else if n < 0x040 then some ⟨0x06, n - 0x020, 0, .fab, if n = 0x020 then regs_mbx0 else regs_mbx⟩
  else if n = 0x040 then some ⟨0x07, 0, 0, .fab, regs_loan⟩
  else if n < 0x100 then none
  else if n < 0x200 then wingPage ((n - 0x100) / 0x40) ((n - 0x100) % 0x40)
  else if n = 0x200 then some ⟨0x20, 0, 0, .wing, regs_solv⟩
  else if n = 0x210 then some ⟨0x21, 0, 0, .dp, regs_vmf⟩
  else if n = 0x220 then some ⟨0x22, 0, 0, .wing, regs_ssm⟩
  else if n = 0x300 then some ⟨0x30, 0, 0, .tb, regs_pwmc⟩
  else if n = 0x310 then some ⟨0x32, 0, 0, .tb, regs_sdm⟩
  else if 0x320 ≤ n ∧ n < 0x338 then some ⟨0x33, n - 0x320, 0, .tb, regs_fbk⟩
  else if 0x380 ≤ n ∧ n < 0x390 then some ⟨0x31, n - 0x380, 0, .tb, regs_pwmch⟩
  else if n = 0x400 then some ⟨0x40, 0, 0, .sz, regs_szn⟩
  else if n = 0x410 then some ⟨0x42, 0, 0, .sz, regs_fab⟩
  else if n = 0x420 then some ⟨0x43, 0, 0, .tb, regs_red⟩
  else if 0x480 ≤ n ∧ n < 0x4C0 then some ⟨0x41, n - 0x480, 0, .sz, regs_szp⟩
  else if 0x500 ≤ n ∧ n < 0x504 then some ⟨0x50, n - 0x500, 0, .can, regs_can⟩
  else if 0x510 ≤ n ∧ n < 0x512 then some ⟨0x51, n - 0x510, 0, .fab, regs_eth⟩
  else if n = 0x520 then some ⟨0x52, 0, 0, .fab, regs_pcie⟩
  else if n = 0x530 then some ⟨0x53, 0, 0, .sdc, regs_sdc⟩
  else if n = 0x540 then some ⟨0x54, 0, 0, .fab, regs_xspi⟩
  else if n = 0x550 then some ⟨0x55, 0, 0, .tb, regs_gpio⟩
  else if n = 0x551 then some ⟨0x55, 1, 0, .tb, regs_cap⟩
  else if n = 0x552 then some ⟨0x55, 2, 0, .tb, regs_cmp⟩
  else if n = 0x600 then some ⟨0x60, 0, 0, .safe, regs_safe01⟩
  else if n = 0x601 then some ⟨0x60, 1, 0, .safe, regs_safe01⟩
  else if n = 0x602 then some ⟨0x60, 2, 0, .safe, regs_safe2⟩
  else if n = 0x603 then some ⟨0x60, 3, 0, .safe, regs_safe3⟩
  else none

/-- The page an address lies in, none where the register space has no page there (R60). -/
def pageOf (a : Nat) : Option PageDef :=
  if 0x40000000 ≤ a ∧ a < 0x41000000 then pageAt (a / 0x1000 % 0x40000) else none

/-- The base address of the page that an address lies in. -/
def pageBase (a : Nat) : Nat := a - a % 0x1000

/-- Whether a table row holds the register at offset `off`. -/
def RegDef.holds (r : RegDef) (off : Nat) : Bool :=
  decide (r.off ≤ off) && decide (off < r.off + r.stride * r.count) && decide ((off - r.off) % r.stride = 0)

/-- The table row of an address: none for a reserved address (R63) or no page. -/
def regDef (a : Nat) : Option RegDef :=
  match pageOf a with
  | none => none
  | some p =>
    let off := a % 0x1000
    if off < 0x40 then regs_hdr.find? (fun r => r.holds off) else p.regs.find? (fun r => r.holds off)

/-- PAGE_ID of a page (R66). -/
def pageId (p : PageDef) : Word := BitVec.ofNat 32 (p.code + p.index * 0x100 + p.wing * 0x10000)

/-- The reset value of the register at an address before straps and image (R8); 0 at a reserved address. -/
def regDefault (a : Nat) : Word :=
  match pageOf a with
  | none => 0#32
  | some p =>
    if a % 0x1000 = 0 then pageId p
    else match regDef a with
      | some r => BitVec.ofNat 32 r.rst
      | none => 0#32

end Sys2Proof.Machine
end

