-- ==== Sys2Proof/Machine/State.lean ====
section
/-! DEFINITION. The state of the block as plain data. Registers stand in one sparse map by address; what the spec
describes beside registers (queues, contexts, accumulators, filters) has a structure for each block. -/

namespace Sys2Proof.Machine

/-! ### Time base (02_cycle_and_time_base.md) -/

/-- Hidden state of the time base. -/
structure Tb where
  /-- Deck Time in ns (R35). -/
  dt : Nat := 0
  /-- TB ticks passed since the release; a step or reload of Deck Time does not move it. -/
  ticks : Nat := 0
  /-- One more than the number of the last cycle whose tick 0 has been performed; 0 before the first (R42). -/
  cycDone : Nat := 0
  /-- The trim in force, 1/1024 ppb (R37). -/
  trim : Int := 0
  /-- A write of TB_FREQ_ADJ or TB_SLEW_MAX has completed since the trim was last formed (R37). -/
  adjPend : Bool := false
  /-- The integral I and the steering y of R537, 1/1024 ppb. -/
  pllI : Int := 0
  pllY : Int := 0
  /-- A committed phase step that awaits its cycle boundary, signed ns (R38). -/
  stepPend : Option Int := none
  /-- The part-cycle after a step that is no multiple of a cycle (R38). -/
  part : Bool := false
  /-- Consecutive local cycles without a valid cycle-start frame (R39, R370). -/
  lost : Nat := 0
  /-- CORR and SZP_DELAY of the last valid copy of a cycle-start frame, in 1/16 ns: with them the next one is expected
  (R537). -/
  csLate : Nat := 0
  /-- Deck Time is reloaded at the next valid cycle-start frame: accession was lost for want of one (R39). -/
  reload : Bool := false
  /-- Firmware has set TB_CTRL.PTP_LOCKED before (R40). -/
  ptpSet : Bool := false
  /-- The Service Tick's divider has started (R54). -/
  svcRun : Bool := false
  deriving DecidableEq, Repr

/-! ### Pages (03_address_map_and_pages.md) -/

/-- The lock window of a page (R72). -/
structure Lock where
  isOpen : Bool := false
  owner : Nat := 0
  ep : Nat := 0
  remain : Nat := 0
  deriving DecidableEq, Repr

/-- A posted write on its way to the home domain (R23). -/
structure Posted where
  snd : Sender
  addr : Nat
  val : Word
  deriving DecidableEq, Repr

/-- A line of 64 bytes of the cores' caches, which hardware keeps coherent (R100, R102): its number, its bytes, whether they
differ from memory, the cores whose L1 instruction cache or L1 data cache hold it, and the wings whose L2 holds it. -/
structure CacheLine where
  line : Nat
  data : List Byte
  dirty : Bool := false
  l1i : List Nat := []
  l1d : List Nat := []
  l2 : List Nat := []
  deriving DecidableEq, Repr

/-- What the last access answered: the value, and whether it ended with an error response (R60, R64). -/
structure Answer where
  data : Nat := 0
  error : Bool := false
  stalled : Bool := false
  /-- Reason code of a refusal (R73), 0 where it was not refused. -/
  why : Nat := 0
  deriving DecidableEq, Repr

/-! ### Dispatch Unit (05_processors_and_dispatch.md) -/

/-- The states of a thread (R107). -/
inductive ThSt where
  | free | suspended | ready | running | blocked
  deriving DecidableEq, Repr

/-- A time-out of a wait (R116): none, a Deck Time deadline, or the Service Ticks still to run. -/
inductive Tmo where
  | none
  | deck (deadline : Nat)
  | svc (ticks : Nat)
  deriving DecidableEq, Repr

/-- One thread context (R106). -/
structure Thread where
  st : ThSt := .free
  level : Nat := 0
  aff : Nat := 0xFF
  token : Nat := 0
  core : Nat := 0
  wake : Nat := 0
  wakeDc : Nat := 0
  waitAny : Bool := false
  waitDc : Nat := 0
  tmo : Tmo := .none
  deriving DecidableEq, Repr

/-- One dependence counter (R112). -/
structure Counter where
  tid : Nat := 0
  en : Bool := false
  subA : Nat := 0
  subAEn : Bool := false
  subB : Nat := 0
  subBEn : Bool := false
  count : Nat := 0
  reload : Nat := 0
  fired : Nat := 0
  firedOvf : Bool := false
  missed : Bool := false
  deriving DecidableEq, Repr

/-- A stall-class completion that its source holds (R114): the Spectral Processor of a wing, event n of a CAN
controller, a GPIO line, a core's store to DISP_EV_POST, or an
agent's write that acknowledges in a mailbox (R129). -/
inductive StallSrc where
  | dsp (w : Nat)
  | can (i n : Nat)
  | gpio (line : Nat)
  | core (agent ev : Nat)
  | ack (agent m ev : Nat)
  deriving DecidableEq, Repr

/-- Hidden state of the Dispatch Unit and the PLIC. -/
structure Disp where
  th : Sparse Thread := []
  dc : Sparse Counter := []
  /-- READY threads in the order in which they joined; the ready list of a level is its sublist (R108). -/
  rdy : List Nat := []
  /-- The event queue, oldest first, at most 1024 (R114). -/
  evq : List Nat := []
  /-- Held stall-class completions, oldest first (R114). -/
  held : List StallSrc := []
  /-- The assignment in force: pairs of core and thread (R109). -/
  asg : List (Nat × Nat) := []
  /-- PLIC sources claimed and not completed (R105). -/
  plicSvc : List Nat := []
  /-- Start address of each released core (R101). -/
  corePc : Sparse Nat := []
  deriving DecidableEq, Repr

/-! ### Mailboxes (06_mailboxes_and_loans.md) -/

/-- One entry of an acknowledgement memory (R132). -/
structure AckEnt where
  agent : Nat
  ep : Nat
  seq : Nat
  rc : Nat
  deriving DecidableEq, Repr

/-! ### Event Archive (22_security_and_records.md) -/

/-- A record offered to the Event Archive (R498); SEQ and the CRC are formed by the writer. -/
structure EaRec where
  source : Nat
  index : Nat
  code : Nat
  cls : Nat
  dt : Nat
  poh : Nat
  w5 : Nat
  err : Nat
  info : Nat
  addr : Nat
  args : List Nat
  safe : Bool
  deriving DecidableEq, Repr


/-! ### Synzon link (15_synzon_link.md) -/

/-- Link-delay measurement of a port (R353). -/
structure PortDelay where
  /-- Accepted measurements, newest first, in 2^-4 ns. -/
  acc : List Nat := []
  /-- Consecutive discarded measurements. -/
  bad : Nat := 0
  /-- A DLY_REQ awaits its response. -/
  wait : Bool := false
  deriving DecidableEq, Repr

/-- A copy of an expected frame received in this cycle (R368). -/
structure CopyRec where
  kind : Nat
  src : Nat
  dst : Nat
  chanX : Bool
  deriving DecidableEq, Repr

/-- A Catalogue switch on its way (R378). `count` is SW_COUNT of the cycle in progress. -/
structure Switch where
  target : Nat
  id : Nat
  count : Nat
  go : Bool := false
  abort : Bool := false
  acked : List Nat := []
  deriving DecidableEq, Repr

/-- A frame queued or held by a star (R377). -/
structure JoinQ where
  port : Nat
  out : Nat
  frame : TxFrame
  deriving DecidableEq, Repr

/-- Hidden state of the Synzon ports, router and star guardian. -/
structure Szn where
  /-- The eight Catalogue entries of the image (R363). -/
  cat : List CatEntry := []
  /-- Copies received in this cycle (R368). -/
  copies : List CopyRec := []
  /-- Deck Time of the last valid CYCLE_START and how many consecutive valid ones have been seen (R370), by channel
  for the rejoining of a cut-off channel (R376). -/
  csLast : Nat := 0
  csRun : Nat := 0
  rejX : Nat := 0
  rejY : Nat := 0
  /-- A valid CYCLE_START of this cycle has been taken, with its sender, claim and port (R373). -/
  csSeen : Option (Nat × Nat × Nat) := none
  /-- Cut off on X, on Y (R376). -/
  cutX : Bool := false
  cutY : Bool := false
  /-- Cycle boundaries until the device sends again on X, on Y; 0 for none (R376). -/
  rejoinX : Nat := 0
  rejoinY : Nat := 0
  /-- The uplink pair (R364). -/
  uplink : Nat := 0
  /-- Cold cycles sent (R370), cycles in HOLD. -/
  coldSent : Nat := 0
  coldFlag : Bool := false
  holdCnt : Nat := 0
  /-- A member from its accession sends from the next cycle (R370). -/
  sendFrom : Nat := 0
  /-- The switch in progress and the last SW_ID (R378). -/
  sw : Option Switch := none
  swIdLast : Nat := 0
  /-- The acknowledgement that a member sets in its frames (R378). -/
  ackOut : Option (Nat × Nat) := none
  /-- A member that missed GO sends nothing until a CYCLE_START (R379). -/
  missedGo : Bool := false
  /-- Outgoing service messages, oldest first, at most eight (R361). -/
  svcq : List SvcMsg := []
  delays : Sparse PortDelay := []
  /-- Ports with a frame outside its window in this cycle, and ports with any frame (R375). -/
  bad : List Nat := []
  good : List Nat := []
  /-- Ports whose CUTOFF clears at the next boundary (R376). -/
  reinstate : List Nat := []
  /-- JOIN frames queued by a star, and ingress ports that delivered one in this cycle (R377). -/
  joinQ : List JoinQ := []
  /-- Ingress and egress ports of the JOIN frames forwarded in this cycle (R377). -/
  joinSeen : List (Nat × Nat) := []
  /-- The winning port of the COLD arbitration on X and on Y and its cycles of absence (R371). -/
  coldWinX : Option Nat := none
  coldWinY : Option Nat := none
  coldAbsent : Nat := 0
  /-- Cycle + 1 in which a member was last admitted, by endpoint (R97). -/
  admitted : Sparse Nat := []
  /-- The last TAG of a remote access, its pending flag and age (R362). -/
  raTag : Nat := 0
  raWait : Nat := 0
  /-- Last request executed per SRC: TAG and stored response (R400). -/
  raLast : Sparse (Nat × List Nat) := []
  /-- WAKE ordered sets that the last SEND_WAKE sent (R380). -/
  wakeSent : Nat := 0
  /-- DLY_REQ and DLY_RSP ordered sets sent since reset (R353). -/
  dlyReq : Nat := 0
  dlyRsp : Nat := 0
  /-- Frames that the receiver takes at the latches: newest in-time and late feedback items by carrel (R44). -/
  fbNew : Sparse (Option FbItem) := []
  fbLate : Sparse (Option FbItem) := []
  /-- Items of this cycle that missed its latch and wait for the next (R44). -/
  fbNext : Sparse (Option FbItem) := []
  /-- IMU and target items of this cycle that missed FBD: IMU and sender, sender (R44). -/
  imuNext : List (Nat × Nat × ImuItem) := []
  tgtNext : List (Nat × TgtItem) := []
  /-- Command frame sets received for APD: source, claim, items, late (R44, R404). -/
  cmdNew : List (Nat × Nat × List CmdItem) := []
  cmdLate : List (Nat × Nat × List CmdItem) := []
  /-- Those of this cycle that missed its APD and wait for the next (R44). -/
  cmdNext : List (Nat × Nat × List CmdItem) := []
  deriving DecidableEq, Repr

/-! ### Fabric (16_fabric.md) -/

/-- What the walk knows of a device (R391, R401). -/
structure DevStat where
  st : Nat := 0
  why : Nat := 0
  uid : Nat := 0
  /-- The port on which its IDENTIFY arrived (R390). -/
  up : Nat := 0
  deriving DecidableEq, Repr

/-- Hidden state of discovery, routing, image loading and agreement. -/
structure Fab where
  dev : Sparse DevStat := []
  rt : Sparse RtEntry := []
  /-- Staged FAB_RT_A (R401). -/
  rtStage : Nat := 0
  /-- Table entries still to be visited by the walk, and entries to be sealed (R391). -/
  todo : List Nat := []
  toSeal : List Nat := []
  /-- WRITE operations still to be sent to the device being walked: address and words (R391). -/
  wrq : List (Nat × List Nat) := []
  /-- The entry that the walk waits for, the operation sent, and the cycles since. -/
  wait : Option (Nat × Nat) := none
  waitCnt : Nat := 0
  tag : Nat := 0
  /-- Last operation executed per SRC with its reply (R390). -/
  opLast : Sparse (Nat × DiscBody) := []
  /-- Chunks held of the image being received: image and chunk numbers (R394). -/
  held : List (Nat × Nat × List Byte) := []
  /-- Image, chunk and length of the LOAD frame sent last (R394). -/
  loadPos : Option (Nat × Nat × Nat) := none
  /-- Cycles since the last MISMATCH message (R398). -/
  misCnt : Nat := 0
  /-- The device disables its carrels at the next boundary (R398). -/
  holdPend : Bool := false
  deriving DecidableEq, Repr

/-! ### Active and Reserve (17_redundancy.md) -/

/-- A command set-point held by a node carrel (R43, R400). -/
structure NodeCmd where
  item : CmdItem := {}
  last : Option Nat := none
  /-- The last APD applied no item to it (R45, R358). -/
  late : Bool := false
  /-- One more than the tick of the latch sent last, and the AGE it was sent with (R369). -/
  sent : Nat := 0
  age : Nat := 0
  deriving DecidableEq, Repr

/-- Hidden state of the redundancy logic. -/
structure Red where
  /-- Source claim of a node (R404), with its source endpoint. -/
  srcClaim : Option (Nat × Nat) := none
  /-- The previous APD took row 4 or row 5 (R404). -/
  prevHold : Bool := false
  /-- The next item is applied as a new command (R405). -/
  fresh : Bool := false
  /-- Discrepancies counted at the last report, and cycles since (R407). -/
  discLast : Nat := 0
  discCnt : Nat := 0
  node : Sparse NodeCmd := []
  /-- Command items of a coordinator's carrels (R359). -/
  out : Sparse CmdItem := []
  /-- Twin writes queued by GO (R414), the frame's writes awaiting tick 100, and RESYNC records received. -/
  twq : List TwinWrite := []
  twNow : List TwinWrite := []
  twSent : List TwinWrite := []
  recs : List RsRec := []
  /-- TWIN frame of this cycle seen, its HEALTH, and that of the previous cycle (R408). -/
  twinSeen : Bool := false
  health : Bool := true
  twinPrev : Option Bool := none
  twinMiss : Bool := false
  /-- HANDOVER received, to be adopted at tick 0; HANDOVER to be sent; a hand-over in progress (R418). -/
  hoRx : Bool := false
  hoTx : Bool := false
  hoWait : Nat := 0
  hoAcks : List Nat := []
  hoArm : Bool := false
  /-- Cycles since the hand-over whose acknowledgements are awaited (R418). -/
  hoTest : Option Nat := none
  /-- Deck Time of the last hand-over that passed (R419). -/
  ptLast : Nat := 0
  /-- The Active sends resynchronisation records: the ones still to go (R416). -/
  rsOn : Bool := false
  rsTodo : List (Nat × Nat × Nat) := []
  rsSnap : List RsRec := []
  /-- What the Active knows of its peer's state: 0 none, 2 STANDBY, 4 RESYNC (R414, R418). -/
  peerSt : Nat := 0
  /-- Cycles since the last RESYNC_REQ (R416). -/
  reqCnt : Nat := 0
  /-- The last update's VMF chunks adopted, and the last MACHINE adoption (R416). -/
  rsU : Nat := 0
  rsM : Nat := 0
  deriving DecidableEq, Repr

/-! ### Safety Island (14_safety_island.md) -/

/-- A supervised axis (R335 to R338). Speeds are in the internal format of R161. -/
structure SAxis where
  /-- The function in force and the one that the demands ask for: 0 RUN, 1 SLS, 2 SS2, 3 SS1, 4 STO, 5 SOS. -/
  func : Nat := 4
  want : Nat := 4
  /-- SLS limit asked for and in force, speed-parameter format. -/
  wantLim : Nat := 0
  limit : Nat := 0
  atRest : Bool := false
  viol : Bool := false
  measDis : Bool := false
  /-- Latches since n_s, the envelope e(k), and latches at rest, above the SLS limit, with a measurement difference. -/
  k : Nat := 0
  env : Nat := 0
  rest : Nat := 0
  slsCnt : Nat := 0
  measCnt : Nat := 0
  sosCount : Int := 0
  /-- Channel A count, channel B counter as a count at the last load and its interface's count then, the counts of B
  at the last latches (newest first), latches since the load, and the larger measured speed. -/
  cntA : Int := 0
  cntB : Int := 0
  base : Int := 0
  cuBase : Int := 0
  hist : List Int := []
  since : Nat := 0
  loaded : Bool := false
  vel : Nat := 0
  /-- Newest commands of the two deciders: function and limit (R330). -/
  cmd0 : Option (Nat × Nat) := none
  cmd1 : Option (Nat × Nat) := none
  /-- Firmware requests: stop function (0 none) and SLS limit index + 1 (R343). -/
  fwStop : Nat := 0
  fwSls : Nat := 0
  /-- The axis goes to STO, or from SS2 to SOS, at the next tick 0 (R337, R338). -/
  stoNext : Bool := false
  sosNext : Bool := false
  /-- The latch of n_s is still to come; an SLS violation has demanded STOP1 (R338). -/
  envNew : Bool := false
  react : Bool := false
  /-- Channel B's own counter, and the filtered lines A, B and Hall state of its channel-B interface (R336). -/
  cu : Int := 0
  linA : Bool := false
  linB : Bool := false
  hall : Nat := 0
  /-- The axis is in STO for a violation or a measurement disagreement: a Category 0 stop (R172, R336 to R338). -/
  cat0 : Bool := false
  deriving DecidableEq, Repr

/-- A machine of a decider (R328): its demand in force with the mask of its SLS limit indices, the sources as
SAFE_CH_MDEM shows them, the monitor's demand, firmware requests (SLS as a limit index + 1), and a STOP0 that a Loop
Engine error holds (R339). -/
structure SMach where
  dem : Nat := 3
  lim : Nat := 0
  src : Nat := 0
  mon : Nat := 3
  fwStop : Nat := 0
  fwSls : Nat := 0
  stop0 : Bool := false
  deriving DecidableEq, Repr

/-- A safety connection (R333, R334): last accepted sequence, copies of the two channels, latches without an accepted
payload, and the items of the last accepted payload. -/
structure SConn where
  last : Option Nat := none
  copyA : Option SafePayload := none
  copyB : Option SafePayload := none
  bad : Bool := false
  misses : Nat := 0
  items : List SafeItem := []
  deriving DecidableEq, Repr

/-- A safe input (R331): it demands; its discrepancy stands; its LATCHED action is kept. -/
structure SIn where
  dem : Bool := true
  disc : Bool := false
  latched : Bool := false
  deriving DecidableEq, Repr

/-! ### Separation Monitor (13_separation_monitor.md) -/

/-- A track slot (R303): sample time in ns, velocity mm/s, σ in mm, class. -/
structure Track where
  time : Nat
  vel : List Int
  sigma : Nat
  cls : Nat
  /-- Floor point in 2^-20 m, radius and height in mm. -/
  pos : List Int := [0, 0, 0]
  r : Nat := 0
  h : Nat := 0
  deriving DecidableEq, Repr

/-- What an update of the VMF hands the monitors of a frame (R310): whether it may be used, the bounds on its speed and
rate relative to V, and its pose in V. -/
structure SFrame where
  ok : Bool := true
  u : F64 := 0#64
  w : F64 := 0#64
  pose : Pose := {}
  deriving DecidableEq, Repr

/-- What a monitor channel reports of one machine: its demand, the release count and the strongest raw demand of the
passes counted (R316), its smallest margin in mm, and the pair that gave it. -/
structure MDem where
  dem : Nat := 3
  cnt : Nat := 0
  worst : Nat := 0
  margin : Int := -32767
  pair : Option (Nat × Nat) := none
  deriving DecidableEq, Repr

/-- Hidden state of one Separation Monitor channel: track slots, Deck Time of the last accepted item of each unit, the
demands, the cycle of the pass that runs and of the finished pass not yet taken over; and of the scene latched at FBD
(R315): Deck Time, present tracks, |v_fb| by carrel, lost units. -/
structure Ssm where
  tracks : Sparse (Option Track) := []
  unitT : Sparse (Option Nat) := []
  dems : Sparse MDem := []
  busy : Option Nat := none
  done : Option Nat := none
  latchT : Nat := 0
  scene : List (Nat × Track) := []
  speed : Sparse Nat := []
  lost : Nat := 0
  /-- A rope length of the latched scene is below 0 (R300). -/
  rope : Bool := false
  /-- Of the latched scene: joint values by machine, chain then tool joints, measured rope counts, planning frames by
  machine, what the VMF handed of each frame, and the gravity direction in V (R300, R310, R312). -/
  q : List (Nat × List Int) := []
  ropeP : Sparse Int := []
  plan : Sparse Nat := []
  frames : List (Nat × SFrame) := []
  grav : V3 := {}
  /-- Passes completed, and clocks of the last one. -/
  cnt : Nat := 0
  clk : Nat := 0
  deriving DecidableEq, Repr

/-- The Safety Island; its own registers are `regs`, keyed by the addresses of the SAFE pages. -/
structure Island where
  regs : Sparse Word := []
  /-- SPORN is low (R83). -/
  held : Bool := false
  cfg : SafeCfg := {}
  /-- The device's role, sampled at the release (R327). -/
  role : Nat := 0
  axes : Sparse SAxis := []
  mach : Sparse SMach := []
  conns : Sparse SConn := []
  sins : Sparse SIn := []
  ssmB : Ssm := {}
  /-- Safe sequence of the payloads sent, and one more than the cycle in which it was last raised (R332). -/
  seq : Nat := 0
  seqCyc : Nat := 0
  /-- The last comparison found a difference; the last takeover found a disagreement, and a missing result of A, of B
  (R323, R328). -/
  cmpRun : Bool := false
  disRun : Bool := false
  missA : Bool := false
  missB : Bool := false
  /-- Groups and contactors that each decider's last command released (R332). -/
  rel0 : Nat := 0
  rel1 : Nat := 0
  /-- Copies of payloads that came too late for the latch of their cycle, with the channel A flag and whether their Synzon
  checks passed (R44); copies of unconfigured payloads since the last latch, of channel A and of B (R333). -/
  lateCopies : List (Bool × Bool × SafePayload) := []
  strayA : Nat := 0
  strayB : Nat := 0
  /-- A stop demand was raised since the last tick 0 (R344). -/
  newStop : Bool := false
  /-- Groups that went off and whose off-pulse then in progress has not ended (R341). -/
  justOff : Nat := 0
  /-- By carrel, what the island recorded: bit 0 an overcurrent trip, bit 1 a stuck modulator (R13, R339). -/
  noted : Sparse Nat := []
  /-- The safety SRAM of both channels, A from 0 and B from 0x80000: the firmware of the SAFETY image, where its bytes came
  over Synzon (R321). -/
  sram : List Host.Cell := []
  deriving DecidableEq, Repr

/-! ### Vessel motion (07_vessel_motion_frames.md) -/

/-- A committed navigation record (R141): its time of validity, VMF_NAV_VALID, position, heading, horizontal velocity
and VMF_NAV_SIG as the registers hold them. -/
structure NavRec where
  time : Nat
  valid : Nat
  pos : List Int := [0, 0, 0]
  hdg : Int := 0
  vel : List Int := [0, 0]
  sig : Word := 0#32
  deriving DecidableEq, Repr

/-- An entry of the ring of estimates (R141): update number, epoch, pose and velocity of V in E. -/
structure RingEnt where
  upd : Nat
  t : Nat
  pose : Pose
  vel : V3
  deriving DecidableEq, Repr

/-- An oscillator component (R148): ω in rad/s, and the amplitudes c and s of the six degrees of freedom. -/
structure WaveComp where
  w : F64
  c : List F64
  s : List F64
  deriving DecidableEq, Repr

/-- Hidden state of the VMF. Times are Deck Time in ns. -/
structure Vmf where
  /-- IMU samples, target items and the navigation record received and not yet taken by an update, and those that the
  update in progress uses (R139 to R142). -/
  imuNew : List (Nat × Nat × ImuItem) := []
  tgtNew : List TgtItem := []
  navNew : Option NavRec := none
  imuUse : List (Nat × Nat × ImuItem) := []
  tgtUse : List TgtItem := []
  navUse : Option NavRec := none
  /-- Epoch of the last accepted position, heading, velocity, of each target's item, and of the last inertial update
  (R146, R147). -/
  posT : Option Nat := none
  hdgT : Option Nat := none
  velT : Option Nat := none
  tgtT : Sparse (Option Nat) := []
  inertT : Nat := 0
  /-- Epoch at which each frame went into COAST, by frame code (1 L, 2 E, 4 to 7 Tn). -/
  coastT : Sparse Nat := []
  alignCnt : Nat := 0
  /-- Epoch of the update in progress, and of the records; entry to RUN. -/
  epochUse : Nat := 0
  epoch : Nat := 0
  runT : Nat := 0
  /-- An update runs, with its cycle u (R144). -/
  busy : Option Nat := none
  /-- Wave jobs of the interval in progress that have not ended, whether a fit runs, intervals since entry to RUN. -/
  waveJobs : Nat := 0
  fitBusy : Bool := false
  waveCnt : Nat := 0
  /-- The query in progress: the time served, whether it was clamped, and the selection (R150). -/
  predT : Nat := 0
  predClamp : Bool := false
  predSel : Nat := 0
  /-- Its result as R138 rounds it, and whether a word saturated. -/
  predRes : List Int := []
  predSat : Bool := false
  /-- The filter (R143), none while the estimates are cleared, and the ring of 512 estimates, newest first (R141). -/
  est : Option Est := none
  ring : List RingEnt := []
  /-- Time and rate in V of the last sample of each IMU (R140). -/
  imuPrev : Sparse (Option (Nat × V3)) := []
  /-- Sums of specific force and rate over the alignment, and samples in them (R146). -/
  almF : V3 := {}
  almW : V3 := {}
  almN : Nat := 0
  /-- The newest accepted position and heading (R146). -/
  posV : V3 := {}
  hdgV : F64 := 0#64
  tgt : Sparse (Option TgtEst) := []
  /-- Surge, sway, heave, roll, pitch and yaw at the time of the last inertial update, with rates and accelerations
  (R149). -/
  dofT : Nat := 0
  dof : List F64 := []
  dofV : List F64 := []
  dofA : List F64 := []
  /-- Oscillators as of an epoch, frequencies selected for the next fit, and the 8 Hz samples, newest first (R148). -/
  comps : List WaveComp := []
  waveT : Nat := 0
  waveW : List F64 := []
  hist : List (List F64) := []
  /-- Predicted heave by the epoch it is for, and the differences of the last 8 s, newest first (R149). -/
  heaveP : List (Nat × F64) := []
  heaveE : List F64 := []
  /-- The planning frame's motion in V that the last solve of each machine used (R154), and P_F(t_ref) of auxiliary
  carrels (R152). -/
  lastT : Sparse Motion := []
  auxP : Sparse (Option V3) := []
  /-- What the newest update handed the Separation Monitor of each frame (R310). -/
  hand : Sparse SFrame := []
  /-- The gravity direction in V that was handed last (R310); straight down in V before that. -/
  grav : V3 := { z := 0x3FF0000000000000#64 }
  /-- Chunks of a resynchronisation not yet adopted (R416). -/
  rsChunks : List Int := []
  deriving DecidableEq, Repr


/-! ### Spectral Processors (18_spectral_processors.md) -/

/-- Hidden state of a Spectral Processor. Offsets are those of descriptors in the wing's SRAM. -/
structure Dsp where
  jobs : List Nat := []
  /-- Jobs in the VMF's queue (R430). -/
  vmfJobs : Nat := 0
  /-- A suspension waits for its boundary (R432). -/
  susp : Bool := false
  /-- Of the running or suspended job: elements finished, block exponent, shift of the stage, a saturation. -/
  done : Nat := 0
  bexp : Nat := 0
  s : Nat := 0
  sat : Bool := false
  /-- Last TAG given, and where the jobs set aside stand, by TAG: elements finished and a saturation. -/
  tag : Nat := 0
  ctx : Sparse (Nat × Bool) := []
  deriving DecidableEq, Repr

/-! ### CAN FD controllers (19_can_fd.md) -/

/-- A frame as a controller keeps it: ID and CTL words, timestamp, data words (R450). -/
structure CanBuf where
  id : Nat := 0
  ctl : Nat := 0
  ts : Nat := 0
  data : List Nat := []
  deriving DecidableEq, Repr

/-- Hidden state of a CAN controller. -/
structure Can where
  rxf : List CanBuf := []
  hp : CanBuf := {}
  txf : List CanBuf := []
  txd : Option CanBuf := none
  /-- The frame offered to arbitration or on the bus: true for the direct-send frame, false for the FIFO's head. -/
  onBus : Option Bool := none
  /-- Failures of the FIFO's head and of the direct-send frame (R445). -/
  failF : Nat := 0
  failD : Nat := 0
  /-- The frame on the bus is discarded at the end of its attempt unless it succeeds (R446). -/
  abortF : Bool := false
  abortD : Bool := false
  /-- MODE = INIT waits for the end of the frame in progress (R447); bus-off recovery runs (R445). -/
  initPend : Bool := false
  recov : Bool := false
  deriving DecidableEq, Repr

/-! ### Power states (21_power_states.md) -/

/-- Hidden state of the power-state ladder. -/
structure Pw where
  /-- The pending request: target state and mask of domains (R478). -/
  reqState : Nat := 0
  reqMask : Nat := 0
  /-- Domains on their way back to Run, with the state they leave (R476). -/
  exiting : Sparse Nat := []
  /-- Doorbells whose event waits for the wing's exit: wing and mailbox (R130). -/
  bells : List (Nat × Nat) := []
  deriving DecidableEq, Repr

/-! ### Profile Sequencer (08_profile_sequencer.md) -/

/-- Hidden state of one carrel's profile channel. -/
structure Prof where
  /-- P in 2^-32 count, the internal velocity in 2^-48 count per tick, the velocity increment of the last tick. -/
  p : Int := 0
  v : Int := 0
  inc : Int := 0
  /-- P + O, the visible V and the velocity increment as the last profile tick set them, for the loops (R221). -/
  rp : Int := 0
  rv : Int := 0
  ra : Int := 0
  /-- Row of R166 that the last profile tick applied. -/
  row : Nat := 6
  /-- V that the last profile tick set (R165), the visible V in force before that tick, and a_s of the last solve
  (R174). -/
  vt : Int := 0
  vp : Int := 0
  acc : Int := 0
  /-- T as the last profile tick read it (R177). -/
  tgt : Int := 0
  /-- Applied offset O, O_new, the step and the steps left (R176). -/
  o : Int := 0
  oNew : Int := 0
  oStep : Int := 0
  oLeft : Nat := 0
  /-- Commands that act at the next profile tick. -/
  go : Bool := false
  stop : Bool := false
  home : Bool := false
  /-- A Category 1 or 2 stop demanded by the Safety Island, a Category 0 demand, a persisting fault of R172. -/
  safe : Bool := false
  off : Bool := false
  fault : Bool := false
  /-- The channel entered REST from a stop, so that it takes nothing before GO or HOME (R166). -/
  rested : Bool := false
  /-- The planning frame of the carrel is lost (R154, R172). -/
  frame : Bool := false
  /-- The Solver's set-points for the next profile tick: p_s, v_s, a_s (R174). -/
  solve : Option (Int × Int × Int) := none
  /-- The reference time t_ref of R152, once taken since the channel was enabled. -/
  auxRef : Option Nat := none
  /-- Homing (R178 to R181): method, P where it started, consecutive cycles at the current limit, the reference is
  taken, the result of a REMOTE carrel's homing is awaited. -/
  method : Nat := 0
  p0 : Int := 0
  dwell : Nat := 0
  ref : Bool := false
  /-- The switch was active when last seen in this homing. -/
  sw : Bool := false
  deriving DecidableEq, Repr

/-- Hidden state of a step output (R182, R184): pulses issued, the time (ns of TB ticks) of the tick at which the last one
started, the level of DIR and the time of its last change. -/
structure StepOut where
  pulses : Nat := 0
  last : Nat := 0
  dir : Bool := false
  dirT : Nat := 0
  deriving DecidableEq, Repr

/-- A path segment (R175): its end pose and its length in 2^-32 unit. -/
structure Seg where
  pos : List Int
  quat : List Int
  len : Nat
  deriving DecidableEq, Repr

/-- Hidden state of a path channel (R175). -/
structure Path where
  segs : List Seg := []
  /-- Arc length since the start of the first queued segment, 2^-32 unit, and the internal speed. -/
  s : Int := 0
  v : Int := 0
  /-- The velocity increment of the last profile tick. -/
  inc : Int := 0
  /-- The pose at the start of the first queued segment. -/
  start : Pose := {}
  /-- Segments appended, and none for a FLUSH, since the last profile tick (R177). -/
  pend : List (Option Seg) := []
  go : Bool := false
  stop : Bool := false
  /-- A carrel of the machine is in row 5 of R166 (R174). -/
  slow : Bool := false
  deriving DecidableEq, Repr

/-! ### Loop Engine (10_loop_engine.md) -/

/-- The delay elements of a biquad (R223). -/
structure Bq where
  x1 : Int := 0
  x2 : Int := 0
  y1 : Int := 0
  y2 : Int := 0
  deriving DecidableEq, Repr

/-- Hidden state of one carrel's loops (R12). -/
structure Loop where
  r : Int := 0
  i : Int := 0
  id : Int := 0
  iq : Int := 0
  bq : Sparse Bq := []
  /-- No run since enable (R230). -/
  first : Bool := true
  iref : Int := 0
  /-- q reference of the current loop (R225), and the one in force since the last sample-window end (R53, R224). -/
  qref : Int := 0
  qse : Int := 0
  /-- The loop nodes of R234, by code. -/
  nodes : Sparse Int := []
  /-- The duties of the queued run were armed since its channel's last reload. -/
  armed : Bool := false
  /-- Feedback latched at FBD, or of the newest item: P_fb, v_fb, status bits of R358, AGE (R221). -/
  pfb : Int := 0
  vfb : Int := 0
  status : Nat := 0
  age : Nat := 0
  /-- Zero duties are armed at the next sample instant (R229); 1 + the tick at which the current loop was queued, 0 for none
  queued (R227); phase currents and count latched at SE (R225). -/
  zero : Bool := false
  place : Nat := 0
  /-- The channel's reload came before the queued loop had armed its duties (R227, R258). -/
  missed : Bool := false
  ia : Int := 0
  ib : Int := 0
  pint : Int := 0
  vse : Int := 0
  /-- The loop ran too late in its pass for this cycle (R228); i_ref of the run before the last, which then stands; the nodes
  of the late run; a REMOTE carrel still has to send the last run's i_ref (R238). -/
  late : Bool := false
  iold : Int := 0
  nodesLate : List (Nat × Int) := []
  owed : Bool := false
  /-- A node carrel whose last item carried EN = 0 (R359, R406). -/
  idle : Bool := false
  /-- Command item sent for a REMOTE carrel: its SEQ (R359). -/
  seq : Nat := 0
  deriving DecidableEq, Repr

/-- Hidden state of a wing's tuning help (R234 to R237). -/
structure Diag where
  /-- Frames left after the trigger. -/
  post : Nat := 0
  lastTap : Option Int := none
  /-- Injection: phase, increment, the PRBS register, runs left of HOLD, the signal. -/
  ph : Nat := 0
  finc : Nat := 0
  prbs : Nat := 0
  hold : Nat := 0
  inj : Int := 0
  pairs : Nat := 0
  /-- The Ledger, 16 384 words, and whether its content has been lost (R475). -/
  led : Sparse Nat := []
  lost : Bool := false
  /-- WING clocks used by the carrels of the pass in progress. -/
  clk : Nat := 0
  deriving DecidableEq, Repr

/-! ### Solver (09_kinematics_solver.md) -/

/-- A number of the fixed-point array with its fractional bits (R198). -/
structure Fx where
  v : Int := 0
  f : Nat := 0
  deriving DecidableEq, Repr

/-- A frame of the forward kinematics: its rotation by rows in 2^-30, its position (R193). -/
structure KFrame where
  rot : List Int := [1073741824, 0, 0, 0, 1073741824, 0, 0, 0, 1073741824]
  pos : List Fx := [{}, {}, {}]
  deriving DecidableEq, Repr

/-- Hidden state of the Solver (09_kinematics_solver.md). -/
structure Solv where
  /-- Machines whose warm-start record met an uncorrectable error (R218); the records that passed the check at the start of the
  batch in progress, by machine (R202); the last set-point of each joint carrel (R197). -/
  bad : List Nat := []
  warm : List (Nat × List Int) := []
  lastP : Sparse Int := []
  /-- Cycles of the forward kinematics, the batch and the allocation that run, and of those whose results wait for
  their profile tick (R47, R194). -/
  fk : Option Nat := none
  /-- Joint values by machine from the positions latched at FBD, chain then tool joints (R193, R202). -/
  fkQ : List (Nat × List Int) := []
  /-- Link frames by machine, handed to Separation Monitor A (R193). -/
  links : List (Nat × List KFrame) := []
  /-- What the batch took at its profile tick (R47): by machine the motion of the planning frame in V and of the path in
  the planning frame, by auxiliary carrel P_F(t_a) where its frame may be used. -/
  ikIn : List (Nat × Option Motion × Motion) := []
  auxIn : List (Nat × Option V3) := []
  ikRun : Option Nat := none
  ikFor : Option Nat := none
  taRun : Option Nat := none
  taFor : Option Nat := none
  /-- Results of the batch: carrel, p_s, v_s, a_s (R201), and carrel, O_new (R152). -/
  res : List (Nat × Int × Int × Int) := []
  aux : List (Nat × Int) := []
  /-- Variables u of the last allocation (R208). -/
  u : List Int := []
  /-- Committed demand and fin gains, whether there was a commit since the last allocation, and the copy that the
  allocation in progress uses, with its STALE (R211). -/
  dem : List Int := []
  gain : List Int := []
  committed : Bool := false
  demUse : List Int := []
  gainUse : List Int := []
  stale : Bool := false
  /-- Firmware jobs queued, and the one that runs: descriptor offsets (R213). -/
  jobs : List Nat := []
  job : Option Nat := none
  deriving DecidableEq, Repr


/-! ### Power stage and feedback (11_power_stage.md, 12_position_feedback.md) -/

/-- An on-interval of a gate within a switching period, in 1/32 tick from its reload; empty where it stays off. -/
structure Gate where
  start : Nat := 0
  stop : Nat := 0
  deriving DecidableEq, Repr

/-- Hidden state of a PWM channel. -/
structure Pwm where
  cnt : Nat := 0
  /-- Pending period; pending duty set (CMP, FINE of U, V, W); the set is newer than the period (R257, R259). -/
  pendP : Option Nat := none
  pendC : Option (List (Nat × Nat)) := none
  newer : Bool := false
  /-- The channel starts at its next reload (R253), not before the TB tick `startAt`, or waits for the yield (R252). -/
  starting : Bool := false
  startAt : Nat := 0
  /-- One more than the TB tick of the last reload, and S of each leg at the end of the period that it ended (R249). -/
  relT : Nat := 0
  sPrev : List Bool := []
  /-- Running channels of 0 to 7 whose reload is awaited (R252). -/
  await : List Nat := []
  /-- DTH and DTL of each leg in force, 1/32 tick (R250, R251). -/
  dth : List Nat := [0, 0, 0]
  dtl : List Nat := [0, 0, 0]
  /-- Gates UH, UL, VH, VL, WH, WL of the period in progress, or since the TB tick at which the channel was disabled. -/
  gates : List Gate := []
  stopT : Nat := 0
  deriving DecidableEq, Repr

/-- What an interface keeps of a latch (R280, R283), times in ticks of Deck Time. -/
structure FbLatch where
  at_ : Nat := 0
  t : Nat := 0
  c : Int := 0
  any : Bool := false
  v : Int := 0
  deriving DecidableEq, Repr

/-- What an SSI interface held before the read that ended last, and the tick of that end (R280). -/
structure FbOld where
  at_ : Nat := 0
  count : Int := 0
  cu : Int := 0
  t1 : Nat := 0
  any : Bool := false
  deriving DecidableEq, Repr

/-- Hidden state of a feedback interface. -/
structure Fb where
  hall : Nat := 0
  /-- Counted position without clamp, corrections and presets; tick of the last counted change or of the enable;
  whether there was one since enable (R283). -/
  cu : Int := 0
  /-- Changes of the count in the last 17 ticks, newest first, with their ticks (R281). -/
  hist : List (Nat × Int) := []
  t1 : Nat := 0
  any : Bool := false
  cyc : FbLatch := {}
  se : FbLatch := {}
  /-- Previous accepted SSI value; sample tick of the read in progress; tick to which the clock stays high. -/
  ssi : Option Nat := none
  ssiT : Nat := 0
  ssiHigh : Nat := 0
  ssiBad : Bool := false
  old : Option FbOld := none
  /-- The next index sets IDX_REF (R285). -/
  arm : Bool := false
  /-- A homing preset or an index correction since the Safety Island last loaded its own counter (R336). -/
  preset : Bool := false
  /-- Tick at which the current compare entry became current (R287). -/
  cur : Option Nat := none
  deriving DecidableEq, Repr

/-- Levels of the outputs and inputs that no register holds: gate outputs in high impedance, compare lines with the tick of
their last fire, levels of the capture inputs, read-backs of GPIO outputs to come with their ticks (R296); and one more than the TB tick at which SDCj was last given EN or DIV (R261). -/
structure Pins where
  hiZ : Bool := false
  pulse : List (Nat × Nat) := []
  gpio : List (Nat × Bool × Nat) := []
  cap : Nat := 0
  sdc : Sparse Nat := []
  deriving DecidableEq, Repr

/-! ### Host, memory and network interfaces (20_host_memory_network.md) -/

/-- Hidden state of an Ethernet MAC: the transmit queue of the frame in progress, and the last frame sent. -/
structure Eth where
  cur : Option Nat := none
  sent : Option (List Byte) := none
  deriving DecidableEq, Repr

/-- Hidden state of an SPI master: FIFOs, bytes of the transfer in progress, and the bytes it sends. -/
structure Spi where
  tx : List Byte := []
  rx : List Byte := []
  len : Nat := 0
  out : List Byte := []
  deriving DecidableEq, Repr

/-- Hidden state of an SMBus port: its 32-byte buffer and the command in progress. -/
structure Smb where
  buf : List Byte := []
  cmd : Nat := 0
  deriving DecidableEq, Repr

/-- Hidden state of the interfaces of 20_host_memory_network.md. -/
structure HostIf where
  /-- Dwords of the MSI-X table; pending vectors; the function mask; vectors whose source has risen; messages that the
  last command sent (R452, R454). -/
  msixTab : Sparse Nat := []
  pba : List Nat := []
  fmask : Bool := false
  rises : List Nat := []
  msi : List Nat := []
  /-- Outbound reads that await their completion, oldest first; outbound requests of the last access: host address
  and written word (R455). -/
  obRd : List Sender := []
  obTx : List (Nat × Option Word) := []
  eth : Sparse Eth := []
  /-- 64-bit words of the SDRAM that stay uncorrectable; the scrub's next burst (R466, R467). -/
  ue : List Nat := []
  scrub : Nat := 0
  /-- The flash page buffer: bytes by flash address; the operation in progress, 1 PROGRAM, 2 ERASE, and its address
  (R470). -/
  xbuf : List (Nat × Byte) := []
  xop : Nat := 0
  xaddr : Nat := 0
  spi : Sparse Spi := []
  smb : Sparse Smb := []
  deriving DecidableEq, Repr

/-! ### Security and debug (22_security_and_records.md) -/

/-- An OTP command in progress (R488, R490). -/
inductive OtpOp where
  | prog (slot hash : Nat)
  | revoke (slot : Nat)
  | life (target : Nat)
  deriving DecidableEq, Repr

/-- Hidden state of the SEC and DBG pages. -/
structure Sec where
  otp : Option OtpOp := none
  /-- Images that the boot ROM took (SAFETY, FIRMWARE, CONFIG) and records of accepted images (R485, R486). -/
  cand : List ImgHdr := []
  imgs : List ImgHdr := []
  /-- The report's values as taken at GO, and its buffer (R497). -/
  att : List Byte := []
  attAddr : Nat := 0
  /-- The return challenge, once formed, and whether it has been used (R492). -/
  retChal : Option Nat := none
  /-- The debug challenge, token words written against it, a check in progress, failed requests since the last
  power-on reset (R494). -/
  chal : Option Nat := none
  tok : Sparse Nat := []
  checking : Bool := false
  fails : Nat := 0
  /-- Cores halted alone through the debug module (R495, R90). -/
  halted : List Nat := []
  deriving DecidableEq, Repr

/-! ### Fuses and Event Archive (22_security_and_records.md) -/

/-- A slot of the Event Archive: SEQ, whether its CRC is right, and the record (R498, R499). -/
structure EaSlot where
  seq : Nat
  crcOk : Bool := true
  body : EaRec
  deriving DecidableEq, Repr

/-- What no reset touches: the OTP fuses and the Event Archive (R83). -/
structure Nv where
  uid : Nat := 1
  /-- PCIe Vendor and Device ID (R451). -/
  pcieId : Nat := 0
  /-- Life-cycle state (R490). -/
  lc : Nat := 0
  /-- Key hashes by customer slot, slots provisioned, slots that an interrupted or failed programming left unusable,
  slots revoked (0 to 3 customer, 4 and 5 Crifeska) (R487). -/
  keyHash : Sparse Nat := []
  prov : List Nat := []
  bad : List Nat := []
  rev : List Nat := []
  /-- Rollback counters (R489). -/
  ctr : Sparse Nat := []
  /-- Customer secret area (R493). -/
  secret : Sparse Word := []
  poh : Nat := 0
  /-- Slots of the Event Archive, newest first, and the next SEQ. -/
  archive : List EaSlot := []
  nextSeq : Nat := 0
  deriving DecidableEq, Repr

/-! ### The block -/

/-- The application side and the RTC domain: registers in their home domains, and the hidden state of each block.
The Safety Island, the fuses and the Event Archive, the addressed memories and the command queue stand beside it in
`State`. -/
structure Block where
  /-- Every register that does not hold its table's reset value, by address (R64). -/
  regs : Sparse Word := []
  /-- Reset values that straps or the accepted image gave (R8, R68). -/
  rstv : Sparse Word := []
  /-- The application side is held in reset (R84). -/
  held : Bool := false
  /-- The SRAMs are undefined since a power-on reset or brownout, until the boot initialises them (R34). -/
  raw : Bool := true
  /-- What still holds that reset: 1 the 20 µs after the source has gone, 2 PORN low, 3 a brownout (R83, R84). -/
  rstSt : Nat := 0
  /-- Uses of free values so far (model's own field). -/
  free : Nat := 0
  /-- What the last access answered. -/
  answer : Answer := {}
  /-- Answers to the requests of the last FAB clock in which several agents presented one, in the order of their
  grants (R15). -/
  answers : List (Sender × Answer) := []
  /-- TB ticks since the watchdog's count last moved (R91). -/
  wdtDiv : Nat := 0
  locks : Sparse Lock := []
  /-- Posted writes by page, oldest first, at most four (R23). -/
  posted : Sparse (List Posted) := []
  /-- The lines that the caches of the eight cores and the four wings hold (R10, R33, R100). -/
  cache : List CacheLine := []
  /-- The values in force of carrel-page registers that have been written since the last profile tick (R177). -/
  oldCar : Sparse Word := []
  /-- HI latch and LO staging register of each 64-bit pair, by the address of LO (R74). -/
  hiLatch : Sparse Word := []
  stage : Sparse Word := []
  /-- The accepted configuration image (R96). -/
  cfg : Image := {}
  tb : Tb := {}
  pw : Pw := {}
  disp : Disp := {}
  ackMemory : Sparse (List AckEnt) := []
  prof : Sparse Prof := []
  stepOut : Sparse StepOut := []
  path : Sparse Path := []
  loop : Sparse Loop := []
  diag : Sparse Diag := []
  solv : Solv := {}
  pwm : Sparse Pwm := []
  fb : Sparse Fb := []
  pins : Pins := {}
  /-- Enabled carrels in ascending order (CAR_STAT.ENABLED). -/
  enCars : List Nat := []
  /-- Carrels whose CAR_CTRL was written since the last cycle boundary (R229). -/
  carReq : List Nat := []
  vmf : Vmf := {}
  ssmA : Ssm := {}
  szn : Szn := {}
  fab : Fab := {}
  red : Red := {}
  dsp : Sparse Dsp := []
  can : Sparse Can := []
  host : HostIf := {}
  sec : Sec := {}
  /-- Records offered to the Event Archive and not yet written (R499). -/
  eaq : List EaRec := []
  /-- Frames that the last sending command handed to Synzon ports. -/
  tx : List TxFrame := []
  deriving DecidableEq, Repr

/-- The machine: the application side, the Safety Island, what survives every reset, the addressed memories, and the
commands that wait, first in, first out. -/
structure State where
  blk : Block
  isl : Island
  nv : Nv
  mem : List Host.Cell
  pending : List Instr
  deriving DecidableEq, Repr

/-- Reasons of a fault: no command of this block ends in one. -/
inductive Fault
  deriving DecidableEq, Repr

/-- Reasons of a refusal. -/
inductive Refusal where
  /-- Raised by Dispatch alone, for a command without a meaning; safe. -/
  | notModelled (mnemonic : String)
  deriving DecidableEq, Repr

/-- What a command answers. -/
abbrev Out := Host.Outcome State Fault Refusal

/-! ### Reset -/

/-- The machine right after a power-on reset with every strap at 0 (a Node at seat 0 that boots from flash): the release
of the application side at Deck Time 0 (R35, R79 to R84), the Safety Island released into START (R324). Registers hold
their tables' reset values but for the fields that straps set and the reset's cause. The straps, and the values where
the spec gives none, are the model's (assumption 1). (log 1, DESIGN CHOICE) -/
def State.reset : State :=
  { blk := { regs := [(R.SYS_RST_CAUSE, 1#32), (R.TB_CTRL, 11#32), (R.SZN_ID, 0xFFF#32)]
             rstv := [(R.TB_CTRL, 11#32), (R.SZN_ID, 0xFFF#32)] }
    isl := {}
    nv := {}
    mem := []
    pending := [] }

end Sys2Proof.Machine
end

