-- ==== Sys2Proof/Machine/Ops.lean ====
section
/-! DEFINITION. The named operations over registers, memory, events and records that every meaning uses: register
access, page interrupts, refused accesses (R73), admission of an access (R31, R63, R72, R75), events (R113 to R115)
and the offer of records to the Event Archive (R498). -/

namespace Sys2Proof.Machine

/-! ### Registers -/

/-- The value a register holds in its home domain. -/
def Block.rd (s : Block) (a : Nat) : Word := sget regDefault s.regs a

/-- The state with a register holding a value. -/
def Block.wr (s : Block) (a : Nat) (v : Word) : Block := { s with regs := sset regDefault s.regs a v }

/-- A register as a number. -/
def Block.rdN (s : Block) (a : Nat) : Nat := (s.rd a).toNat

/-- A register as a signed 32-bit number. -/
def Block.rdI (s : Block) (a : Nat) : Int := (s.rd a).toInt

/-- Write a number (its low 32 bits). -/
def Block.wrN (s : Block) (a n : Nat) : Block := s.wr a (BitVec.ofNat 32 n)

/-- Write a signed number (its low 32 bits). -/
def Block.wrI (s : Block) (a : Nat) (x : Int) : Block := s.wr a (BitVec.ofInt 32 x)

/-- A field of a register. -/
def Block.fl (s : Block) (a lo len : Nat) : Nat := fld (s.rd a) lo len

/-- Write a field of a register and leave the rest. -/
def Block.setF (s : Block) (a lo len v : Nat) : Block := s.wr a (setFld (s.rd a) lo len v)

/-- A bit of a register. -/
def Block.bt (s : Block) (a i : Nat) : Bool := (s.rd a).getLsbD i

/-- Write a bit of a register and leave the rest. -/
def Block.setB (s : Block) (a i : Nat) (b : Bool) : Block := s.wr a (setBit (s.rd a) i b)

/-- A 64-bit pair, LO at `lo` and HI at `lo + 4` (R74). -/
def Block.rd64 (s : Block) (lo : Nat) : Nat := s.rdN lo + 2 ^ 32 * s.rdN (lo + 4)

/-- Write a 64-bit pair. -/
def Block.wr64 (s : Block) (lo n : Nat) : Block := (s.wrN lo n).wrN (lo + 4) (n / 2 ^ 32)

/-- Count up in a field that saturates at all ones. -/
def Block.incSat (s : Block) (a lo len : Nat) : Block := s.setF a lo len (satAdd (s.fl a lo len) 1 (2 ^ len - 1))

/-- Give a register a reset value and that value (R8: Strap and Image fields). -/
def Block.initReg (s : Block) (a : Nat) (v : Word) : Block :=
  { s.wr a v with rstv := sset regDefault s.rstv a v }

/-! ### Roles (R1, R17) -/

/-- ROLE[1:0] as sampled: 0 Node, 1 Coordinator, 2 Hub, 3 Reserve. -/
def Block.role (s : Block) : Nat := s.fl R.SYS_STRAP 0 2

/-- The strapped seat (R80). -/
def Block.seat (s : Block) : Nat := s.fl R.SYS_STRAP 2 5

def Block.isNode (s : Block) : Bool := s.role == 0
def Block.isHub (s : Block) : Bool := s.role == 2
/-- Coordinator or Reserve. -/
def Block.isCoord (s : Block) : Bool := s.role == 1 || s.role == 3

/-- The power state of a domain: 0 to 3 WING0 to WING3, 4 DEV (R475, R482). -/
def Block.domState (s : Block) (d : Nat) : Nat := s.fl R.PWR_STAT (3 * d) 3

/-- The application side stands still: it is held in reset (R84), or DEV, and with it every wing (R474), is in a power state
whose clocks are gated or off (R475). -/
def Block.off (s : Block) : Bool := s.held || s.domState 4 != 0

/-- An event of the application side: none comes while that stands still. An access is answered all the same (R476).
(log 117, DEDUCED) -/
def ifRun (f : State → Out) (s : State) : Out := if s.blk.off then .next s else f s

/-- A meaning of the application side: nothing of it acts while the application side is held in reset (R84). (log 31, DEDUCED) -/
def onApp (f : Block → Block) (s : State) : Out := .next { s with blk := if s.blk.held then s.blk else f s.blk }

/-- A meaning that also acts while the application side is held in reset. -/
def onBlk (f : Block → Block) (s : State) : Out := .next { s with blk := f s.blk }

/-- The carrels that an actuator drives (R207). -/
def actCarrels (a : ActCfg) : List Nat :=
  if a.kind = 0 then [a.angle, a.speed] else if a.kind = 1 then [a.speed] else [a.angle]

/-! ### Memory (R33, R59) -/

/-- What a byte of an addressed memory reads as where nothing has written it: 0, and 0xFF in the flash window of R59
(an erased flash). Assumption 5. (log 5, DESIGN CHOICE) -/
def memDefault (a : Nat) : Byte := if 0x30000000 ≤ a ∧ a < 0x40000000 then 0xFF#8 else 0#8

/-- The first address above the populated SDRAM (R59, R464). -/
def Block.sdramTop (s : Block) : Nat := 0x100000000 + s.fl R.SDC_STAT 4 4 * 2 ^ 30

/-- A range that lies in shared SRAM, in wing SRAM or in SDRAM (R460). -/
def Block.dmaOk (s : Block) (a n : Nat) : Bool :=
  (decide (0x10000000 ≤ a) && decide (a + n ≤ 0x10800000)) || (decide (0x18000000 ≤ a) && decide (a + n ≤ 0x18800000))
    || (decide (0x100000000 ≤ a) && decide (a + n ≤ s.sdramTop))

/-- The regions of R59. -/
inductive Region where
  | rom | ram | flash | regs | sdram | outbound | unmapped
  deriving DecidableEq, Repr

/-- The region of an address; SDRAM above the populated size is not mapped (R60). -/
def Block.region (s : Block) (a : Nat) : Region :=
  if a < 0x10000 then .rom
  else if (0x10000000 ≤ a ∧ a < 0x10800000) ∨ (0x18000000 ≤ a ∧ a < 0x18800000) ∨ (0x20000000 ≤ a ∧ a < 0x20100000) then .ram
  else if 0x30000000 ≤ a ∧ a < 0x40000000 then .flash
  else if 0x40000000 ≤ a ∧ a < 0x41000000 then .regs
  else if 0x100000000 ≤ a ∧ a < 0x300000000 then (if a < s.sdramTop then .sdram else .unmapped)
  else if 0x800000000 ≤ a ∧ a < 0x1000000000 then .outbound
  else .unmapped

/-- Memory as a sparse map of bytes. -/
abbrev Mem := List Host.Cell

/-- Memory in canonical form: addresses strictly rising, no entry equal to what an unlisted address reads as. -/
abbrev Mem.wf (m : Mem) : Prop := scanon memDefault m = true

/-- One byte of addressed memory. -/
def mrd (m : Mem) (a : Nat) : Byte := sget memDefault m a

/-- Write one byte of addressed memory. -/
def mwr (m : Mem) (a : Nat) (b : Byte) : Mem := sset memDefault m a b

/-- `n` bytes from an address, least significant first (little-endian, assumption 6). (log 6, DEDUCED) -/
def mrdN (m : Mem) (a : Nat) : Nat → Nat
  | 0 => 0
  | n + 1 => (mrd m a).toNat + 256 * mrdN m (a + 1) n

/-- The bytes of a number, least significant first. (log 6, DEDUCED) -/
def bytesOf : Nat → Nat → List Byte
  | 0, _ => []
  | n + 1, v => BitVec.ofNat 8 v :: bytesOf n (v / 256)

/-- The number that bytes spell, least significant first. (log 6, DEDUCED) -/
def ofBytes : List Byte → Nat
  | [] => 0
  | b :: bs => b.toNat + 256 * ofBytes bs

/-- Read a list of bytes. -/
def mrdBytes (m : Mem) (a : Nat) : Nat → List Byte
  | 0 => []
  | n + 1 => mrd m a :: mrdBytes m (a + 1) n

/-- What a command does outside the registers: bytes stored from an address up, a range cleared (zeroed; in the flash
window: erased), fuses blown until a rollback counter reaches a value (R489), or in a word of the secret area (R493). -/
inductive MemOp where
  | store (a : Nat) (bs : List Byte)
  | wipe (lo hi : Nat)
  | counter (k t : Nat)
  | secret (i : Nat) (w : Word)
  deriving DecidableEq, Repr

/-- Store bytes from an address up. -/
def mstore (m : Mem) (a : Nat) : List Byte → Mem
  | [] => m
  | b :: bs => mstore (mwr m a b) (a + 1) bs

/-- One change of the addressed memories. A cleared byte is one that nothing lists. -/
def MemOp.apply (m : Mem) : MemOp → Mem
  | .store a bs => mstore m a bs
  | .wipe lo hi => m.filter (fun c => decide (c.1 < lo) || decide (hi < c.1))
  | _ => m

/-- Changes of the addressed memories, in order. -/
def mapply (m : Mem) (l : List MemOp) : Mem := l.foldl MemOp.apply m

/-- One change of the fuses: a blown one stays blown. -/
def MemOp.blow (n : Nv) : MemOp → Nv
  | .counter k t => { n with ctr := sset (fun _ => 0) n.ctr k t }
  | .secret i w => { n with secret := sset (fun _ => 0#32) n.secret i (sget (fun _ => 0#32) n.secret i ||| w) }
  | _ => n

/-- Changes of the fuses, in order. -/
def napply (n : Nv) (l : List MemOp) : Nv := l.foldl MemOp.blow n

/-- A meaning of the application side that reads the addressed memories and answers what it stores in them. -/
def onMem (f : Block → Mem → Block × List MemOp) (s : State) : Out :=
  if s.blk.held then .next s
  else .next { s with blk := (f s.blk s.mem).1, mem := mapply s.mem (f s.blk s.mem).2 }

/-- Use up one free value: the next use has another argument. Assumption 2. (log 2, DESIGN CHOICE) -/
def Block.useFree (s : Block) : Block := { s with free := s.free + 1 }

/-! ### Page interrupts and the PLIC (R71, R105) -/

/-- The PLIC source of a page (R105), by page number in the register space. -/
def pageSource (page : Nat) : Option Nat :=
  let n := page / 0x1000 % 0x40000
  if n = 0 then some 1 else if n = 1 then some 2 else if n = 2 then some 3 else if n = 3 then some 4
  else if n = 0x40 then some 5
  else if 0x10 ≤ n ∧ n < 0x20 then some (8 + (n - 0x10))
  else if 0x20 ≤ n ∧ n < 0x40 then some (32 + (n - 0x20))
  else if 0x100 ≤ n ∧ n < 0x200 then
    let w := (n - 0x100) / 0x40
    let q := (n - 0x100) % 0x40
    if q < 5 then some (64 + 4 * q + w) else if 16 ≤ q then some (96 + 48 * w + (q - 16)) else none
  else if n = 0x200 then some 288 else if n = 0x210 then some 289 else if n = 0x220 then some 290
  else if n = 0x300 then some 291
  else if 0x380 ≤ n ∧ n < 0x390 then some (292 + (n - 0x380))
  else if n = 0x310 then some 308
  else if 0x320 ≤ n ∧ n < 0x338 then some (312 + (n - 0x320))
  else if n = 0x400 then some 336 else if n = 0x410 then some 337 else if n = 0x420 then some 338
  else if 0x480 ≤ n ∧ n < 0x4C0 then some (340 + (n - 0x480))
  else if 0x500 ≤ n ∧ n < 0x504 then some (404 + (n - 0x500))
  else if 0x510 ≤ n ∧ n < 0x512 then some (408 + (n - 0x510))
  else if n = 0x520 then some 410 else if n = 0x530 then some 411 else if n = 0x540 then some 412
  else if n = 0x550 then some 413 else if n = 0x551 then some 414 else if n = 0x552 then some 415
  else if 0x600 ≤ n ∧ n < 0x604 then some (416 + (n - 0x600))
  else none

/-- PAGE_CTRL.EN of a page (R67). -/
def Block.pageEn (s : Block) (page : Nat) : Bool := s.bt (R.PAGE_CTRL page) 0

/-- The interrupt output of a page (R71, R67). -/
def Block.irqOut (s : Block) (page : Nat) : Bool :=
  s.pageEn page && decide (s.rd (R.IRQ_RAW page) &&& s.rd (R.IRQ_EN page) ≠ 0#32)

/-- The gateway of a level-sensitive source (R105): it forwards one request until that is completed. -/
def Block.plicSense (s : Block) (page : Nat) : Block :=
  match pageSource page with
  | none => s
  | some src =>
    if s.irqOut page && !(s.disp.plicSvc.contains src) then s.setB (R.PLIC_PEND (src / 32)) (src % 32) true else s

/-- Note the rise of a page's PLIC source for the MSI-X vectors that name it (R454): `s0` is the state before. While
the PCIe link is down the vectors' block is in reset (R456). -/
def Block.noteRise (s0 s : Block) (page : Nat) : Block :=
  if s.bt R.PCIE_STAT 0 && s.irqOut page && !s0.irqOut page then
    match pageSource page with
    | none => s
    | some src =>
      let vs := (List.range 64).filter (fun v => s.fl (R.PCIE_MSIX_SRC v) 0 9 == src)
      { s with host := { s.host with rises := s.host.rises ++ vs } }
  else s

/-- Set bit i of a page's IRQ_RAW (R71). -/
def Block.raise (s : Block) (page i : Nat) : Block :=
  (s.noteRise (s.setB (R.IRQ_RAW page) i true) page).plicSense page

/-- Set a flag bit of an error register that is also raised in IRQ_RAW, at bit `irq` (R58, R119, ...). -/
def Block.flag (s : Block) (reg bit page irq : Nat) : Block := (s.setB reg bit true).raise page irq

/-! ### Refused accesses (R73) -/

/-- Reasons of a refused access (R73). -/
inductive Reason where
  | agent | reserved | locked | domainOff | width | range | state | lifecycle
  deriving DecidableEq, Repr

/-- The code of a reason (R73). -/
def Reason.code : Reason → Nat
  | .agent => 1 | .reserved => 2 | .locked => 3 | .domainOff => 4
  | .width => 5 | .range => 6 | .state => 7 | .lifecycle => 8

/-- The PAGE_ERR record of a refusal (R73). -/
def pageErr (wr overrun : Bool) (addr : Nat) (snd : Sender) (r : Reason) : Nat :=
  (if wr then 1 else 0) + (if overrun then 2 else 0) + (addr % 0x1000) / 4 * 4
    + snd.agent.val * 2 ^ 12 + r.code * 2 ^ 16 + (if snd.agent.val = 11 then snd.ep.val * 2 ^ 20 else 0)

/-- Refuse an access: record it in PAGE_ERR of the page and set IRQ_RAW bit 31 (R73, R71). -/
def Block.refuse (s : Block) (wr : Bool) (addr : Nat) (snd : Sender) (r : Reason) : Block :=
  let page := pageBase addr
  let s := s.wrN (R.PAGE_ERR page) (pageErr wr (s.fl (R.PAGE_ERR page) 16 4 != 0) addr snd r)
  { s.raise page 31 with answer := { data := 0, error := false, why := r.code } }

/-! ### Admission of an access (R31, R63, R72, R75) -/

/-- The power domain of a page (R474): none for PWR and the SAFE pages, which lie outside the ladder. -/
def pageDom (page : Nat) : Option Nat :=
  match pageOf page with
  | none => none
  | some p =>
    if 0x10 ≤ p.code ∧ p.code ≤ 0x15 then some p.wing
    else if p.code = 0x02 ∨ p.code = 0x60 then none else some 4

/-- Whether the page's home domain is powered (PAGE_STAT.DOM_ON, R69). -/
def Block.domOn (s : Block) (page : Nat) : Bool :=
  match pageDom page with
  | none => true
  | some d => s.domState d == 0

/-- The lock window of a page (R72). -/
def Block.lockOf (s : Block) (page : Nat) : Lock := sget (fun _ => {}) s.locks page

/-- Whether the page's RWL registers are open to a sender (R72). -/
def Block.unlockedFor (s : Block) (page : Nat) (snd : Sender) : Bool :=
  let l := s.lockOf page
  l.isOpen && l.owner == snd.agent.val && (snd.agent.val != 11 || l.ep == snd.ep.val)

/-- What the table of R75 says of an access: none admits it, else the reason of the refusal. `code` is the page's
block code, `anyEn` whether any carrel is enabled, `dbgOk` whether debug access is authorised, `bus` whether a
Safety channel's access comes over the Safety Island bus, `disc` whether the router's loader is in discovery. -/
def agentRefusal (code : Nat) (wr : Bool) (agent : Nat) (anyEn dbgOk disc : Bool) : Option Reason :=
  let isCore := decide (agent < 8)
  let isSafe := agent == 8 || agent == 9
  let rdOnly : Option Reason := if wr then some .agent else none
  if agent == 12 && !dbgOk then some .agent
  else if code = 0x06 then none
  else if code = 0x07 then if agent == 11 || agent == 13 then some .agent else none
  else if agent == 13 then some .agent
  else if code = 0x60 then
    if isSafe then none else if agent == 11 then some .agent else rdOnly
  else if isCore then none
  else if isSafe then rdOnly
  else if code = 0x03 then if agent == 12 then none else some .agent
  else if code = 0x40 || code = 0x41 || code = 0x42 then
    if agent == 10 then rdOnly else if agent == 11 then (if disc then none else some .agent) else none
  else if agent == 10 then rdOnly
  else if agent == 11 then some .agent
  else if wr && anyEn &&
      ((decide (0x10 ≤ code) && decide (code ≤ 0x15)) || decide (0x20 ≤ code ∧ code ≤ 0x22)
        || decide (0x30 ≤ code ∧ code ≤ 0x33) || code = 0x55 || code = 0x43) then some .state
  else none

/-- Whether any carrel of the device is enabled (R229). -/
def Block.anyCarrelEn (s : Block) : Bool := !s.enCars.isEmpty

/-- The fabric router's loader reaches registers while the device's phase is OPEN (R75, R392). -/
def Block.discOpen (s : Block) : Bool := s.fl R.FAB_STAT 0 2 == 0

/-- Whether the grant in force admits a debug access (R494, R495): permission ACCESS, and SEC_WR for writes of SEC. -/
def Block.dbgOk (s : Block) (code : Nat) (wr : Bool) : Bool :=
  s.bt R.DBG_AUTH_STAT 0 && s.bt R.DBG_AUTH_STAT 3 && (!(wr && code == 0x03) || s.bt R.DBG_AUTH_STAT 5)

/-- Admission of an access at the interconnect: none admits it. `disc` says whether the router's loader may make it. The
order in which the checks are made is the model's (assumption 7). (log 7, DEDUCED) -/
def Block.admitAs (s : Block) (disc : Bool) (snd : Sender) (addr : Nat) (wr : Bool) : Option Reason :=
  match pageOf addr with
  | none => some .reserved
  | some p =>
    let page := pageBase addr
    match agentRefusal p.code wr snd.agent.val s.anyCarrelEn (s.dbgOk p.code wr) disc with
    | some r => some r
    | none =>
      if !s.domOn page && (wr || addr % 0x1000 != 0xC) then some .domainOff
      else match regDef addr with
        | none => some .reserved
        | some r =>
          if wr && r.rwl != 0 && !s.unlockedFor page snd then some .locked
          else if wr && r.wo != 0 && decide (0x40 ≤ addr % 0x1000) && !s.pageEn page then some .state
          else none

/-- Admission of an access while the loader is in discovery or not, as the phase says. -/
def Block.denial (s : Block) (snd : Sender) (addr : Nat) (wr : Bool) : Option Reason := s.admitAs s.discOpen snd addr wr

/-- A page that the two coordinators keep alike (R414): carrels, paths, the Loop Engine, the Solver and the VMF. -/
def twinnedPage (addr : Nat) : Bool :=
  match pageOf addr with
  | some p => p.code == 0x15 || p.code == 0x12 || p.code == 0x11 || p.code == 0x20 || p.code == 0x21
  | none => false

/-- A direct write of a twinned page on an ACTIVE coordinator with a peer in STANDBY or RESYNC (R414). -/
def Block.noteDirect (s : Block) (addr : Nat) : Block :=
  if twinnedPage addr && s.fl R.RED_STAT 0 3 == 1 && (s.red.peerSt == 2 || s.red.peerSt == 4) then
    (s.incSat R.RED_DIRECT_CNT 0 16).flag R.RED_ERR 6 0x40420000 6
  else s

/-- Whether the device's role holds the block of an address off (R17): its registers keep their reset values. The
time-base registers of the common page run in every role, PWM_CH_CTRL refuses EN itself (R253), and PAGE_LOCK is the
interconnect's own (R72). -/
def Block.blockOff (s : Block) (addr : Nat) : Bool :=
  match pageOf addr with
  | none => false
  | some p =>
    let n := addr % 0x1000
    if n = 0x20 then false
    else if p.code = 0x20 ∨ p.code = 0x21 ∨ p.code = 0x22 then s.isHub || s.isNode
    else if p.code = 0x05 ∨ p.code = 0x32 ∨ p.code = 0x33 then s.isHub
    else if p.code = 0x30 then s.isHub && decide (0x100 ≤ n)
    else if p.code = 0x31 then s.isHub && n != 0x44
    else false

/-- The state in which an access begins: nothing answered yet. -/
def Block.fresh (s : Block) : Block := { s with answer := {} }

/-- An access that ends with an error response (R60, R64, R455). -/
def Block.errorResp (s : Block) : Block := { s with answer := { data := 0, error := true } }

/-- A decode error: recorded, and ended with an error response (R60, R77). -/
def Block.decodeError (s : Block) (wr : Bool) (addr : Nat) (snd : Sender) : Block :=
  let s := s.wrN R.SYS_DECERR_LO addr
  (s.wrN R.SYS_DECERR_HI (addr / 2 ^ 32 % 256 + snd.agent.val * 256 + (if wr then 2 ^ 12 else 0) + 2 ^ 13)).errorResp

/-- The refusal of an access of a wrong width or alignment (R64): it has an error response, and it is recorded where
all its bytes fall in one page (R73). -/
def Block.badWidth (s : Block) (wr : Bool) (addr bytes : Nat) (snd : Sender) : Block :=
  if pageBase addr = pageBase (addr + bytes - 1) then (s.refuse wr addr snd .width).errorResp else s.errorResp

/-! ### Posted writes (R23 to R30) -/

/-- The writes posted to a page, oldest first. -/
def Block.queue (s : Block) (page : Nat) : List Posted := sget (fun _ => []) s.posted page
def Block.setQueue (s : Block) (page : Nat) (l : List Posted) : Block :=
  { s with posted := sset (fun _ => []) s.posted page l }

/-- A page whose home is FAB takes writes at once, except while its soft reset runs (R23, R30). -/
def Block.postsTo (s : Block) (page : Nat) : Bool :=
  match pageOf page with
  | none => false
  | some p => p.home != .fab || s.bt (R.PAGE_STAT page) 1

/-- A write enters the page's posting queue; with four queued the writer stalls and nothing is taken (R26). -/
def Block.post (s : Block) (snd : Sender) (a : Nat) (v : Word) : Block :=
  let page := pageBase a
  let q := s.queue page
  if 4 ≤ q.length then { s with answer := { stalled := true } }
  else { s.setQueue page (q ++ [⟨snd, a, v⟩]) with answer := {} }

/-- Deck Time stands in the clock of a cycle boundary whose tick 0 is still to be performed (R28, R42). -/
def Block.atBoundary (s : Block) : Bool := decide (s.tb.dt % 15625 = 0) && decide (s.tb.cycDone ≤ s.tb.dt / 15625)

/-- A home domain whose registers act at cycle boundaries. (log 95, DEDUCED) -/
def boundaryDom (page : Nat) : Bool :=
  match pageOf page with
  | none => false
  | some p => p.home == .wing || p.home == .tb || p.home == .dp || p.home == .sz

/-- Cycle number and tick of Deck Time (R36). -/
def Block.cycle (s : Block) : Nat := s.tb.dt / 15625
def Block.tick (s : Block) : Nat := s.tb.dt % 15625 / 5

/-- The PWM channel p, and its page. -/
def Block.pw1 (s : Block) (p : Nat) : Pwm := sget (fun _ => {}) s.pwm p
def Block.setPw1 (s : Block) (p : Nat) (x : Pwm) : Block := { s with pwm := sset (fun _ => {}) s.pwm p x }
def pwmPage (p : Nat) : Nat := 0x40380000 + p * 0x1000

/-- PWM_CH_STAT.RUNNING and .FROZEN, PWM_CH_CTRL.EN, PWM_CH_CFG.LOCK and P in force of channel p (R272). -/
def Block.running (s : Block) (p : Nat) : Bool := s.bt (R.PWM_CH_STAT p) 0
def Block.frozen (s : Block) (p : Nat) : Bool := s.bt (R.PWM_CH_STAT p) 4
def Block.chEn (s : Block) (p : Nat) : Bool := s.bt (R.PWM_CH_CTRL p) 0
def Block.chLock (s : Block) (p : Nat) : Bool := s.bt (R.PWM_CH_CFG p) 0
def Block.perAct (s : Block) (p : Nat) : Nat := s.fl (R.PWM_CH_PERIOD_ACT p) 0 16

/-- Ticks until channel p reloads, where it does so within the cycle in progress (R50, R246, R253): at tick 0 of the cycles
of R50 where it is cycle-locked, else at the end of its period; the first time not before the TB tick after the write
that starts it, and once in a tick. -/
def Block.ticksToReload (s : Block) (p : Nat) : Option Nat :=
  let x := s.pw1 p
  if !s.chEn p || s.bt R.PWM_COM_STAT 17 || (!s.running p && !(s.pageEn (pwmPage p) && x.starting)) then none
  else if s.chLock p then
    if s.tick = 0 ∧ s.cycle % (s.fl (R.PWM_CH_CFG p) 1 3 + 1) = s.fl (R.PWM_CH_CFG p) 4 3
        ∧ (s.running p = true ∨ x.startAt ≤ s.tb.ticks) ∧ x.relT ≠ s.tb.ticks + 1 then some 0 else none
  else
    let n := if s.running p then s.perAct p - x.cnt else x.startAt - s.tb.ticks
    if s.tick + n < 3125 then some n else none

/-- A page of a channel whose reload falls in this clock and is still to be performed. (log 95, DEDUCED) -/
def Block.reloadNow (s : Block) (page : Nat) : Bool :=
  match pageOf page with
  | none => false
  | some p => p.code == 0x31 && s.ticksToReload p.index == some 0

/-- What the home domain is not ready to apply: the page's soft reset runs (R30), or the clock is that of a cycle boundary
or a PWM reload still to be performed, whose work comes first (R28). (log 95, DEDUCED) -/
def Block.homeBusy (s : Block) (page : Nat) : Bool :=
  s.bt (R.PAGE_STAT page) 1 || (s.atBoundary && boundaryDom page) || s.reloadNow page

/-- A write to the register at `addr` cannot act yet: others of its page wait before it (R25), or its home domain is not
ready. PAGE_LOCK never waits (R72). (log 95, DEDUCED) -/
def Block.behind (s : Block) (addr : Nat) : Bool :=
  addr % 0x1000 != 0x20 && s.postsTo (pageBase addr)
    && (!(s.queue (pageBase addr)).isEmpty || s.homeBusy (pageBase addr))

/-- The value that a soft reset gives a register: its table's, or the one of the straps or the accepted image (R8, R68). -/
def Block.resetVal (s : Block) (a : Nat) : Word := sget regDefault s.rstv a

/-- A read that a running soft reset of its page answers with the reset value (R68); the header's identity, status, lock
and error record stay as they are, and a loan register, whose 0 would be a loan taken, is read as ever (R134). (log 79, DEDUCED) -/
def Block.readBusy (s : Block) (a : Nat) : Bool :=
  s.bt (R.PAGE_STAT (pageBase a)) 1 && !([0x00, 0x04, 0x0C, 0x20, 0x24] : List Nat).contains (a % 0x1000) &&
    !(decide (0x40040040 ≤ a) && decide (a < 0x40040140))

/-- The agent whose store a held completion keeps from completing (R114, R129). -/
def StallSrc.storeOf : StallSrc → Option Nat
  | .core a _ => some a
  | .ack a _ _ => some a
  | _ => none

/-- An agent whose last store does not complete, because its event is still held (R114, R129): it makes no other
access. (log 100, DEDUCED) -/
def Block.agentHeld (s : Block) (agent : Nat) : Bool :=
  s.disp.held.any (fun x => x.storeOf == some agent)

/-- An access that waits: nothing happens yet. -/
def Block.waits (s : Block) : Block := { s with answer := { stalled := true } }

/-- A write of a register with a meaning of its own, from its arrival at the interconnect on: outside every page a decode
error (R60), refused where the interconnect refuses it (R73). Where writes to its page wait, it waits behind them with the
value `v`, or stalls as the fifth (R23 to R30); else it completes at once, without effect where the role holds the block
off (R17). (log 88, DESIGN CHOICE; 95, DEDUCED) -/
def busWrite (snd : Sender) (addr : Nat) (v : Word) (act : Block → Block) (s : Block) : Block :=
  if s.agentHeld snd.agent.val then s.waits
  else if (pageOf addr).isNone then s.decodeError true addr snd
  else match s.denial snd addr true with
    | some r => s.refuse true addr snd r
    | none =>
      if s.behind addr then (s.fresh.noteDirect addr).post snd addr v
      else if s.blockOff addr then s.fresh else act (s.fresh.noteDirect addr)

/-- A read with a meaning of its own, from its arrival on. -/
def busRead (snd : Sender) (addr : Nat) (act : Block → Block) (s : Block) : Block :=
  if s.agentHeld snd.agent.val then s.waits
  else if (pageOf addr).isNone then s.decodeError false addr snd
  else match s.denial snd addr false with
    | some r => s.refuse false addr snd r
    | none =>
      if s.blockOff addr then { s with answer := { data := (regDefault addr).toNat } }
      else if s.readBusy addr then { s with answer := { data := (s.resetVal addr).toNat } }
      else act s.fresh

/-- A write with a meaning that reads or stores in the addressed memories, as `busWrite`. -/
def busWriteM (snd : Sender) (addr : Nat) (v : Word) (act : Block → Mem → Block × List MemOp) (s : Block) (m : Mem) :
    Block × List MemOp :=
  if s.agentHeld snd.agent.val then (s.waits, [])
  else if (pageOf addr).isNone then (s.decodeError true addr snd, [])
  else match s.denial snd addr true with
    | some r => (s.refuse true addr snd r, [])
    | none =>
      if s.behind addr then ((s.fresh.noteDirect addr).post snd addr v, [])
      else if s.blockOff addr then (s.fresh, []) else act (s.fresh.noteDirect addr) m

/-! ### Requests of one clock (R15) -/

/-- The place of an agent code in the order in which the interconnect grants requests of one FAB clock. -/
def grantRank (agent : Nat) : Nat :=
  if agent = 8 then 0 else if agent = 9 then 1 else if agent = 13 then 2 else if agent = 11 then 3
  else if agent < 8 then 4 + agent else if agent = 10 then 12 else 13

/-- A request takes its place behind those that are granted before it. -/
def grantIns {α : Type} (who : α → Sender) (x : α) : List α → List α
  | [] => [x]
  | y :: l =>
    if grantRank (who x).agent.val < grantRank (who y).agent.val then x :: y :: l else y :: grantIns who x l

/-- Requests of one FAB clock in the order in which they are granted. -/
def grantOrder {α : Type} (who : α → Sender) (l : List α) : List α := l.foldl (fun acc x => grantIns who x acc) []

/-- Note the answer to one request of a clock. -/
def Block.noteAnswer (s : Block) (snd : Sender) : Block := { s with answers := s.answers ++ [(snd, s.answer)] }

/-- The answer shown is the one to `snd`. -/
def Block.answerTo (s : Block) (snd : Sender) : Block :=
  match s.answers.find? (fun e => e.1 = snd) with
  | some e => { s with answer := e.2 }
  | none => s

/-- Requests of one clock, granted one after the other (R15); a request alone is just made. -/
def granted {α : Type} (who : α → Sender) (act : α → Block → Block) (x : α) (also : List α) (s : Block) : Block :=
  if also.isEmpty then act x s
  else ((grantOrder who (x :: also)).foldl (fun s y => (act y s).noteAnswer (who y)) { s with answers := [] }).answerTo (who x)

/-- The value a read answers. -/
def Block.reply (s : Block) (v : Nat) : Block := { s with answer := { data := v } }

/-! ### Events (R113 to R115) -/

/-- QFILL of the event queue. -/
def Block.qfill (s : Block) : Nat := s.disp.evq.length

/-- Keep the highest QFILL seen (R121). -/
def Block.noteHwm (s : Block) : Block :=
  if s.fl R.DISP_QHWM 0 11 < s.qfill then s.setF R.DISP_QHWM 0 11 s.qfill else s

/-- Put an event at the end of the queue. -/
def Block.enqueue (s : Block) (ev : Nat) : Block :=
  Block.noteHwm { s with disp := { s.disp with evq := s.disp.evq ++ [ev] } }

/-- Post an event of the coalesce class (R113, R115), 0 to 0x1FF: its pending bit, or a merge where that is set. -/
def Block.postEv (s : Block) (ev : Nat) : Block :=
  if 512 ≤ ev then s
  else if s.bt (R.DISP_PEND (ev / 32)) (ev % 32) then
    (s.incSat R.DISP_COAL_CNT 0 16).flag R.DISP_ERR 0 0x40010000 0
  else s.setB (R.DISP_PEND (ev / 32)) (ev % 32) true

/-- The event of a stall-class source (R113). -/
def StallSrc.event : StallSrc → Nat
  | .dsp w => 0x0D0 + w
  | .can i n => 0x120 + 4 * i + n
  | .gpio l => 0x160 + l
  | .core _ ev => ev
  | .ack _ _ ev => ev

/-- A Spectral Processor between jobs (R431, R432): SUSPENDED where a suspension waits, otherwise IDLE. -/
def Block.dspFree (s : Block) (w : Nat) : Block :=
  let x := sget (fun _ => ({} : Dsp)) s.dsp w
  let page := 0x40103000 + w * 0x40000
  let s := (s.setF (R.DSP_STAT w) 0 2 (if x.susp then 3 else 0)).setB (R.PAGE_STAT page) 2 x.susp
  if x.susp then ({ s with dsp := sset (fun _ => {}) s.dsp w { x with susp := false } } : Block).raise page 1 else s

/-- What its admission ends at the source of a held completion. -/
def Block.admitted (s : Block) : StallSrc → Block
  | .dsp w => if s.fl (R.DSP_STAT w) 0 2 = 2 then s.dspFree w else s
  | .can i _ => s.setB (R.CAN_STAT i) 22 ((List.range 4).any (fun n => s.disp.held.contains (.can i n)))
  | _ => s

/-- Post an event of the stall class: admitted while QFILL is below 960, otherwise its source holds it, and a store
does not complete (R114). -/
def Block.postStall (s : Block) (src : StallSrc) : Block :=
  if s.qfill < 960 && s.disp.held.isEmpty then s.enqueue src.event
  else
    let s := { s with disp := { s.disp with held := s.disp.held ++ [src] } }
    if src.storeOf.isSome then s.waits else s

/-! ### Event Archive (R498, R499) -/

/-- Offer a record to the writer's queue of eight; the Safety Island's records go ahead of all others. -/
def Block.offerRec (s : Block) (r : EaRec) : Block :=
  if 8 ≤ s.eaq.length then
    let s := s.setF R.SEC_EA_STAT 16 16 (satAdd (s.fl R.SEC_EA_STAT 16 16) 1 0xFFFF)
    s.flag R.SEC_ERR 1 0x40002000 9
  else if r.safe then
    { s with eaq := s.eaq.filter (fun x => x.safe) ++ [r] ++ s.eaq.filter (fun x => !x.safe) }
  else { s with eaq := s.eaq ++ [r] }

/-- Word 5 of a record (R498). -/
def Block.eaWord5 (s : Block) : Nat :=
  s.fl R.SYS_RST_CAUSE 0 7 + (if s.bt R.TB_STAT 1 then 0x80 else 0) + s.fl R.SEC_STAT 0 2 * 0x100
    + (Config.dieTemp s.free).toNat * 2 ^ 24

/-- A hardware record of the Event Archive: source block, page index or wing, kind (the CODE is
Config.eaCode of it), class, error and information register, failing address. (log 3, DESIGN CHOICE) -/
def Block.archive (s : Block) (source index kind cls err info addr : Nat) : Block :=
  Block.useFree (s.offerRec
    { source := source, index := index, code := (Config.eaCode kind).toNat, cls := cls, dt := s.tb.dt,
      poh := s.rdN R.SEC_POH, w5 := s.eaWord5, err := err, info := info, addr := addr, args := [],
      safe := source == 0x60 || source == 0x61 })

/-! ### Boot status (R92, R96) -/

/-- SYS_BOOT_STAT.STAGE. -/
def Block.bootStage (s : Block) : Nat := s.fl R.SYS_BOOT_STAT 0 4
def Block.setStage (s : Block) (n : Nat) : Block := s.setF R.SYS_BOOT_STAT 0 4 n

/-- The failure of an image or of the source is written to ERR and recorded in the Event Archive (R96). -/
def Block.bootErr (s : Block) (code : Nat) : Block :=
  let s := s.setF R.SYS_BOOT_STAT 8 8 code
  s.archive 0x00 0 14 4 0 (s.rdN R.SYS_BOOT_STAT) 0

/-- BOOT_FAILURE: the boot ROM stops (R96). -/
def Block.bootFail (s : Block) (code : Nat) : Block := (s.bootErr code).setStage 0xF

/-! ### Folding over indices -/

/-- Apply a state change for each index 0 to n − 1, in rising order. -/
def forN (n : Nat) (f : Nat → Block → Block) (s : Block) : Block :=
  (List.range n).foldl (fun s i => f i s) s

/-- Apply a state change for each element of a list, in order. -/
def forL {α : Type} (l : List α) (f : α → Block → Block) (s : Block) : Block := l.foldl (fun s i => f i s) s

/-- The LO staging register of a 64-bit pair (R74). -/
def Block.stagedLo (s : Block) (lo : Nat) : Word := sget (fun _ => 0#32) s.stage lo

end Sys2Proof.Machine
end

