-- ==== Sys2Proof/Machine/Threads.lean ====
section
/-! DEFINITION. The Dispatch Unit (05_processors_and_dispatch.md): threads, ready lists, assignment, dependence
counters, the event queue, time-outs, the PLIC's claim and completion. -/

namespace Sys2Proof.Machine

/-! ### Threads (R106 to R110) -/

/-- Base of DISP page 0. -/
def dispPage : Nat := 0x40010000

/-- A thread context. -/
def Block.thd (s : Block) (t : Nat) : Thread := sget (fun _ => {}) s.disp.th t

/-- Write a thread context. -/
def Block.setThd (s : Block) (t : Nat) (x : Thread) : Block :=
  { s with disp := { s.disp with th := sset (fun _ => {}) s.disp.th t x } }

/-- A dependence counter. -/
def Block.ctr (s : Block) (d : Nat) : Counter := sget (fun _ => {}) s.disp.dc d

/-- Write a dependence counter. -/
def Block.setCtr (s : Block) (d : Nat) (x : Counter) : Block :=
  { s with disp := { s.disp with dc := sset (fun _ => {}) s.disp.dc d x } }

/-- Set DISP_ERR.BAD_CMD (R107). -/
def Block.badCmd (s : Block) : Block := s.flag R.DISP_ERR 4 dispPage 4

/-- Refuse a command not listed for the present state (R107). -/
def Block.refuseCmd (s : Block) (addr : Nat) (snd : Sender) : Block :=
  (s.refuse true addr snd .state).badCmd

/-- The thread running on core h, if any. -/
def Block.runningOn (s : Block) (h : Nat) : Option Nat :=
  (s.disp.th.find? (fun e => decide (e.2.st = .running) && e.2.core == h)).map Prod.fst

/-- Take a thread out of the ready lists. -/
def Block.unready (s : Block) (t : Nat) : Block :=
  { s with disp := { s.disp with rdy := s.disp.rdy.filter (· != t) } }

/-- Join the tail of the thread's level (R108). -/
def Block.joinTail (s : Block) (t : Nat) : Block :=
  { s.unready t with disp := { (s.unready t).disp with rdy := (s.unready t).disp.rdy ++ [t] } }

/-- Join the head of the thread's level (R107). -/
def Block.joinHead (s : Block) (t : Nat) : Block :=
  { s.unready t with disp := { (s.unready t).disp with rdy := t :: (s.unready t).disp.rdy } }

/-- Make a thread READY at the tail of its level with the reason of its wake (R107). -/
def Block.wakeThd (s : Block) (t wake dc : Nat) : Block :=
  (s.setThd t { s.thd t with st := .ready, wake := wake, wakeDc := dc, tmo := .none }).joinTail t

/-- A thread of the window selector. -/
def Block.thSel (s : Block) : Nat := s.fl R.DISP_TH_SEL 0 8

/-- The ready list of a level (R108). -/
def Block.readyOf (s : Block) (l : Nat) : List Nat := s.disp.rdy.filter (fun t => (s.thd t).level == l)

/-- The READY threads in the order of assignment: level from the highest, list order within a level (R109). -/
def Block.readyOrder (s : Block) : List Nat :=
  (List.range 32).foldl (fun acc l => s.readyOf l ++ acc) []

/-- The core chosen for a thread, given the cores already chosen in this pass (R109). A core that is not released counts
as idle. (log 105, DESIGN CHOICE) -/
def Block.chooseCore (s : Block) (taken : List Nat) (t : Nat) : Option Nat :=
  let x := s.thd t
  let cores := (List.range 8).filter (fun h => nbit x.aff h && !taken.contains h)
  match cores.find? (fun h => (s.runningOn h).isNone) with
  | some h => some h
  | none =>
    if s.bt R.DISP_CTRL 2 then
      let lv := fun h => match s.runningOn h with | some r => (s.thd r).level | none => 0
      let low := cores.filter (fun h => decide (lv h < x.level))
      low.foldl (fun (best : Option Nat) h => match best with
        | none => some h
        | some b => if lv h < lv b then some h else some b) none
    else none

/-- The assignment of READY threads to cores (R109), as pairs of core and thread. -/
def Block.assignment (s : Block) : List (Nat × Nat) :=
  s.readyOrder.foldl (fun acc t => match s.chooseCore (acc.map Prod.fst) t with
    | some h => acc ++ [(h, t)]
    | none => acc) []

/-- The thread that the assignment in force gives core h. -/
def Block.assignedTo (s : Block) (h : Nat) : Option Nat := (s.disp.asg.find? (fun p => p.1 == h)).map Prod.snd

/-- Drive the dispatch interrupts from the assignment in force (R104, R109). -/
def Block.driveDispIrq (s : Block) : Block :=
  forN 8 (fun h s => s.setB (R.DISP_IRQ_STAT h) 0 (s.assignedTo h).isSome) s

/-- DISPATCH_ASSIGN (R109): one pass of assignment. -/
def opDispatchAssign (s : Block) : Block :=
  ({ s with disp := { s.disp with asg := s.assignment } }).driveDispIrq

/-- THREAD_CREATE (R107, R123): level, affinity and token are those of the window; WAKE and WAKE_DC read 0.
(log 104, DESIGN CHOICE) -/
def opThreadCreate (snd : Sender) (s : Block) : Block :=
  let t := s.thSel
  if (s.thd t).st = .free then s.setThd t { s.thd t with st := .suspended, wake := 0, wakeDc := 0, tmo := .none }
  else s.refuseCmd R.DISP_TH_CMD snd

/-- THREAD_RESUME (R107). -/
def opThreadResume (snd : Sender) (s : Block) : Block :=
  let t := s.thSel
  if (s.thd t).st = .suspended then (s.setThd t { s.thd t with st := .ready }).joinTail t
  else s.refuseCmd R.DISP_TH_CMD snd

/-- THREAD_SUSPEND (R107): of a READY or a BLOCKED thread; a wait is cancelled. -/
def opThreadSuspend (snd : Sender) (s : Block) : Block :=
  let t := s.thSel
  if (s.thd t).st = .ready ∨ (s.thd t).st = .blocked then
    (s.setThd t { s.thd t with st := .suspended, tmo := .none }).unready t
  else s.refuseCmd R.DISP_TH_CMD snd

/-- THREAD_WAKE (R107): WAKE := CANCELLED, WAKE_DC := 0. (log 104, DESIGN CHOICE) -/
def opThreadWake (snd : Sender) (s : Block) : Block :=
  let t := s.thSel
  if (s.thd t).st = .blocked then s.wakeThd t 3 0 else s.refuseCmd R.DISP_TH_CMD snd

/-- THREAD_DELETE (R107): EN of every counter bound to the thread is cleared. -/
def opThreadDelete (snd : Sender) (s : Block) : Block :=
  let t := s.thSel
  if (s.thd t).st = .suspended then
    forN 512 (fun d s => if (s.ctr d).tid = t then s.setCtr d { s.ctr d with en := false } else s)
      (s.setThd t { s.thd t with st := .free })
  else s.refuseCmd R.DISP_TH_CMD snd

/-- The word a read of DISP_NEXT returns for a thread (R122). -/
def nextWord (t level : Nat) : Nat := t + level * 2 ^ 8 + 2 ^ 16

/-- DISP_NEXT_READ by core h (R110): the thread assigned in this clock runs, the one displaced joins the head of
its level. -/
def opDispNextRead (h : Nat) (snd : Sender) (s : Block) : Block :=
  if snd.agent.val ≠ h then s.refuse false (R.DISP_NEXT h) snd .agent
  else
    let s := { s with disp := { s.disp with asg := s.assignment } }
    match s.assignedTo h with
    | none => s.reply 0
    | some t =>
      let s := match s.runningOn h with
        | some r => (s.setThd r { s.thd r with st := .ready }).joinHead r
        | none => s
      let s := (s.setThd t { s.thd t with st := .running, core := h }).unready t
      let s := { s with disp := { s.disp with asg := s.disp.asg.filter (fun p => p.1 != h) } }
      (s.setB (R.DISP_IRQ_STAT h) 0 false).reply (nextWord t (s.thd t).level)

/-- The thread that a DISP_CMD of core h is for: only core h may write it (R110), and only a RUNNING thread has
YIELD, WAIT and EXIT (R107). -/
def withRunning (h : Nat) (snd : Sender) (act : Nat → Block → Block) (s : Block) : Block :=
  if snd.agent.val ≠ h then s.refuse true (R.DISP_CMD h) snd .agent
  else match s.runningOn h with
    | none => s.refuseCmd (R.DISP_CMD h) snd
    | some t => act t s

/-- THREAD_YIELD (R107). -/
def opThreadYield (h : Nat) (snd : Sender) (s : Block) : Block :=
  withRunning h snd (fun t s => (s.setThd t { s.thd t with st := .ready }).joinTail t) s

/-- THREAD_EXIT (R107). -/
def opThreadExit (h : Nat) (snd : Sender) (s : Block) : Block :=
  withRunning h snd (fun t s => s.setThd t { s.thd t with st := .free, tmo := .none }) s

/-! ### Counters (R112) -/

/-- Whether thread t waits for counter d (R107, R122). -/
def awaits (x : Thread) (c : Counter) (t d : Nat) : Bool :=
  decide (x.st = .blocked) && (if x.waitAny then c.tid == t else x.waitDc == d)

/-- COUNTER_FIRE (R112): FIRED rises and saturates, COUNT reloads; a thread that awaits the counter wakes and
consumes that FIRED. -/
def Block.fireCtr (s : Block) (d : Nat) : Block :=
  let c := s.ctr d
  let s := if c.fired = 255 then s.flag R.DISP_ERR 1 dispPage 1 else s
  let c := { c with fired := satAdd c.fired 1 255, firedOvf := c.firedOvf || c.fired == 255, count := c.reload }
  let t := c.tid
  if awaits (s.thd t) c t d then
    (s.setCtr d { c with fired := c.fired - 1 }).wakeThd t 1 d
  else s.setCtr d c

/-- One event at one counter (R112). An enabled counter that stands at 0 without having fired is disarmed too.
(log 106, DESIGN CHOICE) -/
def Block.eventAt (s : Block) (ev d : Nat) : Block :=
  let c := s.ctr d
  if c.en && ((c.subAEn && c.subA == ev) || (c.subBEn && c.subB == ev)) then
    if c.count = 0 then
      (s.setCtr d { c with missed := true }).flag R.DISP_ERR 2 dispPage 2
    else
      let s := s.setCtr d { c with count := c.count - 1 }
      if c.count = 1 then s.fireCtr d else s
  else s

/-- Threads that one event made READY join in ascending TID order (R108): the part of the ready lists that joined
after the first `k` is put in that order. -/
def sortTail (k : Nat) (l : List Nat) : List Nat := l.take k ++ (l.drop k).mergeSort (· ≤ ·)

/-- EVENT_DELIVER (R112, R114): the oldest queued event decrements every matching enabled counter. -/
def opEventDeliver (s : Block) : Block :=
  match s.disp.evq with
  | [] => s
  | ev :: q =>
    let k := s.disp.rdy.length
    let s := { s with disp := { s.disp with evq := q } }
    let s := forN 512 (fun d s => s.eventAt ev d) s
    { s with disp := { s.disp with rdy := sortTail k s.disp.rdy } }

/-- COALESCE_ENQUEUE (R115): the lowest pending ID moves into the queue while QFILL is below 1024. -/
def opCoalesceEnqueue (s : Block) : Block :=
  if 1024 ≤ s.qfill then s
  else match (List.range 512).find? (fun e => s.bt (R.DISP_PEND (e / 32)) (e % 32)) with
    | none => s
    | some e => (s.setB (R.DISP_PEND (e / 32)) (e % 32) false).enqueue e

/-- The first held stall-class completion, in the order of arrival, is admitted while QFILL is below 960 (R114).
(log 107, DESIGN CHOICE) -/
def Block.admitHeld (s : Block) : Block :=
  match s.disp.held with
  | [] => s
  | x :: xs =>
    if s.qfill < 960 then (({ s with disp := { s.disp with held := xs } } : Block).enqueue x.event).admitted x else s

/-- EVENT_POST_SOFTWARE: a write of DISP_EV_POST (R113, R114, R121). -/
def opEventPostSoftware (snd : Sender) (v : Word) (s : Block) : Block :=
  let ev := fld v 0 10
  if 0x180 ≤ ev ∧ ev ≤ 0x1FF then s.postStall (.core snd.agent.val ev)
  else s.refuse true R.DISP_EV_POST snd .range

/-- DISP_COUNTER_WRITE: a write of DISP_DC_COUNT rearms the selected counter (R112, R124). -/
def opDispCounterWrite (v : Word) (s : Block) : Block :=
  let d := s.fl R.DISP_DC_SEL 0 9
  s.setCtr d { s.ctr d with count := fld v 0 16, reload := fld v 16 16 }

/-! ### Time-outs (R116 to R118) -/

/-- The active time mode: true for DECK (R116). -/
def Block.tact (s : Block) : Bool :=
  let m := s.fl R.DISP_CTRL 0 2
  if m = 0 then s.bt R.TB_STAT 1 else m == 2

/-- ceil(d / 1 000 000) + 1 (R116, R117). -/
def svcTicks (d : Nat) : Nat := (d + 999999) / 1000000 + 1

/-- The time-out of a wait expires (R107): WAKE := TIMEOUT, WAKE_DC := 0. (log 104, DESIGN CHOICE) -/
def Block.expire (s : Block) (t : Nat) : Block := s.wakeThd t 2 0

/-- The threads whose wait carries a time-out, in ascending TID order. -/
def Block.timed (s : Block) : List Nat :=
  (List.range 256).filter (fun t => decide ((s.thd t).st = .blocked) && decide ((s.thd t).tmo ≠ .none))

/-- Conversion of the pending time-outs at a change of the active mode (R117); `dt` is the Deck Time at the
change and `deck` the new mode. -/
def Block.convertTmo (s : Block) (deck : Bool) (dt : Nat) : Block :=
  let s := forL s.timed (fun t s =>
    let x := s.thd t
    match x.tmo with
    | .deck d => if deck then s else if d ≤ dt then s.expire t else s.setThd t { x with tmo := .svc (svcTicks (d - dt)) }
    | .svc r => if deck then s.setThd t { x with tmo := .deck (dt + r * 1000000) } else s
    | .none => s) s
  s.flag R.DISP_ERR 3 dispPage 3

/-- A change that may change the active time mode: where it does, the time-outs are converted with the Deck Time
before the change (R117). -/
def Block.keepMode (s : Block) (f : Block → Block) : Block :=
  let s' := f s
  if s.tact = s'.tact then s' else s'.convertTmo s'.tact s.tb.dt

/-- A step or reload of Deck Time shifts every pending DECK deadline (R118). -/
def Block.shiftTmo (s : Block) (delta : Int) : Block :=
  if s.tact then
    forL s.timed (fun t s =>
      let x := s.thd t
      match x.tmo with
      | .deck d => s.setThd t { x with tmo := .deck ((d : Int) + delta).toNat }
      | _ => s) s
  else s

/-- The Service Tick of the sorted delay list (R116). -/
def Block.svcTmo (s : Block) : Block :=
  forL s.timed (fun t s =>
    let x := s.thd t
    match x.tmo with
    | .svc r => if r ≤ 1 then s.expire t else s.setThd t { x with tmo := .svc (r - 1) }
    | _ => s) s

/-- WAIT_TIMEOUT (R116): the time-out of a thread expires when its deadline has come. -/
def opWaitTimeout (t : Nat) (s : Block) : Block :=
  let x := s.thd t
  if x.st = .blocked then
    match x.tmo with
    | .deck d => if d ≤ s.tb.dt then s.expire t else s
    | .svc r => if r = 0 then s.expire t else s
    | .none => s
  else s

/-- The counter that satisfies a WAIT at once (R107): the one named, or the lowest bound one for ANY.
(log 103, DESIGN CHOICE) -/
def Block.firedFor (s : Block) (t dc : Nat) (any : Bool) : Option Nat :=
  if any then (s.disp.dc.find? (fun e => e.2.tid == t && decide (0 < e.2.fired))).map Prod.fst
  else if 0 < (s.ctr dc).fired then some dc else none

/-- THREAD_WAIT: a write of DISP_CMD with OP WAIT by core h (R107, R116, R122). TMO 0b11 is refused with RANGE (R122) before
the test for a running thread (STATE, R107): the spec gives no order of the two. (log 84, DEDUCED) -/
def opThreadWait (h : Nat) (snd : Sender) (v : Word) (s : Block) : Block :=
  let dc := fld v 4 9
  let any := v.getLsbD 13
  let tmo := fld v 14 2
  if snd.agent.val = h ∧ tmo = 3 then (s.refuse true (R.DISP_CMD h) snd .range).badCmd
  else withRunning h snd (fun t s =>
    if !any && (s.ctr dc).tid != t then s.refuseCmd (R.DISP_CMD h) snd
    else if tmo = 2 ∧ ¬ s.tact then s.refuseCmd (R.DISP_CMD h) snd
    else match s.firedFor t dc any with
      | some d =>
        (s.setCtr d { s.ctr d with fired := (s.ctr d).fired - 1 }).setThd t { s.thd t with wake := 1, wakeDc := d }
      | none =>
        let w := s.rd64 (R.DISP_WAIT_LO h)
        let tm : Tmo := if tmo = 0 then .none
          else if tmo = 1 then (if s.tact then .deck (s.tb.dt + w) else .svc (svcTicks w))
          else .deck w
        let s := s.setThd t { s.thd t with st := .blocked, waitAny := any, waitDc := dc, tmo := tm }
        opWaitTimeout t s) s

/-- A write of DISP_CMD of core h (R110, R122): TMO 0b11 is refused whatever the OP. -/
def opDispCmd (h : Nat) (snd : Sender) (v : Word) (s : Block) : Block :=
  let op := fld v 0 4
  if snd.agent.val ≠ h then s.refuse true (R.DISP_CMD h) snd .agent
  else if fld v 14 2 = 3 then (s.refuse true (R.DISP_CMD h) snd .range).badCmd
  else if op = 1 then opThreadYield h snd s
  else if op = 2 then opThreadWait h snd v s
  else if op = 3 then opThreadExit h snd s
  else s.refuse true (R.DISP_CMD h) snd .range

/-! ### Cores, timer and PLIC (R101, R103, R105) -/

/-- CORE_RELEASE: a write of DISP_CORE_REL, W1S; a core newly released starts at DISP_BOOT_ADDR (R101). On a Hub
the cores are off (R17). -/
def opCoreRelease (v : Word) (s : Block) : Block :=
  if s.isHub then s
  else forN 8 (fun h s =>
    if v.getLsbD h && !s.bt R.DISP_CORE_REL h then
      let s := s.setB R.DISP_CORE_REL h true
      { s with disp := { s.disp with corePc := sset (fun _ => 0) s.disp.corePc h (s.rd64 R.DISP_BOOT_ADDR_LO) } }
    else s) s

/-- MACHINE_TIMER_INTERRUPT of core h: the line is 1 while Deck Time ≥ DISP_MTIMECMP (R103). -/
def opMachineTimer (h : Nat) (s : Block) : Block :=
  s.setB (R.DISP_IRQ_STAT h) 1 (decide (s.rd64 (R.DISP_MTIMECMP_LO h) ≤ s.tb.dt))

/-- A write of DISP_MSIP: the machine software interrupt line of core h follows its bit 0 (R103, R122). -/
def opMachineSoftware (h : Nat) (v : Word) (s : Block) : Block :=
  (s.wr (R.DISP_MSIP h) (v &&& 1#32)).setB (R.DISP_IRQ_STAT h) 2 (v.getLsbD 0)

/-- The pending source of the highest priority enabled for context x, the lowest number among equals (R105). -/
def Block.plicBest (s : Block) (x : Nat) : Nat :=
  ((List.range 512).foldl (fun (best : Nat × Nat) src =>
    let p := s.fl (R.PLIC_PRIO src) 0 3
    if s.bt (R.PLIC_PEND (src / 32)) (src % 32) && s.bt (R.PLIC_EN (16 * x + src / 32)) (src % 32)
        && decide (best.2 < p) then (src, p) else best) (0, 0)).1

/-- The interrupt notification of context x: the best pending source lies above the context's threshold (R105). -/
def Block.plicNotice (s : Block) (x : Nat) : Bool :=
  s.plicBest x != 0 && decide (s.fl (R.PLIC_THR x) 0 3 < s.fl (R.PLIC_PRIO (s.plicBest x)) 0 3)

/-- A write of PLIC_EN: source 0 cannot be enabled (R105). -/
def opPlicEnable (a : Nat) (v : Word) (s : Block) : Block :=
  s.wr a (if (a - R.PLIC_EN 0) % 0x40 = 0 then v &&& 0xFFFFFFFE#32 else v)

/-- PLIC_CLAIM: a read of PLIC_CLAIM_x (R105, R125). A read by an agent other than a core claims nothing. -/
def opPlicClaim (x : Nat) (snd : Sender) (s : Block) : Block :=
  if 8 ≤ snd.agent.val then s.reply 0
  else
    let src := s.plicBest x
    if src = 0 then s.reply 0
    else
      let s := s.setB (R.PLIC_PEND (src / 32)) (src % 32) false
      ({ s with disp := { s.disp with plicSvc := src :: s.disp.plicSvc } }).reply src

/-- The page of a PLIC source (R105), found by its number. -/
def sourcePage (src : Nat) : Option Nat :=
  ((List.range 0x604).find? (fun n => pageSource (0x40000000 + n * 0x1000) == some src
    && (pageAt n).isSome)).map (fun n => 0x40000000 + n * 0x1000)

/-- PLIC_COMPLETE: a write of PLIC_CLAIM_x (R105). A completion of a source that the context does not enable is
ignored, as the PLIC specification states. -/
def opPlicComplete (x : Nat) (v : Word) (s : Block) : Block :=
  let src := v.toNat
  if src < 512 ∧ s.bt (R.PLIC_EN (16 * x + src / 32)) (src % 32) = true ∧ s.disp.plicSvc.contains src = true then
    let s := { s with disp := { s.disp with plicSvc := s.disp.plicSvc.filter (· != src) } }
    match sourcePage src with
    | some page => s.plicSense page
    | none => s
  else s

/-! ### Memory errors (R119) -/

/-- DISPATCH_ECC_ERROR (R119): `kind` 0 thread, 1 counter. -/
def opDispatchEcc (kind idx : Nat) (uncorr : Bool) (s : Block) : Block :=
  if uncorr then
    let s := if kind = 0 then
        (s.setThd idx { s.thd idx with st := .suspended, tmo := .none }).unready idx
      else s.setCtr idx { s.ctr idx with en := false }
    let s := s.wrN R.DISP_ECC_INFO (idx % 512 + (kind % 2) * 512 + 1024)
    let s := s.flag R.DISP_ERR 6 dispPage 6
    s.archive 0x05 0 1 2 (s.rdN R.DISP_ERR) (s.rdN R.DISP_ECC_INFO) 0
  else s.flag R.DISP_ERR 5 dispPage 5

/-! ### The thread and counter windows (R123, R124) -/

/-- A write of DISP_TH_CFG: level and affinity of the selected thread; a READY thread moves to the tail of its new
level (R107, R123). -/
def opThCfgWrite (snd : Sender) (v : Word) (s : Block) : Block :=
  let t := s.thSel
  if fld v 5 8 = 0 then s.refuse true R.DISP_TH_CFG snd .range
  else
    let x := s.thd t
    let s := s.setThd t { x with level := fld v 0 5, aff := fld v 5 8 }
    if x.st = .ready ∧ x.level ≠ fld v 0 5 then s.joinTail t else s

/-- A write of DISP_DC_CFG: binding and subscriptions of the selected counter; a subscription that names a
reserved event is refused (R113, R124). -/
def opDcCfgWrite (snd : Sender) (v : Word) (s : Block) : Block :=
  let d := s.fl R.DISP_DC_SEL 0 9
  if 0x200 ≤ fld v 9 10 ∨ 0x200 ≤ fld v 20 10 then s.refuse true R.DISP_DC_CFG snd .range
  else s.setCtr d { s.ctr d with
    tid := fld v 0 8, en := v.getLsbD 8, subA := fld v 9 10, subAEn := v.getLsbD 19,
    subB := fld v 20 10, subBEn := v.getLsbD 30 }

/-- A write of DISP_DC_STAT: W1C bits of the selected counter (R124). -/
def opDcStatWrite (v : Word) (s : Block) : Block :=
  let d := s.fl R.DISP_DC_SEL 0 9
  let c := s.ctr d
  s.setCtr d { c with firedOvf := c.firedOvf && !v.getLsbD 8, missed := c.missed && !v.getLsbD 9 }

/-- A write of DISP_CTRL: TMODE 0b11 is refused; a change of the active mode converts the time-outs (R117, R121). -/
def opDispCtrlWrite (snd : Sender) (v : Word) (s : Block) : Block :=
  if fld v 0 2 = 3 then s.refuse true R.DISP_CTRL snd .range
  else s.keepMode (fun s => s.setF R.DISP_CTRL 0 3 (fld v 0 3))

/-- The state code of a thread (R123). -/
def ThSt.code : ThSt → Nat
  | .free => 0 | .suspended => 1 | .ready => 2 | .running => 3 | .blocked => 4

/-- What a read of DISP_TH_STATE returns. -/
def Block.thStateWord (s : Block) : Nat :=
  let x := s.thd s.thSel
  x.st.code + x.core * 16 + x.wake * 128 + x.wakeDc * 512

/-- What a read of DISP_RUN of core h returns (R122). -/
def Block.runWord (s : Block) (h : Nat) : Nat :=
  match s.runningOn h with
  | none => 0
  | some t =>
    let x := s.thd t
    t + x.level * 2 ^ 8 + 2 ^ 16 + x.wake * 2 ^ 17 + x.wakeDc * 2 ^ 19

/-- What a read of DISP_STAT returns (R121). -/
def Block.dispStatWord (s : Block) : Nat :=
  (if s.tact then 1 else 0) + s.qfill * 2 + (if s.disp.held.isEmpty then 0 else 2 ^ 12) + s.disp.rdy.length * 2 ^ 13

/-- What a read of DISP_DC_CFG returns. -/
def Block.dcCfgWord (s : Block) : Nat :=
  let c := s.ctr (s.fl R.DISP_DC_SEL 0 9)
  c.tid + (if c.en then 2 ^ 8 else 0) + c.subA * 2 ^ 9 + (if c.subAEn then 2 ^ 19 else 0) + c.subB * 2 ^ 20
    + (if c.subBEn then 2 ^ 30 else 0)

/-- What a read of DISP_DC_STAT returns. -/
def Block.dcStatWord (s : Block) : Nat :=
  let c := s.ctr (s.fl R.DISP_DC_SEL 0 9)
  c.fired + (if c.firedOvf then 2 ^ 8 else 0) + (if c.missed then 2 ^ 9 else 0)

/-! ### The meanings -/

def execThreadCreate (snd : Sender) (s : State) : Out :=
  onApp (busWrite snd R.DISP_TH_CMD 1#32 (opThreadCreate snd)) s
def execThreadResume (snd : Sender) (s : State) : Out :=
  onApp (busWrite snd R.DISP_TH_CMD 2#32 (opThreadResume snd)) s
def execThreadSuspend (snd : Sender) (s : State) : Out :=
  onApp (busWrite snd R.DISP_TH_CMD 3#32 (opThreadSuspend snd)) s
def execThreadWake (snd : Sender) (s : State) : Out :=
  onApp (busWrite snd R.DISP_TH_CMD 4#32 (opThreadWake snd)) s
def execThreadDelete (snd : Sender) (s : State) : Out :=
  onApp (busWrite snd R.DISP_TH_CMD 5#32 (opThreadDelete snd)) s
def execDispNextRead (h : CoreIx) (snd : Sender) (s : State) : Out :=
  onApp (busRead snd (R.DISP_NEXT h.val) (opDispNextRead h.val snd)) s
def execThreadYield (h : CoreIx) (snd : Sender) (s : State) : Out :=
  onApp (busWrite snd (R.DISP_CMD h.val) 1#32 (opThreadYield h.val snd)) s
def execThreadWait (h : CoreIx) (snd : Sender) (v : Word) (s : State) : Out :=
  onApp (busWrite snd (R.DISP_CMD h.val) ((v &&& 0xFFFFFFF0#32) ||| 2#32) (opThreadWait h.val snd v)) s
def execThreadExit (h : CoreIx) (snd : Sender) (s : State) : Out :=
  onApp (busWrite snd (R.DISP_CMD h.val) 3#32 (opThreadExit h.val snd)) s
def execDispatchAssign (s : State) : Out := ifRun (onApp opDispatchAssign) s
def execEventDeliver (s : State) : Out := ifRun (onApp opEventDeliver) s
def execCoalesceEnqueue (s : State) : Out := ifRun (onApp opCoalesceEnqueue) s
def execEventPostSoftware (snd : Sender) (v : Word) (s : State) : Out :=
  onApp (busWrite snd R.DISP_EV_POST v (opEventPostSoftware snd v)) s
def execWaitTimeout (t : Tid) (s : State) : Out := ifRun (onApp (opWaitTimeout t.val)) s
def execCoreRelease (snd : Sender) (v : Word) (s : State) : Out :=
  onApp (busWrite snd R.DISP_CORE_REL v (opCoreRelease v)) s
def execDispCounterWrite (snd : Sender) (v : Word) (s : State) : Out :=
  onApp (busWrite snd R.DISP_DC_COUNT v (opDispCounterWrite v)) s
def execMachineTimerInterrupt (h : CoreIx) (s : State) : Out := ifRun (onApp (opMachineTimer h.val)) s
def execPlicComplete (x : Fin 16) (snd : Sender) (v : Word) (s : State) : Out :=
  onApp (busWrite snd (R.PLIC_CLAIM x.val) v (opPlicComplete x.val v)) s
def execDispatchEccError (kind : Fin 2) (idx : Dc) (uncorr : Bool) (s : State) : Out :=
  ifRun (onApp (opDispatchEcc kind.val idx.val uncorr)) s

end Sys2Proof.Machine
end

