-- ==== Sys2Proof/Machine/Power.lean ====
section
/-! DEFINITION. The power-state ladder (21_power_states.md): requests, entries, wakes and exits of the five domains
WING0 to WING3 and DEV. -/

namespace Sys2Proof.Machine

/-- The PWR page (R482). -/
def pwrPage : Nat := 0x40001000

/-- Set a flag of PWR_ERR: IRQ_RAW bits 2 and 3 follow its bits 0 and 1. -/
def Block.pwrFlag (s : Block) (i : Nat) : Block := s.flag R.PWR_ERR i pwrPage (2 + i)

/-- Change the hidden state of the ladder. -/
def Block.modPw (s : Block) (f : Pw → Pw) : Block := { s with pw := f s.pw }

/-- Set the state of a domain. -/
def Block.setDom (s : Block) (d st : Nat) : Block := s.setF R.PWR_STAT (3 * d) 3 st

/-- The domains of a mask, WING0 to WING3 and DEV. -/
def domsOf (mask : Nat) : List Nat := (List.range 5).filter (fun d => nbit mask d)

/-! ### Requests and entry (R477, R478) -/

/-- SAFE_CH_OUT of both channel pages: a bit is on where a channel reports it. -/
def Block.safeOut (s : Block) : Nat := s.rdN (R.SAFE_CH_OUT 0) ||| s.rdN (R.SAFE_CH_OUT 1)

/-- The conditions of R477 that hold, as PWR_REFUSE records them. -/
def Block.pwrRefuse (s : Block) (st mask : Nat) : Nat :=
  let doms := domsOf mask
  let wings := doms.filter (· != 4)
  let next := fun d => if nbit mask d then st else s.domState d
  let b := fun (i : Nat) (c : Bool) => if c then 2 ^ i else 0
  b 0 (doms.any (fun d => s.domState d != 0)) + b 1 (st == 0)
    + b 2 (wings.any (fun w => s.enCars.any (fun c => c / 48 == w)))
    + b 3 (wings.any (fun w => s.cfg.safe.axes.any (fun x => x.2.carrel / 48 == w && nbit s.safeOut x.2.group)))
    + b 4 (nbit mask 4 && s.safeOut % 2 ^ 12 != 0)
    + b 5 (wings.any (fun w => s.rdN (R.DSP_STAT w) % 2 ^ 10 != 0))
    + b 6 (nbit mask 4 && (s.fl R.SZN_STAT 0 3 != 0 || s.fl R.SOLV_STAT 0 4 != 0))
    + b 7 (nbit mask 4 && (List.range 4).any (fun w => decide (next w < next 4)))

/-- POWER_STATE_REQUEST: a write of PWR_REQ that has reached the RTC domain (R477). -/
def opPowerStateRequest (snd : Sender) (v : Word) (s : Block) : Block :=
  let st := fld v 0 3
  let mask := fld v 4 5
  if 4 < st then s.refuse true R.PWR_REQ snd .range
  else
    let r := s.pwrRefuse st mask
    if r ≠ 0 then ((s.refuse true R.PWR_REQ snd .state).wrN R.PWR_REFUSE r).pwrFlag 0
    else
      let s := s.wrN R.PWR_REQ (st + mask * 16)
      (s.modPw (fun p => { p with reqState := st, reqMask := mask })).setB R.PWR_STAT 15 true

/-- The device abandons the pending request (R478). (log 73, DEDUCED) -/
def Block.pwrAbandon (s : Block) : Block :=
  ((s.setB R.PWR_STAT 15 false).modPw (fun p => { p with reqState := 0, reqMask := 0 })).pwrFlag 1

/-- An interrupt line of a released core of a wing is up. -/
def Block.wingIrq (s : Block) (w : Nat) : Bool :=
  [2 * w, 2 * w + 1].any (fun h => s.bt R.DISP_CORE_REL h
    && (s.rdN (R.DISP_IRQ_STAT h) != 0 || s.plicNotice (2 * h) || s.plicNotice (2 * h + 1)))

/-- POWER_STATE_ENTRY (R478): the pending request is carried out, or abandoned where an interrupt to a core of a named
wing stands. (log 73, DEDUCED) -/
def opPowerStateEntry (s : Block) : Block :=
  if !s.bt R.PWR_STAT 15 then s
  else if (domsOf s.pw.reqMask).any (fun d => d != 4 && s.wingIrq d) then s.pwrAbandon
  else
    let st := s.pw.reqState
    let s := forL (domsOf s.pw.reqMask) (fun d s => s.setDom d st) s
    ((s.setB R.PWR_STAT 15 false).modPw (fun p => { p with reqState := 0, reqMask := 0 })).raise pwrPage 0

/-! ### Wakes (R479) -/

/-- A domain starts its way back to Run; a Hub's wings are held in Archived (R1, R17). -/
def Block.startExit (s : Block) (d : Nat) : Block :=
  if s.domState d = 0 ∨ sget (fun _ => 0) s.pw.exiting d ≠ 0 ∨ (s.isHub = true ∧ d ≠ 4) then s
  else (s.modPw (fun p => { p with exiting := sset (fun _ => 0) p.exiting d (s.domState d) })).setB R.PWR_STAT 16 true

/-- A wake reaches domains: its source bit is set, a pending request that names one of them is abandoned, and each
domain not in Run starts its exit, DEV with a wing (R479, R478). -/
def Block.wake (s : Block) (mask src : Nat) : Block :=
  let s := s.setB R.PWR_WAKE_SRC src true
  let s := if s.bt R.PWR_STAT 15 && (s.pw.reqMask &&& mask) != 0 then s.pwrAbandon else s
  let s := if mask = 0 then s else s.startExit 4
  forL ((domsOf mask).filter (· != 4)) (fun d s => s.startExit d) s

/-- The doorbell wakes a wing (R130, R479). -/
def Block.wakeDomain (s : Block) (w : Nat) : Block := s.wake (2 ^ w) (10 + w)

/-- GPIO_WAKE: the edge selected in PWR_WAKE_POL on line 0 to 7 (R479). -/
def opGpioWake (line : Nat) (falling : Bool) (s : Block) : Block :=
  if s.bt R.PWR_WAKE_EN line && s.bt R.PWR_WAKE_POL line == falling then s.wake (s.fl R.PWR_WAKE_TGT 0 5) line else s

/-- RTC_WAKE: PWR_RTC reaches PWR_RTC_CMP (R479). -/
def opRtcWake (s : Block) : Block :=
  let s := (s.wr R.PWR_RTC_LO (s.rd R.PWR_RTC_CMP_LO)).wr R.PWR_RTC_HI (s.rd R.PWR_RTC_CMP_HI)
  if s.bt R.PWR_WAKE_EN 8 then s.wake (s.fl R.PWR_WAKE_TGT 0 5) 8 else s

/-- WAKE_RECEIVED: eight consecutive WAKE ordered sets on port 0 (R380, R479). -/
def opWakeReceived (s : Block) : Block :=
  if s.bt R.PWR_WAKE_EN 9 && (decide (s.domState 4 < 3) || s.bt R.PWR_WAKE_EN 10) then
    s.wake (s.fl R.PWR_WAKE_TGT 0 5) 9
  else s

/-! ### Exit (R475, R476, R481) -/

/-- The registers at the addresses of a predicate return to their reset values. (log 73, DEDUCED) -/
def Block.resetRegs (s : Block) (p : Nat → Bool) : Block :=
  let kept := s.regs.filter (fun e => !p e.1)
  let back := s.rstv.filter (fun e => p e.1)
  { s with regs := back.foldl (fun m e => sset regDefault m e.1 e.2) kept }

/-- The keys of a sparse map that a predicate keeps. -/
def skeep {α : Type} (m : Sparse α) (p : Nat → Bool) : Sparse α := m.filter (fun e => p e.1)

/-- A wing's logic and registers return to reset (R475: lost). -/
def Block.resetWing (s : Block) (w : Nat) : Block :=
  let s := s.resetRegs (fun a => pageDom (pageBase a) == some w)
  let out := fun c => c / 48 != w
  let s := { s with prof := skeep s.prof out, loop := skeep s.loop out, enCars := s.enCars.filter out }
  let s := { s with stepOut := skeep s.stepOut out, carReq := s.carReq.filter out, dsp := skeep s.dsp (· != w) }
  { s with path := skeep s.path (fun j => j / 4 != w), diag := skeep s.diag (· != w) }

/-- What no power state loses: the mailboxes' messages (R131) and the loans (R134). -/
def keepsAsleep (a : Nat) : Bool :=
  (decide (0x40020000 ≤ a) && decide (a < 0x40041000) && decide (0x40 ≤ a % 0x1000))

/-- DEV's logic and registers return to reset; the wings, the RTC domain, the accepted image, and the cores once released
(R101) stay (R475), as do the writer's queue in the RTC domain (R499) and what the boot, the fuses and the non-volatile
memory show; and the messages and loans, which nothing but a system reset clears of itself (R131, R134). (log 99, DEDUCED) -/
def Block.resetDev (s : Block) : Block :=
  let shown := [R.SYS_RST_CAUSE, R.DISP_CORE_REL, R.SYS_BOOT_STAT, R.SEC_STAT, R.SEC_POH, R.SEC_EA_STAT,
    R.SEC_SECRET_LOCK, R.DBG_CTRL, R.DBG_AUTH_STAT]
  let s := s.resetRegs (fun a => pageDom (pageBase a) == some 4 && !shown.contains a && !keepsAsleep a)
  let s := ((s.setF R.SYS_BOOT_STAT 8 8 0).setF R.SEC_EA_STAT 16 16 0).setF R.DBG_AUTH_STAT 16 8 0
  let new : Block :=
    { regs := s.regs, rstv := s.rstv, held := s.held, raw := s.raw, free := s.free, answer := s.answer, cfg := s.cfg
      eaq := s.eaq, szn := { cat := s.cfg.cat }, sec := { fails := s.sec.fails } }
  let rt := if s.isCoord then s.cfg.routes.foldl (fun m e => sset (fun _ => {}) m e.1 e.2) [] else []
  { new with
    fab := { rt := rt }, tb := { dt := s.tb.dt, ticks := s.tb.ticks, svcRun := s.tb.svcRun }, pw := s.pw, ackMemory := s.ackMemory, prof := s.prof
    loop := s.loop, cache := s.cache, path := s.path, diag := s.diag, dsp := s.dsp, enCars := s.enCars, carReq := s.carReq }

/-- The Deck Time with which DEV restarts (R481): its value at entry advanced by the RTC count of the time spent
asleep, off by an error that the spec bounds by 31 µs and leaves open (assumption 2). -/
def wakeDeck (dt slept free : Nat) : Nat :=
  let e := Config.freeInt free % 62001 - 31000
  (((dt + slept * 1000000000 / 32768 : Nat) + e) / 5 * 5).toNat % 2 ^ 64

/-- DECK_TIME_RESTART (R481). -/
def Block.deckRestart (s : Block) (slept : Nat) : Block :=
  let s := s.keepMode (fun s => s.setB R.TB_STAT 1 false)
  let s := (s.setF R.TB_STAT 2 2 0).setF R.SZN_STAT 0 3 0
  let dt := wakeDeck s.tb.dt slept s.free
  { s.useFree with tb := { s.tb with dt := dt, cycDone := dt / 15625 + 1 } }

/-- The caches of wing d and of its cores are lost (R474, R475); a line that no other cache holds is gone. -/
def Block.cacheLost (s : Block) (d : Nat) : Block :=
  let out := fun (l : CacheLine) => { l with
    l1i := l.l1i.filter (fun h => h / 2 != d), l1d := l.l1d.filter (fun h => h / 2 != d), l2 := l.l2.filter (· != d) }
  { s with cache := (s.cache.map out).filter (fun l => !(l.l1i.isEmpty && l.l1d.isEmpty && l.l2.isEmpty)) }

/-- POWER_STATE_EXIT_DONE of a domain (R475, R476, R481): `slept` is the RTC count of the time spent asleep. A wing
follows DEV. (log 43, DESIGN CHOICE) -/
def opPowerStateExitDone (d slept : Nat) (s : Block) (_ : Mem) : Block × List MemOp :=
  let old := sget (fun _ => 0) s.pw.exiting d
  if old = 0 ∨ (d ≠ 4 ∧ s.domState 4 ≠ 0) then (s, [])
  else
    let s := s.modPw (fun p => { p with exiting := serase d p.exiting })
    let s := (s.setDom d 0).setB R.PWR_STAT 16 (!s.pw.exiting.isEmpty)
    let s := if old < 3 then s else if d = 4 then s.resetDev else s.resetWing d
    let s := if d = 4 ∧ 2 ≤ old then s.deckRestart slept else s
    let s := if 3 ≤ old ∧ d ≠ 4 then
        forL [2 * d, 2 * d + 1] (fun h s => if s.bt R.DISP_CORE_REL h then
          { s with disp := { s.disp with corePc := sset (fun _ => 0) s.disp.corePc h (s.rd64 R.PWR_RESUME_LO) } } else s) s
      else s
    let bells := s.pw.bells.filter (fun e => e.1 == d)
    let s := forL bells (fun e s => s.postEv (0x100 + e.2)) (s.modPw (fun p => { p with bells := p.bells.filter (fun e => e.1 != d) }))
    let s := if old = 3 ∧ d ≠ 4 then { s with diag := sset (fun _ => {}) s.diag d { lost := true } } else s
    let s := if 3 ≤ old ∧ d ≠ 4 then s.cacheLost d else s
    let rtc := s.rd64 R.PWR_RTC_LO + slept
    let s := (s.wr64 R.PWR_RTC_LO (rtc % 2 ^ 48)).raise pwrPage 1
    (s, if old ≠ 4 then [] else if d = 4 then [.wipe 0x10000000 0x107FFFFF, .wipe 0x20000000 0x200FFFFF]
      else [.wipe (0x18000000 + d * 0x200000) (0x181FFFFF + d * 0x200000)])

/-! ### The meanings -/

def execPowerStateRequest (snd : Sender) (v : Word) (s : State) : Out :=
  onApp (busWrite snd R.PWR_REQ v (opPowerStateRequest snd v)) s
def execPowerStateEntry (s : State) : Out := onBlk opPowerStateEntry s
def execGpioWake (line : Fin 8) (falling : Bool) (s : State) : Out := onBlk (opGpioWake line.val falling) s
def execRtcWake (s : State) : Out := onBlk opRtcWake s
def execWakeReceived (s : State) : Out := onBlk opWakeReceived s
def execPowerStateExitDone (d : Fin 5) (slept : Nat) (s : State) : Out := onMem (opPowerStateExitDone d.val slept) s

end Sys2Proof.Machine
end

