-- ==== Sys2Proof/Machine/Profile.lean ====
section
/-! DEFINITION. The Profile Sequencer (08_profile_sequencer.md): the stop ramp, moves, the profile tick, homing, path
channels and the rate multiplier. -/

namespace Sys2Proof.Machine

/-! ### Ramps (R164, R165) -/

/-- A ramp in the internal format: speeds in 2^-48 count per tick, accelerations in the same LSB per cycle. -/
structure Ramp where
  vb : Nat
  vstop : Nat
  a1 : Nat
  a2 : Nat
  deriving DecidableEq, Repr

/-- `stopstep` of R165: one step of a ramp from speed v. -/
def stopstep (r : Ramp) (v : Nat) : Nat :=
  if v ≤ r.vstop then 0 else max (v - (if r.vb < v then r.a2 else r.a1)) r.vstop

/-- The loop of D in R165, for at most `fuel` steps. -/
def brake (r : Ramp) : Nat → Nat → Nat
  | 0, _ => 0
  | fuel + 1, v =>
    let w := stopstep r v
    if w = 0 then 0 else 3125 * (w >>> 16) + brake r fuel w

/-- The braking distance D of R165, in 2^-32 count. Each step takes at least 1 off the speed, so v + 1 steps suffice; a
ramp with an acceleration of 0 never comes to rest, and R164 and R168 allow none. -/
def dist (r : Ramp) (v : Nat) : Nat := if r.a1 = 0 ∨ r.a2 = 0 then 0 else brake r (v + 1) v

/-! ### One carrel -/

/-- The profile channel of carrel c. -/
def Block.prf (s : Block) (c : Nat) : Prof := sget (fun _ => {}) s.prof c
def Block.setPrf (s : Block) (c : Nat) (x : Prof) : Block :=
  { s with prof := sset (fun _ => {}) s.prof c x }

/-- The loops of carrel c. -/
def Block.lp (s : Block) (c : Nat) : Loop := sget (fun _ => {}) s.loop c
def Block.setLp (s : Block) (c : Nat) (x : Loop) : Block := { s with loop := sset (fun _ => {}) s.loop c x }

/-- CAR_STAT.ENABLED of carrel c. -/
def Block.carEn (s : Block) (c : Nat) : Bool := s.enCars.contains c

/-- Whether c is one of the 192 carrels and LOCAL (CAR_BIND.KIND, R239). -/
def Block.carLocal (s : Block) (c : Nat) : Bool := decide (c < 192) && !s.bt (R.CAR_BIND c) 0

/-- The value in force of a register of a carrel page: a write acts at the first profile tick after it completes (R177). -/
def Block.act (s : Block) (a : Nat) : Word :=
  match s.oldCar.find? (fun e => e.1 == a) with
  | some e => e.2
  | none => s.rd a
def Block.actN (s : Block) (a : Nat) : Nat := (s.act a).toNat
def Block.actI (s : Block) (a : Nat) : Int := (s.act a).toInt
def Block.actF (s : Block) (a lo len : Nat) : Nat := fld (s.act a) lo len
def Block.actB (s : Block) (a i : Nat) : Bool := (s.act a).getLsbD i

/-- PS_CFG.OUT of carrel c in force. -/
def Block.outOf (s : Block) (c : Nat) : Nat := s.actF (R.PS_CFG c) 3 2

/-- PS_CFG.MODE and .OUT of carrel c (R187). -/
def Block.psMode (s : Block) (c : Nat) : Nat := s.fl (R.PS_CFG c) 0 3
def Block.psOut (s : Block) (c : Nat) : Nat := s.fl (R.PS_CFG c) 3 2

/-- PS_STAT.STATE of carrel c (R188): 0 REST, 1 ACCEL, 2 CRUISE, 3 DECEL, 4 CRAWL, 5 STOPPING, 6 REVERSE, 7 HOMING. -/
def Block.psSt (s : Block) (c : Nat) : Nat := s.fl (R.PS_STAT c) 0 3
def Block.setPsSt (s : Block) (c st : Nat) : Block := s.setF (R.PS_STAT c) 0 3 st

/-- Set a flag of PS_ERR: bits 16 to 23 of the page's IRQ_RAW follow its bits 0 to 7 (R186). -/
def Block.psFlag (s : Block) (c i : Nat) : Block := s.flag (R.PS_ERR c) i (R.carPage c) (16 + i)

/-- The machine of which carrel c is a chain joint (R187, R196). -/
def Block.chainOf (s : Block) (c : Nat) : Option Nat :=
  (s.cfg.machs.find? (fun m => m.2.joints.any (fun j => j.carrel == c))).map Prod.fst

/-- The joint carrels of a machine: chain joints, then tool joints (R195). -/
def machCarrels (k : MachCfg) : List Nat := k.joints.map (fun j => j.carrel) ++ k.tools

/-- The machine of which carrel c is a joint (R173, R195). -/
def Block.machOf (s : Block) (c : Nat) : Option Nat := (s.cfg.machs.find? (fun m => (machCarrels m.2).contains c)).map Prod.fst

/-- A machine in FOLLOW mode: a chain joint of it is enabled in that mode (R173). -/
def Block.machFollow (s : Block) (k : MachCfg) : Bool := k.joints.any (fun j => s.carEn j.carrel && s.psMode j.carrel == 3)

/-- The stop ramp of carrel c (R164). -/
def Block.stopRamp (s : Block) (c : Nat) : Ramp :=
  ⟨s.rdN (R.PS_SR_VB c) * 65536, s.rdN (R.PS_SR_VSTOP c) * 65536, s.rdN (R.PS_SR_A1 c), s.rdN (R.PS_SR_A2 c)⟩

/-- The move ramp of carrel c (R167). -/
def Block.moveRamp (s : Block) (c : Nat) : Ramp :=
  ⟨s.rdN (R.PS_VBREAK c) * 65536, s.rdN (R.PS_VSTOP c) * 65536, s.rdN (R.PS_A1 c), s.rdN (R.PS_A2 c)⟩

/-- An integer number of counts in 2^-32 count. -/
def counts (n : Int) : Int := n * 4294967296

/-- P in its signed 64 bits and the internal velocity in its signed 80 bits (R161): beyond them they wrap. (log 110, DEDUCED) -/
def wrapP (p : Int) : Int := sx 64 (lowBits 64 p)
def wrapV (v : Int) : Int := sx 80 (lowBits 80 v)

/-- The sign of a number. -/
def sgn (x : Int) : Int := if x < 0 then -1 else if x = 0 then 0 else 1

/-! ### Moves (R167, R171) -/

/-- Acceleration towards a top speed (R167). -/
def upStep (m : Ramp) (vstart vmax v : Nat) : Nat :=
  if v < vstart then vstart else if v < m.vb then min (v + m.a1) vmax else min (v + m.a2) vmax

/-- Deceleration on the move ramp, not below a speed (R167, R171). -/
def dnStep (m : Ramp) (low v : Nat) : Nat := max (v - (if m.vb < v then m.a2 else m.a1)) low

/-- The rule of R167 for speed v and distance r ahead: the new speed and the state. -/
def moveStep (m : Ramp) (vstart vmax v r : Nat) : Nat × Nat :=
  let up := upStep m vstart vmax v
  let dn := dnStep m m.vstop v
  if 3125 * (up >>> 16) + dist m up ≤ r then (up, if up = v then 2 else 1)
  else if 3125 * (v >>> 16) + dist m v ≤ r then (v, 2)
  else (dn, if dn = m.vstop then 4 else 3)

/-- R167 with signs: `d` is T − P. None where the channel enters REVERSE. -/
def moveRule (m : Ramp) (vstart vmax : Nat) (v d : Int) : Option (Int × Nat) :=
  if v ≠ 0 ∧ sgn v ≠ sgn d then none
  else if m.vstop < v.natAbs ∧ d.natAbs < dist m v.natAbs then none
  else
    let r := moveStep m vstart vmax v.natAbs d.natAbs
    some (sgn d * (r.1 : Int), r.2)

/-- The rule of R171 toward direction `dir` (1 or −1): the new velocity and the state. Where thrust allocation has turned
the direction round (R210), the channel first slows to rest on the move ramp. (log 111, DEDUCED) -/
def jogRule (m : Ramp) (vstart vmax : Nat) (v dir : Int) : Int × Nat :=
  let a := v.natAbs
  if v ≠ 0 ∧ sgn v ≠ dir then (sgn v * (stopstep m a : Nat), 3)
  else if vmax < a then (dir * (dnStep m vmax a : Nat), 3)
  else
    let u := upStep m vstart vmax a
    (dir * (u : Int), if u = a then 2 else 1)

/-- A search move of homing (R178): toward signed speed `vt` on the move ramps. -/
def toward (m : Ramp) (vstart : Nat) (v vt : Int) : Int :=
  if vt = 0 ∨ (v ≠ 0 ∧ sgn v ≠ sgn vt) then sgn v * (stopstep m v.natAbs : Nat)
  else if vt.natAbs < v.natAbs then sgn vt * (dnStep m vt.natAbs v.natAbs : Nat)
  else sgn vt * (upStep m vstart vt.natAbs v.natAbs : Nat)

/-! ### Completion of a move and of homing (R168, R178, R180) -/

/-- The event 0x000 + c. -/
def Block.psEvent (s : Block) (c : Nat) : Block := s.postEv c

/-- R168: P := T with fraction 0, V := 0, AT_TARGET, REST, event. -/
def Block.arrive (s : Block) (c : Nat) : Block :=
  let x := s.prf c
  let s := s.setPrf c { x with p := counts x.tgt, v := 0 }
  (((s.setPsSt c 0).setB (R.PS_STAT c) 3 false).setB (R.PS_STAT c) 4 true).psEvent c

/-- Homing fails (R180): HOME_FAIL, HOMED stays 0, event; the channel stops on its stop ramp. -/
def Block.homeFail (s : Block) (c : Nat) : Block :=
  let x := s.prf c
  let s := s.setPrf c { x with method := 0, ref := false, rested := true }
  let s := (s.setB (R.PS_STAT c) 5 false).setF (R.PS_STAT c) 6 4 0
  ((s.setPsSt c (if x.v = 0 then 0 else 5)).psFlag c 5).psEvent c

/-- The FB interface of carrel c (CAR_BIND). -/
def Block.fbOf (s : Block) (c : Nat) : Nat := s.fl (R.CAR_BIND c) 6 5

/-- Homing completes (R178): HOMED, event, SATURATED of the feedback interface clears. -/
def Block.homeDone (s : Block) (c : Nat) : Block :=
  let s := s.setPrf c { s.prf c with method := 0, ref := false }
  let s := (s.setB (R.PS_STAT c) 5 true).setF (R.PS_STAT c) 6 4 0
  let s := if s.carLocal c then s.setB (R.FBK_STAT (s.fbOf c)) 0 false else s
  (s.setPsSt c 0).psEvent c

/-- A preset of P to p: the travel of a homing is counted from a start moved with it (R178). -/
def Block.presetP (s : Block) (c : Nat) (p : Int) : Block :=
  let x := s.prf c
  s.setPrf c { x with p := wrapP p, p0 := x.p0 + (wrapP p - x.p) }

/-- The reference event of homing sets P (R178); the search then stops on the move ramp. -/
def Block.homeRef (s : Block) (c : Nat) (p : Int) : Block :=
  let s := s.presetP c p
  (s.setPrf c { s.prf c with ref := true }).setF (R.PS_STAT c) 6 4 4

/-- How far P has moved in the last `lag` ticks: P − P_ref (R178). -/
def Block.movedSince (s : Block) (c lag : Nat) : Int :=
  let x := s.prf c
  let since := (s.tb.dt % 15625 / 5 + 3125 - (s.fl R.TB_FB_DEADLINE 0 12 + 4) % 3125) % 3125
  shr x.v 16 * (min lag since : Nat) + x.vp * (lag - since : Nat)

/-- Hidden state of a feedback interface. -/
def Block.fbi (s : Block) (i : Nat) : Fb := sget (fun _ => {}) s.fb i
def Block.setFbi (s : Block) (i : Nat) (x : Fb) : Block := { s with fb := sset (fun _ => {}) s.fb i x }

/-- The preset of a homing reference at interface i (R281): count := p + what was counted since the instant `lag` ticks ago;
POS_UNCERTAIN and SATURATED clear. -/
def Block.presetCount (s : Block) (i : Nat) (p : Int) (lag : Nat) : Block :=
  let x := s.fbi i
  let since := ((x.hist.filter (fun h => decide (s.tb.ticks - h.1 < lag))).map Prod.snd).sum
  ((s.wrI (R.FBK_COUNT i) (p + since)).setF (R.FBK_STAT i) 0 2 0).setFbi i { x with preset := true }

/-- The offset of PS_HOME_OFFSET in 2^-32 count. -/
def Block.homeOfs (s : Block) (c : Nat) : Int := counts (s.actI (R.PS_HOME_OFFSET c))

/-- The homing switch of carrel c is active (R190, R279). -/
def Block.switchActive (s : Block) (c : Nat) : Bool :=
  let h := s.rd (R.FBK_HOMESW (s.fbOf c))
  let lv := if h.getLsbD 7 then nbit s.pins.cap (fld h 8 4) else s.bt (R.FBK_STAT (fld h 0 5)) (4 + fld h 5 2)
  lv != s.actB (R.PS_HOME_CFG c) 9

/-- The current limit of carrel c: during the search of methods 4 and 7 ILIM of PS_HOME_ILIM (R179). -/
def Block.curLim (s : Block) (c : Nat) : Nat :=
  let l := s.actN (R.LE_ILIM c)
  if s.carLocal c ∧ s.psSt c = 7 ∧ ((s.prf c).method = 4 ∨ (s.prf c).method = 7) then s.actF (R.PS_HOME_ILIM c) 0 16 * l / 65536 else l

/-- One profile tick of the homing search (R178, R179): the new velocity, and the state with HOME_STEP moved on. (log 50, DEDUCED) -/
def Block.homeStep (s : Block) (c : Nat) : Int × Block :=
  let x := s.prf c
  let m := s.moveRamp c
  let vs := s.rdN (R.PS_VSTART c) * 65536
  let dir : Int := if s.bt (R.PS_HOME_CFG c) 4 then -1 else 1
  let fast : Int := (s.rdN (R.PS_HOME_VFAST c) * 65536 : Nat)
  let slow : Int := (s.rdN (R.PS_HOME_VSLOW c) * 65536 : Nat)
  let goto := fun (i : Nat) (s : Block) => s.setF (R.PS_STAT c) 6 4 i
  let step := s.fl (R.PS_STAT c) 6 4
  if !s.carLocal c || x.method = 5 || x.method = 8 then
    if x.ref then (0, s.homeDone c) else (0, s)
  else if x.ref || step = 4 then
    let v := toward m vs x.v 0
    (v, if v = 0 then s.homeDone c else s)
  else if x.method = 1 ∨ x.method = 2 then
    if step = 0 then
      if x.sw then (toward m vs x.v 0, goto 1 s) else (toward m vs x.v (dir * fast), s)
    else if step = 1 then
      if x.v = 0 then (toward m vs 0 (-dir * slow), goto 2 s) else (toward m vs x.v 0, s)
    else (toward m vs x.v (-dir * slow), if step = 2 ∧ x.sw = false ∧ x.method = 1 then goto 3 s else s)
  else if x.method = 4 then
    let i := (s.rdI (R.LE_IQ_MEAS c)).natAbs
    let n := if s.curLim c ≤ i then x.dwell + 1 else 0
    if s.fl (R.PS_HOME_CFG c) 10 6 ≤ n then
      let s := (s.presetCount (s.fbOf c) (s.actI (R.PS_HOME_OFFSET c)) 0).presetP c (s.homeOfs c)
      (0, (s.setPrf c { s.prf c with v := 0 }).homeDone c)
    else (toward m vs x.v (dir * slow), s.setPrf c { x with dwell := n })
  else (toward m vs x.v (dir * slow), s)

/-! ### The profile tick (R166) -/

/-- The speed time-out T of R284 that applies to carrel c. -/
def Block.spdTmo (s : Block) (c : Nat) : Nat :=
  if s.carLocal c then s.fl (R.FBK_SPD_TMO (s.fbOf c)) 0 24 else s.fl (R.CAR_SPD_TMO c) 0 24

/-- The feedback of carrel c reports a fault (R172, R282, R284). SATURATED and POS_UNCERTAIN, which only homing
clears, do not stop the homing that clears them (assumption 13). (log 13, DEDUCED) -/
def Block.feedbackFault (s : Block) (c : Nat) : Bool :=
  let l := s.lp c
  let x := s.prf c
  let homing := s.psSt c == 7 || x.home
  (!homing && (nbit l.status 1 || nbit l.status 2))
    || (nbit l.status 3 && decide (2 ^ 33 ≤ (shr x.v 16).natAbs * s.spdTmo c))
    || (!s.carLocal c && decide (s.fl (R.PS_CFG c) 12 8 < l.age))

/-- A fault stop is due for carrel c (R172). -/
def Block.faultNow (s : Block) (c : Nat) : Bool := s.feedbackFault c || (s.prf c).frame || (s.prf c).fault

/-- The deviation of a solve from P, in whole counts, saturating (R174). -/
def followDev (p ps : Int) : Nat := min ((ps - p).natAbs / 4294967296) 0xFFFFFFFF

/-- Record the deviation of a pending solve; FOLLOW_JUMP where it exceeds PS_FOLLOW_TOL (R174). -/
def Block.followCheck (s : Block) (c : Nat) : Block :=
  let x := s.prf c
  match x.solve with
  | none => s
  | some (ps, _, _) =>
    if s.psMode c ≠ 3 then s.setPrf c { x with solve := none }
    else
      let d := followDev x.p ps
      let s := s.wrN (R.PS_FOLLOW_DEV c) d
      if s.rdN (R.PS_FOLLOW_TOL c) < d then
        (s.setPrf c { x with solve := none, fault := true }).psFlag c 4
      else s

/-- Rows 1 to 3 of R166 apply to carrel c of itself. (log 45, DEDUCED) -/
def Block.ownStop (s : Block) (c : Nat) : Bool := (s.prf c).safe || s.faultNow c || (s.prf c).stop

/-- The machines in FOLLOW mode that a stop of rows 1 to 3 on one of their carrels stops (R173). -/
def Block.stoppedMachines (s : Block) : List Nat :=
  (s.cfg.machs.filter (fun m => s.machFollow m.2 && (machCarrels m.2).any (fun c => s.carEn c && s.ownStop c))).map Prod.fst

/-- What row 6 of R166 sets: the new velocity, the state, the velocity increment, and the block with what the mode
changes beside them. -/
def Block.row6 (s : Block) (c : Nat) : Int × Nat × Int × Block :=
  let x := s.prf c
  let st := s.psSt c
  let m := s.moveRamp c
  let vs := s.rdN (R.PS_VSTART c) * 65536
  let vm := s.rdN (R.PS_VMAX c) * 65536
  let stop := sgn x.v * (stopstep (s.stopRamp c) x.v.natAbs : Nat)
  let mode := s.psMode c
  if st = 5 then (stop, 5, stop - x.v, s)
  else if st = 7 then
    let r := s.homeStep c
    (r.1, r.2.psSt c, r.1 - x.v, r.2)
  else if mode = 1 ∧ (st ≠ 0 ∨ x.go = true) then
    let d := counts x.tgt - x.p
    if st = 6 ∧ x.v ≠ 0 then (stop, 6, stop - x.v, s)
    else if d = 0 ∧ x.v = 0 then (0, 8, 0, s)
    else match moveRule m vs vm x.v d with
      | some (v, st') => (v, st', v - x.v, s)
      | none => (stop, 6, stop - x.v, s.psFlag c 1)
  else if mode = 2 ∧ (st ≠ 0 ∨ x.go = true) then
    let r := jogRule m vs vm x.v (if s.bt (R.PS_CFG c) 5 then -1 else 1)
    (r.1, r.2, r.1 - x.v, s)
  else if mode = 3 ∧ (x.rested = false ∨ x.go = true) then
    match x.solve with
    | some (ps, vsol, a) =>
      (vsol * 65536, 9, a, s.setPrf c { x with p := ps, acc := a, solve := none })
    | none => (wrapV (x.v + x.acc), 9, x.acc, s)
  else (0, 0, -x.v, s)

/-- PS_STAT.STATE of a carrel that follows the Solver: by the change of its speed (assumption 11). (log 11, DEDUCED) -/
def followState (v0 v1 : Int) : Nat :=
  if v1 = 0 ∧ v0 = 0 then 0 else if v0.natAbs < v1.natAbs then 1 else if v1.natAbs < v0.natAbs then 3 else 2

/-- Row 4 of R166: the soft-limit guard (R170) for the new velocity the tick would set. (log 45, DEDUCED) -/
def Block.guardRow (s : Block) (c : Nat) (v : Int) : Bool :=
  let x := s.prf c
  let e := x.p + 3125 * shr v 16 + sgn v * (dist (s.stopRamp c) v.natAbs : Nat)
  s.bt (R.PS_CFG c) 6 && s.psSt c != 7 && (v != 0 || x.v != 0)
    && (decide (e < counts (s.rdI (R.PS_SOFT_MIN c))) || decide (counts (s.rdI (R.PS_SOFT_MAX c)) < e))

/-- Set the velocity chosen by a tick (R163, R188). -/
def Block.setVel (s : Block) (c : Nat) (v inc : Int) : Block :=
  let x := s.prf c
  let s := s.setPrf c { x with v := v, inc := inc, vt := v, vp := shr x.v 16, go := false, stop := false, fault := false }
  let s := if s.carLocal c ∧ s.outOf c = 1 ∧ (v < 0 ∧ 0 ≤ x.v ∨ 0 < v ∧ x.v ≤ 0) then
      let o := s.actF (R.PS_STEP_CFG c) 0 4
      let y := sget (fun _ => {}) s.stepOut o
      let y' := { y with dir := decide (v < 0), dirT := 5 * s.tb.ticks }
      if y.dir = decide (v < 0) then s else { s with stepOut := sset (fun _ => {}) s.stepOut o y' }
    else s
  s.setB (R.PS_STAT c) 3 (decide (v < 0))

/-- The profile tick of one carrel (R166). `mach` says that a stop of its machine applies (R173). Under a Category 0 demand
V is 0, and the channel waits for a GO; a homing goes on to stand in its search unless a stop of R166 ends it (R180).
(log 45, DEDUCED; 113, DEDUCED) -/
def Block.carTick (s : Block) (c : Nat) (mach : Bool) : Block :=
  let x := s.prf c
  let st := s.psSt c
  -- a HOME that acts at this tick starts the search (R178)
  let s := if x.home && st != 5 then
      let s := s.setPrf c { x with home := false, method := s.fl (R.PS_HOME_CFG c) 0 4, p0 := x.p, dwell := 0, ref := false, rested := false, sw := s.carLocal c && s.switchActive c }
      let s := ((s.setB (R.PS_STAT c) 5 false).setF (R.PS_STAT c) 6 4 0).setPsSt c 7
      if s.carLocal c && (s.prf c).method == 6 && s.switchActive c then s.homeFail c else s
    else s
  let s := if x.go then (s.setB (R.PS_STAT c) 4 false).setPrf c { s.prf c with rested := false } else s
  let s := s.setPrf c { s.prf c with tgt := s.rdI (R.PS_TARGET c) }
  let x := s.prf c
  let st := s.psSt c
  let sr := s.stopRamp c
  let lim := s.rdN (R.PS_SPEED_LIM c)
  let above := lim != 0xFFFFFFFF && decide (lim * 65536 < x.v.natAbs)
  let r1 := x.safe
  let r2 := s.faultNow c
  let r3 := x.stop || mach
  let r6 := s.row6 c
  let v5 : Int := if above then sgn x.v * (max (stopstep sr x.v.natAbs) (lim * 65536) : Nat) else r6.1
  let r4 := s.guardRow c v5
  let far := st == 7 && decide ((s.rdN (R.PS_HOME_RANGE c) : Int) * 4294967296 < |x.p - x.p0|)
  let s := s.setB (R.PS_STAT c) 10 above
  let s := if r1 then s.psFlag c 2 else s
  let s := if r2 then s.psFlag c 3 else s
  let s := if r4 then s.psFlag c 0 else s
  let s := if mach && !(r1 || r2 || x.stop) then s.psFlag c 7 else s
  let row := if r1 then 1 else if r2 then 2 else if r3 then 3 else if r4 then 4 else if above then 5 else 6
  let s := s.setPrf c { s.prf c with row := row }
  if x.off then
    -- a Category 0 demand: V := 0 without a ramp (R172)
    let fails := st == 7 && (r1 || r2 || r3 || r4 || far)
    let s := if fails then s.homeFail c else s
    let s := (s.setVel c 0 0).setPrf c { (s.setVel c 0 0).prf c with solve := none, rested := true }
    if st = 7 ∧ fails = false then s else s.setPsSt c 0
  else if r1 || r2 || r3 || r4 || far || st == 5 then
    let s := if st = 7 then s.homeFail c else s
    let v := sgn x.v * (stopstep sr x.v.natAbs : Nat)
    let s := s.setVel c v (v - x.v)
    let s := s.setPrf c { s.prf c with solve := none, rested := true }
    s.setPsSt c (if v = 0 then 0 else 5)
  else if above then
    let a := match x.solve with | some (_, _, a) => a | none => x.acc
    (s.setVel c v5 (v5 - x.v)).setPrf c { (s.setVel c v5 (v5 - x.v)).prf c with solve := none, acc := a }
  else
    -- row 6: its own changes on top of the flags above
    let s' := s.row6 c
    let t := s'.2.2.2
    if s'.2.1 = 8 then (t.setVel c 0 0).arrive c
    else
      let v := s'.1
      let t := t.setVel c v s'.2.2.1
      t.setPsSt c (if s'.2.1 = 9 then followState x.v v else s'.2.1)

/-- The auxiliary offset of a carrel planned in a frame other than V moves one eighth per profile tick, and at every tick
is held inside the soft limits (R176). -/
def Block.auxTick (s : Block) (c : Nat) : Block :=
  let x := s.prf c
  if !s.cfg.auxFrames.any (fun p => p.1 == c && p.2 != 0) then s
  else
    let o := if x.oLeft ≤ 1 then x.oNew else x.o + x.oStep
    let lo := counts (s.rdI (R.PS_SOFT_MIN c)) - x.p
    let hi := counts (s.rdI (R.PS_SOFT_MAX c)) - x.p
    let o' := clamp o lo hi
    let s := s.setPrf c { x with o := o', oLeft := x.oLeft - 1 }
    if o' ≠ o then s.psFlag c 6 else s

/-- A new offset from a solve handover (R176). -/
def Block.auxNew (s : Block) (c : Nat) (o : Int) : Block :=
  let x := s.prf c
  s.setPrf c { x with oNew := o, oStep := shr (o - x.o) 3, oLeft := 8 }

/-! ### Path channels (R175, R192) -/

/-- VMF_STAT.STATE and the code of a frame, 0 INVALID, 1 COAST, 2 VALID (R157); V is always valid. -/
def Block.vmfSt (s : Block) : Nat := s.fl R.VMF_STAT 0 3
def Block.frameCode (s : Block) (f : Nat) : Nat :=
  if f = 0 then 2 else if f = 1 then s.fl R.VMF_STAT 3 2 else if f = 2 then s.fl R.VMF_STAT 5 2
  else if 4 ≤ f then s.fl R.VMF_STAT (7 + 2 * (f - 4)) 2 else 0

/-- Motion planned in frame f may run (R151). -/
def Block.frameOk (s : Block) (f : Nat) : Bool :=
  f == 0 || ((s.vmfSt == 2 || s.vmfSt == 3) && s.frameCode f != 0)

/-- The planning frame in use of machine m (R159). -/
def Block.machFrame (s : Block) (m : Nat) : Nat := s.fl (R.VMF_MFRAME m) 4 3

/-- Path channel of machine m (wing m / 4, channel m mod 4). -/
def Block.pth (s : Block) (m : Nat) : Path := sget (fun _ => {}) s.path m
def Block.setPth (s : Block) (m : Nat) (x : Path) : Block := { s with path := sset (fun _ => {}) s.path m x }

/-- PATH_STAT.STATE of machine m: 0 REST, 1 RUN, 2 STOPPING, 3 STOPPED. -/
def Block.pathSt (s : Block) (m : Nat) : Nat := s.fl (R.PATH_STAT (m / 4) (m % 4)) 5 3
def Block.setPathSt (s : Block) (m st : Nat) : Block := s.setF (R.PATH_STAT (m / 4) (m % 4)) 5 3 st

/-- The PS page of wing w. -/
def psPage (w : Nat) : Nat := 0x40102000 + w * 0x40000

/-- Set a flag of PATH_ERR: bits 4j to 4j + 3 of the PS page's IRQ_RAW follow it (R192). -/
def Block.pathFlag (s : Block) (m i : Nat) : Block :=
  s.flag (R.PATH_ERR (m / 4) (m % 4)) i (psPage (m / 4)) (4 * (m % 4) + i)

/-- The stop ramp and the move ramp of a path channel (R164, R192). -/
def Block.pathSr (s : Block) (m : Nat) : Ramp :=
  let w := m / 4
  let j := m % 4
  ⟨s.rdN (R.PATH_SR_VB w j) * 65536, s.rdN (R.PATH_SR_VSTOP w j) * 65536, s.rdN (R.PATH_SR_A1 w j), s.rdN (R.PATH_SR_A2 w j)⟩
def Block.pathRamp (s : Block) (m : Nat) : Ramp :=
  let w := m / 4
  let j := m % 4
  ⟨s.rdN (R.PATH_VB w j) * 65536, s.rdN (R.PATH_VSTOP w j) * 65536, s.rdN (R.PATH_A1 w j), s.rdN (R.PATH_A2 w j)⟩

/-- The total queued length of a path (R175). -/
def Path.total (x : Path) : Nat := (x.segs.map (fun g => g.len)).sum

/-- Segments whose end the path has passed leave the queue (R175, R192). -/
def popSegs : List Seg → Int → Nat → List Seg × Int × Nat
  | [], s, n => ([], s, n)
  | g :: gs, s, n => if (g.len : Int) ≤ s then popSegs gs (s - g.len) (n + 1) else (g :: gs, s, n)

/-- The end pose of a segment, in the formats of R138. -/
def Seg.pose (g : Seg) : Pose := ⟨V3.ofInts g.pos 20, Q4.ofInts g.quat⟩

/-- The motion along the segment from `p0` at arc length s with speed v and increment a (R175): position in proportion s / L,
orientation by spherical linear interpolation. -/
def Seg.motion (p0 : Pose) (g : Seg) (s v a : Int) : Motion :=
  let d := g.pose.p.sub p0.p
  let w := (p0.q.conj.mul g.pose.q).log
  let l := F64.ofInt g.len 0
  let f := F64.div (F64.ofInt (min s g.len) 0) l
  let f1 := F64.div (F64.ofInt (v * 200000000) 16) l
  let f2 := F64.div (F64.ofInt (a * 12800000000000) 16) l
  { pose := ⟨p0.p.add (V3.scale f d), (p0.q.mul (Q4.exp (V3.scale f w))).pos⟩
    vel := V3.scale f1 d, acc := V3.scale f2 d, rate := V3.scale f1 w, racc := V3.scale f2 w }

/-- The motion along a queue from its start pose. -/
def segsMotion (p0 : Pose) : List Seg → Int → Int → Int → Motion
  | [], _, _, _ => { pose := p0 }
  | g :: gs, s, v, a => if (g.len : Int) ≤ s ∧ gs ≠ [] then segsMotion g.pose gs (s - g.len) v a else g.motion p0 s v a

end Sys2Proof.Machine

namespace Sys2Proof

/-- The path's pose, velocity and acceleration in its planning frame (R175): metres, seconds. -/
def Machine.Path.motion (x : Machine.Path) : Motion := Machine.segsMotion x.start x.segs x.s x.v x.inc

end Sys2Proof

namespace Sys2Proof.Machine

/-- The equivalent radius of a machine (R175). -/
def Block.rotR (s : Block) (m : Nat) : Nat :=
  match s.cfg.machs.find? (fun x => x.1 == m) with | some x => x.2.rotR | none => 0

/-- The square of the distance of two positions, of 2^-32 unit squared (R138, R175). -/
def posDist2 (p q : List Int) : Nat := ((List.zipWith (fun a b => (a - b) * (a - b)) p q).foldl (· + ·) 0).toNat * 2 ^ 64

/-- The distance of two positions in 2^-32 unit: where it is no whole number, one of the two next to it
(assumption 12). (log 12, DESIGN CHOICE) -/
def posDist (p q : List Int) : Nat :=
  let e := isqrtBits (posDist2 p q) 68 0
  if e * e = posDist2 p q then e else if Config.pathRoundUp p q then e + 1 else e

/-- ROT_R times the rotation angle between two orientations, in 2^-32 unit (R175), in binary64 and there within one of the
rounded number (assumption 12). (log 12, DESIGN CHOICE) -/
def arcLen (q0 q1 : List Int) (rotR : Nat) : Nat :=
  let x := F64.mul (F64.ofInt rotR 0) (((Q4.ofInts q0).conj.mul (Q4.ofInts q1)).unit).angle
  (F64.toInt x 32).toNat + Config.pathArc q0 q1 rotR % 3 - 1

/-- The length of a segment in 2^-32 unit (R175): the larger of the position distance and ROT_R times the rotation
angle. (log 12, DESIGN CHOICE) -/
def segLen (p0 q0 p1 q1 : List Int) (rotR : Nat) : Nat :=
  max (posDist p0 p1) (if q0 = q1 then 0 else arcLen q0 q1 rotR)

/-- The length of a segment that starts at pose p. (log 12, DESIGN CHOICE) -/
def segLenFrom (p : Pose) (g : Seg) (rotR : Nat) : Nat :=
  segLen ((p.p.toFix 20).map Prod.fst) (p.q.toList.map (fun x => (fix32 x 30).1)) g.pos g.quat rotR

/-- The queue from pose p on: the first segment starts there (R175). -/
def Path.rebase (x : Path) (p : Pose) (rotR : Nat) : Path :=
  { x with start := p, s := 0, segs := match x.segs with
      | [] => []
      | g :: gs => { g with len := segLenFrom p g rotR } :: gs }

/-- The queue once the pushes and flushes that wait have acted (R177). -/
def Path.acted (x : Path) : Path :=
  x.pend.foldl (fun x e => match e with
    | some g => { x with segs := x.segs ++ [g] }
    | none => { x with start := x.motion.pose, segs := [], s := 0 }) { x with pend := [] }

/-- Take completed segments off the queue, count them and keep the last end pose. -/
def Block.pathPop (s : Block) (m : Nat) : Block :=
  let x := (s.pth m).acted
  let r := popSegs x.segs x.s 0
  if r.2.2 = 0 then s.setPth m x
  else
    let a := R.PATH_STAT (m / 4) (m % 4)
    let s := s.setPth m { x with segs := r.1, s := r.2.1, start := match x.segs[r.2.2 - 1]? with
      | some g => g.pose
      | none => x.start }
    (s.setF a 0 5 r.1.length).setF a 8 8 (s.fl a 8 8 + r.2.2)

/-- The path channel is STOPPED and its queue is empty (R173). (log 46, DEDUCED) -/
def Block.pathMachineStop (s : Block) (m : Nat) : Block :=
  let x := s.pth m
  let s := s.setPth m { x with start := x.motion.pose, segs := [], s := 0, v := 0, inc := 0, pend := [], go := false, stop := false, slow := false }
  ((s.setF (R.PATH_STAT (m / 4) (m % 4)) 0 5 0).setPathSt m 3).pathFlag m 1

/-- The profile tick of one path channel (R175, R174). A stop of PATH_CMD.STOP or of frame loss runs on its row of the
stop-ramp table; with a carrel of the machine in row 5 of R166 it slows on the same ramp. (log 46, DEDUCED) -/
def Block.pathTick (s : Block) (m : Nat) (mstop : Bool) : Block :=
  let s := s.pathPop m
  if mstop then s.pathMachineStop m
  else
    let x := s.pth m
    let starts := x.go && s.frameOk (s.machFrame m) && (s.pathSt m == 0 || s.pathSt m == 3)
    let st := if starts then 1 else s.pathSt m
    -- the first segment runs from the path pose at GO
    let x := if starts && x.s == 0 then x.rebase x.start (s.rotR m) else x
    let slowed : Int := sgn x.v * (stopstep (s.pathSr m) x.v.natAbs : Nat)
    let put := fun (v : Int) (st : Nat) =>
      (s.setPth m { x with v := v, inc := v - x.v, go := false, stop := false, slow := false }).setPathSt m st
    if (x.stop || st == 2) && st != 0 && st != 3 then put slowed (if slowed = 0 then 0 else 2)
    else if st ≠ 1 then put 0 st
    else if x.slow then put slowed 1
    else
      let d := (x.total : Int) - x.s
      if d ≤ 0 then put 0 0
      else
        let w := m / 4
        let j := m % 4
        match moveRule (s.pathRamp m) (s.rdN (R.PATH_VSTART w j) * 65536) (s.rdN (R.PATH_VMAX w j) * 65536) x.v d with
        | some (v, _) => put v 1
        | none => put slowed 1

/-- Machines of the image with a path channel. -/
def Block.machines (s : Block) : List Nat := s.cfg.machs.map Prod.fst

/-- Writes of carrel pages that have completed come into force (R177). CAR_STAT.CUR_FED follows LE_CFG.CUR_EN (R239). -/
def Block.takeWrites (s : Block) : Block :=
  let a := s.oldCar.map Prod.fst
  let s := { s with oldCar := [] }
  forL (s.cfg.cars.filter (fun c => a.contains (R.LE_CFG c))) (fun c s => s.setB (R.CAR_STAT c) 2 (s.carLocal c && s.bt (R.LE_CFG c) 8)) s

/-- P + O, V and the velocity increment as the profile tick leaves them are handed to the loops (R163, R221). -/
def Block.handRefs (s : Block) : Block :=
  forL s.enCars (fun c s =>
    let x := s.prf c
    s.setPrf c { x with rp := x.p + x.o, rv := shr x.v 16, ra := x.inc }) s

/-- The whole profile tick after the solve handover (R166 to R176). On a Node the sequencer serves homing only, and
step outputs run from command items (R17, R182). -/
def Block.profTick (s : Block) : Block :=
  if s.isHub then s
  else if s.isNode then
    forL (s.enCars.filter (fun c => s.carLocal c)) (fun c s =>
      if s.psSt c = 7 ∨ (s.prf c).home = true ∨ (s.psSt c = 5) then s.carTick c false
      else s.setPrf c { s.prf c with row := 6 }) s
  else
    let s := forL s.enCars (fun c s => s.followCheck c) s
    let stopped := s.stoppedMachines
    let s := forL s.enCars (fun c s =>
      let mach := match s.machOf c with
        | some m => stopped.contains m
        | none => false
      let s := s.carTick c mach
      let s := match s.machOf c with
        | some m => if s.bt (R.PS_STAT c) 10 then s.setPth m { s.pth m with slow := true } else s
        | none => s
      s.auxTick c) s
    (forL s.machines (fun m s => s.pathTick m (stopped.contains m)) s).handRefs

/-! ### The rate multiplier (R162, R168, R182) -/

/-- Whether R168 applies to carrel c: MOVE mode, with R167 setting its speed. -/
def Block.mayArrive (s : Block) (c : Nat) : Bool :=
  s.psMode c == 1 && decide (1 ≤ s.psSt c) && decide (s.psSt c ≤ 4)

/-- The distance T − P of carrel c, for T as the last profile tick read it (R177). -/
def Block.toGo (s : Block) (c : Nat) : Int := counts (s.prf c).tgt - (s.prf c).p

/-- Integer part of a 32.32 position. (log 49, DEDUCED) -/
def intPart (p : Int) : Int := p / 4294967296

/-- The step output of carrel c as P moves from p0 to p1 at V per tick over ticks that start at `dt` ns: a pulse
for each change of the integer part; the last starts at its tick, not before DIR_SETUP ticks after a change of DIR
(R182, R184). -/
def Block.stepPulses (s : Block) (c : Nat) (p0 p1 v : Int) (dt : Nat) : Block :=
  if s.carLocal c = false ∨ s.outOf c ≠ 1 ∨ intPart p0 = intPart p1 then s
  else
    let o := s.actF (R.PS_STEP_CFG c) 0 4
    let y := sget (fun _ => {}) s.stepOut o
    let f := intPart p1
    let k : Int := if 0 < v then (counts f - p0 + v - 1) / v else (p0 - counts (f + 1)) / (-v) + 1
    let t := dt + 5 * k.toNat
    let t' := max t (y.dirT + 5 * s.actF (R.PS_STEP_CFG c) 16 8)
    let y' := { y with pulses := y.pulses + (intPart p1 - intPart p0).natAbs, last := t' }
    { s with stepOut := sset (fun _ => {}) s.stepOut o y' }

/-- n ticks of the rate multiplier of carrel c (R162), with the arrival of R168. -/
def Block.advCar (s : Block) (n c : Nat) : Block :=
  let x := s.prf c
  let v := shr x.v 16
  let d := s.toGo c
  if v = 0 then s
  else if s.mayArrive c && sgn d == sgn v && decide (d.natAbs ≤ n * v.natAbs) then
    (s.arrive c).stepPulses c x.p (x.p + d) v (5 * s.tb.ticks)
  else (s.setPrf c { x with p := wrapP (x.p + n * v) }).stepPulses c x.p (x.p + n * v) v (5 * s.tb.ticks)

/-- n ticks of a path channel. -/
def Block.advPath (s : Block) (n m : Nat) : Block :=
  let x := s.pth m
  let v := shr x.v 16
  if v = 0 then s
  else if (x.total : Int) ≤ x.s + n * v then (s.setPth m { x with s := x.total, v := 0, inc := 0 }).setPathSt m 0
  else s.setPth m { x with s := x.s + n * v }

/-- n ticks of every profile and path channel. -/
def Block.advProf (s : Block) (n : Nat) : Block :=
  let s := forL s.enCars (fun c s => s.advCar n c) s
  forL (s.path.map Prod.fst) (fun m s => s.advPath n m) s

/-- Ticks until carrel c reaches its target, where it is on its way there (R168). -/
def Block.ticksToTarget (s : Block) (c : Nat) : Option Nat :=
  let v := shr (s.prf c).v 16
  let d := s.toGo c
  if v ≠ 0 ∧ s.mayArrive c = true ∧ sgn d = sgn v then some ((d.natAbs + v.natAbs - 1) / v.natAbs) else none

/-- Ticks until the integer part of P changes (R182). -/
def Block.ticksToPulse (s : Block) (c : Nat) : Option Nat :=
  let x := s.prf c
  let v := shr x.v 16
  if s.carLocal c = false ∨ s.outOf c ≠ 1 ∨ v = 0 then none
  else
    let f := intPart x.p
    some ((if 0 < v then (counts (f + 1) - x.p + v - 1) / v else (x.p - counts f) / (-v) + 1).toNat)

/-! ### Enable and disable (R163, R229) -/

/-- CARREL_ENABLE: a write of CAR_CTRL.EN = 1, refused while FOLIO_VALID is 0; it acts at the next cycle boundary
(R229). -/
def opCarrelEnable (c : Nat) (snd : Sender) (s : Block) : Block :=
  if !s.bt (R.LE_STAT c) 8 then s.refuse true (R.CAR_CTRL c) snd .state
  else
    let s := s.setB (R.CAR_CTRL c) 0 true
    { s with carReq := (s.carReq.filter (· != c)) ++ [c] }

/-- CARREL_DISABLE: a write of CAR_CTRL.EN = 0; it acts at the next cycle boundary (R229). -/
def opCarrelDisable (c : Nat) (s : Block) : Block :=
  let s := s.setB (R.CAR_CTRL c) 0 false
  { s with carReq := (s.carReq.filter (· != c)) ++ [c] }

/-- The profile channel of a carrel that is disabled (R163). -/
def Block.profDisable (s : Block) (c : Nat) : Block :=
  let homing := s.psSt c == 7
  let x := s.prf c
  let s := s.setPrf c { x with v := 0, inc := 0, vt := 0, vp := 0, go := false, stop := false, home := false, method := 0, ref := false, solve := none }
  let s := ((s.setPsSt c 0).setB (R.PS_STAT c) 4 false).setB (R.PS_STAT c) 3 false
  if homing then (((s.setB (R.PS_STAT c) 5 false).setF (R.PS_STAT c) 6 4 0).psFlag c 5).psEvent c else s

/-- The profile channel of a carrel that is enabled (R163): P at the measured position, V 0; a step carrel keeps P. -/
def Block.profEnable (s : Block) (c : Nat) : Block :=
  let x := s.prf c
  let p := if s.psOut c = 1 then x.p else counts (intPart (s.lp c).pfb)
  (s.setPrf c { x with p := p, v := 0, inc := 0, vt := 0, vp := 0, acc := 0, row := 6, rested := false, auxRef := none, solve := none,
                       oNew := x.o, oLeft := 0 }).setPsSt c 0

/-! ### Commands (R168, R177, R178) -/

/-- A condition of R168 fails for move parameters. (log 47, DEDUCED) -/
def badMove (vstart vmax vstop a1 a2 : Nat) : Bool :=
  vstop == 0 || a1 == 0 || a2 == 0 || decide (vmax < vstart) || decide (vmax < vstop)

/-- A speed above 2^32 / (2 × PW), which a step carrel refuses (R183). -/
def fastStep (pw v : Nat) : Bool := decide (2 ^ 32 < v * (2 * pw))

/-- The speeds that R183 bounds: VSTART, VMAX, and the homing speeds. -/
def Block.stepSpeeds (s : Block) (c : Nat) : List Nat :=
  [s.rdN (R.PS_VSTART c), s.rdN (R.PS_VMAX c), s.rdN (R.PS_HOME_VFAST c), s.rdN (R.PS_HOME_VSLOW c)]

/-- Carrel c drives a step output with a speed that R183 refuses. -/
def Block.badStep (s : Block) (c : Nat) : Bool :=
  s.psOut c == 1 && (s.stepSpeeds c).any (fastStep (s.fl (R.PS_STEP_CFG c) 8 8))

/-- The move parameters of carrel c fail a condition of R168 or R183. (log 47, DEDUCED) -/
def Block.badMoveOf (s : Block) (c : Nat) : Bool :=
  badMove (s.rdN (R.PS_VSTART c)) (s.rdN (R.PS_VMAX c)) (s.rdN (R.PS_VSTOP c)) (s.rdN (R.PS_A1 c)) (s.rdN (R.PS_A2 c)) || s.badStep c

/-- The carrel moves in MOVE or JOG mode. -/
def Block.moving (s : Block) (c : Nat) : Bool :=
  (s.psMode c == 1 || s.psMode c == 2) && (s.psSt c != 0 && s.psSt c != 5 && s.psSt c != 7)

/-- The reason with which a GO of carrel c is refused (R163, R166, R168, R170). (log 47, DEDUCED) -/
def Block.goRefused (s : Block) (c : Nat) : Option Reason :=
  let st := s.psSt c
  if !s.carEn c || st == 5 then some .state
  else if s.moving c then none
  else if st = 0 ∧ ((s.prf c).safe = true ∨ (s.prf c).off = true ∨ s.faultNow c = true) then some .state
  else if s.badMoveOf c then some .range
  else if s.psMode c = 1 ∧ s.bt (R.PS_CFG c) 6 = true ∧ s.bt (R.PS_STAT c) 5 = false then some .state
  else none

/-- PROFILE_GO: a write of PS_CMD.GO (R163, R166, R168, R170, R177). (log 47, DEDUCED) -/
def opProfileGo (c : Nat) (snd : Sender) (s : Block) : Block :=
  match s.goRefused c with
  | some r => s.refuse true (R.PS_CMD c) snd r
  | none => if s.moving c then s else s.setPrf c { s.prf c with go := true }

/-- PROFILE_STOP: a write of PS_CMD.STOP (R166). -/
def opProfileStop (c : Nat) (s : Block) : Block :=
  if s.carEn c then s.setPrf c { s.prf c with stop := true } else s

/-- The switch that carrel c's homing names is a line of an interface in SWITCH mode or a capture input (R279). -/
def Block.switchOk (s : Block) (c : Nat) : Bool :=
  let h := s.rd (R.FBK_HOMESW (s.fbOf c))
  h.getLsbD 7 || (decide (fld h 0 5 < 24) && fld h 5 2 != 3 && s.fl (R.FBK_CFG (fld h 0 5)) 0 3 == 4)

/-- Whether a homing method is valid for carrel c (R179, R279). -/
def Block.methodOk (s : Block) (c m : Nat) : Bool :=
  let mode := s.fl (R.FBK_CFG (s.fbOf c)) 0 3
  let step := s.psOut c == 1
  if !s.carLocal c then true
  else if m = 4 ∨ m = 7 then !step
  else if m = 5 then mode == 3
  else if m = 3 then mode == 1
  else if m = 1 then mode == 1 && s.switchOk c
  else if m = 2 ∨ m = 6 then s.switchOk c else true

/-- PROFILE_HOME: a write of PS_CMD.HOME (R163, R166, R178, R179). -/
def opProfileHome (c : Nat) (snd : Sender) (s : Block) : Block :=
  let no := fun r => s.refuse true (R.PS_CMD c) snd r
  let m := s.fl (R.PS_HOME_CFG c) 0 4
  if !s.carEn c then no .state
  else if s.psSt c = 5 then no .state
  else if !s.methodOk c m then no .range
  else s.setPrf c { s.prf c with home := true }

/-- HOMING_TIMEOUT: PS_HOME_TMO expires during homing (R180). -/
def opHomingTimeout (c : Nat) (s : Block) : Block := if s.psSt c = 7 then s.homeFail c else s

/-- The move parameters of path channel m fail a condition of R168. (log 47, DEDUCED) -/
def Block.badPath (s : Block) (m : Nat) : Bool :=
  let w := m / 4
  let j := m % 4
  badMove (s.rdN (R.PATH_VSTART w j)) (s.rdN (R.PATH_VMAX w j)) (s.rdN (R.PATH_VSTOP w j)) (s.rdN (R.PATH_A1 w j))
    (s.rdN (R.PATH_A2 w j))

/-- PATH_GO: a write of PATH_CMD.GO (R175); parameters with which R167 has no stop are refused as R168 refuses them. (log 47, DEDUCED) -/
def opPathGo (m : Nat) (snd : Sender) (s : Block) : Block :=
  if s.badPath m then s.refuse true (R.PATH_CMD (m / 4) (m % 4)) snd .range
  else s.setPth m { s.pth m with go := true }

/-- PATH_STOP: a write of PATH_CMD.STOP (R173, R175). (log 46, DEDUCED) -/
def opPathStop (m : Nat) (s : Block) : Block := s.setPth m { s.pth m with stop := true }

/-- PATH_FLUSH: a write of PATH_CMD.FLUSH, refused unless at rest; it acts at the profile tick (R177, R192). -/
def opPathFlush (m : Nat) (snd : Sender) (s : Block) : Block :=
  if s.pathSt m = 0 ∨ s.pathSt m = 3 then
    (s.setPth m { s.pth m with pend := (s.pth m).pend ++ [none] }).setF (R.PATH_STAT (m / 4) (m % 4)) 0 5 0
  else s.refuse true (R.PATH_CMD (m / 4) (m % 4)) snd .state

/-- PATH_SEGMENT_PUSH: a write of PATH_SEG_PUSH (R175, R192). The segment starts at the end pose of the one before it, else
at the path pose, and joins the queue at the profile tick (R177). (log 112, DEDUCED) -/
def opPathSegmentPush (m : Nat) (snd : Sender) (s : Block) : Block :=
  let w := m / 4
  let j := m % 4
  let x := s.pth m
  let y := x.acted
  let addr := R.PATH_SEG_PUSH w j
  if 16 ≤ y.segs.length then (s.refuse true addr snd .state).pathFlag m 0
  else
    let pos := [s.rdI (R.PATH_SEG_X w j), s.rdI (R.PATH_SEG_Y w j), s.rdI (R.PATH_SEG_Z w j)]
    let quat := posQuat [s.rdI (R.PATH_SEG_QW w j), s.rdI (R.PATH_SEG_QX w j), s.rdI (R.PATH_SEG_QY w j), s.rdI (R.PATH_SEG_QZ w j)]
    let l := match y.segs.getLast? with
      | some g => segLen g.pos g.quat pos quat (s.rotR m)
      | none => segLenFrom y.start ⟨pos, quat, 0⟩ (s.rotR m)
    if l < 4294967296 then (s.refuse true addr snd .range).pathFlag m 2
    else
      let s := s.setPth m { x with pend := x.pend ++ [some ⟨pos, quat, l⟩] }
      s.setF (R.PATH_STAT w j) 0 5 (y.segs.length + 1)

/-! ### The meanings -/

def execCarrelEnable (c : Carrel) (snd : Sender) (s : State) : Out :=
  onApp (busWrite snd (R.CAR_CTRL c.val) 1#32 (opCarrelEnable c.val snd)) s
def execCarrelDisable (c : Carrel) (snd : Sender) (s : State) : Out :=
  onApp (busWrite snd (R.CAR_CTRL c.val) 0#32 (opCarrelDisable c.val)) s
def execProfileGo (c : Carrel) (snd : Sender) (s : State) : Out :=
  onApp (busWrite snd (R.PS_CMD c.val) 1#32 (opProfileGo c.val snd)) s
def execProfileStop (c : Carrel) (snd : Sender) (s : State) : Out :=
  onApp (busWrite snd (R.PS_CMD c.val) 2#32 (opProfileStop c.val)) s
def execProfileHome (c : Carrel) (snd : Sender) (s : State) : Out :=
  onApp (busWrite snd (R.PS_CMD c.val) 4#32 (opProfileHome c.val snd)) s
def execHomingTimeout (c : Carrel) (s : State) : Out := ifRun (onApp (opHomingTimeout c.val)) s
def execPathGo (m : PathIx) (snd : Sender) (s : State) : Out :=
  onApp (busWrite snd (R.PATH_CMD (m.val / 4) (m.val % 4)) 1#32 (opPathGo m.val snd)) s
def execPathStop (m : PathIx) (snd : Sender) (s : State) : Out :=
  onApp (busWrite snd (R.PATH_CMD (m.val / 4) (m.val % 4)) 2#32 (opPathStop m.val)) s
def execPathFlush (m : PathIx) (snd : Sender) (s : State) : Out :=
  onApp (busWrite snd (R.PATH_CMD (m.val / 4) (m.val % 4)) 4#32 (opPathFlush m.val snd)) s
def execPathSegmentPush (m : PathIx) (snd : Sender) (s : State) : Out :=
  onApp (busWrite snd (R.PATH_SEG_PUSH (m.val / 4) (m.val % 4)) 1#32 (opPathSegmentPush m.val snd)) s

end Sys2Proof.Machine
end

