-- ==== Sys2Proof/Machine/Loop.lean ====
section
/-! DEFINITION. The Loop Engine (10_loop_engine.md): position and velocity loops, the current loop, soft-start, folios,
trace and inject-and-capture. The arithmetic is that of R220; a Bool beside it says whether a sat() changed a value. -/

namespace Sys2Proof.Machine

/-! ### Arithmetic (R220) -/

/-- A computation of the engine with the flag LE_ERR.SAT it leaves. -/
abbrev Sat (α : Type) := StateM Bool α

/-- sat(x, 32), noting a change. -/
def sat32 (x : Int) : Sat Int := fun f => (sat x 32, f || decide (sat x 32 ≠ x))

/-- The coefficient word i of the live folio, and its shift byte (R231). -/
def Block.coef (s : Block) (c i : Nat) : Int := s.rdI (R.LIVE_FOLIO c i)
def Block.shft (s : Block) (c i : Nat) : Nat := s.rdN (R.LIVE_FOLIO c (52 + i / 4)) / 2 ^ (8 * (i % 4)) % 32

/-- `term(x, K, S)` with K and S of folio word i (R220). -/
def Block.term (s : Block) (c i : Nat) (x : Int) : Sat Int := sat32 (shr (x * s.coef c i) (s.shft c i))

/-- A biquad by R223: the output and its new states. -/
def Block.biquad (s : Block) (c i : Nat) (z : Bq) (x : Int) : Sat (Int × Bq) := do
  let a ← s.term c (5 + 5 * i) x
  let b ← s.term c (6 + 5 * i) z.x1
  let d ← s.term c (7 + 5 * i) z.x2
  let e ← s.term c (8 + 5 * i) z.y1
  let g ← s.term c (9 + 5 * i) z.y2
  let y ← sat32 (a + b + d - e - g)
  return (y, { x1 := x, x2 := z.x1, y1 := y, y2 := z.y1 })

/-- The chain of the eight biquads (R223): a disabled one passes x and sets its states to x. -/
def Block.chain (s : Block) (c : Nat) : List Nat → Sparse Bq → Int → Sat (Int × Sparse Bq)
  | [], m, x => return (x, m)
  | i :: is, m, x =>
    if s.actB (R.LE_CFG c) i then do
      let (y, z) ← s.biquad c i (sget (fun _ => {}) m i) x
      s.chain c is (sset (fun _ => {}) m i z) y
    else s.chain c is (sset (fun _ => {}) m i { x1 := x, x2 := x, y1 := x, y2 := x }) x

/-! ### Carrels and wings -/

/-- Set a flag of LE_ERR: IRQ_RAW of the carrel page at the same position (R238). -/
def Block.leFlag (s : Block) (c i : Nat) : Block := s.flag (R.LE_ERR c) i (R.carPage c) i

/-- The tuning help of wing w. -/
def Block.dia (s : Block) (w : Nat) : Diag := sget (fun _ => {}) s.diag w
def Block.setDia (s : Block) (w : Nat) (x : Diag) : Block := { s with diag := sset (fun _ => {}) s.diag w x }

/-- WING_DIAG_STAT.STATE of wing w: 0 IDLE, 1 RUNNING, 2 TRIGGERED, 3 DONE. -/
def Block.diaSt (s : Block) (w : Nat) : Nat := s.fl (R.WING_DIAG_STAT w) 0 2

/-- The WING page of wing w (R243). -/
def wingPg (w : Nat) : Nat := 0x40100000 + w * 0x40000

/-- Enter DONE: IRQ_RAW bit 0 of the WING page (R243). -/
def Block.diaDone (s : Block) (w : Nat) : Block := (s.setF (R.WING_DIAG_STAT w) 0 2 3).raise (wingPg w) 0

/-- A node of R234 from the last run of a carrel. -/
def Block.node (s : Block) (c i : Nat) : Int := sget (fun _ => 0) (s.lp c).nodes i

/-- Write one word of the Ledger at its write pointer (R244). -/
def Block.ledgerPut (s : Block) (w : Nat) (x : Int) : Block :=
  let p := s.fl (R.LEDGER_WPTR w) 0 14
  let d := s.dia w
  let s := s.setDia w { d with led := sinsert p (lowBits 32 x) (serase p d.led) }
  s.setF (R.LEDGER_WPTR w) 0 14 ((p + 1) % 16384)

/-! ### Injection (R236, R237) -/

/-- The next value of the injected signal. -/
def injNext (sig : Nat) (amp : Int) (fstep fend hold : Nat) (d : Diag) : Diag :=
  if sig = 2 then
    if d.hold = 0 then
      let b := (d.prbs / 2 ^ 14 + d.prbs / 2 ^ 13) % 2
      { d with prbs := (d.prbs * 2 + b) % 2 ^ 15, hold := hold - 1, inj := if b = 1 then amp else -amp }
    else { d with hold := d.hold - 1 }
  else
    let d' := { d with inj := shr (amp * sinT d.ph) 30, ph := (d.ph + d.finc) % 2 ^ 32 }
    if sig = 1 then { d' with finc := min (d.finc + fstep) fend } else d'

/-- Whether wing w injects into carrel c at one of the points. -/
def Block.injects (s : Block) (c : Nat) (pts : List Nat) : Bool :=
  let w := c / 48
  s.fl (R.WING_DIAG_MODE w) 0 2 == 2 && s.diaSt w == 1 && s.fl (R.WING_INJ_CFG w) 0 6 == c % 48
    && pts.contains (s.fl (R.WING_INJ_CFG w) 8 3)

/-- At a run of the stage that owns the injection point: write the capture pair, then update the signal; after the
last pair it is 0 and STATE is DONE (R236). -/
def Block.injRun (s : Block) (c : Nat) (pts : List Nat) : Block :=
  if !s.injects c pts then s
  else
    let w := c / 48
    let s := (s.ledgerPut w (s.node c (s.fl (R.WING_INJ_CFG w) 16 4))).ledgerPut w (s.node c (s.fl (R.WING_INJ_CFG w) 20 4))
    let d := s.dia w
    let n := d.pairs + 1
    let s := s.setF (R.WING_DIAG_STAT w) 16 16 (min n 65535)
    if s.fl (R.WING_INJ_LEN w) 0 14 ≤ n then (s.setDia w { d with pairs := n, inj := 0 }).diaDone w
    else s.setDia w { injNext (s.fl (R.WING_INJ_CFG w) 12 2) (s.rdI (R.WING_INJ_AMP w)) (s.rdN (R.WING_INJ_FSTEP w))
      (s.rdN (R.WING_INJ_FEND w)) (s.fl (R.WING_INJ_PRBS w) 16 8) d with pairs := n }

/-- The signal injected into carrel c at a point. (log 48, DEDUCED) -/
def Block.injAt (s : Block) (c pt : Nat) : Int := if s.injects c [pt] then (s.dia (c / 48)).inj else 0

/-- The injection into carrel c ends (R237). -/
def Block.injEnd (s : Block) (c : Nat) (flag : Bool) : Block :=
  if s.injects c [0, 1, 2, 3, 4] then
    let s := (s.setDia (c / 48) { s.dia (c / 48) with inj := 0 }).diaDone (c / 48)
    if flag then s.leFlag c 4 else s
  else s

/-! ### The position and velocity loops (R221 to R224, R230) -/

/-- The set-point R at a run (R230): the new R, and whether soft-start is still active. -/
def softStart (first active : Bool) (r pfb g step : Int) : Int × Bool :=
  if first then (pfb, true)
  else if active then
    if |g - r| ≤ step then (g, false) else (r + sgn (g - r) * step, true)
  else (g, false)

/-- What a run of the loops yields. -/
structure LoopOut where
  ep : Int
  vcmd : Int
  ev : Int
  p : Int
  i : Int
  u : Int
  y : Int
  aff : Int
  iref : Int
  aw : Bool
  vlim : Bool
  ilim : Bool
  bq : Sparse Bq
  deriving DecidableEq, Repr

/-- R222, for set-point R, feedback P_fb and v_fb, references V_ref and A_ref, ff and the injections. -/
def Block.runPv (s : Block) (c : Nat) (r pfb vfb vref aref ff inj0 inj1 inj2 : Int) : Sat LoopOut := do
  let l := s.lp c
  let vl := s.actI (R.LE_VLIM c)
  let il : Int := (s.curLim c : Nat)
  let ep ← sat32 (shr (r - pfb + shl inj0 24) 24)
  let a ← s.term c 0 ep
  let b ← s.term c 1 vref
  let vc ← sat32 (a + ff * b + inj1)
  let vcmd := clamp vc (-vl) vl
  let ev ← sat32 (vcmd - vfb)
  let p ← s.term c 3 ev
  let inc ← s.term c 4 ev
  let upre ← sat32 (p + l.i)
  let hold := (decide (il ≤ upre) && decide (0 < inc)) || (decide (upre ≤ -il) && decide (inc < 0))
  let isum ← if hold then pure l.i else sat32 (l.i + inc)
  let i := if hold then l.i else clamp isum (-il) il
  let u ← sat32 (p + i)
  let (y, bq) ← s.chain c (List.range 8) l.bq u
  let aff ← s.term c 2 aref
  let ir ← sat32 (y + ff * aff + inj2)
  let iref := clamp ir (-il) il
  return { ep := ep, vcmd := vcmd, ev := ev, p := p, i := i, u := u, y := y, aff := aff, iref := iref, aw := hold,
           vlim := decide (vcmd ≠ vc), ilim := decide (iref ≠ ir), bq := bq }

/-- d of CAR_RATE (R51). -/
def Block.rateD (s : Block) (c : Nat) : Nat := 2 ^ s.fl (R.CAR_RATE c) 0 2

/-- Whether the loop of carrel c is due in cycle n (R51). -/
def Block.loopDue (s : Block) (c n : Nat) : Bool := n % s.rateD c == s.fl (R.CAR_RATE c) 2 3

/-- The last loop nodes of a run (R234). -/
def LoopOut.nodes (o : LoopOut) (vfb r pfb : Int) : List (Nat × Int) :=
  [(0, o.ep), (1, o.vcmd), (2, vfb), (3, o.ev), (4, o.p), (5, o.i), (6, o.u), (7, o.y), (8, o.aff), (9, o.iref),
    (14, intPart r), (15, intPart pfb)]

/-- The last loop nodes of a run stand, over those before them. -/
def Loop.withNodes (l : Loop) (m : List (Nat × Int)) : Loop := { l with nodes := m.foldl (fun m e => sset (fun _ => 0) m e.1 e.2) l.nodes }

/-- A run of the position and velocity loops of carrel c on what the profile tick handed (R221, R222, R230). Where the pass
reaches it too late, its nodes stand from FBD + 620 on (R235). -/
def Block.posRun (s : Block) (c : Nat) (late : Bool) : Block :=
  let s := s.injRun c [0, 1, 2]
  let x := s.prf c
  let l := s.lp c
  let step : Int := (s.actN (R.LE_SS_RATE c) * 65536 * s.rateD c : Nat)
  let ss := softStart l.first (s.bt (R.LE_STAT c) 0) l.r l.pfb x.rp step
  let vref := sat (shr x.rv 4) 32
  let aref := sat (shr x.ra 20) 32
  let r := (s.runPv c ss.1 l.pfb l.vfb vref aref (if ss.2 then 0 else 1) (s.injAt c 0) (s.injAt c 1) (s.injAt c 2)).run false
  let o := r.1
  let s := if r.2 || decide (vref ≠ shr x.rv 4) || decide (aref ≠ shr x.ra 20) then s.leFlag c 0 else s
  let n := o.nodes l.vfb ss.1 l.pfb
  let l := { l with r := ss.1, first := false, i := o.i, bq := o.bq, iref := o.iref, iold := l.iref, late := late }
  let s := s.setLp c (if late then { l with nodesLate := n } else l.withNodes n)
  let s := (((s.setB (R.LE_STAT c) 0 ss.2).setB (R.LE_STAT c) 1 o.aw).setB (R.LE_STAT c) 4 o.vlim).setB (R.LE_STAT c) 5 o.ilim
  ((s.wrI (R.LE_OUT c) o.iref).wrI (R.LE_INTEG c) o.i).wrI (R.LE_VFB c) l.vfb

/-- Whether a carrel is LOCAL and fed by the current loop (R225). -/
def Block.curFed (s : Block) (c : Nat) : Bool := s.carLocal c && s.actB (R.LE_CFG c) 8

/-- WING clocks of a carrel's loops in a pass (R228). -/
def Block.passCost (s : Block) (c : Nat) : Nat :=
  let b := ((List.range 8).filter (fun i => s.actB (R.LE_CFG c) i)).length
  1 + (5 + 5 * b + 1) / 2

/-- The free-running LOCAL channels bound in wing w (R228). -/
def Block.freeChannels (s : Block) (w : Nat) : Nat :=
  (s.cfg.cars.filter (fun c => c / 48 == w && s.carLocal c && !s.bt (R.CAR_BIND c) 1
    && !s.bt (R.PWM_CH_CFG (s.fl (R.CAR_BIND c) 2 4)) 0)).length

/-- The carrels of wing w whose loops run in cycle n, in ascending k; those on a step output have no cascade. -/
def Block.passCars (s : Block) (w n : Nat) : List Nat :=
  s.enCars.filter (fun c => c / 48 == w && s.outOf c == 0 && s.loopDue c n)

/-- The pass of one wing: each carrel runs; one that the pass reaches only after its 1200 clocks is late (R228). -/
def Block.wingPass (s : Block) (w n : Nat) : Block :=
  let start := 20 + 28 * s.freeChannels w
  let r := (s.passCars w n).foldl (fun (a : Block × Nat) c =>
    let t := a.2 + a.1.passCost c
    (a.1.posRun c (decide (1200 < t)), t)) (s, start)
  r.1.setDia w { r.1.dia w with clk := r.2 }

/-- LOOP_PASS_START at FBD + 20 (R42, R221): the loops of every wing. The loops are off on a Node and a Hub (R17). -/
def Block.loopPass (s : Block) (n : Nat) : Block :=
  if s.isNode || s.isHub then s
  else forN 4 (fun w s => if s.pageEn (wingPg w + 0x1000) then s.wingPass w n else s) s

/-! ### The pass ends (R42, R224, R228, R235) -/

/-- P of carrel c in `rem` ticks, with the arrival of R168. -/
def Block.posAfter (s : Block) (c rem : Nat) : Int :=
  let x := s.prf c
  let v := shr x.v 16
  let d := s.toGo c
  if s.mayArrive c && sgn d == sgn v && decide (d.natAbs ≤ rem * v.natAbs) then counts x.tgt else wrapP (x.p + rem * v)

/-- A REMOTE carrel's command item of this cycle (R224, R359): the SEQ rises at each loop run. A carrel that the pass did not
finish repeats its item for one cycle and sends the run's i_ref in the next (R228, R238). A step carrel carries P_c, the
position one cycle after the profile tick (R182), `rem` ticks from now. -/
def Block.cmdItem (s : Block) (c n rem : Nat) : Block :=
  let l := s.lp c
  let x := s.prf c
  let old := sget (fun _ => {}) s.red.out c
  let home := s.psSt c == 7 && !x.ref
  let set8 := home && x.method == 8
  let it : Option CmdItem :=
    if s.outOf c = 1 then
      some { seq := (l.seq + 1) % 65536, en := true, home := home && !set8, homeSet := set8, step := !set8,
             value := if set8 then intPart x.p else s.posAfter c rem }
    else if l.owed || s.loopDue c n && !l.late then
      some { seq := (l.seq + 1) % 65536, en := true, home := home && !set8, homeSet := set8,
             value := if set8 then intPart x.p else if l.late then l.iold else l.iref }
    else none
  let s := s.setLp c { l with owed := l.late }
  match it with
  | none => s
  | some i =>
    let s := s.setLp c { s.lp c with seq := i.seq }
    { s with red := { s.red with out := sset (fun _ => {}) s.red.out c (if i = old then old else i) } }

/-- Enabled taps of wing w, ascending. -/
def Block.taps (s : Block) (w : Nat) : List Nat := (List.range 16).filter (fun t => s.bt (R.WING_TAP w t) 15)

/-- The value of a tap. -/
def Block.tapVal (s : Block) (w t : Nat) : Int := s.node (48 * w + s.fl (R.WING_TAP w t) 0 6) (s.fl (R.WING_TAP w t) 8 4)

/-- Whether tap 0 crosses the level between two successive frames in the selected direction (R235). (log 48, DEDUCED) -/
def crosses (sel : Nat) (level a b : Int) : Bool :=
  let up := decide (a < level) && decide (level ≤ b)
  let dn := decide (level < a) && decide (b ≤ level)
  (sel == 1 && up) || (sel == 2 && dn) || (sel == 3 && (up || dn))

/-- TRACE_FRAME at FBD + 620 (R235). (log 48, DEDUCED) -/
def Block.traceFrame (s : Block) (w n : Nat) : Block :=
  let st := s.diaSt w
  if s.pageEn (wingPg w) = false ∨ s.fl (R.WING_DIAG_MODE w) 0 2 ≠ 1 ∨ ¬ (st = 1 ∨ st = 2) ∨ n % s.fl (R.WING_TR_DECIM w) 0 8 ≠ 0 then s
  else
    let taps := s.taps w
    let ring := 16384 / (1 + taps.length)
    let size := ring * (1 + taps.length)
    let p0 := s.fl (R.LEDGER_WPTR w) 0 14
    let v0 := s.tapVal w 0
    let s := s.ledgerPut w (n % 2 ^ 32 : Nat)
    let s := forL taps (fun t s => s.ledgerPut w (s.tapVal w t)) s
    let s := s.setF (R.LEDGER_WPTR w) 0 14 ((p0 + 1 + taps.length) % size)
    let s := s.setF (R.WING_DIAG_STAT w) 16 16 (satAdd (s.fl (R.WING_DIAG_STAT w) 16 16) 1 65535)
    let d := s.dia w
    let hit := match d.lastTap with
      | some a => crosses (s.fl (R.WING_TR_TRIG w) 0 2) (s.rdI (R.WING_TR_LEVEL w)) a v0
      | none => false
    let s := s.setDia w { d with lastTap := some v0 }
    if st = 1 then
      if hit then
        let post := s.fl (R.WING_TR_POST w) 0 14
        let s := s.setF (R.LEDGER_TRIG_PTR w) 0 14 p0
        let s := s.setDia w { s.dia w with post := post }
        if post = 0 then s.diaDone w else s.setF (R.WING_DIAG_STAT w) 0 2 2
      else s
    else
      let s := s.setDia w { s.dia w with post := d.post - 1 }
      if d.post ≤ 1 then s.diaDone w else s

/-- LOOP_PASS_DONE of wing w at FBD + 620 (R42, R224, R228, R235). `rem` is the number of ticks to the next profile
tick. -/
def Block.passDone (s : Block) (w n rem : Nat) : Block :=
  let s := if s.isNode || s.isHub then s
    else
      let clk := (s.dia w).clk
      let s := s.wrN (R.LE_PASS_CLK w) (min clk 2047)
      let s := if s.fl (R.LE_PASS_MAX w) 0 11 < clk then s.setF (R.LE_PASS_MAX w) 0 11 (min clk 2047) else s
      let s := if 1200 < clk then s.flag (R.LE_WERR w) 0 (0x40101000 + w * 0x40000) 0 else s
      let s := forL (s.enCars.filter (fun c => c / 48 == w && s.curFed c)) (fun c s =>
        let l := s.lp c
        s.setLp c { l with qref := if l.late then l.iold else l.iref }) s
      let s := forL (s.enCars.filter (fun c => c / 48 == w && !s.carLocal c)) (fun c s => s.cmdItem c n rem) s
      s.postEv (0x0C0 + w)
  forL ((s.traceFrame w n).enCars.filter (fun c => c / 48 == w)) (fun c s =>
    let l := s.lp c
    if l.late then s.setLp c { l.withNodes l.nodesLate with late := false, nodesLate := [] } else s) (s.traceFrame w n)

/-! ### The current loop (R225, R226) -/

/-- `PI` of R226 for the coefficient words kp and ki: output, new integrator, held, limited. -/
def Block.pi (s : Block) (c kp ki : Nat) (e ix ffv l : Int) : Sat (Int × Int × Bool × Bool) := do
  let p ← s.term c kp e
  let inc ← s.term c ki e
  let pre ← sat32 (p + ix + ffv)
  let hold := (decide (l ≤ pre) && decide (0 < inc)) || (decide (pre ≤ -l) && decide (inc < 0))
  let sum ← if hold then pure ix else sat32 (ix + inc)
  let ix' := if hold then ix else clamp sum (-l) l
  let out ← sat32 (p + ix' + ffv)
  return (clamp out (-l) l, ix', hold, decide (clamp out (-l) l ≠ out))

/-- What a run of the current loop yields. -/
structure CurOut where
  id : Int
  iq : Int
  vd : Int
  vq : Int
  intD : Int
  intQ : Int
  awD : Bool
  awQ : Bool
  ulim : Bool
  dU : Nat
  dV : Nat
  dW : Nat
  deriving DecidableEq, Repr

/-- R226 for phase currents i_a and i_b, the count latched at SE, v_fb, and the d and q references. -/
def Block.runCur (s : Block) (c : Nat) (ia ib pint vfb idref iqref : Int) : Sat CurOut := do
  let l := s.lp c
  let k := s.rdI (R.LE_ELEC_K c)
  let th := lowBits 32 (pint * k + s.actN (R.LE_ELEC_OFS c))
  let iab ← sat32 (shr ((ia + 2 * ib) * 0x49E69D16) 31)
  let id ← sat32 (shr (ia * cosT th + iab * sinT th) 30)
  let iq ← sat32 (shr (iab * cosT th - ia * sinT th) 30)
  let we ← sat32 (shr (vfb * k) 24)
  let a ← sat32 (shr (we * iq) 30)
  let kld ← s.term c 49 a
  let vdff := -kld
  let b ← sat32 (shr (we * id) 30)
  let klq ← s.term c 50 b
  let kem ← s.term c 51 we
  let vqff ← sat32 (klq + kem)
  let ed ← sat32 (idref - id)
  let eq ← sat32 (iqref - iq)
  let vmod := s.actI (R.LE_VMOD c)
  let (vd, intD, awD, ud) ← s.pi c 45 46 ed l.id vdff vmod
  let vql : Int := (isqrt (vmod * vmod - vd * vd).toNat : Nat)
  let (vq, intQ, awQ, uq) ← s.pi c 47 48 eq l.iq vqff vql
  let ta := lowBits 32 ((th : Int) + shr (we * s.actF (R.LE_ELEC_LEAD c) 0 16) 4)
  let val ← sat32 (shr (vd * cosT ta - vq * sinT ta) 30)
  let vbe ← sat32 (shr (vd * sinT ta + vq * cosT ta) 30)
  let h := shr (vbe * 0x6ED9EBA1) 31
  let va := val
  let vb ← sat32 (shr (-val) 1 + h)
  let vc ← sat32 (shr (-val) 1 - h)
  let off := -shr (max va (max vb vc) + min va (min vb vc)) 1
  let duty := fun v => (clamp (2 ^ 30 + 2 * (v + off)) 0 (2 ^ 31)).toNat
  return { id := id, iq := iq, vd := vd, vq := vq, intD := intD, intQ := intQ, awD := awD, awQ := awQ, ulim := ud || uq,
           dU := duty va, dV := duty vb, dW := duty vc }

/-- A run of the current loop of carrel c on what SE latched: the block and the three duties. -/
def Block.curRun (s : Block) (c : Nat) : Block × List Nat :=
  let s := s.injRun c [3, 4]
  let l := s.lp c
  let r := (s.runCur c l.ia l.ib l.pint l.vse (s.actI (R.LE_IDREF c) + s.injAt c 4) (l.qse + s.injAt c 3)).run false
  let o := r.1
  let s := if r.2 then s.leFlag c 0 else s
  let nodes := ([(10, o.id), (11, o.iq), (12, o.vd), (13, o.vq)] : List (Nat × Int)).foldl
    (fun m e => sset (fun _ => 0) m e.1 e.2) l.nodes
  let s := s.setLp c { l with id := o.intD, iq := o.intQ, nodes := nodes }
  let s := ((s.setB (R.LE_STAT c) 2 o.awD).setB (R.LE_STAT c) 3 o.awQ).setB (R.LE_STAT c) 6 o.ulim
  (s.wrI (R.LE_IQ_MEAS c) o.iq, [o.dU, o.dV, o.dW])

/-! ### Enable, disable, swaps at the cycle boundary (R229, R232) -/

/-- Enabled state of a carrel's page (R239). -/
def Block.setEnabled (s : Block) (c : Nat) (b : Bool) : Block :=
  let s := (s.setB (R.CAR_STAT c) 0 b).setB (R.PAGE_STAT (R.carPage c)) 2 b
  { s with enCars := if b then ((c :: s.enCars.filter (· != c)).mergeSort (· ≤ ·)) else s.enCars.filter (· != c) }

/-- Carrel c is disabled at this boundary (R163, R229): REMOTE items carry i_ref 0 with EN clear, a LOCAL current-fed
carrel arms zero line voltage at the next sample instant. -/
def Block.disableCar (s : Block) (c : Nat) : Block :=
  if !s.carEn c then s
  else
    let s := (s.injEnd c true).profDisable c
    let s := s.setEnabled c false
    let s := s.setB (R.LE_STAT c) 0 false
    if s.carLocal c then
      if s.curFed c then s.setLp c { s.lp c with zero := true, iref := 0, qref := 0 } else s
    else
      let q := ((s.lp c).seq + 1) % 65536
      let s := s.setLp c { s.lp c with seq := q, iref := 0, late := false, owed := false }
      { s with red := { s.red with out := sset (fun _ => {}) s.red.out c { seq := q } } }

/-- Carrel c is enabled at this boundary (R163, R229): integrators and biquad states 0, soft-start. -/
def Block.enableCar (s : Block) (c : Nat) : Block :=
  if s.carEn c || !s.pageEn (R.carPage c) then s
  else
    let s := (s.profEnable c).setEnabled c true
    let l := s.lp c
    let s := s.setLp c { l with i := 0, id := 0, iq := 0, bq := [], first := true, iref := 0, qref := 0, zero := false, idle := false,
                                iold := 0, late := false, owed := false }
    let x := sget (fun _ => ({} : NodeCmd)) s.red.node c
    let s := { s with red := { s.red with node := sset (fun _ => {}) s.red.node c { x with last := none } } }
    s.setB (R.LE_STAT c) 0 true

/-- Enables and disables whose writes have completed act at the cycle boundary (R229). -/
def Block.carrelCycle (s : Block) : Block :=
  let req := s.carReq
  forL req (fun c s => if s.bt (R.CAR_CTRL c) 0 then s.enableCar c else s.disableCar c) { s with carReq := [] }

/-- Exchange the folios of carrel c in one clock (R232). -/
def Block.swapFolio (s : Block) (c : Nat) : Block :=
  let old := s
  let s := forN 65 (fun i s => (s.wr (R.LIVE_FOLIO c i) (old.rd (R.SHADOW_FOLIO c i))).wr (R.SHADOW_FOLIO c i) (old.rd (R.LIVE_FOLIO c i))) s
  (s.setB (R.LE_STAT c) 7 false).setF (R.LE_STAT c) 16 16 (s.fl (R.LE_STAT c) 16 16 + 1)

/-- FOLIO_SWAP: the pending swap of carrel c acts (R232). -/
def opFolioSwap (c : Nat) (s : Block) : Block := if s.bt (R.LE_STAT c) 7 then s.swapFolio c else s

/-! ### Commands (R232 to R237, R244) -/

/-- FOLIO_SWAP_REQUEST: a write of LE_SWAP (R232). -/
def opFolioSwapRequest (c : Nat) (v : Word) (s : Block) : Block :=
  if v.getLsbD 0 then s.setB (R.LE_STAT c) 7 true else s

/-- GROUP_SWAP_REQUEST: a write of LE_GSWAP_HI commits the pair (R233). -/
def opGroupSwapRequest (w : Nat) (snd : Sender) (v : Word) (s : Block) : Block :=
  let lo := s.stagedLo (R.LE_GSWAP_LO w)
  let ks := (List.range 48).filter (fun k => if k < 32 then lo.getLsbD k else v.getLsbD (k - 32))
  if ks.any (fun k => s.bt (R.LE_STAT (48 * w + k)) 7) then s.refuse true (R.LE_GSWAP_HI w) snd .state
  else forL ks (fun k s => s.setB (R.LE_STAT (48 * w + k)) 7 true) s

/-- TRACE_ARM: WING_DIAG_CMD.ARM in trace mode (R235); in another mode bit 0 is START, refused as `opInjectStart` says where
the mode is off (R236). (log 48, DEDUCED) -/
def opTraceArm (w : Nat) (snd : Sender) (s : Block) : Block :=
  let ring := 16384 / (1 + (s.taps w).length)
  if s.fl (R.WING_DIAG_MODE w) 0 2 ≠ 1 then s.refuse true (R.WING_DIAG_CMD w) snd .state
  else if ring - 1 < s.fl (R.WING_TR_POST w) 0 14 then s.refuse true (R.WING_DIAG_CMD w) snd .range
  else
    let s := s.setDia w { s.dia w with lastTap := none, post := 0 }
    (s.wrN (R.LEDGER_WPTR w) 0).wrN (R.WING_DIAG_STAT w) 1

/-- DIAG_TRIGGER: WING_DIAG_CMD.TRIGGER (R235): the frame that meets it is the next one written. (log 48, DEDUCED) -/
def opDiagTrigger (w : Nat) (s : Block) : Block :=
  if s.fl (R.WING_DIAG_MODE w) 0 2 = 1 ∧ s.diaSt w = 1 then
    let post := s.fl (R.WING_TR_POST w) 0 14
    let s := s.wr (R.LEDGER_TRIG_PTR w) (s.rd (R.LEDGER_WPTR w))
    let s := s.setDia w { s.dia w with post := post }
    if post = 0 then s.diaDone w else s.setF (R.WING_DIAG_STAT w) 0 2 2
  else s

/-- INJECT_START: WING_DIAG_CMD.START (R236). -/
def opInjectStart (w : Nat) (snd : Sender) (s : Block) : Block :=
  let c := 48 * w + s.fl (R.WING_INJ_CFG w) 0 6
  if s.fl (R.WING_DIAG_MODE w) 0 2 ≠ 2 ∨ s.carEn c = false then s.refuse true (R.WING_DIAG_CMD w) snd .state
  else
    let s := s.setDia w { s.dia w with ph := 0, finc := s.rdN (R.WING_INJ_FINC w), prbs := s.fl (R.WING_INJ_PRBS w) 0 15, hold := 0, inj := 0, pairs := 0 }
    (s.wrN (R.LEDGER_WPTR w) 0).wrN (R.WING_DIAG_STAT w) 1

/-- DIAG_ABORT: WING_DIAG_CMD.ABORT ends trace or injection (R237). -/
def opDiagAbort (w : Nat) (s : Block) : Block :=
  if s.diaSt w = 1 ∨ s.diaSt w = 2 then (s.setDia w { s.dia w with inj := 0 }).diaDone w else s

/-- A word of the Ledger; after its content was lost (R475), an unwritten word is a free value (assumption 2). -/
def Block.ledgerWord (s : Block) (w i : Nat) : Nat :=
  let d := s.dia w
  match d.led.find? (fun e => e.1 == i) with
  | some e => e.2
  | none => if d.lost then Config.freeNat s.free % 2 ^ 32 else 0

/-- LEDGER_DATA_READ: the word at LEDGER_ADDR, which then increments, wrapping (R244). -/
def opLedgerDataRead (w : Nat) (snd : Sender) (s : Block) : Block :=
  if s.diaSt w = 1 ∨ s.diaSt w = 2 then s.refuse false (R.LEDGER_DATA w) snd .state
  else
    let i := s.fl (R.LEDGER_ADDR w) 0 14
    ((s.reply (s.ledgerWord w i)).setF (R.LEDGER_ADDR w) 0 14 ((i + 1) % 16384)).useFree

/-- LOOP_ENGINE_ECC_ERROR in carrel c (R238): `shadow` for the shadow folio, `uncorr` for an uncorrectable error. The
disable acts at once and CAR_CTRL.EN reads 0. -/
def opLoopEngineEcc (c : Nat) (shadow uncorr : Bool) (s : Block) : Block :=
  if !uncorr then s.leFlag c 2
  else if shadow then
    if s.bt (R.LE_STAT c) 7 then (s.setB (R.LE_STAT c) 7 false).setB (R.LE_STAT c) 8 false else s
  else
    let s := (s.leFlag c 3).setB (R.CAR_CTRL c) 0 false
    let s := s.disableCar c
    s.archive 0x15 c 2 2 (s.rdN (R.LE_ERR c)) 0 0

/-! ### The meanings -/

def execFolioSwapRequest (c : Carrel) (snd : Sender) (v : Word) (s : State) : Out :=
  onApp (busWrite snd (R.LE_SWAP c.val) v (opFolioSwapRequest c.val v)) s
def execFolioSwap (c : Carrel) (s : State) : Out := ifRun (onApp (opFolioSwap c.val)) s
def execGroupSwapRequest (w : WingIx) (snd : Sender) (v : Word) (s : State) : Out :=
  onApp (busWrite snd (R.LE_GSWAP_HI w.val) v (opGroupSwapRequest w.val snd v)) s
def execTraceArm (w : WingIx) (snd : Sender) (s : State) : Out :=
  onApp (busWrite snd (R.WING_DIAG_CMD w.val) 1#32 (opTraceArm w.val snd)) s
def execDiagTrigger (w : WingIx) (snd : Sender) (s : State) : Out :=
  onApp (busWrite snd (R.WING_DIAG_CMD w.val) 2#32 (opDiagTrigger w.val)) s
def execInjectStart (w : WingIx) (snd : Sender) (s : State) : Out :=
  onApp (busWrite snd (R.WING_DIAG_CMD w.val) 1#32 (opInjectStart w.val snd)) s
def execDiagAbort (w : WingIx) (snd : Sender) (s : State) : Out :=
  onApp (busWrite snd (R.WING_DIAG_CMD w.val) 4#32 (opDiagAbort w.val)) s
def execLedgerDataRead (w : WingIx) (snd : Sender) (s : State) : Out :=
  onApp (busRead snd (R.LEDGER_DATA w.val) (opLedgerDataRead w.val snd)) s

end Sys2Proof.Machine
end

