-- ==== Sys2Proof/Machine/Fbk.lean ====
section
/-! DEFINITION. Position and speed feedback (12_position_feedback.md): counting, latches, speed, index, compare and
capture, general-purpose I/O. -/

namespace Sys2Proof.Machine

/-- The FBK page of interface i, the GPIO, CAP and CMP pages. -/
def fbkPage (i : Nat) : Nat := 0x40320000 + i * 0x1000
def gpioPage : Nat := 0x40550000
def capPage : Nat := 0x40551000

/-- FBK_CFG.MODE: 0 OFF, 1 QUAD, 2 HALL, 3 SSI, 4 SWITCH (R292). -/
def Block.fbMode (s : Block) (i : Nat) : Nat := if s.pageEn (fbkPage i) then s.fl (R.FBK_CFG i) 0 3 else 0

/-- Set a flag of FBK_ERR: IRQ_RAW of the page at the same position (R290). -/
def Block.fbFlag (s : Block) (i b : Nat) : Block := s.flag (R.FBK_ERR i) b (fbkPage i) b

/-- TB ticks passed: what intervals are measured in. (log 42, DESIGN CHOICE) -/
def Block.now (s : Block) : Nat := s.tb.ticks

/-- The LOCAL carrel bound to interface i. -/
def Block.carOfFb (s : Block) (i : Nat) : Option Nat :=
  s.cfg.cars.find? (fun c => s.carLocal c && s.fbOf c == i)

/-- The filter of R275: a level that stood for `held` consecutive synchronised samples is taken where that is more than
FILT. -/
def filtered (filt held : Nat) : Bool := decide (filt < held)
/-- FILT of interface i (R275, R292). -/
def Block.fbFilt (s : Block) (i : Nat) : Nat := s.fl (R.FBK_CFG i) 4 4

/-! ### Compare (R287, R288) -/

/-- The tick at which the pulse of compare line n was fired. -/
def Block.firedAt (s : Block) (n : Nat) : Option Nat := (s.pins.pulse.find? (fun e => e.1 == n)).map Prod.snd

/-- The pulse of line n runs in tick t: WIDTH ticks from the tick after the fire on (R288). -/
def Block.pulseRuns (s : Block) (n t : Nat) : Bool :=
  match s.firedAt n with
  | some f => decide (f < t) && decide (t ≤ f + s.fl (R.CMP_OUT n) 0 8)
  | none => false

/-- A compare entry fires on line n in tick t: its pulse starts in the next, or restarts (R288). -/
def Block.cmpFire (s : Block) (n t : Nat) : Block :=
  if !s.bt (R.CMP_OUT n) 9 || !s.pageEn 0x40552000 then s
  else
    let s := if s.pulseRuns n t then s.incSat R.CMP_OVERLAP 0 16 else s
    { s with pins := { s.pins with pulse := (n, t) :: s.pins.pulse.filter (fun e => e.1 != n) } }

/-- The level of compare line n (R288): low while EN = 0 or the page is disabled (R70, R99), else the pulse's. -/
def Block.cmpLevel (s : Block) (n : Nat) : Bool :=
  s.bt (R.CMP_OUT n) 9 && s.pageEn 0x40552000 && (s.pulseRuns n s.now != s.bt (R.CMP_OUT n) 8)

/-- Test the current compare entry in tick t with the count before and after that tick's counted change (R287): not the tick
in which it became current, so that one entry at most fires in a tick; not on a disabled page (R70). -/
def Block.cmpTest (s : Block) (i : Nat) (old new : Int) (t : Nat) : Block :=
  let k := s.rd (R.FBK_CMP_CTRL i)
  let ptr := s.fl (R.FBK_STAT i) 7 6
  let x := s.fbi i
  if !s.pageEn (fbkPage i) || !k.getLsbD 7 || s.bt (R.FBK_STAT i) 13 || decide (fld k 0 6 ≤ ptr) || x.cur == some t then s
  else
    let pos := s.rdI (R.FBK_CMP_POS i ptr)
    let act := s.rd (R.FBK_CMP_ACT i ptr)
    let dir := fld act 4 2
    let just := x.cur.map (· + 1) == some t
    let hit := (decide (old < pos) && decide (pos ≤ new) && dir != 2) || (decide (pos < old) && decide (new ≤ pos) && dir != 1)
      || (just && new == pos)
    if !hit then s.setFbi i { x with cur := none }
    else
      let s := if act.getLsbD 7 then s.cmpFire (fld act 0 4) t else s
      let s := if act.getLsbD 6 then s.postEv (0x130 + i) else s
      let s := s.setFbi i { s.fbi i with cur := some t }
      if ptr + 1 = fld k 0 6 then
        if k.getLsbD 6 then s.setF (R.FBK_STAT i) 7 6 0
        else (s.setF (R.FBK_STAT i) 7 6 (ptr + 1)).setB (R.FBK_STAT i) 13 true
      else s.setF (R.FBK_STAT i) 7 6 (ptr + 1)

/-- The ticks up to `stop`, not with it, in which the count of interface i does not change: an entry that became current in
the tick before fires where the count stands at it, one entry a tick (R287). -/
def Block.cmpTicks (s : Block) (i stop : Nat) : Nat → Block
  | 0 => s
  | n + 1 =>
    match (s.fbi i).cur with
    | none => s
    | some t =>
      if stop ≤ t + 1 then s
      else
        let c := s.rdI (R.FBK_COUNT i)
        (s.cmpTest i c c (t + 1)).cmpTicks i stop n

/-! ### Counting (R276 to R281) -/

/-- The saturation clamp of R281: the clamped count and whether it was clamped. -/
def Block.satCount (s : Block) (i : Nat) (c : Int) : Int × Bool :=
  let homed := match s.carOfFb i with | some a => s.bt (R.PS_STAT a) 5 | none => false
  if s.bt (R.FBK_CFG i) 15 && homed then
    let k := clamp c (s.rdI (R.FBK_SAT_MIN i)) (s.rdI (R.FBK_SAT_MAX i))
    (k, decide (k ≠ c))
  else (c, false)

/-- A counted change at a tick (R276 to R278, R280, R281, R283, R287). -/
def Block.countBy (s : Block) (i : Nat) (delta : Int) (t : Nat) : Block :=
  let d := if s.bt (R.FBK_CFG i) 3 then -delta else delta
  let old := s.rdI (R.FBK_COUNT i)
  let r := s.satCount i (old + d)
  let s := s.wrI (R.FBK_COUNT i) r.1
  let s := if r.2 then (s.fbFlag i 4).setB (R.FBK_STAT i) 0 true else s
  let x := s.fbi i
  let hist := (s.now, r.1 - old) :: x.hist.filter (fun h => decide (s.now < h.1 + 17))
  let s := s.setFbi i { x with cu := x.cu + d, t1 := t, any := true, hist := hist }
  (s.setB (R.FBK_STAT i) 2 false).cmpTest i old (s.rdI (R.FBK_COUNT i)) s.now

/-- An illegal transition (R276). -/
def Block.illegal (s : Block) (i : Nat) : Block :=
  ((s.incSat (R.FBK_ERRCNT i) 0 16).fbFlag i 1).setB (R.FBK_STAT i) 1 true

/-- Place of a filtered quadrature state (A, B) in the positive order 00, 10, 11, 01. -/
def quadIx (a b : Bool) : Nat := match a, b with
  | false, false => 0 | true, false => 1 | true, true => 2 | false, true => 3

/-- QUAD_TRANSITION: the lines A and B come to (a, b), which the filter takes after FILT + 1 samples (R275, R276). In OFF and
SSI mode only LINES shows them (R293). -/
def opQuadTransition (i : Nat) (a b : Bool) (held : Nat) (s : Block) : Block :=
  let m := s.fbMode i
  if !filtered (s.fbFilt i) held || !s.pageEn (fbkPage i) || m == 2 || m == 4 then s
  else if m ≠ 1 then (s.setB (R.FBK_STAT i) 4 a).setB (R.FBK_STAT i) 5 b
  else
    let old := quadIx (s.bt (R.FBK_STAT i) 4) (s.bt (R.FBK_STAT i) 5)
    let s := (s.setB (R.FBK_STAT i) 4 a).setB (R.FBK_STAT i) 5 b
    let d := (quadIx a b + 4 - old) % 4
    if d = 0 then s else if d = 1 then s.countBy i 1 s.now else if d = 3 then s.countBy i (-1) s.now else s.illegal i

/-- Place of a Hall state in its positive sequence (R277); none for 0b000 and 0b111. -/
def hallIx (h : Nat) : Option Nat :=
  if h = 1 then some 0 else if h = 3 then some 1 else if h = 2 then some 2 else if h = 6 then some 3
  else if h = 4 then some 4 else if h = 5 then some 5 else none

/-- HALL_STATE_CHANGE: the lines come to state h, which the filter takes after FILT + 1 samples (R275, R277). -/
def opHallStateChange (i h held : Nat) (s : Block) : Block :=
  if s.fbMode i ≠ 2 ∨ filtered (s.fbFilt i) held = false then s
  else
    let old := (s.fbi i).hall
    if old = h then s
    else
      let s := s.setFbi i { s.fbi i with hall := h }
      let s := s.setF (R.FBK_STAT i) 4 3 h
      match hallIx old, hallIx h with
      | some p, some q =>
        let d := (q + 6 - p) % 6
        if d = 1 then s.countBy i 1 s.now else if d = 5 then s.countBy i (-1) s.now else s.illegal i
      | none, some _ => s
      | _, none => s.illegal i

/-! ### Speed and latches (R280, R283) -/

/-- v_fb at a latch L (R283). -/
def speedAt (x : Fb) (prev : FbLatch) (tmo l : Nat) : Int :=
  let v : Int :=
    if !x.any || !prev.any then 0
    else if prev.at_ < x.t1 then sat (tdiv (shl (x.cu - prev.c) 28) ((x.t1 : Int) - prev.t)) 32
    else sgn prev.v * min (|prev.v|) (tdiv (2 ^ 28) ((l : Int) - x.t1))
  if tmo < l - x.t1 then 0 else v

/-- What a latch in this tick sees of interface i: an SSI read whose last bit falls in the tick is used at the next latch
(R280). -/
def Block.latched0 (s : Block) (i : Nat) : Fb × Word :=
  let x := s.fbi i
  match x.old with
  | some o => if o.at_ = s.now then ({ x with cu := o.cu, t1 := o.t1, any := o.any }, BitVec.ofInt 32 o.count) else (x, s.rd (R.FBK_COUNT i))
  | none => (x, s.rd (R.FBK_COUNT i))

/-- Latch an interface: its speed, and what the latch keeps. -/
def Block.latchOf (s : Block) (i : Nat) (prev : FbLatch) : FbLatch :=
  let x := (s.latched0 i).1
  let v := if s.fbMode i = 0 ∨ s.fbMode i = 4 then 0 else speedAt x prev (s.fl (R.FBK_SPD_TMO i) 0 24) s.now
  { at_ := s.now, t := x.t1, c := x.cu, any := x.any, v := v }

/-- The cycle latch of interface i (R280). -/
def Block.cycleLatch (s : Block) (i : Nat) : Block :=
  let l := s.latchOf i (s.fbi i).cyc
  let c := (s.latched0 i).2
  let s := s.setFbi i { s.fbi i with cyc := l }
  (s.wr (R.FBK_LC_POS i) c).wrI (R.FBK_LC_VEL i) l.v

/-- The cycle latch of interface i in OFF: the count held, speed 0 (R274); a disabled page latches nothing (R70). -/
def Block.offLatch (s : Block) (i : Nat) : Block :=
  if s.pageEn (fbkPage i) then (s.wr (R.FBK_LC_POS i) (s.rd (R.FBK_COUNT i))).wrI (R.FBK_LC_VEL i) 0 else s

/-- The SE latch of interface i (R280). -/
def Block.seLatch (s : Block) (i : Nat) : Block :=
  let l := s.latchOf i (s.fbi i).se
  let c := (s.latched0 i).2
  let s := s.setFbi i { s.fbi i with se := l }
  (s.wr (R.FBK_LS_POS i) c).wrI (R.FBK_LS_VEL i) l.v

/-- The feedback status bits that an interface gives its carrel (R282, R358). -/
def Block.fbStatus (s : Block) (i : Nat) : Nat :=
  let st := s.rd (R.FBK_STAT i)
  let b := fun (x : Bool) k => if x then 2 ^ k else 0
  b (st.getLsbD 0) 1 + b (st.getLsbD 1) 2 + b (st.getLsbD 2) 3 + b (s.bt (R.FBK_ERR i) 0) 4

/-- A LOCAL carrel takes its interface's cycle latch at FBD (R42, R221). -/
def Block.takeLatch (s : Block) (c : Nat) : Block :=
  let i := s.fbOf c
  s.setLp c { s.lp c with pfb := counts (s.rdI (R.FBK_LC_POS i)), vfb := s.rdI (R.FBK_LC_VEL i),
                          status := s.fbStatus i, age := 0 }

/-- The time since the last counted change exceeds FBK_SPD_TMO (R284). -/
def Block.spdOver (s : Block) (i : Nat) : Bool := decide (s.fl (R.FBK_SPD_TMO i) 0 24 < s.now - (s.fbi i).t1)

/-- SPEED_TIMEOUT of interface i (R284). -/
def opSpeedTimeout (i : Nat) (s : Block) : Block :=
  let m := s.fbMode i
  if (m = 1 ∨ m = 2 ∨ m = 3) ∧ s.spdOver i = true ∧ s.bt (R.FBK_STAT i) 2 = false then
    (s.setB (R.FBK_STAT i) 2 true).fbFlag i 5
  else s

/-- FBK_SPD_TMO changed: SPD_TMO is 1 while the time exceeds it (R284). -/
def Block.spdSet (s : Block) (i : Nat) : Block := if s.spdOver i then opSpeedTimeout i s else s.setB (R.FBK_STAT i) 2 false

/-! ### The homing reference (R178, R281) -/

/-- The reference event of carrel c's homing, latched `lag` ticks ago: P and the count take OFFSET and what they have moved
since (R178); methods 1 and 3 set the index reference (R281). -/
def Block.reference (s : Block) (c lag : Nat) : Block :=
  let i := s.fbOf c
  let m := (s.prf c).method
  let ofs := s.actI (R.PS_HOME_OFFSET c)
  let s := (s.homeRef c (s.homeOfs c + s.movedSince c lag)).presetCount i ofs lag
  if m = 1 ∨ m = 3 then (s.wrI (R.FBK_IDX_REF i) ofs).setB (R.FBK_STAT i) 3 true else s

/-- The carrels in homing with a method, whose reference is still to come. -/
def Block.homingBy (s : Block) (ms : List Nat) : List Nat :=
  s.enCars.filter (fun c => s.carLocal c && s.psSt c == 7 && !(s.prf c).ref && ms.contains (s.prf c).method)

/-- The level of a homing switch changed to `active` for carrel c `lag` ticks ago (R179, R279): methods 2 and 6 take their
reference. -/
def Block.switchTo (s : Block) (c : Nat) (active : Bool) (lag : Nat) : Block :=
  let x := s.prf c
  let s := s.setPrf c { x with sw := active }
  if s.psSt c != 7 || x.ref then s
  else if x.method = 6 then s.reference c lag
  else if x.method = 2 ∧ 2 ≤ s.fl (R.PS_STAT c) 6 4 ∧ active = false ∧ x.sw = true then s.reference c lag
  else s

/-- The carrels whose homing switch is line `l` of interface i, or capture input n. -/
def Block.switchCars (s : Block) (cap : Bool) (i l : Nat) : List Nat :=
  s.enCars.filter (fun c =>
    let h := s.rd (R.FBK_HOMESW (s.fbOf c))
    s.carLocal c && h.getLsbD 7 == cap && (if cap then fld h 8 4 == i else fld h 0 5 == i && fld h 5 2 == l))

/-- SWITCH_EDGE: line l of interface i comes to a level, which the filter takes after FILT + 1 samples (R275, R279); the
edge began FILT + 1 ticks before. In OFF and SSI mode only LINES shows it (R293). -/
def opSwitchEdge (i l : Nat) (level : Bool) (held : Nat) (s : Block) : Block :=
  let m := s.fbMode i
  if !filtered (s.fbFilt i) held || !s.pageEn (fbkPage i) || m == 1 || m == 2 || decide (2 < l) then s
  else if m ≠ 4 then s.setB (R.FBK_STAT i) (4 + l) level
  else
    let s := s.setB (R.FBK_STAT i) (4 + l) level
    let s := s.wr64 (R.FBK_EDGE_T_LO i) (s.tb.dt - 5 * (s.fl (R.FBK_CFG i) 4 4 + 1))
    let s := if s.bt (R.FBK_CFG i) 14 then s.postEv (0x130 + i) else s
    forL (s.switchCars false i l) (fun c s => s.switchTo c (level != s.actB (R.PS_HOME_CFG c) 9) (s.fl (R.FBK_CFG i) 4 4 + 1)) s

/-! ### Index (R285, R286) -/

/-- Latch an index: count, Deck Time and event (R285). -/
def Block.latchIndex (s : Block) (i : Nat) : Block :=
  let s := s.wr (R.FBK_IDX_LATCH i) (s.rd (R.FBK_COUNT i))
  let s := s.wr64 (R.FBK_EDGE_T_LO i) s.tb.dt
  if s.bt (R.FBK_CFG i) 13 then s.postEv (0x130 + i) else s

/-- The deviation d of an index (R286). -/
def indexDev (c ref period : Int) : Int :=
  let d := (c - ref) % period
  if period / 2 ≤ d then d - period else d

/-- INDEX_EDGE: FBi_Z comes to `level` (none: to its active level) for `held` samples; the edge to the active level, high
unless ZPOL = 1, is an index (R275, R285, R286), with the homing reference of methods 1 and 3. While IDX_ARM waits, the
index sets the reference and is not tested, whether or not one is valid: R285 and R286 do not say. (log 57, DESIGN CHOICE) -/
def opIndexEdge (i : Nat) (level : Option Bool) (held : Nat) (s : Block) : Block :=
  let active := !s.bt (R.FBK_CFG i) 10
  if s.fbMode i ≠ 1 ∨ filtered (s.fbFilt i) held = false ∨ level = some (s.bt (R.FBK_STAT i) 6) then s
  else
  let s := s.setB (R.FBK_STAT i) 6 (level.getD active)
  if level.getD active != active then s
  else if s.bt (R.FBK_CFG i) 11 && !(s.bt (R.FBK_STAT i) 4 && s.bt (R.FBK_STAT i) 5) then s
  else
    let c := s.rdI (R.FBK_COUNT i)
    let period : Int := (s.rdN (R.FBK_IDX_PERIOD i) : Nat)
    let s :=
      if (s.fbi i).arm then
        ((s.latchIndex i).setFbi i { s.fbi i with arm := false }).wrI (R.FBK_IDX_REF i) c |>.setB (R.FBK_STAT i) 3 true
      else if !s.bt (R.FBK_STAT i) 3 || period == 0 then s.latchIndex i
      else
        let d := indexDev c (s.rdI (R.FBK_IDX_REF i)) period
        if |d| ≤ s.fl (R.FBK_IDX_TOL i) 0 16 then s.latchIndex i
        else
          let s := (s.fbFlag i 0).wrI (R.FBK_IDX_DEV i) d
          let pol := s.fl (R.FBK_CFG i) 8 2
          if pol = 1 then s.latchIndex i
          else if pol = 2 then
            let s := s.latchIndex i
            let r := s.satCount i (c - d)
            let s := (s.wrI (R.FBK_COUNT i) r.1).setFbi i { s.fbi i with preset := true }
            if r.2 then (s.fbFlag i 4).setB (R.FBK_STAT i) 0 true else s
          else s
    forL ((s.homingBy [1, 3]).filter (fun a => s.fbOf a == i)) (fun a s =>
      let x := s.prf a
      if x.method = 3 ∨ (2 ≤ s.fl (R.PS_STAT a) 6 4 ∧ x.sw = false) then s.reference a 0 else s) s

/-- INDEX_ARM: FBK_CMD.IDX_ARM (R285). -/
def opIndexArm (i : Nat) (s : Block) : Block := s.setFbi i { s.fbi i with arm := true }

/-! ### SSI (R278) -/

/-- Start a read: discarded where the previous read still runs or the clock is within TM of it, or where the data line was
low. (log 57, DEDUCED) -/
def Block.ssiStart (s : Block) (i : Nat) (high : Bool) : Block :=
  let x := s.fbi i
  if s.bt (R.FBK_STAT i) 14 || decide (s.now < x.ssiHigh) then (s.fbFlag i 2).incSat (R.FBK_ERRCNT i) 0 16
  else (s.setFbi i { x with ssiT := s.now, ssiBad := !high }).setB (R.FBK_STAT i) 14 true

/-- MODE is SSI and no read runs (R291). -/
def Block.ssiIdle (s : Block) (i : Nat) : Bool := s.fbMode i == 3 && !s.bt (R.FBK_STAT i) 14

/-- SSI_READ_COMMAND: FBK_CMD.SSI_READ (R291). -/
def opSsiReadCommand (i : Nat) (snd : Sender) (high : Bool) (s : Block) : Block :=
  if !s.ssiIdle i then s.refuse true (R.FBK_CMD i) snd .state else s.ssiStart i high

/-- Gray decoding (R278), from bit n − 1 down; `b` is the bit above. -/
def grayBits (g : Nat) : Nat → Bool → Nat
  | 0, _ => 0
  | n + 1, b =>
    let v := nbit g n != b
    (if v then 2 ^ n else 0) + grayBits g n v

/-- The number that n bits spell, the most significant first. -/
def bitsMsb (n : Nat) (l : List Bool) : Nat := ((List.range n).map (fun j => if l.getD j false then 2 ^ (n - 1 - j) else 0)).sum

/-- The value and the trailing bits among the samples of a read: bit 0 is discarded, LEAD bits are skipped, NB bits form the
value, the most significant first (R278). The order of FBK_SSI_TRAIL is the model's. (log 57, DEDUCED) -/
def ssiBits (k : Word) (line : List Bool) : Nat × Nat :=
  let v := line.drop (1 + fld k 6 3)
  (bitsMsb (fld k 0 6) v, bitsMsb (fld k 9 3) (v.drop (fld k 0 6)))

/-- Ticks of the clock periods of a read (R278). -/
def ssiLen (k : Word) : Nat := 2 * fld k 12 8 * (1 + fld k 6 3 + fld k 0 6 + fld k 9 3)

/-- FBi_B of interface i in SSI mode: the clock, DIV ticks low and DIV ticks high in each period of a read, else high
(R274, R278). -/
def Block.ssiClock (s : Block) (i : Nat) : Bool :=
  let k := s.rd (R.FBK_SSI_CFG i)
  let n := s.now - (s.fbi i).ssiT
  !s.bt (R.FBK_STAT i) 14 || decide (ssiLen k ≤ n) || decide (n / max 1 (fld k 12 8) % 2 = 1)

/-- A count that a read sets is clamped as any other (R281). -/
def Block.putCount (s : Block) (i : Nat) (c : Int) : Block :=
  let r := s.satCount i c
  let s := s.wrI (R.FBK_COUNT i) r.1
  if r.2 then (s.fbFlag i 4).setB (R.FBK_STAT i) 0 true else s

/-- A read ends with the value bits `raw` and the trailing bits (R278). -/
def Block.ssiDone (s : Block) (i raw trail : Nat) : Block :=
  let k := s.rd (R.FBK_SSI_CFG i)
  let nb := fld k 0 6
  let s := s.setB (R.FBK_STAT i) 14 false
  let x := s.fbi i
  let s := s.setFbi i { x with
    ssiHigh := x.ssiT + ssiLen k + 200 * fld k 20 8
    old := some { at_ := s.now, count := s.rdI (R.FBK_COUNT i), cu := x.cu, t1 := x.t1, any := x.any } }
  if x.ssiBad then (s.fbFlag i 2).incSat (R.FBK_ERRCNT i) 0 16
  else
    let g := raw % 2 ^ nb
    let v := if s.bt (R.FBK_CFG i) 12 then grayBits g nb false else g
    let s := (s.wrN (R.FBK_SSI_RAW i) v).wrN (R.FBK_SSI_TRAIL i) (trail % 2 ^ fld k 9 3)
    let jump := match x.ssi with
      | none => false
      | some old => decide ((s.rdN (R.FBK_SSI_JUMP i) : Int) < |sx nb (v + 2 ^ nb - old % 2 ^ nb)|)
    let s := match x.ssi with
      | none => (s.putCount i (if nb = 32 then sx 32 v else (v : Int))).setFbi i { s.fbi i with ssi := some v }
      | some old =>
        if jump then ((s.fbFlag i 3).setB (R.FBK_STAT i) 1 true).incSat (R.FBK_ERRCNT i) 0 16
        else
          let d := sx nb (v + 2 ^ nb - old % 2 ^ nb)
          let s := s.setFbi i { s.fbi i with ssi := some v }
          if d = 0 then s else s.countBy i d x.ssiT
    -- method 5 (R179, R281)
    forL (if jump then [] else (s.homingBy [5]).filter (fun a => s.fbOf a == i)) (fun a s =>
      let p := (s.rdN (R.FBK_SSI_RAW i) : Int) + s.actI (R.PS_HOME_OFFSET a)
      (s.homeRef a (counts p)).presetCount i p 0) s

/-! ### Compare control, capture, GPIO (R287 to R289, R296) -/

/-- PTR := 0 and CMP_DONE := 0 (R287). -/
def Block.cmpReset (s : Block) (i : Nat) : Block :=
  let s := (s.setF (R.FBK_STAT i) 7 6 0).setB (R.FBK_STAT i) 13 false
  s.setFbi i { s.fbi i with cur := some s.now }

/-- COMPARE_RESTART: FBK_CMD.CMP_RESTART (R287). -/
def opCompareRestart (i : Nat) (s : Block) : Block := s.cmpReset i

/-- CAPTURE_EDGE: CAPn comes to a level, which the filter takes after FILT + 1 samples (R275, R289). -/
def opCaptureEdge (n : Nat) (level : Bool) (held : Nat) (s : Block) : Block :=
  let k := s.rd (R.CAP_CFG n)
  if !filtered (fld k 8 4) held then s else
  let e := fld k 5 2
  let cap := s.pins.cap
  let cap := if level then cap ||| 2 ^ n else cap - (cap &&& 2 ^ n)
  let s := { s with pins := { s.pins with cap := cap } }
  let s :=
    if s.pageEn capPage && ((level && (e == 1 || e == 3)) || (!level && (e == 2 || e == 3))) then
      let s := s.wr (R.CAP_POS n) (s.rd (R.FBK_COUNT (fld k 0 5)))
      let s := s.wr64 (R.CAP_TIME_LO n) (s.tb.dt - 5 * (fld k 8 4 + 1))
      let s := if s.bt R.CAP_STAT n then s.setB R.CAP_STAT (16 + n) true else s
      let s := (s.setB R.CAP_STAT n true).raise capPage n
      let s := if k.getLsbD 12 then s.postEv (0x130 + fld k 0 5) else s
      forL ((s.homingBy [7]).filter (fun a => s.actF (R.PS_HOME_CFG a) 5 4 == n)) (fun a s => s.reference a (fld k 8 4 + 1)) s
    else s
  forL (s.switchCars true n 0) (fun c s => s.switchTo c (level != s.actB (R.PS_HOME_CFG c) 9) (fld k 8 4 + 1)) s

/-- The filtered level of a GPIO line changes (R296): GPIO_IN, the event lines that watch it, their events of the stall
class, and the merging of edges into a held event. -/
def Block.gpioTo (s : Block) (line : Nat) (level : Bool) : Block :=
  let s := s.setB (if line < 32 then R.GPIO_IN_LO else R.GPIO_IN_HI) (line % 32) level
  forN 32 (fun e s =>
    let k := s.rd (R.GPIO_EV_CFG e)
    let d := fld k 6 2
    if s.pageEn gpioPage = true ∧ fld k 0 6 = line ∧ ((level && (d == 1 || d == 3)) || (!level && (d == 2 || d == 3))) = true then
      let s := (s.setB R.GPIO_EV_STAT e true).raise gpioPage 0
      if s.disp.held.contains (.gpio e) then s.incSat (R.GPIO_EV_CNT e) 0 16 else s.postStall (.gpio e)
    else s) s

/-- A bit of a register pair of the GPIO page, by line. -/
def Block.gpioBit (s : Block) (lo hi n : Nat) : Bool := s.bt (if n < 32 then lo else hi) (n % 32)

/-- The level that line n drives, none where it is an input (R296). -/
def Block.gpioDrive (s : Block) (n : Nat) : Option Bool :=
  if s.gpioBit R.GPIO_DIR_LO R.GPIO_DIR_HI n then some (s.gpioBit R.GPIO_OUT_LO R.GPIO_OUT_HI n) else none

/-- GPIO_EDGE_EVENT: a line comes to a level for `held` samples (R275, R296); the ball of an output has the level it
drives. -/
def opGpioEdgeEvent (line : Nat) (level : Bool) (held : Nat) (s : Block) : Block :=
  if !filtered (s.fl R.GPIO_FILT 0 4) held || s.gpioDrive line == some (!level) then s else s.gpioTo line level

/-- A write of GPIO_DIR or GPIO_OUT reaches the balls in the next tick; the read-back passes the two flops of the synchroniser
and the filter, FILT + 3 ticks later (R21, R275, R296). (log 121, DEDUCED) -/
def Block.gpioWritten (s old : Block) : Block :=
  forN 64 (fun n s =>
    if s.gpioDrive n = old.gpioDrive n then s
    else
      let rest := s.pins.gpio.filter (fun e => e.1 != n)
      { s with pins := { s.pins with gpio := match s.gpioDrive n with
        | none => rest
        | some l => (n, l, s.now + s.fl R.GPIO_FILT 0 4 + 4) :: rest } }) s

/-- The read-backs that come up to tick t. -/
def Block.gpioBack (s : Block) (t : Nat) : Block :=
  let due := s.pins.gpio.filter (fun e => decide (e.2.2 ≤ t))
  let s := { s with pins := { s.pins with gpio := s.pins.gpio.filter (fun e => !decide (e.2.2 ≤ t)) } }
  forL due (fun e s => if s.gpioBit R.GPIO_IN_LO R.GPIO_IN_HI e.1 = e.2.1 then s else s.gpioTo e.1 e.2.1) s

/-- n ticks at the compare lists and the read-backs. -/
def Block.advFbk (s : Block) (n : Nat) : Block :=
  let s := forL ((s.fb.filter (fun e => e.2.cur.isSome && s.pageEn (fbkPage e.1))).map Prod.fst)
    (fun i s => s.cmpTicks i (s.now + n) (n + 1)) s
  if s.pins.gpio.isEmpty then s else s.gpioBack (s.now + n)

/-! ### The meanings -/

def execSsiReadCommand (i : FbIx) (snd : Sender) (high : Bool) (s : State) : Out :=
  onApp (busWrite snd (R.FBK_CMD i.val) 2#32 (opSsiReadCommand i.val snd high)) s
def execIndexEdge (i : FbIx) (s : State) (level : Option Bool := none) (held : Nat := 16) : Out :=
  ifRun (onApp (opIndexEdge i.val level held)) s
def execIndexArm (i : FbIx) (snd : Sender) (s : State) : Out :=
  onApp (busWrite snd (R.FBK_CMD i.val) 1#32 (opIndexArm i.val)) s
def execSwitchEdge (i : FbIx) (l : Fin 3) (level : Bool) (s : State) (held : Nat := 16) : Out :=
  ifRun (onApp (opSwitchEdge i.val l.val level held)) s
def execCaptureEdge (n : PwmIx) (level : Bool) (s : State) (held : Nat := 16) : Out := ifRun (onApp (opCaptureEdge n.val level held)) s
def execCompareRestart (i : FbIx) (snd : Sender) (s : State) : Out :=
  onApp (busWrite snd (R.FBK_CMD i.val) 4#32 (opCompareRestart i.val)) s
def execSpeedTimeout (i : FbIx) (s : State) : Out := ifRun (onApp (opSpeedTimeout i.val)) s
def execGpioEdgeEvent (line : PortIx) (level : Bool) (s : State) (held : Nat := 16) : Out :=
  ifRun (onApp (opGpioEdgeEvent line.val level held)) s

end Sys2Proof.Machine
end

