-- ==== Sys2Proof/Machine/Time.lean ====
section
/-! DEFINITION. The passing of ticks (R35, R36, R42): Deck Time, the rate multipliers, the compare lists, the PWM
counters and the lock windows. Nothing here performs an event that has a command of its own. -/

namespace Sys2Proof.Machine

/-- n ticks of the counter of channel p (R246). It stands at P from the tick at which it returns to 0, until its reload is
performed, which is an event of its own. -/
def Block.advPwm (s : Block) (n p : Nat) : Block :=
  if s.running p && !s.frozen p then
    let x := s.pw1 p
    s.setPw1 p { x with cnt := min (x.cnt + n) (s.perAct p) }
  else s

/-- n ticks of a page's lock window: three FAB clocks a tick; at 0 the page closes (R72). -/
def Block.advLock (s : Block) (n page : Nat) : Block :=
  let l := s.lockOf page
  if !l.isOpen then s
  else if l.remain ≤ 3 * n then { s with locks := sset (fun _ => {}) s.locks page {} }
  else { s with locks := sset (fun _ => {}) s.locks page { l with remain := l.remain - 3 * n } }

/-- The watchdog counts: it is enabled, and does not pause while a core is halted by debug, with the system or alone
(R90, R91, R495). -/
def Block.wdtRuns (s : Block) : Bool :=
  s.bt R.SYS_WDT_CTRL 0 && !(s.bt R.SYS_WDT_CTRL 1 && (s.bt R.PWM_COM_STAT 17 || !s.sec.halted.isEmpty))

/-- n ticks of the watchdog (R91): SYS_WDT_CNT falls by 1 each millisecond of 200 000 ticks; in its last one it waits for
the expiry, which is an event of its own. (log 29, DESIGN CHOICE; 75, DEDUCED) -/
def Block.advWdt (s : Block) (n : Nat) : Block :=
  if s.wdtRuns then
    let k := s.wdtDiv + n
    { s.wrN R.SYS_WDT_CNT (max 1 (s.rdN R.SYS_WDT_CNT - k / 200000)) with wdtDiv := k % 200000 }
  else s

/-- n ticks of Deck Time, a count of 64 bits (R35); where it wraps, tick 0 of cycle 0 is still to come. -/
def Tb.pass (t : Tb) (n : Nat) : Tb :=
  let d := t.dt + 5 * n
  { t with dt := d % 2 ^ 64, ticks := t.ticks + n, cycDone := if d < 2 ^ 64 then t.cycDone else 0 }

/-- n ticks of Deck Time pass. (log 29, DESIGN CHOICE; 43, DESIGN CHOICE) -/
def Block.advance (n : Nat) (s : Block) : Block :=
  if n = 0 then s
  else
    let s := s.advProf n
    let s := s.advFbk n
    let s := forN 16 (fun p s => s.advPwm n p) s
    let s := forL (s.locks.map Prod.fst) (fun page s => s.advLock n page) s
    let s := s.advWdt n
    { s with tb := s.tb.pass n }

/-- One tick with no command waiting; none passes while the application side is held in reset (R84; assumption 29) or TB is
off, and in Pause only Deck Time counts (R475). (log 29, DESIGN CHOICE) -/
def Block.idle (s : Block) : Block :=
  if s.held then s
  else if s.domState 4 = 0 then s.advance 1
  else if s.domState 4 = 1 then { s with tb := s.tb.pass 1 }
  else s

/-- Time moves on to tick k of the cycle in progress; a tick already passed stays passed. (log 29, DESIGN CHOICE) -/
def Block.advanceToTick (s : Block) (k : Nat) : Block := s.advance (k - s.tick)

/-- Time moves on to the next cycle boundary whose tick 0 is still to come; where it stands at one, it stays. (log 29, DESIGN CHOICE) -/
def Block.advanceToNext (s : Block) : Block :=
  if s.tb.dt % 15625 = 0 ∧ s.tb.cycDone ≤ s.cycle then s else s.advance ((15625 - s.tb.dt % 15625 + 4) / 5)

/-- A deadline at tick k of the cycle in progress can still be met: a cycle exists, no part-cycle, tick k not passed. (log 32, DEDUCED) -/
def Block.deadline (s : Block) (k : Nat) : Bool := s.bt R.TB_STAT 1 && !s.tb.part && decide (s.tick ≤ k)

/-- TARGET_REACHED by carrel c: time moves on to the tick of the arrival, within the cycle (R168). -/
def opTargetReached (c : Nat) (s : Block) : Block :=
  match s.ticksToTarget c with
  | none => s
  | some n => if s.tick + n < 3125 then s.advance n else s

/-- STEP_PULSE of carrel c: time moves on to the tick at which the integer part of P changes, within the cycle
(R182). -/
def opStepPulse (c : Nat) (s : Block) : Block :=
  match s.ticksToPulse c with
  | none => s
  | some n => if s.tick + n < 3125 then s.advance n else s

def execTargetReached (c : Carrel) (s : State) : Out := ifRun (onApp (opTargetReached c.val)) s
def execStepPulse (c : Carrel) (s : State) : Out := ifRun (onApp (opStepPulse c.val)) s

end Sys2Proof.Machine
end

