-- ==== Sys2Proof/Machine/FbTime.lean ====
section
/-! DEFINITION. The events of position feedback that have a tick of their own (12_position_feedback.md): the start and the end
of an SSI read, a node's cycle latch, and the end of a compare pulse. -/

namespace Sys2Proof.Machine

/-- Time moves on to TB tick t, where that lies in the cycle in progress; a tick already passed stays passed. -/
def Block.comeTo (s : Block) (t : Nat) : Option Block :=
  if t ≤ s.now then some s else if s.tick + (t - s.now) < 3125 then some (s.advance (t - s.now)) else none

/-- SSI_READ_START: the read of the cycle, at tick FBK_SSI_START (R278); `high` is FBi_A in the tick before the first falling
edge. -/
def opSsiReadStart (i : Nat) (high : Bool) (s : Block) : Block :=
  let k := s.fl (R.FBK_SSI_START i) 0 12
  if s.fbMode i = 3 ∧ s.deadline k = true then (s.advanceToTick k).ssiStart i high else s

/-- SSI_READ_DONE, at the end of the last clock period: the samples of FBi_A in the last tick of each high half, from bit 0
on; where none are listed, those that `raw` and `trail` spell (R278). -/
def opSsiReadDone (i raw trail : Nat) (line : List Bool) (s : Block) : Block :=
  if s.fbMode i ≠ 3 ∨ s.bt (R.FBK_STAT i) 14 = false then s
  else
    let k := s.rd (R.FBK_SSI_CFG i)
    match s.comeTo ((s.fbi i).ssiT + ssiLen k) with
    | none => s
    | some s =>
      let v := if line.isEmpty then (raw, trail) else ssiBits k line
      s.ssiDone i v.1 v.2

/-- The tick of a node's cycle latch of interface i (R43, R280): SE where its carrel is bound to a cycle-locked channel with
k = 1, else FBK_LATCH_TICK. -/
def Block.nodeLatchTick (s : Block) (i : Nat) : Nat :=
  match s.carOfFb i with
  | some c =>
    let p := s.fl (R.CAR_BIND c) 2 4
    if s.outOf c = 0 ∧ s.chLock p = true ∧ s.fl (R.PWM_CH_CFG p) 1 3 = 0 then s.fl (R.PWM_CH_SE p) 0 16
    else s.fl (R.FBK_LATCH_TICK i) 0 12
  | none => s.fl (R.FBK_LATCH_TICK i) 0 12

/-- NODE_FEEDBACK_LATCH of interface i: a node's cycle latch, at its tick (R280), taken by the carrel bound to it. -/
def opNodeFeedbackLatch (i : Nat) (s : Block) : Block :=
  if !s.isNode || !s.deadline (s.nodeLatchTick i) then s
  else
    let s := (s.advanceToTick (s.nodeLatchTick i)).cycleLatch i
    match s.carOfFb i with
    | some c => s.takeLatch c
    | none => s

/-- COMPARE_PULSE_END on line n: after WIDTH ticks (R288). -/
def opComparePulseEnd (n : Nat) (s : Block) : Block :=
  let past := fun (s : Block) (f : Nat) => f + s.fl (R.CMP_OUT n) 0 8 + 1
  match s.firedAt n with
  | none => s
  | some f =>
    match s.comeTo (past s f) with
    | none => s
    | some s =>
      if (s.firedAt n).any (fun f => decide (past s f ≤ s.now)) then
        { s with pins := { s.pins with pulse := s.pins.pulse.filter (fun e => e.1 != n) } }
      else s

/-! ### The meanings -/

def execSsiReadStart (i : FbIx) (high : Bool) (s : State) : Out := ifRun (onApp (opSsiReadStart i.val high)) s
def execSsiReadDone (i : FbIx) (raw trail : Nat) (s : State) (line : List Bool := []) : Out :=
  ifRun (onApp (opSsiReadDone i.val raw trail line)) s
def execComparePulseEnd (n : PwmIx) (s : State) : Out := ifRun (onApp (opComparePulseEnd n.val)) s

end Sys2Proof.Machine
end

