-- ==== Sys2Proof/Machine/Mailbox.lean ====
section
/-! DEFINITION. Mailboxes, doorbells and loan registers (06_mailboxes_and_loans.md). -/

namespace Sys2Proof.Machine

/-- The page of mailbox m (R133). -/
def mbxPage (m : Nat) : Nat := 0x40020000 + m * 0x1000

/-- Block of a mailbox: 0 EMPTY, 1 STAGING, 2 FULL (R133). -/
def Block.mbxSt (s : Block) (m : Nat) : Nat := s.fl (R.MBX_STAT m) 0 2

/-- The acknowledgement memory of a mailbox, oldest entry first (R132). -/
def Block.ackMem (s : Block) (m : Nat) : List AckEnt := sget (fun _ => []) s.ackMemory m

/-- The endpoint address that a stamp carries (R128). -/
def stampEp (snd : Sender) : Nat := if snd.agent.val = 11 then snd.ep.val else 0

/-- Whether R127 permits a sender. -/
def Block.mbxPermits (s : Block) (m : Nat) (snd : Sender) : Bool :=
  s.bt (R.MBX_OWNER m) snd.agent.val &&
    (snd.agent.val != 11 ||
      decide (snd.ep.val &&& s.fl (R.MBX_FEP m) 16 12 = s.fl (R.MBX_FEP m) 0 12 &&& s.fl (R.MBX_FEP m) 16 12))

/-- Whether the sender is the writer of the staging in progress (R126). -/
def Block.mbxIsWriter (s : Block) (m : Nat) (snd : Sender) : Bool :=
  s.fl (R.MBX_STAT m) 4 4 == snd.agent.val && s.fl (R.MBX_STAT m) 8 12 == stampEp snd

/-- Become EMPTY: state, writer and stamp read 0 (R133), and a STAGING or FULL page is no longer active. -/
def Block.mbxEmpty (s : Block) (m : Nat) : Block :=
  ((s.wrN (R.MBX_STAT m) 0).wrN (R.MBX_STAMP m) 0).setB (R.PAGE_STAT (mbxPage m)) 2 false

/-- MAILBOX_DATA_WRITE: a write of MBX_DATAi (R126). -/
def opMailboxData (m i : Nat) (snd : Sender) (v : Word) (s : Block) : Block :=
  if !s.mbxPermits m snd then s.refuse true (R.MBX_DATA m i) snd .agent
  else if s.mbxSt m = 0 then
    let s := forN 16 (fun j s => s.wrN (R.MBX_DATA m j) 0) s
    let s := s.wr (R.MBX_DATA m i) v
    let s := s.wrN (R.MBX_STAT m) (1 + snd.agent.val * 16 + stampEp snd * 256)
    s.setB (R.PAGE_STAT (mbxPage m)) 2 true
  else if s.mbxSt m = 1 ∧ s.mbxIsWriter m snd = true then s.wr (R.MBX_DATA m i) v
  else s.refuse true (R.MBX_DATA m i) snd .state

/-- Post the acknowledge event of a mailbox where MBX_ACK_EV.EN is 1 (R129); the write of the agent does not complete
until it is admitted. -/
def Block.ackEvent (s : Block) (agent m : Nat) : Block :=
  if s.bt (R.MBX_ACK_EV m) 15 then s.postStall (.ack agent m (s.fl (R.MBX_ACK_EV m) 0 10)) else s

/-- DOORBELL_WAKE (R130): a post to a core receiver wakes the receiver's wing; event 0x100 + m reaches the Dispatch Unit
once the wing is powered. -/
def Block.doorbell (s : Block) (m : Nat) : Block :=
  if s.fl (R.MBX_CFG m) 0 4 < 8 then
    let w := s.fl (R.MBX_CFG m) 0 4 / 2
    let s := s.wakeDomain w
    if sget (fun _ => 0) s.pw.exiting w ≠ 0 then s.modPw (fun p => { p with bells := p.bells ++ [(w, m)] })
    else s.postEv (0x100 + m)
  else s.postEv (0x100 + m)

/-- MAILBOX_POST: a write of MBX_POST (R126, R128, R132). A duplicate is an acknowledgement anew, so it also writes
MBX_LAST_STAMP; the order of the acknowledgement memory stays, as R132 says nothing of it. (log 98, DEDUCED) -/
def opMailboxPost (m : Nat) (snd : Sender) (v : Word) (s : Block) : Block :=
  let seq := fld v 0 16
  if !s.mbxPermits m snd then s.refuse true (R.MBX_POST m) snd .agent
  else if ¬ (s.mbxSt m = 1 ∧ s.mbxIsWriter m snd = true) then s.refuse true (R.MBX_POST m) snd .state
  else
    match (s.ackMem m).find? (fun e => e.agent == snd.agent.val && e.ep == stampEp snd && e.seq == seq) with
    | some e =>
      if s.bt (R.MBX_CFG m) 4 then
        let s := s.mbxEmpty m
        let s := s.wrN (R.MBX_LAST_RC m) (e.rc + 2 ^ 16 + 2 ^ 17)
        let s := s.wrN (R.MBX_LAST_STAMP m) (e.agent + e.ep * 16 + e.seq * 2 ^ 16)
        let s := s.incSat (R.MBX_DUP_CNT m) 0 16
        let s := s.flag (R.MBX_ERR m) 2 (mbxPage m) 4
        (s.raise (mbxPage m) 1).ackEvent snd.agent.val m
      else opMailboxFull m snd seq s
    | none => opMailboxFull m snd seq s
where
  /-- The message is stamped and the mailbox is FULL (R126, R128, R130). -/
  opMailboxFull (m : Nat) (snd : Sender) (seq : Nat) (s : Block) : Block :=
    let s := s.setF (R.MBX_STAT m) 0 2 2
    let s := s.wrN (R.MBX_STAMP m) (snd.agent.val + stampEp snd * 16 + seq * 2 ^ 16)
    (s.raise (mbxPage m) 0).doorbell m

/-- The acknowledgement memory after an acknowledgement (R132): the entry of the same agent and endpoint is
replaced, else the oldest of four; the new entry is the newest. (log 98, DEDUCED) -/
def ackInsert (l : List AckEnt) (e : AckEnt) : List AckEnt :=
  if l.any (fun x => x.agent == e.agent && x.ep == e.ep) then
    l.filter (fun x => !(x.agent == e.agent && x.ep == e.ep)) ++ [e]
  else if 4 ≤ l.length then l.tail ++ [e] else l ++ [e]

/-- MAILBOX_ACK: a write of MBX_ACK (R126, R129). -/
def opMailboxAck (m : Nat) (snd : Sender) (v : Word) (s : Block) : Block :=
  if snd.agent.val ≠ s.fl (R.MBX_CFG m) 0 4 then s.refuse true (R.MBX_ACK m) snd .agent
  else if s.mbxSt m ≠ 2 then s.refuse true (R.MBX_ACK m) snd .state
  else
    let st := s.rd (R.MBX_STAMP m)
    let e : AckEnt := { agent := fld st 0 4, ep := fld st 4 12, seq := fld st 16 16, rc := fld v 0 16 }
    let s := { s with ackMemory := sset (fun _ => []) s.ackMemory m (ackInsert (s.ackMem m) e) }
    let s := s.wr (R.MBX_LAST_STAMP m) st
    let s := s.wrN (R.MBX_LAST_RC m) (e.rc + 2 ^ 17)
    let s := s.mbxEmpty m
    (s.raise (mbxPage m) 1).ackEvent snd.agent.val m

/-- A write of MBX_CTRL: by an agent that R127 does not permit refused; without CANCEL nothing follows. -/
def opMailboxCtrl (m : Nat) (snd : Sender) (v : Word) (s : Block) : Block :=
  let st := s.rd (R.MBX_STAMP m)
  if !s.mbxPermits m snd then s.refuse true (R.MBX_CTRL m) snd .agent
  else if v.getLsbD 0 = false then s
  else if s.mbxSt m = 1 ∧ s.mbxIsWriter m snd = true then s.mbxEmpty m
  else if s.mbxSt m = 2 ∧ fld st 0 4 = snd.agent.val ∧ fld st 4 12 = stampEp snd then
    (s.mbxEmpty m).flag (R.MBX_ERR m) 1 (mbxPage m) 3
  else s.refuse true (R.MBX_CTRL m) snd .state

/-- MAILBOX_CANCEL: a write of MBX_CTRL.CANCEL (R126). -/
def opMailboxCancel (m : Nat) (snd : Sender) (s : Block) : Block := opMailboxCtrl m snd 1#32 s

/-- Whether R127 admits a read of the payload: from the receiver while FULL, from the writer while STAGING. -/
def Block.mbxReads (s : Block) (m : Nat) (snd : Sender) : Bool :=
  (s.mbxSt m == 2 && s.fl (R.MBX_CFG m) 0 4 == snd.agent.val) || (s.mbxSt m == 1 && s.mbxIsWriter m snd)

/-- A memory error that a read of mailbox m's payload meets (R33, R133). -/
def Block.mbxEcc (s : Block) (m : Nat) (e : Ecc) : Block :=
  match e with
  | .none => s
  | .corr => s.flag (R.MBX_ERR m) 3 (mbxPage m) 5
  | .uncorr => s.flag (R.MBX_ERR m) 4 (mbxPage m) 6

/-- A read of MBX_DATAi (R127); of a word with an uncorrectable error the value stays open. (log 101, DESIGN CHOICE) -/
def opMailboxRead (m i : Nat) (snd : Sender) (e : Ecc) (s : Block) : Block :=
  if s.mbxReads m snd then
    if e = .uncorr then ((s.reply (Config.freeNat s.free % 2 ^ 32)).useFree).mbxEcc m e
    else (s.reply (s.rdN (R.MBX_DATA m i))).mbxEcc m e
  else s.refuse false (R.MBX_DATA m i) snd .agent

/-- MAILBOX_STAGE_TIMEOUT: 65 536 FAB clocks since the writer's last write (R126). -/
def opMailboxStageTimeout (m : Nat) (s : Block) : Block :=
  if s.mbxSt m = 1 then (s.mbxEmpty m).flag (R.MBX_ERR m) 0 (mbxPage m) 2 else s

/-! ### Loan registers (R134, R135) -/

/-- Who holds loan n: 0 free, else the owner's agent code + 1. -/
def Block.loanOwner (s : Block) (n : Nat) : Nat := s.fl (R.LOAN_PEEK n) 0 5

/-- Give loan n an owner (0 frees it), with its bit of LOAN_HELD. -/
def Block.setLoan (s : Block) (n o : Nat) : Block :=
  (s.wrN (R.LOAN_PEEK n) o).setB (if n < 32 then R.LOAN_HELD_LO else R.LOAN_HELD_HI) (n % 32) (o != 0)

/-- LOAN_ACQUIRE: a read of LOAN_n (R134). -/
def opLoanAcquire (n : Nat) (snd : Sender) (s : Block) : Block :=
  let o := s.loanOwner n
  if o = 0 then (s.setLoan n (snd.agent.val + 1)).reply 0
  else if o = snd.agent.val + 1 then s.reply 0
  else s.reply o

/-- LOAN_RELEASE: a write of LOAN_n (R134). A free loan has no owner, so a write of 0 to it is another agent's. -/
def opLoanRelease (n : Nat) (snd : Sender) (v : Word) (s : Block) : Block :=
  if v ≠ 0#32 then s.refuse true (R.LOAN n) snd .range
  else if s.loanOwner n = snd.agent.val + 1 then s.setLoan n 0
  else (s.refuse true (R.LOAN n) snd .state).setB R.LOAN_ERR 1 true

/-- LOAN_FORCE: a write of LOAN_FORCE_HI commits the pair and frees every loan whose bit is 1 (R135). LO is the
staging register of the pair. -/
def opLoanForce (v : Word) (s : Block) : Block :=
  let lo := s.stagedLo R.LOAN_FORCE_LO
  forN 64 (fun n s =>
    let b := if n < 32 then lo.getLsbD n else v.getLsbD (n - 32)
    if b && s.loanOwner n != 0 then (s.setLoan n 0).setB R.LOAN_ERR 0 true else s) s

/-! ### The meanings -/

def execMailboxDataWrite (m : MbxIx) (i : Fin 16) (snd : Sender) (v : Word) (s : State) : Out :=
  onApp (busWrite snd (R.MBX_DATA m.val i.val) v (opMailboxData m.val i.val snd v)) s
def execMailboxAck (m : MbxIx) (snd : Sender) (v : Word) (s : State) : Out :=
  onApp (busWrite snd (R.MBX_ACK m.val) v (opMailboxAck m.val snd v)) s
def execMailboxCancel (m : MbxIx) (snd : Sender) (s : State) : Out :=
  onApp (busWrite snd (R.MBX_CTRL m.val) 1#32 (opMailboxCancel m.val snd)) s
def execMailboxStageTimeout (m : MbxIx) (s : State) : Out := ifRun (onApp (opMailboxStageTimeout m.val)) s
def execLoanRelease (n : Fin 64) (snd : Sender) (v : Word) (s : State) : Out :=
  onApp (busWrite snd (R.LOAN n.val) v (opLoanRelease n.val snd v)) s
def execLoanForce (snd : Sender) (v : Word) (s : State) : Out :=
  onApp (busWrite snd R.LOAN_FORCE_HI v (opLoanForce v)) s

end Sys2Proof.Machine
end

