-- ==== Sys2Proof/Machine/Pwm.lean ====
section
/-! DEFINITION. Power-stage outputs and current sensing (11_power_stage.md): channels, compare values, gate signals
and dead time, updates at the reload, the debug halt, and the sigma-delta inputs. -/

namespace Sys2Proof.Machine

/-- The pages of the PWM common block and of the SDM block. -/
def pwmCom : Nat := 0x40300000
def sdmPage : Nat := 0x40310000

/-- Set a flag of PWM_CH_ERR: IRQ_RAW of the channel page at the same position (R269). -/
def Block.chFlag (s : Block) (p i : Nat) : Block := s.flag (R.PWM_CH_ERR p) i (pwmPage p) i
/-- Set a flag of PWM_COM_ERR: IRQ_RAW of the common page at bit 8 + its position (R269). -/
def Block.comFlag (s : Block) (i : Nat) : Block := s.flag R.PWM_COM_ERR i pwmCom (8 + i)

/-- PWM_CH_CFG.SRC and PWM_CH_SDM.SDM_EN of channel p (R272). -/
def Block.chSrc (s : Block) (p : Nat) : Nat := s.fl (R.PWM_CH_CFG p) 10 2
def Block.sdmEn (s : Block) (p : Nat) : Bool := s.bt (R.PWM_CH_SDM p) 8

/-- Whether the device's role lets its power stages run (R3, R17): a Node, or a Coordinator of a system without a
Reserve. -/
def Block.pwmRole (s : Block) : Bool :=
  s.isNode || (s.role == 1 && !s.cfg.devs.any (fun d => d.role == 3))

/-- Compare values in force (R247): CMP and FINE of leg l (0 U, 1 V, 2 W). -/
def Block.cmpAct (s : Block) (p l : Nat) : Nat × Nat :=
  (s.fl (R.PWM_CH_CMP_ACT_U p + 4 * l) 0 16, s.fl (R.PWM_CH_CMP_ACT_U p + 4 * l) 16 5)

/-- Put compare values in force. -/
def Block.setCmpAct (s : Block) (p : Nat) (l : List (Nat × Nat)) : Block :=
  forN 3 (fun i s => s.wrN (R.PWM_CH_CMP_ACT_U p + 4 * i) ((l.getD i (0, 0)).1 + (l.getD i (0, 0)).2 * 2 ^ 16)) s

/-! ### Gates (R245, R247, R249) -/

/-- An on-interval that the device issues or suppresses (R249): the interval and whether MINP_SUPP is set. -/
def issue (start stop pe minp : Nat) : Gate × Bool :=
  if start = 0 ∨ stop = pe then (if start < stop then (⟨start, stop⟩, false) else ({}, false))
  else if stop ≤ start ∨ stop - start < 32 * minp then ({}, true) else (⟨start, stop⟩, false)

/-- The high and the low gate of a leg over a period (R249), in 1/32 tick from the reload: period in force P, compare
value, S at the end of the previous period, dead times and minimum pulse; with MINP_SUPP. -/
def legGates (p cmp fine : Nat) (sPrev : Bool) (dth dtl minp : Nat) : Gate × Gate × Bool :=
  let pe := 32 * p
  if cmp = 0 then ({}, (issue (if sPrev then dtl else 0) pe pe minp).1, false)
  else if p ≤ cmp then ((issue (if sPrev then 0 else dth) pe pe minp).1, {}, false)
  else
    let x := 32 * cmp + fine
    let hi := issue (if sPrev then 0 else dth) x pe minp
    (hi.1, (issue (x + dtl) pe pe minp).1, hi.2)

/-- Gates that stay off, and low gates that stay on, of a channel that does not run: `low` gives for each low side
from when on it is on (1/32 tick), none for off. -/
def idleGates (low : List (Option Nat)) : List Gate :=
  low.foldr (fun o l => {} :: (match o with | none => {} | some t => ⟨t, 2 ^ 32⟩) :: l) []

/-- PWMIDLE (R80, R271). -/
def Block.pwmIdle (s : Block) : Bool := s.bt R.PWM_COM_CFG 1

/-- Whether leg l of channel p is used (R245). -/
def Block.legUsed (s : Block) (p l : Nat) : Bool := s.bt (R.PWM_CH_CFG p) (7 + l)

/-- S of leg l at the end of the period in progress (R249). -/
def Block.sEnd (s : Block) (p l : Nat) : Bool := s.running p && decide (s.perAct p ≤ (s.cmpAct p l).1)

/-! ### Adaptive dead time (R250 to R252) -/

/-- DT_MODE = ADAPTIVE and channels 8 to 15 all disabled. -/
def Block.adtWanted (s : Block) : Bool :=
  s.bt R.PWM_COM_CFG 2 && (List.range 8).all (fun i => !s.chEn (8 + i))

/-- Keep PWM_COM_STAT.ADT_ACTIVE; where it comes back, every channel of 0 to 7 starts again from PWM_DT_FIX. -/
def Block.adtUpdate (s : Block) : Block :=
  let was := s.bt R.PWM_COM_STAT 16
  let now := s.adtWanted
  let s := s.setB R.PWM_COM_STAT 16 now
  if now && !was then forN 8 (fun p s => s.setB (R.PWM_CH_STAT p) 3 false) s else s

/-- PWM_DT_FIX in 1/32 tick. -/
def Block.dtFix (s : Block) : Nat := 32 * s.fl R.PWM_DT_FIX 0 10

/-- Show the dead times of leg l while adaptive dead time is in use (R251, R272). -/
def Block.showAdt (s : Block) (p l : Nat) : Block :=
  s.wrN (R.PWM_CH_ADT_U p + 4 * l) ((s.pw1 p).dth.getD l 0 + (s.pw1 p).dtl.getD l 0 * 2 ^ 16)

/-- The dead times with which channel p goes into the period that starts (R250 to R252). -/
def Block.deadTimes (s : Block) (p : Nat) : Block :=
  let f := s.dtFix
  let x := s.pw1 p
  let fixed := { x with dth := [f, f, f], dtl := [f, f, f] }
  if p < 8 ∧ s.bt R.PWM_COM_STAT 16 then
    if s.bt (R.PWM_CH_STAT p) 3 then s
    else forN 3 (fun l s => s.showAdt p l) ((s.setPw1 p fixed).setB (R.PWM_CH_STAT p) 3 true)
  else (s.setPw1 p fixed).setB (R.PWM_CH_STAT p) 3 false

/-- Channel p of 0 to 7 has passed a reload, or no longer runs: the channels of 8 to 15 that waited for it alone
start (R252). -/
def Block.yieldBy (s : Block) (p : Nat) : Block :=
  forN 8 (fun i s =>
    let x := s.pw1 (8 + i)
    if !s.bt (R.PWM_CH_STAT (8 + i)) 5 then s
    else
      let l := x.await.filter (· != p)
      if l.isEmpty then (s.setPw1 (8 + i) { x with await := [], starting := true, startAt := s.tb.ticks + 1 }).setB (R.PWM_CH_STAT (8 + i)) 5 false
      else s.setPw1 (8 + i) { x with await := l }) s

/-! ### Enable and disable (R253, R254) -/

/-- Keep PAGE_STAT.ACTIVE of channel p and of the SDM page, and PWM_COM_STAT.RUNNING. -/
def Block.setRunning (s : Block) (p : Nat) (b : Bool) : Block :=
  let s := ((s.setB (R.PWM_CH_STAT p) 0 b).setB R.PWM_COM_STAT p b).setB (R.PAGE_STAT (pwmPage p)) 2 b
  s.setB (R.PAGE_STAT sdmPage) 2 (decide (s.fl R.PWM_COM_STAT 0 16 ≠ 0))

/-- Channel p is disabled (R254): high sides off; a low side already on stays on with PWMIDLE = 1, the others follow
after PWM_DT_FIX; pending items are discarded. The gates of a channel that does not run stay as they are. -/
def Block.pwmStop (s : Block) (p : Nat) : Block :=
  let x := s.pw1 p
  let on := fun l => s.running p && decide ((x.gates.getD (2 * l + 1) {}).start ≤ 32 * x.cnt)
    && decide (32 * x.cnt < (x.gates.getD (2 * l + 1) {}).stop)
  let low := fun l => if s.pwmIdle then some (if on l then 0 else s.dtFix) else none
  let s := s.setPw1 p (if s.running p then { gates := idleGates [low 0, low 1, low 2], stopT := s.tb.ticks }
    else { gates := x.gates, stopT := x.stopT })
  let s := (s.setB (R.PWM_CH_CTRL p) 0 false).setRunning p false
  let s := s.wr (R.PWM_CH_STAT p) 0
  let s := s.wrN (R.PWM_CH_CNT p) 0
  (s.yieldBy p).adtUpdate

/-- The inputs of channel p are clocked (R253). -/
def Block.inputsClocked (s : Block) (p : Nat) : Bool :=
  (List.range 3).all (fun l => s.bt (R.SDM_CLK (s.fl (R.SDM_IN_CFG (s.fl (R.PWM_CH_SDM p) 0 6 + l)) 0 3)) 8)

/-- PAIRED as R260 admits it. (log 56, DEDUCED) -/
def Block.pairedOk (s : Block) (p : Nat) (paired : Bool) : Bool :=
  !paired || s.bt (R.PWM_CH_CTRL p) 1 || (!s.chLock p && s.chSrc p == 0 && !s.chEn p)

/-- PWM_CHANNEL_ENABLE: a write of PWM_CH_CTRL with EN = 1 (R252, R253, R260). -/
def opPwmChannelEnable (p : Nat) (snd : Sender) (paired : Bool) (s : Block) : Block :=
  if s.bt (R.PWM_CH_ERR p) 2 || s.bt (R.PWM_CH_ERR p) 6 || !s.pwmRole || (s.sdmEn p && !s.inputsClocked p)
      || !s.pairedOk p paired then s.refuse true (R.PWM_CH_CTRL p) snd .state
  else
    let was := s.chEn p
    let s := (s.setB (R.PWM_CH_CTRL p) 1 paired).setB (R.PWM_CH_CTRL p) 0 true
    if was then s
    else if 8 ≤ p && s.bt R.PWM_COM_STAT 16 then
      let s := (s.setB R.PWM_COM_STAT 16 false).comFlag 0
      let l := (List.range 8).filter (fun q => s.running q)
      if l.isEmpty then s.setPw1 p { s.pw1 p with starting := true, startAt := s.tb.ticks + 1 }
      else (s.setPw1 p { s.pw1 p with await := l }).setB (R.PWM_CH_STAT p) 5 true
    else s.setPw1 p { s.pw1 p with starting := true, startAt := s.tb.ticks + 1 }

/-- Every pending period and compare value of channel p is discarded (R254). -/
def Block.dropPending (s : Block) (p : Nat) : Block :=
  ((s.setPw1 p { s.pw1 p with pendP := none, pendC := none, newer := false }).setB (R.PWM_CH_STAT p) 1 false).setB
    (R.PWM_CH_STAT p) 2 false

/-- PWM_CHANNEL_DISABLE: a write of PWM_CH_CTRL with EN = 0 (R254, R260). -/
def opPwmChannelDisable (p : Nat) (snd : Sender) (paired : Bool) (s : Block) : Block :=
  if !s.pairedOk p paired then s.refuse true (R.PWM_CH_CTRL p) snd .state
  else
    let s := s.setB (R.PWM_CH_CTRL p) 1 paired
    if s.chEn p then s.pwmStop p else s.dropPending p

/-! ### Pending items (R257, R259, R260) -/

/-- A duty set becomes pending. -/
def Block.armDuty (s : Block) (p : Nat) (l : List (Nat × Nat)) : Block :=
  (s.setPw1 p { s.pw1 p with pendC := some l, newer := true }).setB (R.PWM_CH_STAT p) 2 true

/-- PWM_COMPARE_WRITE: a write of PWM_CH_CMP_W makes the three values pending as one set (R257). -/
def opPwmCompareWrite (p : Nat) (snd : Sender) (v : Word) (s : Block) : Block :=
  if s.chSrc p ≠ 0 then s.refuse true (R.PWM_CH_CMP_W p) snd .state
  else
    let s := s.wr (R.PWM_CH_CMP_W p) (v &&& 0x1FFFFF)
    let g := fun a => (s.fl a 0 16, s.fl a 16 5)
    s.armDuty p [g (R.PWM_CH_CMP_U p), g (R.PWM_CH_CMP_V p), g (R.PWM_CH_CMP_W p)]

/-- PWM_PERIOD_WRITE: a write of PWM_CH_PERIOD (R246, R257). -/
def opPwmPeriodWrite (p : Nat) (snd : Sender) (v : Word) (s : Block) : Block :=
  let n := fld v 0 16
  if s.chLock p then s.refuse true (R.PWM_CH_PERIOD p) snd .state
  else if n < 2000 then s.refuse true (R.PWM_CH_PERIOD p) snd .range
  else
    let s := s.wrN (R.PWM_CH_PERIOD p) n
    (s.setPw1 p { s.pw1 p with pendP := some n, newer := false }).setB (R.PWM_CH_STAT p) 1 true

/-- The transfer at a reload (R257, R259, R260). -/
def Block.transfer (s : Block) (p : Nat) (first : Bool) : Block :=
  let x := s.pw1 p
  let clear := fun (s : Block) => s.dropPending p
  let zero := [(0, 0), (0, 0), (0, 0)]
  if s.bt (R.PWM_CH_CTRL p) 1 then
    match x.pendP, x.pendC with
    | some n, some l => clear ((s.wrN (R.PWM_CH_PERIOD_ACT p) n).setCmpAct p l)
    | _, _ => if first then s.setCmpAct p zero else s
  else
    let split := x.pendP.isSome && !(x.pendC.isSome && x.newer)
    let s := match x.pendP with | some n => s.wrN (R.PWM_CH_PERIOD_ACT p) n | none => s
    let s := match x.pendC with | some l => s.setCmpAct p l | none => if first then s.setCmpAct p zero else s
    let s := clear s
    if split then s.chFlag p 0 else s

/-! ### The voltage-mode stepper (R185) -/

/-- The compare set of R185 for channel q from the carrel that drives it. -/
def Block.vstepSet (s : Block) (c q : Nat) : List (Nat × Nat) :=
  let x := s.prf c
  let sp : Int := ((shr x.v 16).natAbs / 65536 : Nat)
  let amp : Int := min ((s.actF (R.PS_VSTEP_AMP c) 0 16 : Int) + shr (s.actF (R.PS_VSTEP_AMP c) 16 16 * sp) 16) 32767
  let nb := s.actF (R.PS_VSTEP_CFG c) 4 4
  let i := ((intPart (x.p + x.o) * 2 ^ (12 - nb)) % 4096).toNat
  let d := shr (amp * sinTab 32767 (if q % 2 = 0 then i + 1024 else i)) 15
  let per : Int := s.perAct q
  [((shr (per * (32768 + d)) 16).toNat, 0), ((shr (per * (32768 - d)) 16).toNat, 0), (0, 0)]

/-- VSTEP_COMPARE at the reload of channel q: the set serves the next reload (R185, R258). -/
def Block.vstep (s : Block) (q : Nat) : Block :=
  if s.chSrc q ≠ 2 then s
  else match s.cfg.cars.find? (fun c => s.carLocal c && s.outOf c == 2 && s.actF (R.PS_VSTEP_CFG c) 0 3 == q / 2) with
    | none => s
    | some c => s.armDuty q (s.vstepSet c q)

/-! ### The reload (R246 to R260) -/

/-- The carrels whose current loop channel p serves (R225). -/
def Block.loopCars (s : Block) (p : Nat) : List Nat :=
  s.cfg.cars.filter (fun c => s.curFed c && s.outOf c == 0 && s.fl (R.CAR_BIND c) 2 4 == p)

/-- The LOCAL carrels bound to channel p whose current loop does not run there: their interfaces take an SE latch too
(R280). -/
def Block.otherCars (s : Block) (p : Nat) : List Nat :=
  s.cfg.cars.filter (fun c => s.carLocal c && s.outOf c == 0 && s.fl (R.CAR_BIND c) 2 4 == p && !(s.loopCars p).contains c)

/-- CUR_LATE for a queued loop that has not armed its duties (R227), at the reload of channel p. -/
def Block.reloadLoops (s : Block) (p : Nat) : Block :=
  forL (s.loopCars p) (fun c s =>
    let l := s.lp c
    if l.place = 0 then s
    else if l.armed then s.setLp c { l with place := 0, armed := false }
    else if l.missed then s
    else (s.setLp c { l with missed := true }).leFlag c 1) s

/-- Leg l of channel p switches: it is used (R245), and it is not W of a channel that drives a stepper, which stays at the
idle level (R185). -/
def Block.legLive (s : Block) (p l : Nat) : Bool := s.legUsed p l && !(l == 2 && s.chSrc p == 2)

/-- The reload of channel p: transfer, clamp, dead times and the gates of the period that starts. -/
def Block.reload (s : Block) (p : Nat) : Block :=
  let first := !s.running p
  let prev := (List.range 3).map (fun l => s.sEnd p l)
  let s := s.reloadLoops p
  let s := (s.transfer p first).deadTimes p
  let per := s.perAct p
  let s := if (List.range 3).any (fun l => s.legLive p l && decide (per ≤ (s.cmpAct p l).1) && (s.cmpAct p l).1 != 0xFFFF)
    then s.chFlag p 1 else s
  let x := s.pw1 p
  let leg := fun l => legGates per (s.cmpAct p l).1 (s.cmpAct p l).2 (prev.getD l false) (x.dth.getD l 0) (x.dtl.getD l 0)
    (s.fl (R.PWM_CH_MINP p) 0 8)
  let used := (List.range 3).filter (fun l => s.legLive p l)
  let pair := fun l => if s.legLive p l then [(leg l).1, (leg l).2.1]
    else idleGates [if s.pwmIdle then some 0 else none]
  let s := if used.any (fun l => (leg l).2.2) then s.chFlag p 3 else s
  let s := s.setPw1 p { s.pw1 p with cnt := 0, starting := false, gates := pair 0 ++ pair 1 ++ pair 2, sPrev := prev, relT := s.tb.ticks + 1 }
  let s := s.setRunning p true
  ((if p < 8 then s.yieldBy p else s)).vstep p

/-- PWM_RELOAD of channel p. -/
def opPwmReload (p : Nat) (s : Block) : Block :=
  match s.ticksToReload p with
  | none => s
  | some n => (s.advance n).reload p

/-! ### Dead time (R251, R252) -/

/-- DEAD_TIME_MODE_WRITE: a write of PWM_COM_CFG.DT_MODE (R252, R271). -/
def opDeadTimeModeWrite (adaptive : Bool) (s : Block) : Block := (s.setB R.PWM_COM_CFG 2 adaptive).adtUpdate

/-- The new dead time after an edge (R251), all times in 1/32 tick: `sn` is t_sn − t_off. None where there is no
measurement. -/
def adaptDt (dt tgt shift dtmin dtmax : Nat) (sn : Option Nat) : Option Nat :=
  match sn with
  | none => none
  | some t =>
    if dt ≤ t then none
    else some (clamp ((dt : Int) - shr (((dt - t : Nat) : Int) - tgt) shift) (32 * dtmin) (32 * dtmax)).toNat

/-- Leg l of channel p has such an edge in the period in progress (R251): the low side goes out at the reload where S was
0 before it and the compare value is not 0; the high side goes out within the period where the value lies inside it, or at
the reload where S was 1 before it and the value is 0. At 0 % and 100 % nothing is measured. (log 56, DEDUCED) -/
def Block.hasEdge (s : Block) (p l : Nat) (high : Bool) : Bool :=
  let before := (s.pw1 p).sPrev.getD l false
  let c := (s.cmpAct p l).1
  if high then !before && c != 0 else (c != 0 && decide (c < s.perAct p)) || (c == 0 && before)

/-- SWITCH_NODE_EDGE of leg l of channel p: the edge after which the high side (`high`) or the low side turns on
(R251). -/
def opSwitchNodeEdge (p l : Nat) (high : Bool) (sn : Option Nat) (s : Block) : Block :=
  if 8 ≤ p ∨ s.running p = false ∨ s.bt (R.PWM_CH_STAT p) 3 = false ∨ s.legUsed p l = false ∨ s.hasEdge p l high = false then s
  else
    let x := s.pw1 p
    let dt := (if high then x.dth else x.dtl).getD l 0
    match adaptDt dt (s.fl R.PWM_ADT_TGT 0 11) (s.fl R.PWM_ADT_TGT 16 4) (s.fl R.PWM_ADT_LIM 0 10)
        (s.fl R.PWM_ADT_LIM 16 10) sn with
    | none => s.incSat (R.PWM_CH_ADT_MISS p) 0 16
    | some d =>
      (s.setPw1 p (if high then { x with dth := x.dth.set l d } else { x with dtl := x.dtl.set l d })).showAdt p l

/-! ### Debug halt (R256) -/

/-- DEBUG_HALT_START through an authorised debug transport: the system halt, with permission HALT (R256, R494, R495), or
of one core alone, with permission CORE (R495), which freezes nothing else. -/
def opDebugHaltStart (core : Option Nat) (s : Block) : Block :=
  if s.bt R.DBG_AUTH_STAT 0 = false ∨ s.bt R.DBG_AUTH_STAT (if core.isSome then 2 else 1) = false then s
  else match core with
  | some h => { s with sec := { s.sec with halted := h :: s.sec.halted.filter (· != h) } }
  | none =>
    let s := forN 16 (fun p s => if s.chEn p then s.setB (R.PWM_CH_STAT p) 4 true else s) s
    (s.setB R.PWM_COM_STAT 17 true).comFlag 1

/-- DEBUG_HALT_END: every channel that was frozen is disabled, HALTED (R256); of one core, that core runs on. -/
def opDebugHaltEnd (core : Option Nat) (s : Block) : Block :=
  match core with
  | some h => { s with sec := { s.sec with halted := s.sec.halted.filter (· != h) } }
  | none =>
  if !s.bt R.PWM_COM_STAT 17 then s
  else
    let s := s.setB R.PWM_COM_STAT 17 false
    forN 16 (fun p s => if s.frozen p then (s.pwmStop p).chFlag p 4 else s) s

/-! ### Sigma-delta inputs (R261 to R266) -/

/-- h[j] of R263: the coefficients of (1 + z^-1 + … + z^-(N−1))³. -/
def sincH (n j : Nat) : Int :=
  let b := fun (k : Nat) => if j < k then (0 : Int) else ((((j - k) + 2) * ((j - k) + 1) / 2 : Nat) : Int)
  b 0 - 3 * b n + 3 * b (2 * n)

/-- Each d-th element of a list, n of them, false past its end. -/
def everyNth (d : Nat) : Nat → List Bool → List Bool
  | 0, _ => []
  | n + 1, l => l.headD false :: everyNth d n (l.drop d)

/-- r of R263 over the bits of the window, newest first. -/
def sinc3 (n : Nat) (bits : List Bool) : Int :=
  ((List.range (3 * n - 2)).map (fun j => if bits.getD j false then sincH n j else 0)).foldl (· + ·) 0

/-- The bits of the window of input i (R262, R263), newest first, from the levels of its line at the TB ticks up to SE,
newest first: SDC rises where Deck Time is a multiple of DIV ticks and falls half a period later, the line is sampled DLY
ticks after the edge that EDGE selects, and the window holds 3N − 2 bits. (log 56, DEDUCED) -/
def Block.sddBits (s : Block) (i : Nat) (levels : List Bool) : List Bool :=
  let c := fun lo len => s.fl (R.SDM_IN_CFG i) lo len
  let d := s.fl (R.SDM_CLK (c 0 3)) 0 6
  let edge := if c 3 1 = 0 then 0 else (d + 1) / 2
  let late := (s.tb.dt / 5 + 2 * d - edge - c 4 3) % d
  everyNth d (3 * c 8 9 - 2) (levels.drop late)

/-- i of R264. N³ / 2 of an odd N is rounded down. (log 119, DESIGN CHOICE) -/
def scale (r : Int) (n : Nat) (ofs gain : Int) (gsh : Nat) : Int := sat (shr ((r - (n * n * n / 2 : Nat) - ofs) * gain) gsh) 32

/-- r of a window of input i, and whether its bits are all equal (R263, R265). -/
def Block.winRaw (s : Block) (i : Nat) (levels : List Bool) : Int := sinc3 (s.fl (R.SDM_IN_CFG i) 8 9) (s.sddBits i levels)
def Block.winStuck (s : Block) (i : Nat) (levels : List Bool) : Bool :=
  let n := s.fl (R.SDM_IN_CFG i) 8 9
  s.winRaw i levels == 0 || s.winRaw i levels == ((n * n * n : Nat) : Int)

/-- The window of input i ends: r and i are formed; a stuck window sets STUCK (R263 to R265). -/
def Block.window (s : Block) (i : Nat) (levels : List Bool) : Block :=
  let n := s.fl (R.SDM_IN_CFG i) 8 9
  let r := s.winRaw i levels
  let s := s.wrI (R.SDM_IN_RAW i) r
  let s := s.wrI (R.SDM_IN_VAL i) (scale r n (s.rdI (R.SDM_IN_OFS i)) (s.rdI (R.SDM_IN_GAIN i)) (s.fl (R.SDM_IN_SH i) 0 6))
  if r = 0 ∨ r = (n * n * n : Nat) then (s.setB (R.SDM_IN_STAT i) 0 true).raise sdmPage 0 else s

/-- The three windows of channel p, SUM_ERR and SDM_STUCK (R264, R265); none are formed while the SDM page is disabled
(R70). -/
def Block.windows (s : Block) (p : Nat) (u v w : List Bool) : Block :=
  if !s.pageEn sdmPage then s else
  let b := s.fl (R.PWM_CH_SDM p) 0 6
  let stuck := s.winStuck b u || s.winStuck (b + 1) v || s.winStuck (b + 2) w
  let s := ((s.window b u).window (b + 1) v).window (b + 2) w
  let sum := s.rdI (R.SDM_IN_VAL b) + s.rdI (R.SDM_IN_VAL (b + 1)) + s.rdI (R.SDM_IN_VAL (b + 2))
  let s := if s.bt (R.PWM_CH_SDM p) 6 ∧ s.rdN (R.PWM_CH_SUMTOL p) < sum.natAbs then s.chFlag p 5 else s
  if stuck then (s.chFlag p 6).pwmStop p else s

/-- Ticks to SE of channel p, where it is still to come in the period and falls within the cycle in progress (R263). -/
def Block.ticksToSe (s : Block) (p : Nat) : Option Nat :=
  let se := s.fl (R.PWM_CH_SE p) 0 16
  let n := se - (s.pw1 p).cnt
  if (s.pw1 p).cnt ≤ se ∧ se < s.perAct p ∧ s.tick + n < 3125 then some n else none

/-- A duty set of the current loop for channel p becomes pending where SRC lets the loop arm it (R257), the channel runs
and is not frozen (R256). -/
def Block.loopArm (s : Block) (p : Nat) (l : List (Nat × Nat)) : Block :=
  if s.running p && !s.frozen p && s.chSrc p == 1 then s.armDuty p l else s

/-- The SE latch of a carrel bound to channel p, the currents, and the loop's place in the queue (R225, R227). A
carrel that was disabled arms zero line voltage once (R229). -/
def Block.seCarrel (s : Block) (p c : Nat) : Block :=
  let s := s.seLatch (s.fbOf c)
  let b := s.fl (R.PWM_CH_SDM p) 0 6
  let l := s.lp c
  let l := { l with ia := s.rdI (R.SDM_IN_VAL b), ib := s.rdI (R.SDM_IN_VAL (b + 1)),
                    pint := s.rdI (R.FBK_LS_POS (s.fbOf c)), vse := s.rdI (R.FBK_LS_VEL (s.fbOf c))
                    qse := l.qref }
  if s.carEn c && !l.idle then s.setLp c { l with place := s.now + 1, armed := false, missed := false }
  else if l.zero then
    let x := 2 ^ 30 * (match (s.pw1 p).pendP with | some n => n | none => s.perAct p) / 2 ^ 26
    (s.setLp c { l with zero := false, place := 0 }).loopArm p [(x / 32, x % 32), (x / 32, x % 32), (x / 32, x % 32)]
  else s.setLp c l

/-- SAMPLE_WINDOW_END of channel p (R43, R263): the levels of its three input lines at the TB ticks up to SE, newest
first. While the channel is frozen its counter stands; the stuck-modulator trip stays armed (R256). -/
def opSampleWindowEnd (p : Nat) (u v w : List Bool) (s : Block) : Block :=
  if !s.running p then s
  else if s.frozen p then (if s.sdmEn p then s.windows p u v w else s)
  else match s.ticksToSe p with
    | none => s
    | some n =>
      let s := s.advance n
      let s := if s.sdmEn p then s.windows p u v w else s
      if !s.running p then s
      else forL (s.loopCars p) (fun c s => s.seCarrel p c) (forL (s.otherCars p) (fun c s => s.seLatch (s.fbOf c)) s)

/-- A duty as a compare value (R248), for period P. -/
def dutyCmp (d per : Nat) : Nat × Nat :=
  if d = 0 then (0, 0) else if d = 2 ^ 31 then (0xFFFF, 0) else (d * per / 2 ^ 26 / 32, d * per / 2 ^ 26 % 32)

/-- The place q of carrel c in its wing's queue (R227): the loops due at the same instant run by ascending k. -/
def Block.queuePlace (s : Block) (c : Nat) : Nat :=
  (s.cfg.cars.filter (fun d => d / 48 == c / 48 && (s.lp d).place == (s.lp c).place && decide (d ≤ c))).length

/-- Keep LE_CUR_LAT_MAX (R267) in WING clocks: 65 ns, 70 ns for each loop of the queue, and `wait` clocks for a
running position pass, which only a Coordinator or Reserve runs; `place` is q. -/
def Block.noteLatency (s : Block) (c place wait : Nat) : Block :=
  let lat := min (26 + 28 * place + if s.isCoord then wait else 0) 255
  if s.fl (R.LE_CUR_LAT_MAX (c / 48)) 0 8 < lat then s.setF (R.LE_CUR_LAT_MAX (c / 48)) 0 8 lat else s

/-- CURRENT_LOOP_DONE of the loop queued on channel p (R226, R227, R248, R258): its duties become pending, unless the
channel is frozen, its SRC names another source, or its reload has come or falls in this clock. -/
def opCurrentLoopDone (p wait : Nat) (s : Block) : Block :=
  match (s.loopCars p).find? (fun c => (s.lp c).place != 0 && !(s.lp c).armed) with
  | none => s
  | some c =>
    let q := s.queuePlace c
    let r := s.curRun c
    let s := r.1
    let l := s.lp c
    let per := match (s.pw1 p).pendP with | some n => n | none => s.perAct p
    if l.missed then s.setLp c { l with place := 0, missed := false }
    else if s.frozen p then s.setLp c { l with armed := true }
    else if s.ticksToReload p = some 0 then (s.setLp c { l with place := 0 }).leFlag c 1
    else ((s.setLp c { l with armed := true }).noteLatency c q wait).loopArm p (r.2.map (fun d => dutyCmp d per))

/-- Channels whose inputs, with SDM_EN = 1, hold input i (R262). -/
def Block.channelsOf (s : Block) (i : Nat) : List Nat :=
  (List.range 16).filter (fun p => s.sdmEn p && decide (s.fl (R.PWM_CH_SDM p) 0 6 ≤ i) && decide (i ≤ s.fl (R.PWM_CH_SDM p) 0 6 + 2))

/-- OVERCURRENT_TRIP at input i: `ones` 1 bits among its last OCL sampled bits, so OCL of them at most (R266). -/
def opOvercurrentTrip (i ones : Nat) (s : Block) : Block :=
  let oc := s.rd (R.SDM_IN_OC i)
  if !oc.getLsbD 24 || !s.bt (R.SDM_CLK (s.fl (R.SDM_IN_CFG i) 0 3)) 8 || decide (fld oc 0 6 < ones)
      || decide (fld oc 16 6 < ones ∧ ones < fld oc 8 6) then s
  else
    let s := (s.setB (R.SDM_IN_STAT i) 1 true).raise sdmPage 1
    forL (s.channelsOf i) (fun p s =>
      if i = s.fl (R.PWM_CH_SDM p) 0 6 + 2 ∧ s.bt (R.PWM_CH_SDM p) 7 = false then s else (s.chFlag p 2).pwmStop p) s

/-- A running channel with SDM_EN = 1 uses an input clocked by SDC j (R261). -/
def Block.clockUsed (s : Block) (j : Nat) : Bool :=
  (List.range 16).any (fun p => s.running p && s.sdmEn p &&
    (List.range 3).any (fun l => s.fl (R.SDM_IN_CFG (s.fl (R.PWM_CH_SDM p) 0 6 + l)) 0 3 == j))

/-- EN or DIV of SDCj takes a value in this TB tick: its first rising edge falls later (R261). -/
def Block.sdcSet (s : Block) (j : Nat) : Block := { s with pins := { s.pins with sdc := sset (fun _ => 0) s.pins.sdc j (s.tb.ticks + 1) } }

/-- SDM_CLOCK_WRITE: a write of SDM_CLK_j (R261, R273). A DIV of 64 does not fit the six bits of the field. (log 56, DEDUCED) -/
def opSdmClockWrite (j : Nat) (snd : Sender) (v : Word) (s : Block) : Block :=
  if fld v 0 6 < 10 then s.refuse true (R.SDM_CLK j) snd .range
  else if s.clockUsed j then s.refuse true (R.SDM_CLK j) snd .state
  else (s.wr (R.SDM_CLK j) (v &&& 0x13F)).sdcSet j

/-! ### The meanings -/

def execPwmChannelEnable (p : PwmIx) (snd : Sender) (paired : Bool) (s : State) : Out :=
  onApp (busWrite snd (R.PWM_CH_CTRL p.val) (if paired then 3#32 else 1#32) (opPwmChannelEnable p.val snd paired)) s
def execPwmChannelDisable (p : PwmIx) (snd : Sender) (paired : Bool) (s : State) : Out :=
  onApp (busWrite snd (R.PWM_CH_CTRL p.val) (if paired then 2#32 else 0#32) (opPwmChannelDisable p.val snd paired)) s
def execPwmCompareWrite (p : PwmIx) (snd : Sender) (v : Word) (s : State) : Out :=
  onApp (busWrite snd (R.PWM_CH_CMP_W p.val) v (opPwmCompareWrite p.val snd v)) s
def execPwmPeriodWrite (p : PwmIx) (snd : Sender) (v : Word) (s : State) : Out :=
  onApp (busWrite snd (R.PWM_CH_PERIOD p.val) v (opPwmPeriodWrite p.val snd v)) s
def execDeadTimeModeWrite (snd : Sender) (adaptive : Bool) (s : State) : Out :=
  onApp (busWrite snd R.PWM_COM_CFG (setBit (s.blk.rd R.PWM_COM_CFG) 2 adaptive) (opDeadTimeModeWrite adaptive)) s
def execPwmReload (p : PwmIx) (s : State) : Out := ifRun (onApp (opPwmReload p.val)) s
def execSwitchNodeEdge (p : PwmIx) (l : Fin 3) (high : Bool) (sn : Option Nat) (s : State) : Out :=
  ifRun (onApp (opSwitchNodeEdge p.val l.val high sn)) s
def execDebugHaltStart (s : State) (core : Option (Fin 8) := none) : Out := ifRun (onApp (opDebugHaltStart (core.map Fin.val))) s
def execDebugHaltEnd (s : State) (core : Option (Fin 8) := none) : Out := ifRun (onApp (opDebugHaltEnd (core.map Fin.val))) s
def execCurrentLoopDone (p : PwmIx) (wait : Fin 25) (s : State) : Out := ifRun (onApp (opCurrentLoopDone p.val wait.val)) s
def execSdmClockWrite (j : Fin 8) (snd : Sender) (v : Word) (s : State) : Out :=
  onApp (busWrite snd (R.SDM_CLK j.val) v (opSdmClockWrite j.val snd v)) s

end Sys2Proof.Machine
end

