-- ==== Sys2Proof/Machine/Kin.lean ====
section
/-! DEFINITION. The fixed-point array (R196 to R205, R208): arithmetic of rows with their formats, forward kinematics, the
stages of an inverse-kinematics iteration, LDLᵀ with its pivot rule. Where a rule leaves the place of a rounding open
(W⁻¹ within J W⁻¹ Jᵀ, the conversion of r to 10 µm), the model's choice is in assumption 109. (log 109, DEDUCED) -/

namespace Sys2Proof.Machine

/-! ### Values and rows (R198, R203, R204) -/

/-- What a computation records: a raised pivot with its row and whether it was exactly 0 (R203), a saturation, and a
value outside its analysed range, with row and stage (R204). -/
inductive KNote where
  | pivot (row : Nat) (zero : Bool)
  | ovf (row stage : Nat)
  | range (row stage : Nat)
  deriving DecidableEq, Repr

/-- A computation that records notes. -/
abbrev KinM := StateM (List KNote)

/-- Row formats by quantity and row (R196). -/
abbrev Fmts := List ((Nat × Nat) × RowFmt)
def fmtOf (l : Fmts) (q row : Nat) : RowFmt := match l.find? (fun e => e.1 == (q, row)) with | some e => e.2 | none => {}

/-! The quantities of the stage table: 0 positions of F_j and of the tool, 1 positions of T_j (3j + i, j = 0 to 19 with the
tool joints) and of the tool centre (60 + i), 2 rotations of T_j (9j + i) and of the tool centre (180 + i), with 30 fractional
bits whatever the record says, 3 e, 4 p − o_j, 5 J or B (12 or 24 a row), 6 J W⁻¹ or B W⁻¹, 7 W⁻¹, 8 A, 9 λ, 10 u, 11 l, 12 d, 13 inv, 14 to 16
the substitutions, 17 Δq or u, 18 N, 19 h, 20 J h, 21 to 23 its substitutions, 24 W⁻¹ Jᵀ g, 25 k_ns, 26 the nullspace
motion, 27 q, 28 ẋ or τ, 29 to 31 its substitutions, 32 v, 33 ẍ, 34 to 36 its substitutions, 37 a, 39 the
residual, 40 Q⁻¹. -/

/-- A number brought to f fractional bits (R198). -/
def fxTo (x : Fx) (f : Nat) : Int := if x.f ≤ f then shl x.v (f - x.f) else rnd x.v (x.f - f)

/-- A product sum, exact (R198). -/
def fxDot (l : List (Fx × Fx)) : Fx :=
  let f := (l.map (fun p => p.1.f + p.2.f)).foldl max 0
  ⟨(l.map (fun p => shl (p.1.v * p.2.v) (f - (p.1.f + p.2.f)))).foldl (· + ·) 0, f⟩

/-- Saturation of a row's value, with its notes (R198, R204). -/
def kSat (fm : RowFmt) (row stage : Nat) (x : Int) : KinM Fx := fun l =>
  let y := sat x 32
  (⟨y, fm.f⟩, if y ≠ x then l ++ [.ovf row stage] else if y < fm.lo ∨ fm.hi < y then l ++ [.range row stage] else l)

/-- A value rounded into a row. -/
def kPut (fs : Fmts) (q row stage : Nat) (x : Fx) : KinM Fx :=
  let fm := fmtOf fs q row
  kSat fm row stage (fxTo x fm.f)

/-- A product sum into a row. -/
def kDot (fs : Fmts) (q row stage : Nat) (l : List (Fx × Fx)) : KinM Fx := kPut fs q row stage (fxDot l)

/-- A number with the weight 1 in a product sum. -/
def fxOne : Fx := ⟨1, 0⟩

/-- A sum into a row: each operand is brought to its format first (R198). -/
def kSum (fs : Fmts) (q row stage : Nat) (l : List Fx) : KinM Fx :=
  let fm := fmtOf fs q row
  kSat fm row stage ((l.map (fun x => fxTo x fm.f)).foldl (· + ·) 0)

/-- x − Σ a b in the format of a row: the product sum is rounded into the format of the row first, then the difference is
formed (R198 gives no format for the sum between them). What stands between has no analysed range of its own (R204). (log 109,
DESIGN CHOICE) -/
def kSubF (fm : RowFmt) (row stage : Nat) (x : Fx) (l : List (Fx × Fx)) : KinM Fx := do
  let p ← kSat { f := fm.f } row stage (fxTo (fxDot l) fm.f)
  kSat fm row stage (fxTo x fm.f - p.v)
def kSub (fs : Fmts) (q row stage : Nat) (x : Fx) (l : List (Fx × Fx)) : KinM Fx := kSubF (fmtOf fs q row) row stage x l

def fxNeg (x : Fx) : Fx := ⟨-x.v, x.f⟩
def fx30 (l : List Int) (i : Nat) : Fx := ⟨l.getD i 0, 30⟩

/-! ### Forward kinematics (stage 1) -/

/-- The product of two rotations, into the rows of quantity 2 from `row` on (R196). -/
def kRot (fs : Fmts) (row : Nat) (a b : List Int) : KinM (List Int) :=
  (List.range 9).mapM (fun i => do
    let x ← kSat { fmtOf fs 2 (row + i) with f := 30 } (row + i) 1 (fxTo (fxDot ((List.range 3).map (fun k => (fx30 a (3 * (i / 3) + k), fx30 b (3 * k + i % 3))))) 30)
    pure x.v)

/-- The frame composed with a fixed pose, numbered j: each element of the product of the two matrices is one product sum,
the origin's weight 1 being its last factor (R198, R200). -/
def kComp (fs : Fmts) (j : Nat) (t : KFrame) (c : FixPose) : KinM KFrame := do
  let r ← kRot fs (9 * j) t.rot c.rot
  let p ← (List.range 3).mapM (fun i =>
    kDot fs 1 (3 * j + i) 1 ((List.range 3).map (fun k => (fx30 t.rot (3 * i + k), ⟨c.pos.getD k 0, (fmtOf fs 0 (3 * j + k)).f⟩))
      ++ [(t.pos.getD i {}, fxOne)]))
  pure ⟨r, p⟩

/-- T_j := T_(j−1) · F_j · M(q_j). -/
def kJoint (fs : Fmts) (j : Nat) (c : JointCfg) (t : KFrame) (q : Int) : KinM KFrame := do
  let a ← kComp fs j t c.fix
  if c.prism then do
    let p ← (List.range 3).mapM (fun i =>
      kDot fs 1 (3 * j + i) 1 [(fx30 a.rot (3 * i + 2), ⟨q, (fmtOf fs 27 j).f⟩), (a.pos.getD i {}, fxOne)])
    pure ⟨a.rot, p⟩
  else do
    let th := lowBits 32 (rnd (q * c.kt) c.kts)
    let r ← kRot fs (9 * j) a.rot [cosT th, -sinT th, 0, sinT th, cosT th, 0, 0, 0, 1073741824]
    pure ⟨r, a.pos⟩

/-- The frames of a chain of joints, numbered from j. -/
def kChain (fs : Fmts) : Nat → KFrame → List (JointCfg × Int) → KinM (List KFrame)
  | _, _, [] => pure []
  | j, t, c :: l => do
    let a ← kJoint fs j c.1 t c.2
    let r ← kChain fs (j + 1) a l
    pure (a :: r)

/-- Frames of the chain joints and the tool pose. -/
def kForward (k : MachCfg) (q : List Int) : KinM (List KFrame × KFrame) := do
  let ts ← kChain k.rows 0 {} (k.joints.zipIdx.map (fun p => (p.1, q.getD p.2 0)))
  let tool ← kComp k.rows 20 (ts.getLastD {}) k.tool
  pure (ts, tool)

/-! ### LDLᵀ and substitution (R200, R203) -/

/-- λ² in the format of a row. -/
def kLam2 (fs : Fmts) (lam : Nat) (q row : Nat) : Int :=
  let l : Fx := ⟨lam, (fmtOf fs 9 0).f⟩
  fxTo (fxDot [(l, l)]) (fmtOf fs q row).f

/-- The pivot rule (R203). -/
def kPivot (fs : Fmts) (lam floor row stage : Nat) (d : Fx) : KinM Fx := fun l =>
  let l2 := kLam2 fs lam 12 row
  if d.v = 0 ∨ d.v < shr (floor * l2) 8 then kSat (fmtOf fs 12 row) row stage (d.v + l2) (l ++ [.pivot row (decide (d.v = 0))])
  else (d, l)

/-- The reciprocal of a pivot (R198). A pivot that is 0 after its raise has none: an open value. -/
def kInv (fs : Fmts) (row stage : Nat) (d : Fx) : KinM Fx :=
  let fm := fmtOf fs 13 row
  kSat fm row stage (if d.v = 0 then Config.recipZero else tdiv (2 ^ (d.f + fm.f) : Nat) d.v)

/-- Row i of the factorisation: u[i][j] and l[i][j] for the rows before it. -/
def kRow (fs : Fmts) (i stage : Nat) (a : List Fx) (ls : List (List Fx)) (invs : List Fx) :
    Nat → List Fx → List Fx → KinM (List Fx × List Fx)
  | 0, us, l => pure (us, l)
  | n + 1, us, l => do
    let j := us.length
    let u ← kSub fs 10 (i * (i + 1) / 2 + j) stage (a.getD j {}) ((List.range j).map (fun t => (us.getD t {}, (ls.getD j []).getD t {})))
    let x ← kDot fs 11 (i * (i + 1) / 2 + j) stage [(u, invs.getD j {})]
    kRow fs i stage a ls invs n (us ++ [u]) (l ++ [x])

/-- The factorisation of the lower triangle of A: rows of l, and the reciprocals of the pivots. -/
def kLdl (fs : Fmts) (lam floor stage : Nat) : List (List Fx) → List (List Fx) → List Fx → KinM (List (List Fx) × List Fx)
  | [], ls, invs => pure (ls, invs)
  | a :: rest, ls, invs => do
    let i := ls.length
    let r ← kRow fs i stage a ls invs i [] []
    let d ← kSub fs 12 i stage (a.getD i {}) (r.1.zip r.2)
    let d ← kPivot fs lam floor i stage d
    let inv ← kInv fs i stage d
    kLdl fs lam floor stage rest (ls ++ [r.2]) (invs ++ [inv])

/-- Forward substitution; `q` is the first of its three quantities. -/
def kFwd (fs : Fmts) (q stage : Nat) (ls : List (List Fx)) : List Fx → List Fx → KinM (List Fx)
  | [], z => pure z
  | b :: bs, z => do
    let x ← kSub fs q z.length stage b ((ls.getD z.length []).zip z)
    kFwd fs q stage ls bs (z ++ [x])

/-- Back substitution from row i − 1 down; `y` holds the rows from i on. -/
def kBack (fs : Fmts) (q stage : Nat) (ls : List (List Fx)) (w : List Fx) : Nat → List Fx → KinM (List Fx)
  | 0, y => pure y
  | i + 1, y => do
    let x ← kSub fs (q + 2) i stage (w.getD i {}) (y.zipIdx.map (fun p => ((ls.getD (i + 1 + p.2) []).getD i {}, p.1)))
    kBack fs q stage ls w i (x :: y)

/-- A⁻¹ b by forward, diagonal and back substitution. -/
def kSolve (fs : Fmts) (q stage : Nat) (f : List (List Fx) × List Fx) (b : List Fx) : KinM (List Fx) := do
  let z ← kFwd fs q stage f.1 b []
  let w ← z.zipIdx.mapM (fun p => kDot fs (q + 1) p.2 stage [(p.1, f.2.getD p.2 {})])
  kBack fs q stage f.1 w w.length []

/-- J W⁻¹ Jᵀ or B W⁻¹ Bᵀ, lower triangle, each element one product sum, with the product `dg` in those of the diagonal (stage
4). Rows of J and of J W⁻¹ are given. -/
def kGram (fs : Fmts) (stage : Nat) (jw j : List (List Fx)) (dg : Nat → Fx × Fx) : KinM (List (List Fx)) :=
  jw.zipIdx.mapM (fun p => (List.range (p.2 + 1)).mapM (fun c =>
    kDot fs 8 (p.2 * (p.2 + 1) / 2 + c) stage (p.1.zip (j.getD c []) ++ if c = p.2 then [dg p.2] else [])))

/-! ### One iteration (R200) -/

/-- The target of a solve in the base frame: position and rotation, velocity and acceleration rows. -/
structure IkTarget where
  pos : List Int := [0, 0, 0]
  rot : List Int := [1073741824, 0, 0, 0, 1073741824, 0, 0, 0, 1073741824]
  vel : List Int := []
  acc : List Int := []

/-- What an iteration leaves: the new q, J W⁻¹ by task rows, the factorisation, whether a joint was clamped, and the
residual e − J Δq by task rows. -/
structure IkIter where
  q : List Int
  jw : List (List Fx) := []
  fac : List (List Fx) × List Fx := ([], [])
  clamped : Bool := false
  res : List (Nat × Fx) := []

/-- The unlocked chain joints and the rows in TASK of a variant. -/
def ikJoints (k : MachCfg) (v : VariantCfg) : List (JointCfg × Nat) := k.joints.zipIdx.filter (fun p => !nbit v.lock p.2)
def ikRows (v : VariantCfg) : List Nat := (List.range 6).filter (fun r => nbit v.task r)

/-- e of stage 2, by row. -/
def ikError (k : MachCfg) (tool : KFrame) (t : IkTarget) (r : Nat) : KinM Fx :=
  if r < 3 then kSum k.rows 3 r 2 [⟨t.pos.getD r 0, (fmtOf k.rows 1 (60 + r)).f⟩, fxNeg (tool.pos.getD r {})]
  else
    let a := (r - 3 + 1) % 3
    let b := (r - 3 + 2) % 3
    let col := fun i => [(fx30 tool.rot (3 * a + i), fx30 t.rot (3 * b + i)), (fxNeg (fx30 tool.rot (3 * b + i)), fx30 t.rot (3 * a + i))]
    let d := fxDot ((List.range 3).flatMap col)
    kPut k.rows 3 r 2 ⟨d.v, d.f + 1⟩

/-- An element of J (stage 3): row r of joint j. -/
def ikJac (k : MachCfg) (ts : List KFrame) (tool : KFrame) (r : Nat) (j : JointCfg × Nat) : KinM Fx := do
  let t := ts.getD j.2 {}
  let z := fun i => fx30 t.rot (3 * i + 2)
  let ix := 12 * r + j.2
  if j.1.prism then (if r < 3 then kPut k.rows 5 ix 3 (z r) else pure ⟨0, (fmtOf k.rows 5 ix).f⟩)
  else if 3 ≤ r then kPut k.rows 5 ix 3 (z (r - 3))
  else do
    let a := (r + 1) % 3
    let b := (r + 2) % 3
    let d := fun i => kSum k.rows 4 (3 * j.2 + i) 3 [tool.pos.getD i {}, fxNeg (t.pos.getD i {})]
    let da ← d a
    let db ← d b
    kDot k.rows 5 ix 3 [(z a, db), (fxNeg (z b), da)]

/-- Stages 1 to 9. -/
def ikIter (k : MachCfg) (v : VariantCfg) (floor : Nat) (t : IkTarget) (q : List Int) : KinM IkIter := do
  let fs := k.rows
  let js := ikJoints k v
  let rows := ikRows v
  let (ts, tool) ← kForward k q
  let e ← rows.mapM (fun r => ikError k tool t r)
  let jac ← rows.mapM (fun r => js.mapM (fun j => ikJac k ts tool r j))
  let winv := fun (j : JointCfg × Nat) => Fx.mk j.1.winv (fmtOf fs 7 j.2).f
  let jw ← (rows.zip jac).mapM (fun p => (js.zip p.2).mapM (fun x => kDot fs 6 (12 * p.1 + x.1.2) 4 [(x.2, winv x.1)]))
  let lam : Fx := ⟨v.lambda, (fmtOf fs 9 0).f⟩
  let a ← kGram fs 4 jw jac (fun _ => (lam, lam))
  let fac ← kLdl fs v.lambda floor 5 a [] []
  let y ← kSolve fs 14 6 fac e
  let back := fun (qn st : Nat) (y : List Fx) => js.zipIdx.mapM (fun x => kDot fs qn x.1.2 st ((jw.map (fun row => row.getD x.2 {})).zip y))
  let dq ← back 17 7 y
  let qj := fun (j : JointCfg × Nat) => Fx.mk (q.getD j.2 0) (fmtOf fs 27 j.2).f
  let h ← js.mapM (fun j =>
    let n : Fx := ⟨j.1.nw, (fmtOf fs 18 j.2).f⟩
    kDot fs 19 j.2 8 [(n, ⟨j.1.qpref, (fmtOf fs 27 j.2).f⟩), (n, fxNeg (qj j))])
  let jh ← (rows.zip jac).mapM (fun p => kDot fs 20 p.1 8 (p.2.zip h))
  let g ← kSolve fs 21 8 fac jh
  let wg ← back 24 8 g
  let dq ← (js.zip (dq.zip (h.zip wg))).mapM (fun x => do
    let kns : Fx := ⟨v.kNs, (fmtOf fs 25 0).f⟩
    let m ← kDot fs 26 x.1.2 8 [(kns, x.2.2.1), (kns, fxNeg x.2.2.2)]
    kSum fs 17 x.1.2 8 [x.2.1, m])
  let raw ← (js.zip dq).mapM (fun x => do
    let y ← kSum fs 27 x.1.2 9 [qj x.1, x.2]
    pure (x.1, y.v))
  let res ← (rows.zip (e.zip jac)).mapM (fun p => do
    let y ← kSub fs 39 p.1 9 p.2.1 (p.2.2.zip dq)
    pure (p.1, y))
  let cl := fun (x : (JointCfg × Nat) × Int) => clamp x.2 x.1.1.qmin x.1.1.qmax
  pure ⟨raw.foldl (fun q x => q.set x.1.2 (cl x)) q, jw, fac, raw.any (fun x => decide (cl x ≠ x.2)), res⟩

/-- r of R205 in 10 µm: ROT_R is in 2^-20 m. -/
def ikResidual (k : MachCfg) (l : List (Nat × Fx)) : Nat :=
  (l.map (fun p => if p.1 < 3 then p.2.v.natAbs * 100000 / 2 ^ p.2.f else p.2.v.natAbs * k.rotR * 100000 / 2 ^ (p.2.f + 20))).foldl max 0

/-- The outcome of a solve: q, and velocity and acceleration by joint (0 where it is locked), r, and a clamp. -/
structure IkOut where
  q : List Int
  v : List Int
  a : List Int
  r : Nat
  clamped : Bool

/-- The solve of a machine (R200 to R205): two iterations, then v and a with the second one's J and factorisation. -/
def ikSolve (k : MachCfg) (v : VariantCfg) (floor : Nat) (t : IkTarget) (q : List Int) : KinM IkOut := do
  let i1 ← ikIter k v floor t q
  let i2 ← ikIter k v floor t i1.q
  let js := ikJoints k v
  let rows := ikRows v
  let ff := fun (qi qs qo : Nat) (x : List Int) => do
    let y ← kSolve k.rows qs 9 i2.fac (rows.map (fun r => ⟨x.getD r 0, (fmtOf k.rows qi r).f⟩))
    let z ← js.zipIdx.mapM (fun j => do
      let w ← kDot k.rows qo j.1.2 9 ((i2.jw.map (fun row => row.getD j.2 {})).zip y)
      pure (j.1.2, w.v))
    pure (z.foldl (fun l p => l.set p.1 p.2) (List.replicate k.joints.length (0 : Int)))
  let vel ← ff 28 29 32 t.vel
  let acc ← ff 33 34 37 t.acc
  pure ⟨i2.q, vel, acc, ikResidual k i2.res, i1.clamped || i2.clamped⟩

/-! ### Between binary64 and the rows (R151, R196) -/

/-- A rotation matrix in 2^-30. -/
def rotOf (q : Q4) : List Int :=
  let c := fun (v : V3) => (q.rot v).toList.map (fun x => (fix32 x 30).1)
  let x := c ⟨F64.one, 0, 0⟩
  let y := c ⟨0, F64.one, 0⟩
  let z := c ⟨0, 0, F64.one⟩
  (List.range 3).flatMap (fun i => [x.getD i 0, y.getD i 0, z.getD i 0])

/-- Numbers of a target in the formats of their rows; a saturation is noted (R204). -/
def ikPut (fs : Fmts) (q o stage : Nat) (l : List F64) : KinM (List Int) :=
  l.zipIdx.mapM (fun p => do
    let x ← kSat (fmtOf fs q (o + p.2)) (o + p.2) stage (F64.toInt p.1 (fmtOf fs q (o + p.2)).f)
    pure x.v)

/-- A motion of the tool in the base frame as the target of a solve, in its rows' formats. -/
def ikTarget (k : MachCfg) (m : Motion) : KinM IkTarget := do
  let up := fun (x : V3) => m.pose.q.rot x
  let pos ← ikPut k.rows 1 60 2 m.pose.p.toList
  let vel ← ikPut k.rows 28 0 9 (m.vel.toList ++ (up m.rate).toList)
  let acc ← ikPut k.rows 33 0 9 (m.acc.toList ++ (up m.racc).toList)
  pure { pos := pos, rot := rotOf m.pose.q, vel := vel, acc := acc }

/-- The quaternion of a rotation matrix in 2^-30, by its largest component. -/
def quatOf (r : List Int) : Q4 :=
  let m := fun i => F64.ofInt (r.getD i 0) 30
  let one : Int := 1073741824
  let d := fun (a b c : Int) => one + a * r.getD 0 0 + b * r.getD 4 0 + c * r.getD 8 0
  let sq := fun (x : Int) => F64.mul F64.two (F64.sqrt (F64.ofInt x 30))
  let quar := fun (x : F64) => F64.mul F64.half (F64.mul F64.half x)
  let w := d 1 1 1
  let x := d 1 (-1) (-1)
  let y := d (-1) 1 (-1)
  let z := d (-1) (-1) 1
  let q : Q4 :=
    if x ≤ w ∧ y ≤ w ∧ z ≤ w then
      let k := sq w
      ⟨quar k, F64.div (F64.sub (m 7) (m 5)) k, F64.div (F64.sub (m 2) (m 6)) k, F64.div (F64.sub (m 3) (m 1)) k⟩
    else if y ≤ x ∧ z ≤ x then
      let k := sq x
      ⟨F64.div (F64.sub (m 7) (m 5)) k, quar k, F64.div (F64.add (m 1) (m 3)) k, F64.div (F64.add (m 2) (m 6)) k⟩
    else if z ≤ y then
      let k := sq y
      ⟨F64.div (F64.sub (m 2) (m 6)) k, F64.div (F64.add (m 1) (m 3)) k, quar k, F64.div (F64.add (m 5) (m 7)) k⟩
    else
      let k := sq z
      ⟨F64.div (F64.sub (m 3) (m 1)) k, F64.div (F64.add (m 2) (m 6)) k, F64.div (F64.add (m 5) (m 7)) k, quar k⟩
  q.unit

/-- The pose of a frame of the array. -/
def framePose (t : KFrame) : Pose :=
  let p := fun i => let x := t.pos.getD i {}; F64.ofInt x.v x.f
  ⟨⟨p 0, p 1, p 2⟩, quatOf t.rot⟩

end Sys2Proof.Machine
end

