-- ==== Sys2Proof/Machine/Geom.lean ====
section
/-! DEFINITION. Geometry of the Separation Monitor (13_separation_monitor.md): frames in integers, channel B's own forward
kinematics (R312), capsules and boxes (R299 to R302), and exact shortest distances (R306). Lengths are in 2^-fb m of the
channel; the places of roundings that R312 leaves to each channel are in assumption 17. (log 17, DEDUCED) -/

namespace Sys2Proof.Machine

/-! ### Vectors and frames -/

def dotI (a b : List Int) : Int := (List.zipWith (· * ·) a b).sum
def addI (a b : List Int) : List Int := List.zipWith (· + ·) a b
def subI (a b : List Int) : List Int := List.zipWith (· - ·) a b
def crossI (a b : List Int) : List Int :=
  let x := fun i => a.getD i 0
  let y := fun i => b.getD i 0
  [x 1 * y 2 - x 2 * y 1, x 2 * y 0 - x 0 * y 2, x 0 * y 1 - x 1 * y 0]

/-- A frame in integers: its rotation by rows in 2^-rb, its position in 2^-fb m. -/
structure IFrame where
  rot : List Int
  pos : List Int
  deriving DecidableEq, Repr

/-- The frame of V itself. -/
def idFrame (rb : Nat) : IFrame := ⟨[2 ^ rb, 0, 0, 0, 2 ^ rb, 0, 0, 0, 2 ^ rb], [0, 0, 0]⟩

/-- A row of the rotation, and its column: an axis of the frame. -/
def IFrame.row (t : IFrame) (i : Nat) : List Int := (t.rot.drop (3 * i)).take 3
def IFrame.col (t : IFrame) (i : Nat) : List Int := (List.range 3).map (fun k => t.rot.getD (3 * k + i) 0)

/-- A point of the frame in the frame's reference. -/
def IFrame.act (rb : Nat) (t : IFrame) (x : List Int) : List Int :=
  (List.range 3).map (fun i => t.pos.getD i 0 + rnd (dotI (t.row i) x) rb)

/-- Frame c given in frame t. -/
def IFrame.comp (rb : Nat) (t c : IFrame) : IFrame :=
  ⟨(List.range 9).map (fun i => rnd (dotI (t.row (i / 3)) (c.col (i % 3))) rb), t.act rb c.pos⟩

/-- The rotation matrix of a quaternion, each element rounded to 2^-rb. -/
def rotInt (rb : Nat) (q : Q4) : List Int :=
  let c := [q.rot ⟨F64.one, 0, 0⟩, q.rot ⟨0, F64.one, 0⟩, q.rot ⟨0, 0, F64.one⟩]
  let col := fun (f : V3 → F64) => c.map (fun v => F64.toInt (f v) rb)
  col (fun v => v.x) ++ col (fun v => v.y) ++ col (fun v => v.z)

/-- A pose as a frame of a channel. -/
def frameOf (rb fb : Nat) (p : Pose) : IFrame := ⟨rotInt rb p.q, p.p.toList.map (fun x => F64.toInt x fb)⟩

/-- A length of 2^-20 m in 2^-fb m. -/
def lenTo (fb : Nat) (x : Int) : Int := if 20 ≤ fb then shl x (fb - 20) else rnd x (20 - fb)
def lenUp (fb x : Nat) : Nat := (x * 2 ^ fb + (2 ^ 20 - 1)) / 2 ^ 20
def ptTo (fb : Nat) (p : List Int) : List Int := p.map (lenTo fb)
/-- A point some length along a direction in 2^-rb. -/
def along (rb : Nat) (p d : List Int) (l : Int) : List Int := addI p (d.map (fun x => rnd (x * l) rb))

/-! ### Link frames of the channels (R312) -/

/-- A link frame of the Solver's forward kinematics as channel A takes it: 30 fractional bits and 2^-20 m. -/
def frameA (t : KFrame) : IFrame := ⟨t.rot, (List.range 3).map (fun i => fxTo (t.pos.getD i {}) 20)⟩

/-- Entry i of channel B's sine table of 1024 entries, and the interpolated sine of an angle in 2^-32 turn, 2^-24. -/
def sineB (i : Nat) : Int := sinTab (2 ^ 24) (4 * (i % 1024))
def sinB (th : Nat) : Int :=
  let i := th % 2 ^ 32 / 2 ^ 22
  sineB i + rnd ((sineB (i + 1) - sineB i) * (th % 2 ^ 22 : Nat)) 22
def cosB (th : Nat) : Int := sinB (th + 2 ^ 30)

/-- A joint in channel B's forward kinematics, from the measured joint value. -/
def jointB (fs : Fmts) (j : Nat) (c : JointCfg) (t : IFrame) (q : Int) : IFrame :=
  let p := (List.range 3).map (fun i => lenTo 16 (fxTo ⟨c.fix.pos.getD i 0, (fmtOf fs 0 (3 * j + i)).f⟩ 20))
  let a := t.comp 24 ⟨c.fix.rot.map (fun x => rnd x 6), p⟩
  if c.prism then
    let d := fxTo ⟨q, (fmtOf fs 27 j).f⟩ 16
    { a with pos := addI a.pos ((a.col 2).map (fun z => rnd (z * d) 24)) }
  else
    let th := lowBits 32 (rnd (q * c.kt) c.kts)
    a.comp 24 ⟨[cosB th, -sinB th, 0, sinB th, cosB th, 0, 0, 0, 2 ^ 24], [0, 0, 0]⟩

/-- Channel B's link frames of a machine, in its base frame. -/
def chainB (fs : Fmts) : Nat → IFrame → List (JointCfg × Int) → List IFrame
  | _, _, [] => []
  | j, t, c :: l =>
    let x := jointB fs j c.1 t c.2
    x :: chainB fs (j + 1) x l

/-! ### Shapes -/

/-- A shape in V, 2^-fb m: the points within `r` of a segment, or an oriented box with its axes in 2^-rb. -/
inductive Shape where
  | capsule (p0 p1 : List Int) (r : Nat)
  | box (t : IFrame) (half : List Int)
  deriving DecidableEq, Repr

/-- A number held between 0 and 1. -/
def clampQ (x : Rat) : Rat := max 0 (min 1 x)

/-- The square of the shortest distance of two segments, from p over d1 and from p − r over d2. -/
def segSeg2 (r d1 d2 : List Int) : Rat :=
  let a := dotI d1 d1
  let e := dotI d2 d2
  let f := dotI d2 r
  let c := dotI d1 r
  let b := dotI d1 d2
  let q := fun (x y : Int) => clampQ ((x : Rat) / (y : Rat))
  let s : Rat := if a = 0 then 0 else if e = 0 then q (-c) a else if a * e = b * b then 0 else q (b * f - c * e) (a * e - b * b)
  let t : Rat := if e = 0 then 0 else (b * s + f) / e
  let s := if a = 0 then s else if t < 0 then q (-c) a else if 1 < t then q (b - c) a else s
  let t := clampQ t
  ((List.range 3).map (fun i => let x : Rat := (r.getD i 0 : Rat) + d1.getD i 0 * s - d2.getD i 0 * t; x * x)).sum

/-- How far a coordinate lies outside ± h. -/
def excess (h x : Rat) : Rat := if h < x then x - h else if x < -h then x + h else 0

/-- The square of the distance of the point p + t d from a box of half-extents h, in the box's axes. -/
def boxAt (p d h : List Rat) (t : Rat) : Rat :=
  ((List.range 3).map (fun i => let x := excess (h.getD i 0) (p.getD i 0 + t * d.getD i 0); x * x)).sum

/-- Where the nearest point of the piece between two breakpoints lies: the vertex of the parabola that holds there. -/
def boxVertex (p d h : List Rat) (a b : Rat) : Rat :=
  let m := (a + b) / 2
  let out := (List.range 3).filter (fun i => excess (h.getD i 0) (p.getD i 0 + m * d.getD i 0) ≠ 0)
  let k := (out.map (fun i => d.getD i 0 * d.getD i 0)).sum
  let s := fun i => excess (h.getD i 0) (p.getD i 0 + m * d.getD i 0) - m * d.getD i 0
  if k = 0 then a else max a (min b (-((out.map (fun i => d.getD i 0 * s i)).sum) / k))

/-- The least value of `boxAt` over the pieces between ascending breakpoints. -/
def boxLeast (p d h : List Rat) : List Rat → Rat
  | a :: b :: l => min (min (boxAt p d h a) (boxAt p d h (boxVertex p d h a b))) (boxLeast p d h (b :: l))
  | [a] => boxAt p d h a
  | [] => boxAt p d h 0

/-- A number into an ascending list. -/
def insertQ (x : Rat) : List Rat → List Rat
  | [] => [x]
  | y :: l => if x ≤ y then x :: y :: l else y :: insertQ x l

/-- The square of the shortest distance of a segment from a box. -/
def segBox2 (rb : Nat) (p0 p1 : List Int) (t : IFrame) (half : List Int) : Rat :=
  let q := fun (x : List Int) => (List.range 3).map (fun i => ((dotI (t.col i) x : Int) : Rat) / (2 ^ rb : Nat))
  let p := q (subI p0 t.pos)
  let d := q (subI p1 p0)
  let h := half.map (fun x => (x : Rat))
  let br := (List.range 3).flatMap (fun i =>
    if d.getD i 0 = 0 then [] else [(h.getD i 0 - p.getD i 0) / d.getD i 0, (-(h.getD i 0) - p.getD i 0) / d.getD i 0])
  boxLeast p d h ((br.filter (fun t => decide (0 < t ∧ t < 1))).foldl (fun l t => insertQ t l) [0, 1])

/-- The whole number of 2^-fb m in a distance given by its square: rounded towards zero (R311). -/
def rootDown (x : Rat) : Nat := isqrtBits x.floor.toNat 80 0
/-- The same rounded up. -/
def rootUp (x : Rat) : Nat := let r := rootDown x; if (r : Rat) * r = x then r else r + 1

/-- The shortest distance between two surfaces, 0 where they overlap (R306), of which one at most is a box. -/
def shapeDist (rb : Nat) : Shape → Shape → Nat
  | .capsule p0 p1 r, .capsule q0 q1 s => rootDown (segSeg2 (subI p0 q0) (subI p1 p0) (subI q1 q0)) - (r + s)
  | .capsule p0 p1 r, .box t h => rootDown (segBox2 rb p0 p1 t h) - r
  | .box t h, .capsule p0 p1 r => rootDown (segBox2 rb p0 p1 t h) - r
  | .box _ _, .box _ _ => 0

/-- The corners of a box. -/
def corners (rb : Nat) (t : IFrame) (h : List Int) : List (List Int) :=
  (List.range 8).map (fun k => t.act rb ((List.range 3).map (fun i => if nbit k i then h.getD i 0 else -(h.getD i 0))))

/-- The largest distance of a shape from the origin of V (R310). -/
def shapeReach (rb : Nat) : Shape → Nat
  | .capsule p0 p1 r => max (rootUp (dotI p0 p0)) (rootUp (dotI p1 p1)) + r
  | .box t h => ((corners rb t h).map (fun p => rootUp (dotI p p))).foldl max 0

/-- R_je of a revolute joint (R308): the farther endpoint's distance from the joint's axis, plus the radius. -/
def axisReach (j : IFrame) : Shape → Nat
  | .capsule p0 p1 r =>
    let z := j.col 2
    let far := fun (p : List Int) =>
      let c := crossI (subI p j.pos) z
      rootUp ((dotI c c : Rat) / (dotI z z : Rat))
    max (far p0) (far p1) + r
  | .box _ _ => 0

end Sys2Proof.Machine
end

