-- ==== Sys2Proof/Machine/Lin.lean ====
section
/-! DEFINITION. Linear algebra in binary64: matrices by rows, and the LDLᵀ solve of the double-precision lanes (R214), which
the wave fit of the VMF uses too (R148, R212). Sums run from the first term on (assumption 108). (log 108, DESIGN CHOICE) -/

namespace Sys2Proof.Machine

/-! ### Matrices by rows -/

/-- Σ a b. -/
def dotF (a b : List F64) : F64 := (List.zipWith F64.mul a b).foldl F64.add 0#64
def scaleF (k : F64) (a : List F64) : List F64 := a.map (F64.mul k)
def addF (a b : List F64) : List F64 := List.zipWith F64.add a b
def subF (a b : List F64) : List F64 := List.zipWith F64.sub a b
/-- The matrix with n columns whose elements are given by place. -/
def matOf (m n : Nat) (f : Nat → Nat → F64) : List (List F64) := (List.range m).map (fun i => (List.range n).map (f i))
/-- A matrix times a vector, the transpose of a matrix with n columns, and a product with one. -/
def matVec (a : List (List F64)) (x : List F64) : List F64 := a.map (fun r => dotF r x)
def matT (n : Nat) (a : List (List F64)) : List (List F64) := (List.range n).map (fun j => a.map (fun r => r.getD j 0#64))
def matMul (n : Nat) (a b : List (List F64)) : List (List F64) := a.map (matVec (matT n b))
/-- An element of a matrix; 0 outside it. -/
def matAt (a : List (List F64)) (i j : Nat) : F64 := (a.getD i []).getD j 0#64

/-! ### LDLᵀ (R214) -/

/-- x − Σ a b, one product after another. -/
def dpSub (x : F64) (l : List (F64 × F64)) : F64 := l.foldl (fun s p => F64.sub s (F64.mul p.1 p.2)) x

/-- Row i of an LDLᵀ factorisation: u[i][j] = l[i][j] d[j], and l[i][j], for the columns before it. -/
def dpRow (a : Nat → F64) (ls : List (List F64)) (ds : List F64) : Nat → List F64 → List F64 → List F64 × List F64
  | 0, us, l => (us, l)
  | n + 1, us, l =>
    let j := us.length
    let u := dpSub (a j) ((List.range j).map (fun t => (us.getD t 0#64, (ls.getD j []).getD t 0#64)))
    dpRow a ls ds n (us ++ [u]) (l ++ [F64.div u (ds.getD j 0#64)])

/-- The factorisation of a lower triangle with the pivot rule of R214: rows of l, pivots, and whether one was raised. -/
def dpLdl (a : Nat → Nat → F64) (floor lam : F64) : Nat → List (List F64) × List F64 × Bool
  | 0 => ([], [], false)
  | n + 1 =>
    let f := dpLdl a floor lam n
    let r := dpRow (a n) f.1 f.2.1 n [] []
    let d := dpSub (a n n) (r.1.zip r.2)
    let low := F64.lt d floor
    (f.1 ++ [r.2], f.2.1 ++ [if low then F64.add d lam else d], f.2.2 || low)

/-- Back substitution from row i − 1 down; `y` holds the rows from i on. -/
def dpBack (ls : List (List F64)) (w : List F64) : Nat → List F64 → List F64
  | 0, y => y
  | i + 1, y => dpBack ls w i (dpSub (w.getD i 0#64) (y.zipIdx.map (fun p => ((ls.getD (i + 1 + p.2) []).getD i 0#64, p.1))) :: y)

/-- The solution for one right-hand side of a factorised system. -/
def dpSolve (f : List (List F64) × List F64 × Bool) (b : List F64) : List F64 :=
  let z := b.foldl (fun z x => z ++ [dpSub x ((f.1.getD z.length []).zip z)]) []
  dpBack f.1 (List.zipWith F64.div z f.2.1) b.length []

/-- The largest magnitude on the diagonal of an n × n matrix. -/
def diagMax (a : Nat → Nat → F64) (n : Nat) : F64 :=
  (List.range n).foldl (fun m i => if F64.lt m (F64.abs (a i i)) then F64.abs (a i i) else m) 0#64

end Sys2Proof.Machine
end

