-- ==== Sys2Proof/Machine/Ba.lean ====
section
/-! DEFINITION. Bundle adjustment on the double-precision lanes (R213 to R215): the poses of frames and the positions of
markers by Levenberg–Marquardt, free markers eliminated by Schur complement. R215 gives the method and no layout of the
frames and markers, no order of the sums and no parametrisation of a rotation: these are the model's (assumption 53).
(log 53, DESIGN CHOICE) -/

namespace Sys2Proof.Machine

/-! ### What a job reads -/

/-- The binary64 number of a binary32 one. -/
def f32To64 (w : Nat) : F64 :=
  let neg := decide (w / 2 ^ 31 % 2 = 1)
  let e := w / 2 ^ 23 % 2 ^ 8
  let m := w % 2 ^ 23
  if e = 255 then (if m = 0 then F64.inf neg else F64.nan)
  else F64.round neg ((if e = 0 then m else m + 2 ^ 23) * 2 ^ (max e 1 + 924)) 1

/-- The binary64 number with index i of those at address a. -/
def dpNum (m : Mem) (a i : Nat) : F64 := BitVec.ofNat 64 (mrdN m (a + 8 * i) 8)
def dpV3 (m : Mem) (a : Nat) : V3 := ⟨dpNum m a 0, dpNum m a 1, dpNum m a 2⟩

/-- A frame, a marker, and an observation of marker `m` in frame `f` (R215). -/
structure BaFrame where
  fixed : Bool
  pose : Pose
  deriving DecidableEq, Repr

structure BaMark where
  known : Bool
  p : V3
  deriving DecidableEq, Repr

structure BaObs where
  f : Nat
  m : Nat
  sd : F64
  z : V3
  deriving DecidableEq, Repr

/-- What is estimated: frames and markers. -/
structure BaEst where
  frames : List BaFrame
  marks : List BaMark
  deriving DecidableEq, Repr

/-- Frames of 64 bytes (flags, bit 0 FIXED; quaternion; position), then markers of 32 bytes (flags, bit 0 KNOWN;
position). (log 53, PRESUMED) -/
def baRead (mem : Mem) (a n k : Nat) : BaEst where
  frames := (List.range n).map (fun i =>
    let b := a + 64 * i
    ⟨decide (mrdN mem b 1 % 2 = 1), ⟨dpV3 mem (b + 40), ⟨dpNum mem (b + 8) 0, dpNum mem (b + 8) 1, dpNum mem (b + 8) 2, dpNum mem (b + 8) 3⟩⟩⟩)
  marks := (List.range k).map (fun i =>
    let b := a + 64 * n + 32 * i
    ⟨decide (mrdN mem b 1 % 2 = 1), dpV3 mem (b + 8)⟩)

/-- The observations of R215, behind the markers; one of a frame or marker that the job has not counts for nothing.
(log 53, DESIGN CHOICE) -/
def baObs (mem : Mem) (a n k cnt : Nat) : List BaObs :=
  ((List.range cnt).map (fun i =>
    let b := a + 64 * n + 32 * k + 32 * i
    BaObs.mk (mrdN mem b 2) (mrdN mem (b + 2) 2) (f32To64 (mrdN mem (b + 4) 4)) (dpV3 mem (b + 8)))).filter
      (fun o => decide (o.f < n) && decide (o.m < k))

/-! ### Residuals and their derivatives -/

def BaEst.poseAt (e : BaEst) (f : Nat) : Pose := (e.frames[f]?.map BaFrame.pose).getD {}
def BaEst.markAt (e : BaEst) (m : Nat) : V3 := (e.marks[m]?.map BaMark.p).getD {}

/-- The marker in the frame: R_fᵀ (p_m − t_f). -/
def BaEst.seen (e : BaEst) (o : BaObs) : V3 := (e.poseAt o.f).q.conj.rot ((e.markAt o.m).sub (e.poseAt o.f).p)

/-- (R_fᵀ (p_m − t_f) − z) / σ. -/
def BaEst.resid (e : BaEst) (o : BaObs) : V3 := V3.scale (F64.div F64.one o.sd) ((e.seen o).sub o.z)

/-- Σ |R_fᵀ (p_m − t_f) − z|² / σ². -/
def BaEst.cost (e : BaEst) (l : List BaObs) : F64 := l.foldl (fun a o => F64.add a ((e.resid o).dot (e.resid o))) 0#64

/-- The matrix of three rows with these columns. -/
def colsMat (l : List V3) : List (List F64) := [l.map V3.x, l.map V3.y, l.map V3.z]
def unitVecs : List V3 := [{ x := F64.one }, { y := F64.one }, { z := F64.one }]

/-- Derivatives of a residual in its frame's position and rotation (t + δt, R · exp δθ) and in its marker. -/
def BaEst.jFrame (e : BaEst) (o : BaObs) : List (List F64) :=
  let w := F64.div F64.one o.sd
  let q := (e.poseAt o.f).q.conj
  colsMat (unitVecs.map (fun u => V3.scale (F64.neg w) (q.rot u)) ++ unitVecs.map (fun u => V3.scale w ((e.seen o).cross u)))
def BaEst.jMark (e : BaEst) (o : BaObs) : List (List F64) :=
  colsMat (unitVecs.map (fun u => V3.scale (F64.div F64.one o.sd) ((e.poseAt o.f).q.conj.rot u)))

/-! ### Normal equations -/

def matAdd (a b : List (List F64)) : List (List F64) := List.zipWith addF a b
def matSub (a b : List (List F64)) : List (List F64) := List.zipWith subF a b
/-- The sum of m × n matrices. -/
def matSum (m n : Nat) (l : List (List (List F64))) : List (List F64) := l.foldl matAdd (matOf m n (fun _ _ => 0#64))
/-- aᵀ b of matrices with m and n columns. -/
def matTMul (m n : Nat) (a b : List (List F64)) : List (List F64) := matMul n (matT m a) b
/-- μ added to each diagonal element. -/
def damp (mu : F64) (a : List (List F64)) : List (List F64) := a.zipIdx.map (fun r => r.1.set r.2 (F64.add (r.1.getD r.2 0#64) mu))

/-- −Jᵀ r. -/
def gradOf (n : Nat) (j : List (List F64)) (r : V3) : List F64 := (matVec (matT n j) r.toList).map F64.neg

/-- The frames and markers that are estimated. -/
def BaEst.freeFr (e : BaEst) : List Nat := (e.frames.zipIdx.filter (fun x => !x.1.fixed)).map Prod.snd
def BaEst.freeMk (e : BaEst) : List Nat := (e.marks.zipIdx.filter (fun x => !x.1.known)).map Prod.snd

/-- LDLᵀ of an n × n matrix with the pivot rule of R214. -/
def dpFactor (rel : Nat) (lam : F64) (a : List (List F64)) (n : Nat) : List (List F64) × List F64 × Bool :=
  dpLdl (matAt a) (F64.mul (diagMax (matAt a) n) (F64.ofInt 1 rel)) lam n

/-- What the elimination of a free marker leaves: its factorised block, its right side and its coupling to the free frames,
six rows each. -/
structure BaElim where
  m : Nat
  fac : List (List F64) × List F64 × Bool
  b : List F64
  w : List (List F64)

/-- The elimination of marker m. -/
def BaEst.elim (e : BaEst) (rel : Nat) (lam mu : F64) (l : List BaObs) (m : Nat) : BaElim :=
  let mine := l.filter (fun o => o.m == m)
  { m := m
    fac := dpFactor rel lam (damp mu (matSum 3 3 (mine.map (fun o => matTMul 3 3 (e.jMark o) (e.jMark o))))) 3
    b := (mine.map (fun o => gradOf 3 (e.jMark o) (e.resid o))).foldl addF [0#64, 0#64, 0#64]
    w := e.freeFr.flatMap (fun f => matSum 6 3 ((mine.filter (fun o => o.f == f)).map (fun o => matTMul 6 3 (e.jFrame o) (e.jMark o)))) }

/-- The reduced system of 6 × (free frames) unknowns: its matrix and right side (R215). -/
def BaEst.reduced (e : BaEst) (mu : F64) (l : List BaObs) (els : List BaElim) : List (List F64) × List F64 :=
  let mine := fun (f : Nat) => l.filter (fun o => o.f == f)
  let us := e.freeFr.map (fun f => damp mu (matSum 6 6 ((mine f).map (fun o => matTMul 6 6 (e.jFrame o) (e.jFrame o)))))
  let n := 6 * us.length
  let s := matOf n n (fun i j => if i / 6 = j / 6 then matAt (us.getD (i / 6) []) (i % 6) (j % 6) else 0#64)
  let c := e.freeFr.flatMap (fun f => ((mine f).map (fun o => gradOf 6 (e.jFrame o) (e.resid o))).foldl addF (List.replicate 6 0#64))
  els.foldl (fun a x =>
    let y := x.w.map (dpSolve x.fac)
    (matSub a.1 (y.map (fun r => matVec x.w r)), subF a.2 (matVec y x.b))) (s, c)

/-- The free frames and markers moved by the solution of the reduced system (R215). -/
def BaEst.moved (e : BaEst) (els : List BaElim) (d : List F64) : BaEst :=
  let ff := e.freeFr
  { frames := e.frames.zipIdx.map (fun x =>
      if x.1.fixed then x.1
      else
        let v := d.drop (6 * ff.idxOf x.2)
        { x.1 with pose := ⟨x.1.pose.p.add (V3.ofList v), (x.1.pose.q.mul (Q4.exp (V3.ofList (v.drop 3)))).unit⟩ })
    marks := els.foldl (fun l x =>
      let r := dpSolve x.fac (subF x.b (matVec (matT 3 x.w) d))
      l.set x.m ⟨false, (e.markAt x.m).add (V3.ofList r)⟩) e.marks }

/-- One step at μ, and whether a pivot was raised. -/
def BaEst.step (e : BaEst) (rel : Nat) (lam mu : F64) (l : List BaObs) : BaEst × Bool :=
  let els := e.freeMk.map (e.elim rel lam mu l)
  let s := e.reduced mu l els
  let f := dpFactor rel lam s.1 s.2.length
  (e.moved els (dpSolve f s.2), f.2.2 || els.any (fun x => x.fac.2.2))

/-! ### The job -/

/-- What a run yields: whether the relative cost decrease fell below TOL, iterations, the estimate, its cost, and whether a
pivot was raised. -/
structure BaOut where
  ok : Bool
  its : Nat
  est : BaEst
  cost : F64
  raised : Bool

/-- Levenberg–Marquardt (R215): a step that does not raise the cost is accepted. -/
def baLoop (rel : Nat) (lam tol : F64) (l : List BaObs) : Nat → Nat → F64 → BaEst → F64 → Bool → BaOut
  | 0, its, _, e, c, r => ⟨false, its, e, c, r⟩
  | fuel + 1, its, mu, e, c, r =>
    let s := e.step rel lam mu l
    let c2 := s.1.cost l
    if F64.lt c c2 || F64.isNan c2 then baLoop rel lam tol l fuel (its + 1) (F64.mul mu (F64.ofInt 10 0)) e c (r || s.2)
    else if F64.lt (F64.sub c c2) (F64.mul tol c) || c == 0#64 then ⟨true, its + 1, s.1, c2, r || s.2⟩
    else baLoop rel lam tol l fuel (its + 1) (F64.div mu (F64.ofInt 10 0)) s.1 c2 (r || s.2)

/-- The diagonal of the covariance of the frames: of the inverse of the reduced system without μ, 0 for a FIXED frame. -/
def BaEst.covDiag (e : BaEst) (rel : Nat) (lam : F64) (l : List BaObs) : List F64 :=
  let s := e.reduced 0#64 l (e.freeMk.map (e.elim rel lam 0#64 l))
  let n := s.2.length
  let f := dpFactor rel lam s.1 n
  let d := (List.range n).map (fun i => (dpSolve f ((List.range n).map (fun j => if i = j then F64.one else 0#64))).getD i 0#64)
  e.frames.zipIdx.flatMap (fun x => if x.1.fixed then List.replicate 6 0#64 else (d.drop (6 * e.freeFr.idxOf x.2)).take 6)

/-- The output (R215): poses (quaternion, position), marker positions, final cost, and the covariance where asked for.
(log 53, PRESUMED) -/
def BaOut.nums (o : BaOut) (cov : List F64) : List F64 :=
  o.est.frames.flatMap (fun f => f.pose.q.toList ++ f.pose.p.toList) ++ o.est.marks.flatMap (fun m => m.p.toList) ++ [o.cost] ++ cov

end Sys2Proof.Machine
end

