-- ==== Sys2Proof/Machine/Kf.lean ====
section
/-! DEFINITION. The 18-state error-state Kalman filter of the VMF (R143), in binary64: error states position 0 to 2, velocity
3 to 5, attitude 6 to 8 (small angles in V), gyro bias 9 to 11, specific-force bias 12 to 14, position-reference bias 15 to
17. R143 names the model of each state; the discretisation, the layout of the image's noise and the way measurements with
independent noise are taken one number after another are the model's (assumption 15). (log 15, DESIGN CHOICE) -/

namespace Sys2Proof.Machine

/-- A time difference in ns as seconds, and a number times a power of ten below 1. -/
def secs (ns : Int) : F64 := F64.div (F64.ofInt ns 0) (F64.ofInt 1000000000 0)
def deci (x : Int) (k : Nat) : F64 := F64.div (F64.ofInt x 0) (F64.ofInt ((10 ^ k : Nat) : Int) 0)

/-- The noise of the image: the densities of specific force, rate, and the walks of gyro bias, specific-force bias and
position-reference bias (0 to 4), the deviation of a velocity item (5), and the deviations of the six groups of states at the
end of alignment (6 to 11). (log 15, DESIGN CHOICE) -/
def noiseAt (noise : List F64) (i : Nat) : F64 := noise.getD i 0#64
def sqF (x : F64) : F64 := F64.mul x x

/-- The covariance by rows, and back. -/
def covRows (p : List F64) : List (List F64) := matOf 18 18 (fun i j => p.getD (18 * i + j) 0#64)
def covFlat (p : List (List F64)) : List F64 := p.flatten

/-- Element (i, j) of the rotation matrix of q, and of [x]×. -/
def rotAt (q : Q4) (i j : Nat) : F64 := (q.rot (V3.ofList ((List.range 3).map (fun k => if k = j then F64.one else 0#64)))).toList.getD i 0#64
def crossAt (x : V3) (i j : Nat) : F64 :=
  let v := x.toList
  if i = j then 0#64 else if (i + 1) % 3 = j then F64.neg (v.getD ((j + 1) % 3) 0#64) else v.getD ((i + 1) % 3) 0#64

/-- The covariance at the end of alignment (R143, R146): independent errors with the image's deviations. -/
def kfStart (noise : List F64) : List F64 :=
  covFlat (matOf 18 18 (fun i j => if i = j then sqF (noiseAt noise (6 + i / 3)) else 0#64))

/-- The error states over a step of dt seconds, to first order: integrated velocity, specific-force and rate errors, random
walks of the inertial biases, first-order Gauss-Markov with time constant tau (R143). -/
def kfPhi (q : Q4) (f w : V3) (tau dt : F64) (i j : Nat) : F64 :=
  let a := i % 3
  let b := j % 3
  let rf := fun (g : Nat → F64) => F64.neg (F64.mul dt ((List.range 3).foldl (fun s k => F64.add s (F64.mul (rotAt q a k) (g k))) 0#64))
  let one := if a = b then F64.one else 0#64
  match i / 3, j / 3 with
  | 0, 0 | 1, 1 | 3, 3 | 4, 4 => one
  | 0, 1 => F64.mul dt one
  | 1, 2 => rf (fun k => crossAt f k b)
  | 1, 4 => F64.neg (F64.mul dt (rotAt q a b))
  | 2, 2 => F64.sub one (F64.mul dt (crossAt w a b))
  | 2, 3 => F64.neg (F64.mul dt one)
  | 5, 5 => if a = b then F64.sub F64.one (F64.div dt tau) else 0#64
  | _, _ => 0#64

/-- The process noise of one step (R143). -/
def kfNoise (noise : List F64) (dt : F64) (i : Nat) : F64 :=
  match i / 3 with
  | 0 => 0#64
  | k + 1 => F64.mul (sqF (noiseAt noise k)) dt

/-- The filter propagated by one sample over dt ns (R143): pose and velocity of V in E integrated from specific force and
rate less their biases, with gravity; the position-reference bias decays; the covariance follows. -/
def kfPropagate (noise : List F64) (tau : F64) (e : Est) (force rate : V3) (dt : Nat) : Est :=
  let h := secs (dt : Nat)
  let f := force.sub e.ba
  let w := rate.sub e.bg
  let acc := (e.pose.q.rot f).add { z := Config.gravity }
  let phi := matOf 18 18 (kfPhi e.pose.q f w tau h)
  let p := matMul 18 (matMul 18 phi (covRows e.cov)) (matT 18 phi)
  let pos := (e.pose.p.add (V3.scale h e.vel)).add (V3.scale (F64.mul F64.half (F64.mul h h)) acc)
  { e with
    pose := ⟨pos, (e.pose.q.mul (Q4.exp (V3.scale h w))).unit⟩, vel := e.vel.add (V3.scale h acc), rate := w
    br := V3.scale (F64.sub F64.one (F64.div h tau)) e.br
    cov := covFlat (p.zipIdx.map (fun r => r.1.zipIdx.map (fun x => if x.2 = r.2 then F64.add x.1 (kfNoise noise h r.2) else x.1))) }

/-- The sensitivity of a measurement's numbers to the error states (R143): `q` the attitude of V, `s` a target in V. -/
def kfRows (kind : Nat) (q : Q4) (s : Pose) : List (List F64) :=
  let unit := fun (l : List Nat) => (List.range 18).map (fun j => if l.contains j then F64.one else 0#64)
  if kind = 0 then (List.range 3).map (fun i => unit [i, 15 + i])
  else if kind = 1 then
    let e := q.toEuler
    let ct := Config.cos64 e.y
    [(List.range 18).map (fun j => if j = 7 then F64.div (Config.sin64 e.x) ct else if j = 8 then F64.div (Config.cos64 e.x) ct else 0#64)]
  else if kind < 4 then (List.range 2).map (fun i => unit [3 + i])
  else
    -- the measured pose moves with V's, the estimate of the target does not
    (List.range 3).map (fun i => (List.range 18).map (fun j =>
      if j < 3 then (if j = i then F64.neg F64.one else 0#64)
      else if j / 3 = 2 then (List.range 3).foldl (fun a k => F64.add a (F64.mul (rotAt q i k) (crossAt s.p k (j - 6)))) 0#64 else 0#64))
    ++ (List.range 3).map (fun i => (List.range 18).map (fun j => if j / 3 = 2 then F64.neg (rotAt s.q.conj i (j - 6)) else 0#64))

/-- What the numbers of a measurement leave: covariance by rows, the correction of the error states, and the normalised
innovation. -/
structure KfAcc where
  p : List (List F64)
  dx : List F64 := List.replicate 18 0#64
  chi : F64 := 0#64

/-- One number of a measurement: its innovation, deviation and sensitivity. -/
def kfOne (a : KfAcc) (z sd : F64) (h : List F64) : KfAcc :=
  let r := F64.sub z (dotF h a.dx)
  let ph := matVec a.p h
  let s := F64.add (dotF h ph) (sqF sd)
  let k := ph.map (fun x => F64.div x s)
  { p := (a.p.zip k).map (fun r => subF r.1 (scaleF r.2 ph)), dx := addF a.dx (scaleF r k)
    chi := F64.add a.chi (F64.div (sqF r) s) }

/-- A measurement taken (R141 to R143). A velocity item has the image's deviation. -/
def kfTake (noise : List F64) (e : Est) (z : Innov) : KfAcc :=
  let sd := fun i => z.sd.getD i (noiseAt noise 5)
  (z.z.zipIdx.zip (kfRows z.kind e.pose.q z.rel)).foldl (fun a x => kfOne a x.1.1 (sd x.1.2) x.2) { p := covRows e.cov }

/-- The normalised innovation exceeds a gate of 2^-8 units (R141, R142). -/
def kfBeyond (noise : List F64) (e : Est) (z : Innov) (gate : Nat) : Bool := F64.lt (F64.ofInt (gate : Nat) 8) (kfTake noise e z).chi

/-- The filter after a measurement: the correction goes into the nominal state (R143). -/
def kfCorrect (noise : List F64) (e : Est) (z : Innov) : Est :=
  let a := kfTake noise e z
  let d := fun k => V3.ofList (a.dx.drop k)
  { e with pose := ⟨e.pose.p.add (d 0), (e.pose.q.mul (Q4.exp (d 6))).unit⟩, vel := e.vel.add (d 3), bg := e.bg.add (d 9),
           ba := e.ba.add (d 12), br := e.br.add (d 15), cov := covFlat a.p }

/-! ### The least-squares fit (R148) -/

/-- The amplitudes (c, s) of each frequency for one degree of freedom (R148): `ws` in rad/s, the samples newest first every
125 ms, the newest `ago` ns before the epoch of the amplitudes; by the normal equations. -/
def waveFit (ws samples : List F64) (ago : Nat) : List (F64 × F64) :=
  let n := 2 * ws.length
  let row := fun (k : Nat) =>
    let t := F64.neg (secs (ago + 125000000 * k : Nat))
    ws.flatMap (fun w => let a := F64.mul w t; [Config.cos64 a, Config.sin64 a])
  let rows := samples.zipIdx.map (fun y => (row y.2, y.1))
  let sum := rows.foldl (fun (a : List (List F64) × List F64) r =>
    (List.zipWith (fun x y => addF x (scaleF y r.1)) a.1 r.1, addF a.2 (scaleF r.2 r.1)))
    (matOf n n (fun _ _ => 0#64), List.replicate n 0#64)
  let x := dpSolve (dpLdl (matAt sum.1) 0#64 0#64 n) sum.2
  (List.range ws.length).map (fun i => (x.getD (2 * i) 0#64, x.getD (2 * i + 1) 0#64))

end Sys2Proof.Machine
end

