-- ==== Sys2Proof/Machine/Vmf.lean ====
section
/-! DEFINITION. Vessel motion and working frames (07_vessel_motion_frames.md): inputs, the estimator with its states
and frames, the wave model, predictions, queries and planning frames. What the rules give a formula for is computed in
binary64 (assumption 108); the filter and the least-squares fit are in Kf.lean (assumption 15). -/

namespace Sys2Proof.Machine

/-- The VMF page, and a flag of VMF_ERR: IRQ_RAW at the same position (R158). -/
def vmfPage : Nat := 0x40210000
def Block.vmfFlag (s : Block) (i : Nat) : Block := s.flag R.VMF_ERR i vmfPage i
def Block.vmfFlagIf (s : Block) (b : Bool) (i : Nat) : Block := if b then s.vmfFlag i else s

/-- Whether the VMF runs in the device's role (R17). -/
def Block.vmfOn (s : Block) : Bool := s.isCoord

/-- Change the hidden state of the VMF. -/
def Block.modVmf (s : Block) (f : Vmf → Vmf) : Block := { s with vmf := f s.vmf }

/-- A 32-bit sample time extended with the value nearest Deck Time (R139). -/
def extTime (dt t : Nat) : Nat :=
  let base := dt / 2 ^ 32 * 2 ^ 32
  let c := base + t % 2 ^ 32
  if c + 2 ^ 31 < dt then c + 2 ^ 32 else if dt + 2 ^ 31 < c ∧ 2 ^ 32 ≤ c then c - 2 ^ 32 else c

/-! ### Inputs (R139 to R142) -/

/-- A sample item of IMU i arrives from a Synzon endpoint, or from an SPI master where `ep` is none (R139). -/
def Block.imuItem (s : Block) (i : Nat) (ep : Option Nat) (it : ImuItem) : Block :=
  let cfg := s.rd (R.VMF_IMU_CFG i)
  let src := fld cfg 0 2
  let mine := match ep with
    | some e => src == 1 && fld cfg 2 12 == e
    | none => src == 2 || src == 3
  if !s.vmfOn || !mine then s
  else
    let s := s.setF (R.VMF_IMU_STAT i) 0 8 (min it.age 255)
    s.modVmf (fun v => { v with imuNew := v.imuNew ++ [(i, extTime s.tb.dt it.time, it)] })

def Block.imuSample (s : Block) (i ep : Nat) (it : ImuItem) : Block := s.imuItem i (some ep) it

/-- A number that an SPI IMU answers, in the format of R138: rounded to nearest with ties away from zero, then saturated. -/
def spiRaw (bs : List Byte) (f : SpiField) : Int :=
  let x := sx (8 * f.len) (ofBytes ((bs.drop f.off).take f.len).reverse) * f.k
  x.sign * ((2 * x.natAbs + 2 ^ f.s) / 2 ^ (f.s + 1) : Nat)
def spiNum (bs : List Byte) (f : SpiField) : Int := sat (spiRaw bs f) 32
/-- A number of the item saturates (R138). -/
def spiSat (d : SpiDesc) (bs : List Byte) : Bool := (d.force ++ d.rate).any (fun f => decide (spiNum bs f ≠ spiRaw bs f))

/-- The item that the image's descriptor makes of an SPI IMU's bytes (R139). Its sample time is the tick of the read.
(log 108, DEDUCED) -/
def spiItem (d : SpiDesc) (dt : Nat) (bs : List Byte) : ImuItem :=
  let bit := fun k => match d.status[k]? with
    | some (b, i, neg) => ((bs.getD b 0#8).getLsbD i) != neg
    | none => k == 0
  { time := dt % 2 ^ 32, force := d.force.map (spiNum bs), rate := d.rate.map (spiNum bs),
    valid := bit 0, selftestFail := bit 1, saturated := bit 2 }

/-- SPI_IMU_READ at FBD: the bytes of each SPI IMU due in cycle n (R139). -/
def Block.spiImus (s : Block) (n : Nat) (l : List (Nat × List Byte)) : Block :=
  forL (l.filter (fun p => decide (p.1 < 4) && n % (64 / 2 ^ s.fl (R.VMF_IMU_CFG p.1) 14 2) == 0)) (fun p s =>
    let d := sget (fun _ => ({} : SpiDesc)) s.cfg.vmf.spi p.1
    (s.imuItem p.1 none (spiItem d s.tb.dt p.2)).vmfFlagIf (s.vmfOn && spiSat d p.2) 12) s

/-- A target item arrives (R142): discarded where its sender is not the endpoint of VMF_TGT_CFGn or it is too old. Its
time is extended as in R139, its quaternion taken with w ≥ 0 (R137). -/
def Block.targetItem (s : Block) (ep : Nat) (it : TgtItem) : Block :=
  if !s.vmfOn || decide (4 ≤ it.target) || s.fl (R.VMF_TGT_CFG it.target) 0 12 != ep
      || decide (s.fl R.VMF_IMU_AGE_MAX 0 8 < it.age) || !it.valid then s
  else s.modVmf (fun v => { v with tgtNew := v.tgtNew ++ [{ it with time := extTime s.tb.dt it.time, quat := posQuat it.quat }] })

/-- NAV_RECORD_COMMIT: a write of VMF_NAV_T_HI commits the staged LO and the record (R74, R141). -/
def opNavRecordCommit (hi : Word) (s : Block) : Block :=
  let lo := s.stagedLo R.VMF_NAV_T_LO
  let s := (s.wr R.VMF_NAV_T_LO lo).wr R.VMF_NAV_T_HI hi
  s.modVmf (fun v => { v with navNew := some {
    time := lo.toNat + 2 ^ 32 * hi.toNat, valid := s.fl R.VMF_NAV_VALID 0 3,
    pos := [s.rdI R.VMF_NAV_PN, s.rdI R.VMF_NAV_PE, s.rdI R.VMF_NAV_PD], hdg := s.rdI R.VMF_NAV_HDG,
    vel := [s.rdI R.VMF_NAV_VN, s.rdI R.VMF_NAV_VE], sig := s.rd R.VMF_NAV_SIG } })

/-- A sample that an update can use (R140). -/
def Block.usable (s : Block) (it : ImuItem) : Bool :=
  it.valid && !it.selftestFail && !it.saturated && decide (it.age ≤ s.fl R.VMF_IMU_AGE_MAX 0 8)

/-- A sample at the origin of V: its time, specific force and rate (R140). -/
structure ImuVal where
  t : Nat
  force : V3
  rate : V3

/-- The sample brought to the origin of V, with the tangential and centripetal terms of the lever arm; `prev` is the
sample before (R140). The angular acceleration of an IMU's first sample, with none before it, is taken as 0. (log 108, DESIGN
CHOICE) -/
def imuAtV (mount : Pose) (prev : Option (Nat × V3)) (t : Nat) (it : ImuItem) : ImuVal :=
  let w := mount.q.rot (V3.ofInts it.rate 28)
  let f := mount.q.rot (V3.ofInts it.force 20)
  let al : V3 := match prev with
    | some (t0, w0) => if t0 < t then V3.scale (F64.div F64.one (secs (t - t0 : Nat))) (w.sub w0) else {}
    | none => {}
  ⟨t, (f.sub (al.cross mount.p)).sub (w.cross (w.cross mount.p)), w⟩

/-- The usable samples of IMU i since the last epoch up to this one, in time order, at the origin of V (R140, R144). -/
def Block.imuVals (s : Block) (i : Nat) : List ImuVal :=
  let v := s.vmf
  let l := (v.imuUse.filter (fun x => x.1 == i && s.usable x.2.2 && decide (v.epoch < x.2.1))).map Prod.snd
  let mount := sget (fun _ => ({} : Pose)) s.cfg.vmf.mount i
  ((l.insertionSort (fun a b => a.1 ≤ b.1)).foldl (fun (a : Option (Nat × V3) × List ImuVal) x =>
    let y := imuAtV mount a.1 x.1 x.2
    (some (y.t, y.rate), a.2 ++ [y])) (sget (fun _ => none) v.imuPrev i, [])).2

/-- Two samples differ beyond VMF_IMU_TOL in some component (R140). -/
def Block.imuOff (s : Block) (a b : ImuVal) : Bool :=
  let far := fun tol (x y : V3) => (x.sub y).toList.any (fun d => F64.lt tol (F64.abs d))
  far (F64.ofInt (s.fl R.VMF_IMU_TOL 0 16 : Nat) 10) a.force b.force || far (F64.ofInt (s.fl R.VMF_IMU_TOL 16 16 : Nat) 16) a.rate b.rate

/-- The median of three numbers, or of four: the mean of the two in the middle. -/
def median (l : List F64) : F64 :=
  let m := l.insertionSort (fun a b => F64.lt b a = false)
  if m.length % 2 = 1 then m.getD (m.length / 2) 0#64
  else F64.mul F64.half (F64.add (m.getD (m.length / 2 - 1) 0#64) (m.getD (m.length / 2) 0#64))

/-- The component-wise median of samples. -/
def imuMedian (l : List ImuVal) : ImuVal :=
  let m := fun (f : ImuVal → V3) => V3.mk (median (l.map (fun a => (f a).x))) (median (l.map (fun a => (f a).y))) (median (l.map (fun a => (f a).z)))
  ⟨0, m ImuVal.force, m ImuVal.rate⟩

/-- The IMUs whose samples an update excludes, of those with usable samples; the newest sample of each is compared
(R140). (log 108, DEDUCED) -/
def Block.imuExcluded (s : Block) (l : List (Nat × List ImuVal)) : List Nat :=
  let new := l.map (fun x => (x.1, x.2.getLastD ⟨0, {}, {}⟩))
  match new with
  | [a, b] =>
    if s.imuOff a.2 b.2 then
      let r := fun (x : ImuVal) => Config.imuResidual (s.vmf.est.getD {}) x.force x.rate
      [if F64.lt (r b.2) (r a.2) then a.1 else b.1]
    else []
  | _ => if new.length < 3 then [] else
    let m := imuMedian (new.map Prod.snd)
    (new.filter (fun a => s.imuOff a.2 m)).map Prod.fst

/-- The samples that an update uses, by IMU, and the flags and counts of those it does not (R140). -/
def Block.imuTest (s : Block) : Block × List (Nat × List ImuVal) :=
  let en := (List.range 4).filter (fun i => s.bt R.VMF_CTRL (4 + i))
  let l := (en.map (fun i => (i, s.imuVals i))).filter (fun x => !x.2.isEmpty)
  let out := s.imuExcluded l
  let s := s.vmfFlagIf (decide (l.length < en.length)) 0
  let s := s.vmfFlagIf (!out.isEmpty) 1
  let s := forL (l.filter (fun x => out.contains x.1)) (fun x s =>
    s.setF (R.VMF_IMU_REJ_CNT x.1) 0 16 (satAdd (s.fl (R.VMF_IMU_REJ_CNT x.1) 0 16) x.2.length 0xFFFF)) s
  let s := forL l (fun x s => s.modVmf (fun v => { v with
    imuPrev := sset (fun _ => none) v.imuPrev x.1 (x.2.getLast?.map (fun y => (y.t, y.rate))) })) s
  (s, l.filter (fun x => !out.contains x.1))

/-- Their samples in time order (R144). -/
def imuMerge (l : List (Nat × List ImuVal)) : List ImuVal := (l.map Prod.snd).flatten.insertionSort (fun a b => a.t ≤ b.t)

/-! ### Prediction (R149, R150) -/

/-- An oscillator's motion of degree of freedom d, h seconds after the epoch of its amplitudes: W, its rate, its
acceleration (R149). -/
def WaveComp.motion (k : WaveComp) (d : Nat) (h : F64) : F64 × F64 × F64 :=
  let a := F64.mul k.w h
  let c := k.c.getD d 0#64
  let s := k.s.getD d 0#64
  let co := Config.cos64 a
  let si := Config.sin64 a
  let x := F64.add (F64.mul c co) (F64.mul s si)
  (x, F64.mul k.w (F64.sub (F64.mul s co) (F64.mul c si)), F64.neg (F64.mul (F64.mul k.w k.w) x))

/-- W_d(t) with its rate and acceleration (R149). -/
def Vmf.wave (v : Vmf) (d : Nat) (t : Nat) : F64 × F64 × F64 :=
  v.comps.foldl (fun a k =>
    let m := k.motion d (secs ((t : Int) - v.waveT))
    (F64.add a.1 m.1, F64.add a.2.1 m.2.1, F64.add a.2.2 m.2.2)) (0#64, 0#64, 0#64)

/-- The horizon limit of R149 in ns. -/
def Block.horizon (s : Block) : Nat := if s.bt R.VMF_STAT 20 then 4000000000 else 100000000

/-- The time at which a prediction for t is served, from the time at which what is predicted stands (R150). -/
def Block.servedFrom (s : Block) (t0 t : Nat) : Nat := max t0 (min t (t0 + s.horizon))

/-- x_d at time t with its rate and acceleration (R149). -/
def Block.predDof (s : Block) (t d : Nat) : F64 × F64 × F64 :=
  let v := s.vmf
  let t := s.servedFrom v.dofT t
  let h := secs ((t - v.dofT : Nat) : Int)
  let x := v.dof.getD d 0#64
  let x' := v.dofV.getD d 0#64
  let lin := F64.add x (F64.mul x' h)
  if s.bt R.VMF_STAT 20 then
    let a := v.wave d t
    let b := v.wave d v.dofT
    (F64.sub (F64.sub (F64.add lin a.1) b.1) (F64.mul b.2.1 h), F64.sub (F64.add x' a.2.1) b.2.1, a.2.2)
  else
    let x'' := v.dofA.getD d 0#64
    (F64.add lin (F64.mul F64.half (F64.mul x'' (F64.mul h h))), F64.add x' (F64.mul x'' h), x'')

/-- The body rate, and its derivative, of roll, pitch and yaw with their rates and accelerations (R137). -/
def bodyRate (e u a : V3) : V3 × V3 :=
  let m := F64.mul
  let sf := Config.sin64 e.x
  let cf := Config.cos64 e.x
  let st := Config.sin64 e.y
  let ct := Config.cos64 e.y
  let lin := fun (u : V3) => V3.mk (F64.sub u.x (m u.z st)) (F64.add (m u.y cf) (m u.z (m sf ct))) (F64.sub (m u.z (m cf ct)) (m u.y sf))
  let d : V3 := ⟨F64.neg (m u.z (m u.y ct)),
    F64.sub (m u.z (F64.sub (m u.x (m cf ct)) (m u.y (m sf st)))) (m u.y (m u.x sf)),
    F64.neg (F64.add (m u.z (F64.add (m u.x (m sf ct)) (m u.y (m cf st)))) (m u.y (m u.x cf)))⟩
  (lin u, (lin a).add d)

/-- The rates of roll, pitch and yaw of a body rate (R137). -/
def eulerRate (e w : V3) : V3 :=
  let m := F64.mul
  let sf := Config.sin64 e.x
  let cf := Config.cos64 e.x
  let k := F64.add (m w.y sf) (m w.z cf)
  let ct := Config.cos64 e.y
  ⟨F64.add w.x (F64.div (m k (Config.sin64 e.y)) ct), F64.sub (m w.y cf) (m w.z sf), F64.div k ct⟩

/-- The predicted motion of V in E at time t: the attitude is composed of the predicted roll, pitch and yaw (R149). -/
def Block.motVE (s : Block) (t : Nat) : Motion :=
  let x := fun d => s.predDof t d
  let v3 := fun (f : F64 × F64 × F64 → F64) k => V3.mk (f (x k)) (f (x (k + 1))) (f (x (k + 2)))
  let e := v3 (fun y => y.1) 3
  let w := bodyRate e (v3 (fun y => y.2.1) 3) (v3 (fun y => y.2.2) 3)
  ⟨⟨v3 (fun y => y.1) 0, Q4.ofEuler e⟩, v3 (fun y => y.2.1) 0, v3 (fun y => y.2.2) 0, w.1, w.2⟩

/-- The predicted motion of V in L: attitude without yaw, position 0 (R136). -/
def Block.motVL (s : Block) (t : Nat) : Motion :=
  let r := s.predDof t 3
  let p := s.predDof t 4
  let e : V3 := ⟨r.1, p.1, 0#64⟩
  let w := bodyRate e ⟨r.2.1, p.2.1, 0#64⟩ ⟨r.2.2, p.2.2, 0#64⟩
  ⟨⟨{}, Q4.ofEuler e⟩, {}, {}, w.1, w.2⟩

/-- VMF_TGT_CFGn.FIXED. -/
def Block.tgtFixed (s : Block) (n : Nat) : Bool := s.bt (R.VMF_TGT_CFG n) 12

/-- A target's estimate `h` later: held where it is fixed, otherwise at its estimated velocity (R147, R149). -/
def tgtLater (x : TgtEst) (fixed : Bool) (t : Nat) : TgtEst :=
  if fixed then { x with t := t, vel := {}, rate := {} }
  else
    let h := secs ((t : Int) - x.t)
    { x with t := t, pose := ⟨x.pose.p.add (V3.scale h x.vel), (x.pose.q.mul (Q4.exp (V3.scale h x.rate))).pos⟩ }

/-- The predicted motion of Tn in E (R149). -/
def Block.motTE (s : Block) (n t : Nat) : Motion :=
  let x := (sget (fun _ => none) s.vmf.tgt n).getD {}
  let y := tgtLater x (s.tgtFixed n) (s.servedFrom x.t t)
  ⟨y.pose, y.vel, {}, y.rate, {}⟩

/-- The predicted motion of planning frame f in V (R151): T_VF(t) and its derivatives. -/
def Block.frameMot (s : Block) (f t : Nat) : Motion :=
  if f = 0 then {}
  else if f = 1 then (s.motVL t).inv
  else if f = 2 then (s.motVE t).inv
  else (s.motVE t).inv.comp (s.motTE (f - 4) t)

/-! ### The pose records (R138, R160) -/

/-- The motion of planning frame f at time t as the VMF hands it to the Solver (R138, R151). -/
def Block.frameHand (s : Block) (f t : Nat) : Motion := (s.frameMot f t).fix.1

/-- The 13 words of a pose record before its reserved word, each rounded and saturated (R138, R160). -/
def poseWords (m : Motion) : List (Int × Bool) :=
  m.pose.p.toFix 20 ++ (m.pose.q.unit.toList.map (fun x => fix32 x 30)) ++ m.vel.toFix 20 ++ m.rate.toFix 28

/-- Write a pose record at base index `a` with its epoch. -/
def Block.writeRec (s : Block) (a : Nat) (ws : List Int) (e : Nat) : Block :=
  (forL ((List.range 13).zip ws) (fun p s => s.wrI (a + 4 * p.1) p.2) s).wr64 (a + 0x38) e

/-- Write a pose record of a motion; without an estimate it holds zeros (log 54, DEDUCED). -/
def Block.writePose (s : Block) (a : Nat) (m : Option Motion) (e : Nat) : Block :=
  match m with
  | none => s.writeRec a (List.replicate 13 0) e
  | some m =>
    let ws := poseWords m
    (s.writeRec a (ws.map Prod.fst) e).vmfFlagIf (ws.any Prod.snd) 12

/-! ### Frames whose planning depends on them (R153, R154) -/

/-- Auxiliary carrels planned in a frame other than V, with the frame (R152). -/
def Block.auxCars (s : Block) : List (Nat × Nat) := s.cfg.auxFrames.filter (fun p => p.2 != 0)

/-- A machine or auxiliary carrel whose planning frame is not V is enabled and not at rest (R146). -/
def Block.frameInUse (s : Block) : Bool :=
  s.cfg.machs.any (fun m => s.machFrame m.1 != 0 && (machCarrels m.2).any (fun c => s.carEn c && s.psSt c != 0))
    || s.auxCars.any (fun p => s.carEn p.1 && s.psSt p.1 != 0)

/-- Machine m and auxiliary carrels stop when their planning frame has become INVALID (R154): `old` is VMF_STAT
before. -/
def Block.frameStops (s : Block) (old : Word) : Block :=
  let was := fun f => { s with regs := sset regDefault s.regs R.VMF_STAT old }.frameOk f
  let lost := fun f => was f && !s.frameOk f
  let ms := s.cfg.machs.filter (fun m => lost (s.machFrame m.1))
  let cs := s.auxCars.filter (fun p => lost p.2)
  let s := s.vmfFlagIf (!(ms.isEmpty && cs.isEmpty)) 10
  let s := forL ms (fun m s => s.setPth m.1 { s.pth m.1 with stop := true }) s
  forL s.auxCars (fun p s => s.setPrf p.1 { s.prf p.1 with frame := !s.frameOk p.2 && s.carEn p.1 }) s

/-! ### States (R146, R147) -/

/-- Clear all estimates (R146): records, stored estimates, accepted items, frames and the wave model; WAVE_OK that falls sets
WAVE_DEGRADED (R149). (log 54, DEDUCED) -/
def Block.vmfClear (s : Block) (st : Nat) : Block :=
  let old := s.rd R.VMF_STAT
  let s := forN 96 (fun i s => s.wr (R.Record_VL i) 0) s
  let s := s.modVmf (fun v => { v with
    posT := none, hdgT := none, velT := none, tgtT := [], coastT := [], alignCnt := 0, imuUse := [], tgtUse := [],
    navUse := none, busy := none, waveJobs := 0, fitBusy := false, waveCnt := 0, est := none, imuPrev := [], almF := {},
    almW := {}, almN := 0, posV := {}, hdgV := 0#64, tgt := [], dofT := 0, dof := [], dofV := [], dofA := [], comps := [],
    waveT := 0, waveW := [], hist := [], heaveP := [], heaveE := [], ring := [] })
  (((s.vmfFlagIf (old.getLsbD 20) 8).wrN R.VMF_STAT st).setF R.VMF_WAVE_STAT 0 5 0).frameStops old

/-- A write of VMF_CTRL (R146, R156). -/
def opVmfCtrlWrite (snd : Sender) (v : Word) (s : Block) : Block :=
  let old := s.rd R.VMF_CTRL
  if (v.getLsbD 3 || (!v.getLsbD 0 && old.getLsbD 0)) && s.frameInUse then s.refuse true R.VMF_CTRL snd .state
  else
    let s := s.wr R.VMF_CTRL (v &&& 0x3FF7)
    if !v.getLsbD 0 then (if old.getLsbD 0 then s.vmfClear 0 else s)
    else if v.getLsbD 3 && (s.vmfSt == 2 || s.vmfSt == 3 || s.vmfSt == 4) then s.vmfClear 1 else s

/-- VMF_RUN_ENABLE, VMF_RUN_DISABLE and VMF_REALIGN are writes of VMF_CTRL with the bit concerned; the other bits are
those of the written value. -/
def opVmfRunEnable (snd : Sender) (v : Word) (s : Block) : Block := opVmfCtrlWrite snd (v ||| 1) s
def opVmfRunDisable (snd : Sender) (v : Word) (s : Block) : Block := opVmfCtrlWrite snd (v &&& ~~~(1#32)) s
def opVmfRealign (snd : Sender) (v : Word) (s : Block) : Block := opVmfCtrlWrite snd (v ||| 8) s

/-- Whether frame f is enabled (R146). -/
def Block.frameEnabled (s : Block) (f : Nat) : Bool :=
  f == 1 || (f == 2 && s.bt R.VMF_CTRL 2) || (decide (4 ≤ f) && decide (f < 8) && s.bt R.VMF_CTRL (8 + (f - 4)))

/-- Within `ms` milliseconds of the epoch. -/
def within (t : Option Nat) (ms e : Nat) : Bool :=
  match t with | none => false | some x => decide (e - x ≤ ms * 1000000)

/-- The next code of a frame (R147): its present code, whether it is enabled, whether its own condition holds, L's
code, and whether it has coasted for VMF_COAST_MAX. -/
def frameNext (c : Nat) (en cond lValid coasted : Bool) : Nat :=
  if !en then 0 else if cond && lValid then 2 else if c = 2 then 1 else if c = 1 then (if coasted then 0 else 1) else 0

/-- Store the code of frame f. -/
def Block.setFrame (s : Block) (f c : Nat) : Block :=
  if f = 1 then s.setF R.VMF_STAT 3 2 c else if f = 2 then s.setF R.VMF_STAT 5 2 c
  else s.setF R.VMF_STAT (7 + 2 * (f - 4)) 2 c

/-- Bring E or a Tn to its next code at an update of epoch e. A coast ends at the first update that stands
VMF_COAST_MAX or more after its start, as LOST is entered. (log 108, DEDUCED) -/
def Block.frameStep (s : Block) (f e : Nat) (cond : Bool) : Block :=
  let c := s.frameCode f
  let from_ := sget (fun _ => 0) s.vmf.coastT f
  let n := frameNext c (s.frameEnabled f) cond (s.frameCode 1 == 2) (decide (s.fl R.VMF_COAST_MAX 0 16 * 1000000 ≤ e - from_))
  let s := if c = 2 ∧ n = 1 then s.modVmf (fun v => { v with coastT := sset (fun _ => 0) v.coastT f e }) else s
  s.setFrame f n

/-- Position and heading have been accepted within VMF_NAV_TMO of time e (R147, R157). -/
def Block.navFresh (s : Block) (e : Nat) : Bool :=
  within s.vmf.posT (s.fl R.VMF_NAV_TMO 0 16) e && within s.vmf.hdgT (s.fl R.VMF_NAV_TMO 0 16) e

/-- An item of target n has been accepted within VMF_TGT_TMO of time e (R147). -/
def Block.tgtFresh (s : Block) (n e : Nat) : Bool := within (sget (fun _ => none) s.vmf.tgtT n) (s.fl R.VMF_TGT_TMO 0 16) e

/-- The frames of an update in RUN or DEGRADED (R147): `nav` says that NAV_FRESH stood before the update. -/
def Block.framesStep (s : Block) (e : Nat) (inertial nav : Bool) : Block :=
  let s := s.vmfFlagIf (nav && !s.navFresh e && s.frameEnabled 2) 5
  let s := (s.setFrame 1 (if inertial then 2 else 1)).frameStep 2 e (s.navFresh e)
  forN 4 (fun n s =>
    let s := s.vmfFlagIf (s.tgtFresh n s.vmf.epoch && !s.tgtFresh n e && s.frameEnabled (4 + n)) 7
    s.frameStep (4 + n) e (s.tgtFresh n e)) s

/-- The estimates at the end of the alignment (R146): roll and pitch from the mean specific force, the gyro bias from
the mean rate, heading and position from the newest accepted, velocity and other biases 0. -/
def Block.alignEnd (s : Block) (e : Nat) : Block :=
  let v := s.vmf
  let k := F64.div F64.one (F64.ofInt (v.almN : Nat) 0)
  let f := V3.scale k v.almF
  let w := V3.scale k v.almW
  let roll := Config.atan264 (F64.neg f.y) (F64.neg f.z)
  let pitch := Config.atan264 f.x (F64.sqrt (F64.add (F64.mul f.y f.y) (F64.mul f.z f.z)))
  let est : Est := { t := e, pose := ⟨v.posV, Q4.ofEuler ⟨roll, pitch, v.hdgV⟩⟩, bg := w, cov := kfStart s.cfg.vmf.noise }
  s.modVmf (fun v => { v with est := some est })

/-- One more update in the average of the alignment (R146). -/
def Block.alignAdd (s : Block) (l : List ImuVal) : Block :=
  s.modVmf (fun v => l.foldl (fun v x => { v with almF := v.almF.add x.force, almW := v.almW.add x.rate, almN := v.almN + 1 })
    { v with alignCnt := v.alignCnt + 1 })

/-- The average of the alignment starts anew. -/
def Block.alignStart (s : Block) : Block := s.modVmf (fun v => { v with alignCnt := 0, almF := {}, almW := {}, almN := 0 })

/-- The state of R146 after an update of epoch e that used the samples `l`. -/
def Block.vmfState (s : Block) (e : Nat) (l : List ImuVal) : Block :=
  let old := s.rd R.VMF_STAT
  let st := s.vmfSt
  let inertial := !l.isEmpty
  let nav := s.bt R.VMF_STAT 19
  let s := s.setB R.VMF_STAT 19 (s.navFresh e)
  let s := if inertial then s.modVmf (fun v => { v with inertT := e }) else s
  let s :=
    if st = 0 then
      if s.bt R.VMF_CTRL 0 && inertial then ((s.setF R.VMF_STAT 0 3 1).alignStart).alignAdd l else s
    else if st = 1 then
      if !inertial then s.alignStart
      else
        let s := s.alignAdd l
        if s.fl R.VMF_ALIGN_LEN 0 16 ≤ s.vmf.alignCnt then
          ((s.setF R.VMF_STAT 0 3 2).alignEnd e).modVmf (fun v => { v with runT := e, waveCnt := 0 })
        else s
    else s
  let s :=
    if s.vmfSt = 2 ∨ s.vmfSt = 3 then
      if inertial = false ∧ s.fl R.VMF_COAST_MAX 0 16 * 1000000 ≤ e - s.vmf.inertT then
        (forL [1, 2, 4, 5, 6, 7] (fun f s => s.setFrame f 0) (s.setF R.VMF_STAT 0 3 4)).vmfFlag 10
      else
        let s := s.framesStep e inertial nav
        let bad := [1, 2, 4, 5, 6, 7].any (fun f => s.frameEnabled f && s.frameCode f != 2)
        s.setF R.VMF_STAT 0 3 (if bad then 3 else 2)
    else s
  s.frameStops old

/-! ### The filter (R141 to R144) -/

/-- VMF_UPDATE_START at FBD of a cycle u with u mod 64 = 0: the epoch and the inputs in time for it. (log 54, DEDUCED) -/
def Block.vmfStart (s : Block) (u : Nat) : Block :=
  if !s.vmfOn || u % 64 != 0 || !s.pageEn vmfPage then s
  else
    let e := u * 15625 + 5 * s.fl R.TB_FB_DEADLINE 0 12
    s.modVmf (fun v => { v with
      busy := some u, epochUse := e,
      imuUse := v.imuUse ++ v.imuNew.filter (fun x => decide (x.2.1 ≤ e)),
      imuNew := v.imuNew.filter (fun x => !decide (x.2.1 ≤ e)),
      tgtUse := v.tgtUse ++ v.tgtNew, tgtNew := [],
      navUse := match v.navNew with | some r => some r | none => v.navUse,
      navNew := none })

/-- VMF_UPDATE_OVERRUN at the profile tick of cycle n: an update of n − 8 that has not finished is discarded; its inputs
stay for the next (R144). -/
def Block.vmfOverrun (s : Block) (n : Nat) : Block :=
  match s.vmf.busy with
  | none => s
  | some u => if u + 8 = n then (s.vmfFlag 11).modVmf (fun v => { v with busy := none }) else s

/-- Change the filter where there is one. -/
def Block.modEst (s : Block) (f : Est → Est) : Block := s.modVmf (fun v => { v with est := v.est.map f })

/-- One propagation of the filter up to time t with a sample (R143, R144). -/
def Block.kfStep (s : Block) (t : Nat) (x : ImuVal) (e : Est) : Est :=
  let c := s.cfg.vmf
  { kfPropagate c.noise c.tau e x.force x.rate (t - e.t) with t := t }

/-- The filter at the last epoch: while no IMU is used it stands on the prediction (R147). -/
def Block.kfBase (s : Block) (e : Est) : Est :=
  let t := s.vmf.epoch
  if t ≤ e.t then e
  else
    let m := s.motVE t
    { e with t := t, pose := m.pose, vel := m.vel, rate := m.rate }

/-- Propagation with the samples of an update in time order, the last to the epoch (R144). -/
def Block.kfRun (s : Block) (e : Nat) (l : List ImuVal) : Block :=
  match l.getLast? with
  | none => s
  | some last =>
    let go := fun (x : Est) => s.kfStep e last (l.foldl (fun x y => s.kfStep y.t y x) (s.kfBase x))
    s.modEst go

/-- The stored estimate at a time: the newest entry of the ring that does not stand after it (R141). (log 108, DEDUCED) -/
def Block.ringAt (s : Block) (t : Nat) : Pose × V3 :=
  match s.vmf.ring.find? (fun r => decide (r.t ≤ t)) with
  | some r => (r.pose, r.vel)
  | none => let x := s.vmf.est.getD {}; (x.pose, x.vel)

/-- A heading difference brought to −π to π. -/
def wrapPi (x : F64) : F64 :=
  if F64.lt F64.pi x then F64.sub x (F64.mul F64.two F64.pi)
  else if F64.lt x (F64.neg F64.pi) then F64.add x (F64.mul F64.two F64.pi) else x

/-- The measurements of a navigation record: the items marked valid, against the stored estimate at its time of
validity (R141, R143). -/
def Block.navInnov (s : Block) (r : NavRec) : List Innov :=
  let x := s.ringAt r.time
  let br := (s.vmf.est.getD {}).br
  let sd := deci (fld r.sig 0 16 : Nat) 3
  let pos : Innov := ⟨0, ((V3.ofInts r.pos 20).sub (x.1.p.add br)).toList, [sd, sd, sd], {}⟩
  let hdg : Innov := ⟨1, [wrapPi (F64.sub (F64.ofInt r.hdg 28) x.1.q.toEuler.z)],
    [F64.mul (deci (fld r.sig 16 16 : Nat) 3) (F64.div F64.pi (F64.ofInt 180 0))], {}⟩
  let vel : Innov := ⟨2, [F64.sub (F64.ofInt (r.vel.getD 0 0) 20) x.2.x, F64.sub (F64.ofInt (r.vel.getD 1 0) 20) x.2.y], [], {}⟩
  (if nbit r.valid 0 then [pos] else []) ++ (if nbit r.valid 1 then [hdg] else []) ++ (if nbit r.valid 2 then [vel] else [])

/-- A measurement passes the gate (R141, R142): without estimates there is none. -/
def Block.gateOk (s : Block) (z : Innov) : Bool :=
  match s.vmf.est with
  | none => true
  | some e => !kfBeyond s.cfg.vmf.noise e z (s.fl R.VMF_GATE 0 16)

/-- The filter after a measurement. -/
def Block.kfMeas (s : Block) (z : Innov) : Block := s.modEst (fun e => kfCorrect s.cfg.vmf.noise e z)

/-- The committed navigation record at an update of epoch e (R141). Each item has a normalised innovation of its own, and the
record is rejected where one of them is beyond the gate. (log 108, DESIGN CHOICE) With navigation aiding off it is dropped (R156).
A position in the format of R138 lies within ±2048 m, so that NAV_RANGE has no case. -/
def Block.navTake (s : Block) (e : Nat) : Block :=
  match s.vmf.navUse with
  | none => s
  | some r =>
    if !s.bt R.VMF_CTRL 2 then s
    else if e < r.time ∨ r.time + 512000000 < e then s.vmfFlag 2
    else
      let zs := s.navInnov r
      if zs.any (fun z => !s.gateOk z) then s.vmfFlag 4
      else
        (forL zs (fun z s => s.kfMeas z) s).modVmf (fun v => { v with
          posT := if nbit r.valid 0 then some e else v.posT, hdgT := if nbit r.valid 1 then some e else v.hdgT,
          velT := if nbit r.valid 2 then some e else v.velT, posV := if nbit r.valid 0 then V3.ofInts r.pos 20 else v.posV,
          hdgV := if nbit r.valid 1 then F64.ofInt r.hdg 28 else v.hdgV })

/-- While no velocity item has been accepted for 1 s: a pseudo-measurement of zero horizontal velocity with 0.5 m/s
(R143). -/
def Block.zeroVel (s : Block) (e : Nat) : Block :=
  match s.vmf.velT with
  | some t => if e < t + 1000000000 then s else go
  | none => go
where go := match s.vmf.est with
  | none => s
  | some x => s.kfMeas ⟨3, [F64.neg x.vel.x, F64.neg x.vel.y], [F64.half, F64.half], {}⟩

/-- The pose of a target in E that an item measures (R142): V in E at its sample time, the sensor in V, the target in
the sensor's frame. -/
def Block.tgtPose (s : Block) (it : TgtItem) : Pose :=
  let sensor := sget (fun _ => ({} : Pose)) s.cfg.vmf.sensors (s.fl (R.VMF_TGT_CFG it.target) 0 12)
  (s.ringAt it.time).1.comp (sensor.comp ⟨V3.ofInts it.pos 20, Q4.ofInts it.quat⟩)

/-- A target item at an update of epoch e (R142, R143): the first one of a target gives its estimate. -/
def Block.tgtMeas (s : Block) (e : Nat) (it : TgtItem) : Block :=
  let m := s.tgtPose it
  let old := sget (fun _ => none) s.vmf.tgt it.target
  let x := old.getD { t := e, pose := m }
  let sp := deci (it.posSd : Nat) 4
  let sa := deci (it.attSd : Nat) 5
  let z : Innov := ⟨4 + it.target, (m.p.sub x.pose.p).toList ++ (x.pose.q.conj.mul m.q).log.toList, [sp, sp, sp, sa, sa, sa],
    (s.ringAt it.time).1.inv.comp m⟩
  if !s.gateOk z then s.vmfFlag 6
  else
    let s := if old.isSome then s.kfMeas z else s
    s.modVmf (fun v => { v with
      tgt := sset (fun _ => none) v.tgt it.target (some (if old.isSome then Config.tgtCorrect s.cfg.vmf.noise x z e else x)),
      tgtT := sset (fun _ => none) v.tgtT it.target (some e) })

/-- The targets at an update of epoch e: their estimates advance, then the items are taken (R142, R147). Without an
estimate of V there is none of a target. -/
def Block.tgtTake (s : Block) (e : Nat) : Block :=
  let s := forN 4 (fun n s => s.modVmf (fun v => { v with
    tgt := sset (fun _ => none) v.tgt n ((sget (fun _ => none) v.tgt n).map (fun x => tgtLater x (s.tgtFixed n) e)) })) s
  if s.vmf.est.isNone then s
  else forL s.vmf.tgtUse (fun it s => if s.bt R.VMF_CTRL (8 + it.target) then s.tgtMeas e it else s) s

/-- The degrees of freedom of V at an inertial update (R149): accelerations are the change of the rates over the time
since the last one. Surge and sway are the north and east coordinates of V in E: R148 does not say whether they are those or
lie along V's own axes. (log 108, DESIGN CHOICE) -/
def Block.dofStep (s : Block) (e : Nat) : Block :=
  match s.vmf.est with
  | none => s
  | some x =>
    let eu := x.pose.q.toEuler
    let v := s.vmf
    let dv := x.vel.toList ++ (eulerRate eu x.rate).toList
    let k := F64.div F64.one (secs ((e : Int) - v.dofT))
    let da := if v.dofV.isEmpty then List.replicate 6 0#64 else List.zipWith (fun a b => F64.mul k (F64.sub a b)) dv v.dofV
    s.modVmf (fun v => { v with dofT := e, dof := x.pose.p.toList ++ eu.toList, dofV := dv, dofA := da })

/-! ### The wave model (R148, R149) -/

/-- Every 125th update since entry to RUN gives a sample of the 8 Hz history (R148). (log 108, DEDUCED) -/
def Block.waveHist (s : Block) (e : Nat) : Block :=
  if s.bt R.VMF_CTRL 1 && (e - s.vmf.runT) % 125000000 == 0 then
    s.modVmf (fun v => { v with hist := ((List.range 6).map (fun d => (s.predDof e d).1) :: v.hist).take 1024 })
  else s

/-- An oscillator pair rotated by ω × 1 ms, and corrected by `r` of each degree of freedom (R148). The correction goes to
c, which is the motion at the epoch. (log 108, DEDUCED) -/
def WaveComp.turn (k : WaveComp) (r : List F64) : WaveComp :=
  let a := F64.mul k.w (deci 1 3)
  let co := Config.cos64 a
  let si := Config.sin64 a
  { k with c := (List.range 6).map (fun d => F64.add (F64.add (F64.mul (k.c.getD d 0#64) co) (F64.mul (k.s.getD d 0#64) si)) (r.getD d 0#64)),
           s := (List.range 6).map (fun d => F64.sub (F64.mul (k.s.getD d 0#64) co) (F64.mul (k.c.getD d 0#64) si)) }

/-- The oscillators at an update of epoch e (R148): r_d / (512 N) with r_d the difference of estimated and modelled
motion. -/
def Block.waveStep (s : Block) (e : Nat) : Block :=
  let v := s.vmf
  if v.comps.isEmpty then s
  else
    let turned := v.comps.map (fun k => k.turn [])
    let n := F64.ofInt ((512 * v.comps.length : Nat) : Int) 0
    let r := (List.range 6).map (fun d =>
      F64.div (F64.sub (s.predDof e d).1 (turned.foldl (fun a k => F64.add a (k.c.getD d 0#64)) 0#64)) n)
    s.modVmf (fun v => { v with comps := v.comps.map (fun k => k.turn r), waveT := e })

/-- The registers of the oscillators (R155): frequency, and amplitudes of heave, roll and pitch. -/
def Block.waveRegs (s : Block) : Block :=
  forL s.vmf.comps.zipIdx (fun p s =>
    let amp := fun d => let c := p.1.c.getD d 0#64; let q := p.1.s.getD d 0#64; F64.sqrt (F64.add (F64.mul c c) (F64.mul q q))
    let ws := [fix32 (F64.div p.1.w (F64.mul F64.two F64.pi)) 24, fix32 (amp 2) 20, fix32 (amp 3) 28, fix32 (amp 4) 28]
    (forL ((List.range 4).zip ws) (fun w s => s.wrI (R.VMF_WAVE (4 * p.2 + w.1)) w.2.1) s).vmfFlagIf (ws.any Prod.snd) 12) s

/-- The RMS of the heave prediction errors in mm (R149); 0 while there are none. -/
def heaveRms (l : List F64) : F64 :=
  if l.isEmpty then 0#64
  else
    let sum := l.foldl (fun a x => F64.add a (F64.mul x x)) 0#64
    F64.mul (F64.sqrt (F64.div sum (F64.ofInt (l.length : Nat) 0))) (F64.ofInt 1000 0)

/-- The heave check and WAVE_OK at an update of epoch e (R149): the heave predicted HORIZON earlier for this epoch
against the estimate, and the prediction made now. -/
def Block.waveCheck (s : Block) (e : Nat) : Block :=
  let now := (s.predDof e 2).1
  let at_ := e + s.fl R.VMF_PCHK 0 16 * 1000000
  let s := s.modVmf (fun v => { v with heaveE := match v.heaveP.find? (fun p => p.1 == e) with
    | some p => (F64.sub p.2 now :: v.heaveE).take 8000
    | none => v.heaveE })
  let rms := heaveRms s.vmf.heaveE
  let s := s.setF R.VMF_WAVE_STAT 16 16 (min (F64.toInt rms 0).toNat 65535)
  let ok := decide (1 ≤ s.fl R.VMF_WAVE_STAT 0 5) && !F64.lt (F64.ofInt (s.fl R.VMF_PCHK 16 16 : Nat) 0) rms
  let s := (s.vmfFlagIf (s.bt R.VMF_STAT 20 && !ok) 8).setB R.VMF_STAT 20 ok
  s.modVmf (fun v => { v with heaveP := ((at_, (s.predDof at_ 2).1) :: v.heaveP).take 65536 })

/-! ### The update (R144) -/

/-- The largest of some magnitudes. -/
def maxF (l : List F64) : F64 := l.foldl (fun a x => if F64.lt a x then x else a) 0#64

/-- The bounds of frame f for the Separation Monitor (R310): the largest predicted speed and rate relative to V at
horizons of whole milliseconds up to SV_HORIZON, or the image's where that exceeds the limit of R149. -/
def Block.frameBound (s : Block) (f : Nat) : F64 × F64 :=
  let g := s.cfg.safe.ssm
  if s.horizon < g.svHorizon * 1000000 then sget (fun _ => (0#64, 0#64)) g.svMax f
  else
    let ms := (List.range (g.svHorizon + 1)).map (fun h => s.frameMot f (s.vmf.epoch + h * 1000000))
    (maxF (ms.map (fun m => m.vel.norm)), maxF (ms.map (fun m => m.rate.norm)))

/-- What the update hands the monitors of frame f (R310): its pose in the formats of R138. -/
def Block.frameTerms (s : Block) (f : Nat) : SFrame :=
  let b := s.frameBound f
  ⟨s.frameOk f, b.1, b.2, (s.frameMot f s.vmf.epoch).pose.fix.1⟩

/-- The records that an update of epoch e writes (R144, R160). -/
def Block.writeRecords (s : Block) (e : Nat) : Block :=
  let have_ := s.vmf.est.isSome
  let s := s.writePose (R.Record_VL 0) (if have_ then some (s.motVL e) else none) e
  let s := s.writePose (R.Record_VE 0) (if have_ then some (s.motVE e) else none) e
  forN 4 (fun n s => s.writePose (R.Record_TnE (16 * n)) (if (sget (fun _ => none) s.vmf.tgt n).isSome then some (s.motTE n e) else none) e) s

/-- The ring takes the estimate of an update (R141). -/
def Block.ringPush (s : Block) (e : Nat) : Block :=
  match s.vmf.est with
  | none => s
  | some _ =>
    let m := s.motVE e
    s.modVmf (fun v => { v with ring := (⟨e / 1000000, e, m.pose, m.vel⟩ :: v.ring).take 512 })

/-- VMF_UPDATE_DONE: propagation, measurements, states and frames; the records, VMF_STAT and VMF_UPD_CNT are written and
event 0x0CA is posted (R144, R146). Updates run in every state, OFF among them: R146 leaves OFF by one. (log 108,
DEDUCED) -/
def opVmfUpdateDone (s : Block) : Block :=
  match s.vmf.busy with
  | none => s
  | some _ =>
    let e := s.vmf.epochUse
    let t := s.imuTest
    let l := imuMerge t.2
    let used := t.2.map Prod.fst
    let s := (((t.1.kfRun e l).navTake e).zeroVel e).tgtTake e
    let s := s.setF R.VMF_STAT 15 4 ((List.range 4).foldl (fun a i => if used.contains i then a + 2 ^ i else a) 0)
    let s := forN 4 (fun i s => s.setB (R.VMF_IMU_STAT i) 8 (used.contains i)) s
    let s := s.vmfState e l
    let s := if l.isEmpty then s else s.dofStep e
    let s := if s.vmfSt = 2 ∨ s.vmfSt = 3 then (((s.waveHist e).waveStep e).waveCheck e).waveRegs else s
    let s := (s.writeRecords e).wrN R.VMF_UPD_CNT (s.rdN R.VMF_UPD_CNT + 1)
    let s := (s.ringPush e).modVmf (fun v => { v with busy := none, epoch := e, imuUse := [], tgtUse := [], navUse := none })
    let s := forL [1, 2, 4, 5, 6, 7] (fun f s => s.modVmf (fun v => { v with hand := sset (fun _ => { ok := false }) v.hand f (s.frameTerms f) })) s
    let s := if s.vmf.est.isSome then s.modVmf (fun v => { v with grav := (s.motVE e).pose.q.conj.rot { z := F64.one } }) else s
    s.postEv 0x0CA

/-! ### The wave fit (R148) -/

/-- WAVE_FIT_DONE: the amplitudes of each degree of freedom over the last 64 s. (log 108, DESIGN CHOICE) -/
def opWaveFitDone (s : Block) : Block :=
  if !s.vmf.fitBusy then s
  else
    let v := s.vmf
    let ago := (v.epoch - v.runT) % 125000000
    let ws := v.waveW.take 16
    let fit := (List.range 6).map (fun d => waveFit ws ((v.hist.take 512).map (fun x => x.getD d 0#64)) ago)
    let amp := fun (i : Nat) (f : F64 × F64 → F64) => fit.map (fun a => f (a.getD i (0#64, 0#64)))
    let comps := ws.zipIdx.map (fun w => WaveComp.mk w.1 (amp w.2 Prod.fst) (amp w.2 Prod.snd))
    let s := s.setF R.VMF_WAVE_STAT 0 5 comps.length
    let s := s.modVmf (fun v => { v with fitBusy := false, comps := comps, waveT := v.epoch })
    s.waveRegs.wrN R.VMF_FIT_CNT (s.rdN R.VMF_FIT_CNT + 1)

/-! ### Prediction queries (R150) -/

/-- The pose that a query selects, at time t: V in L, V in E, or Tn in V (R155). -/
def Block.predSel (s : Block) (sel t : Nat) : Motion :=
  if sel = 0 then s.motVL t else if sel = 1 then s.motVE t else s.frameMot sel t

/-- PREDICTION_QUERY: a write of VMF_PRED_T_HI. The result is that of the epoch at which the query starts. -/
def opPredictionQuery (snd : Sender) (hi : Word) (s : Block) : Block :=
  if s.bt R.VMF_PRED_STAT 0 then s.refuse true R.VMF_PRED_T_HI snd .state
  else
    let lo := s.stagedLo R.VMF_PRED_T_LO
    let s := (s.wr R.VMF_PRED_T_LO lo).wr R.VMF_PRED_T_HI hi
    let t := lo.toNat + 2 ^ 32 * hi.toNat
    let served := s.servedFrom s.vmf.epoch t
    let sel := s.fl R.VMF_PRED_SEL 0 3
    let known := s.vmf.est.isSome && (decide (sel < 4) || (sget (fun _ => none) s.vmf.tgt (sel - 4)).isSome)
    let ws := if known then poseWords (s.predSel sel served) else []
    let s := s.modVmf (fun v => { v with predT := served, predClamp := decide (served ≠ t), predSel := sel,
                                         predRes := ws.map Prod.fst, predSat := ws.any Prod.snd })
    s.wrN R.VMF_PRED_STAT 1

/-- PREDICTION_QUERY_DONE: the result stands in Record PRED. (log 54, DEDUCED) -/
def opPredictionQueryDone (s : Block) : Block :=
  if !s.bt R.VMF_PRED_STAT 0 then s
  else
    let v := s.vmf
    let s := (s.writeRec (R.Record_PRED 0) ((List.range 13).map (fun i => v.predRes.getD i 0)) v.predT).vmfFlagIf v.predSat 12
    s.wrN R.VMF_PRED_STAT (if v.predClamp then 6 else 2)

/-! ### Planning frames (R153) -/

/-- MACHINE_FRAME_REQUEST: a write of VMF_MFRAME_m (R153, R159). -/
def opMachineFrameRequest (m : Nat) (snd : Sender) (v : Word) (s : Block) : Block :=
  let f := fld v 0 3
  if f = 3 then s.refuse true (R.VMF_MFRAME m) snd .range
  else if f ≠ 0 ∧ (s.frameCode f = 0 ∨ s.frameEnabled f = false) then s.refuse true (R.VMF_MFRAME m) snd .state
  else
    let s := if v.getLsbD 8 then s.setB (R.VMF_MFRAME m) 8 false else s
    (s.setF (R.VMF_MFRAME m) 0 3 f).setB (R.VMF_MFRAME m) 7 true

/-- The path channel of machine m is at rest. -/
def Block.pathAtRest (s : Block) (m : Nat) : Bool := s.pathSt m == 0 || s.pathSt m == 3

/-- The application time of a solve started in cycle n (R48, R151). -/
def solveTime (n : Nat) : Nat := (n + 9) * 15625

/-- The motion of machine m's planning frame for time t: as the VMF predicts it, or held at the last value that the Solver
used while the frame may not be used (R151, R154). -/
def Block.machMot (s : Block) (m t : Nat) : Motion :=
  if s.frameOk (s.machFrame m) then s.frameHand (s.machFrame m) t else { pose := (sget (fun _ => {}) s.vmf.lastT m).pose }

/-- MACHINE_FRAME_SWITCH at the solve boundary of cycle n (R153): the path position is re-expressed in the new frame, so
that no set-point moves; where it does not fit the formats of R138 it saturates. (log 112, DEDUCED) -/
def Block.frameSwitch (s : Block) (n m : Nat) : Block :=
  if !s.bt (R.VMF_MFRAME m) 7 then s
  else
    let s := s.setB (R.VMF_MFRAME m) 7 false
    if !s.pathAtRest m then (s.setB (R.VMF_MFRAME m) 8 true).vmfFlag 13
    else
      let f := s.fl (R.VMF_MFRAME m) 0 3
      if f = s.machFrame m then s
      else
        let x := s.pth m
        let t := solveTime n
        let p := ((s.frameHand f t).pose.inv).comp ((s.machMot m t).pose.comp x.motion.pose)
        let pw := p.p.toFix 20
        let big := pw.any Prod.snd
        let s := s.setPth m (x.acted.rebase (if big then { p with p := V3.ofInts (pw.map Prod.fst) 20 } else p) (s.rotR m))
        (s.setF (R.VMF_MFRAME m) 4 3 f).vmfFlagIf big 12

/-! ### The meanings -/

def execNavRecordCommit (snd : Sender) (hi : Word) (s : State) : Out :=
  onApp (busWrite snd R.VMF_NAV_T_HI hi (opNavRecordCommit hi)) s
def execPredictionQuery (snd : Sender) (hi : Word) (s : State) : Out :=
  onApp (busWrite snd R.VMF_PRED_T_HI hi (opPredictionQuery snd hi)) s
def execPredictionQueryDone (s : State) : Out := ifRun (onApp opPredictionQueryDone) s
def execMachineFrameRequest (m : PathIx) (snd : Sender) (v : Word) (s : State) : Out :=
  onApp (busWrite snd (R.VMF_MFRAME m.val) v (opMachineFrameRequest m.val snd v)) s

end Sys2Proof.Machine
end

