-- ==== Sys2Proof/Machine/Solver.lean ====
section
/-! DEFINITION. The Solver (09_kinematics_solver.md): the inverse-kinematics batch and its handover, variants and
warm-start records, thrust allocation, and the double-precision firmware jobs. Kinematics and allocation run on the
array of Kin.lean with the row formats of the image. -/

namespace Sys2Proof.Machine

/-- The SOLV page, and a flag of SOLV_ERR: IRQ_RAW at the same position (R217). -/
def solvPage : Nat := 0x40200000
def Block.solvFlag (s : Block) (i : Nat) : Block := s.flag R.SOLV_ERR i solvPage i

/-- Change the hidden state of the Solver. -/
def Block.modSolv (s : Block) (f : Solv → Solv) : Block := { s with solv := f s.solv }

/-- Record a problem, row and stage in an information register with its saturating count (R203, R204, R217). -/
def Block.solvInfo (s : Block) (reg low : Nat) : Block :=
  s.wrN reg (low % 2 ^ 16 + satAdd (s.fl reg 16 16) 1 0xFFFF * 2 ^ 16)

/-! ### Warm-start records (R202, R216) -/

/-- Where the record of machine m stands; its layout is the model's (assumption 16): signature, q, CRC-32C. -/
def warmAddr (m : Nat) : Nat := 0x20050000 + m * 0x100

/-- The bytes of signature and joint values. (log 16, PRESUMED) -/
def warmBody (sig : Nat) (q : List Int) : List Byte :=
  bytesOf 4 sig ++ q.flatMap (fun x => bytesOf 4 (lowBits 32 x))

/-- The record that the device writes. (log 16, PRESUMED) -/
def warmBytes (sig : Nat) (q : List Int) : List Byte := warmBody sig q ++ bytesOf 4 (crc32c (warmBody sig q))

/-- The joint values of a record for n joints that passes the check of R202. (log 16, PRESUMED) -/
def warmRead (m : Mem) (a n sig : Nat) : Option (List Int) :=
  let body := mrdBytes m a (4 + 4 * n)
  if ofBytes (body.take 4) = sig ∧ mrdN m (a + 4 + 4 * n) 4 = crc32c body then
    some ((List.range n).map (fun i => sx 32 (ofBytes ((body.drop (4 + 4 * i)).take 4))))
  else none

/-! ### The inverse-kinematics batch (R200 to R206) -/

/-- The active variant of machine m (R217). -/
def Block.activeVar (s : Block) (m : Nat) : Nat := s.fl (R.SOLV_M_CFG m) 11 2
def Block.variant (s : Block) (m : Nat) (k : MachCfg) : VariantCfg := k.variants.getD (s.activeVar m) {}

/-- q of a joint from the position latched at FBD (R202). -/
def coldQ (j : JointCfg) (pfb : Int) : Int := sat (rnd ((pfb - shl j.ofs 32) * j.gq) j.g) 32

/-- The set-point of a joint (R201). -/
def jointOut (j : JointCfg) (q v a : Int) : Nat × Int × Int × Int :=
  (j.carrel, sat (rnd (q * j.kq) j.s + shl j.ofs 32) 64, sat (rnd (v * j.kv) j.t) 64, sat (rnd (a * j.ka) j.u) 64)

/-- Record what a computation of problem `p` noted (R203, R204, R217): machine 0 to 15, 16 the allocation; `ta` shows stage
0xF. ROW shows the number of the element among those of its quantity, modulo 32: no rule numbers the elements of a quantity
with several in a row. (log 109, DESIGN CHOICE) -/
def Block.kNotes (s : Block) (p : Nat) (ta : Bool) (l : List KNote) : Block :=
  let st := fun (x : Nat) => (if ta then 15 else x) * 2 ^ 10
  forL l (fun n s => match n with
    | .pivot row zero => (s.solvInfo R.SOLV_PIVOT_INFO (p + row % 32 * 2 ^ 5 + (if zero then 2 ^ 10 else 0))).solvFlag 0
    | .ovf row x => (s.solvInfo R.SOLV_OVF_INFO (p + row % 32 * 2 ^ 5 + st x)).solvFlag 1
    | .range row x => (s.solvInfo R.SOLV_RANGE_INFO (p + row % 32 * 2 ^ 5 + st x)).solvFlag 2) s

/-- Whether a note is of a raised pivot. -/
def KNote.isPivot : KNote → Bool
  | .pivot _ _ => true
  | _ => false

/-- The joint values of each machine by the positions latched at FBD, chain joints, then tool joints (R193, R202). -/
def Block.latchedQ (s : Block) : List (Nat × List Int) :=
  s.cfg.machs.map (fun m => (m.1, (m.2.joints ++ m.2.toolFk).map (fun j => coldQ j (s.lp j.carrel).pfb)))

/-- Those of machine m in a latched list. -/
def machQ (l : List (Nat × List Int)) (m : Nat) : List Int := match l.find? (fun x => x.1 == m) with
  | some x => x.2
  | none => []

/-- The planning frame's motion in V for the solve of machine m (R151): as the batch took it, predicted for its application
time, and held at the last value since its frame was lost (R154). -/
def Block.frameFor (s : Block) (m : Nat) : Motion :=
  match s.solv.ikIn.find? (fun x => x.1 == m) with
  | some (_, some f, _) => f
  | _ => { pose := (sget (fun _ => {}) s.vmf.lastT m).pose }

/-- The path set-point that the batch took. -/
def Block.pathFor (s : Block) (m : Nat) : Motion := match s.solv.ikIn.find? (fun x => x.1 == m) with
  | some (_, _, p) => p
  | none => {}

/-- P of an auxiliary carrel expressed in its frame f at time t (R152). -/
def Block.auxPoint (s : Block) (c f t : Nat) : V3 := (s.frameHand f t).pose.inv.act (sget (fun _ => ({} : AuxCfg)) s.cfg.auxGeo c).p

/-- The target of machine m in its base frame (R151): T_BV · T_VF(t_a) · p_F, and the path's velocity and acceleration
with the frame's added. -/
def machTarget (k : MachCfg) (frame path : Motion) : Motion :=
  (Motion.mk k.base.inv {} {} {} {}).comp (frame.comp path)

/-- What the batch takes at the profile tick of n (R47, R193): path set-points, frame poses and points predicted for
(n + 9) × 15 625. -/
def Block.ikTake (s : Block) (n : Nat) : Block :=
  let frames := s.cfg.machs.map (fun k =>
    (k.1, if s.frameOk (s.machFrame k.1) then some (s.frameHand (s.machFrame k.1) (solveTime n)) else none, (s.pth k.1).motion))
  let handed := s.cfg.machs.map (fun k => s.machFrame k.1) ++ s.auxCars.map Prod.snd
  let s := s.vmfFlagIf (handed.any (fun f => s.frameOk f && (s.frameMot f (solveTime n)).fix.2)) 12
  let pts := s.auxCars.map (fun p => (p.1, if s.frameOk p.2 then some (s.auxPoint p.1 p.2 (solveTime n)) else none))
  s.modSolv (fun v => { v with ikRun := some n, ikIn := frames, auxIn := pts })

/-- The check of the warm-start records at the start of the batch (R202). -/
def Block.warmTake (s : Block) (mem : Mem) : Block :=
  s.modSolv (fun v => { v with warm := s.cfg.machs.filterMap (fun m =>
    (warmRead mem (warmAddr m.1) m.2.joints.length (s.variant m.1 m.2).sig).map (fun q => (m.1, q))) })

/-- The last set-point of carrel c (R197): P until the Solver has given one. -/
def Block.lastSet (s : Block) (c : Nat) : Int := match s.solv.lastP.find? (fun e => e.1 == c) with
  | some e => e.2
  | none => (s.prf c).p
def Block.keepSet (s : Block) (c : Nat) (p : Int) : Block := s.modSolv (fun v => { v with lastP := sinsert c p (serase c v.lastP) })

/-- The batch for machine m in cycle n: the solve from the warm start or the latched positions (R200 to R205), its flags
and status, the set-points and the warm-start record; a locked joint keeps its last set-point (R197). (log 52, DEDUCED) -/
def Block.solveMachine (s : Block) (m : Nat) (k : MachCfg) : Block × List MemOp :=
  let var := s.variant m k
  let warm := if s.solv.bad.contains m then none else (s.solv.warm.find? (fun x => x.1 == m)).map Prod.snd
  let s := s.modSolv (fun v => { v with bad := v.bad.filter (· != m) })
  let s := if warm.isNone then s.solvFlag 3 else s
  let q0 := match warm with
    | some q => q
    | none => (machQ s.solv.fkQ m).take k.joints.length
  let fm := s.frameFor m
  let t := ikTarget k (machTarget k fm (s.pathFor m)) []
  let o := ikSolve k var (s.fl R.SOLV_PIVOT_FLOOR 0 16) t.1 q0 t.2
  let x := o.1
  let s := s.modVmf (fun v => { v with lastT := sset (fun _ => {}) v.lastT m fm })
  let s := s.kNotes m false o.2
  let out := k.joints.zipIdx.map (fun (j, i) =>
    if nbit var.lock i then (j.carrel, s.lastSet j.carrel, 0, 0) else jointOut j (x.q.getD i 0) (x.v.getD i 0) (x.a.getD i 0))
  let s := if x.clamped then s.solvFlag 6 else s
  let s := if var.ikTol < x.r then s.solvFlag 4 else s
  let s := if var.stopTol < x.r then
      forL (machCarrels k) (fun c s => s.setPrf c { s.prf c with fault := true }) (s.solvFlag 5)
    else s
  let b := fun (x : Bool) i => if x then 2 ^ i else 0
  let s := s.wrN (R.SOLV_M_STAT m) (b warm.isSome 0 + b (o.2.any KNote.isPivot) 1 + b (decide (var.ikTol < x.r)) 2 + b x.clamped 3 + min x.r 65535 * 2 ^ 16)
  let s := forL out (fun x s => s.keepSet x.1 x.2.1) s
  (s.modSolv (fun v => { v with res := v.res ++ out }), [.store (warmAddr m) (warmBytes var.sig x.q)])

/-- A machine whose path channel is STOPPED: its path pose becomes the forward kinematics of P, in its planning frame
(R206). -/
def Block.poseFromP (s : Block) (m : Nat) (k : MachCfg) : Block :=
  let q := k.joints.map (fun j => coldQ j (s.prf j.carrel).p)
  let r := kForward k q []
  let t := r.1.2
  let s := forL k.joints (fun j s => s.keepSet j.carrel (s.prf j.carrel).p) (s.kNotes m false r.2)
  s.setPth m ((s.pth m).rebase (((s.frameFor m).pose.inv).comp (k.base.comp (framePose t))) (s.rotR m))

/-- k · u · (P_F(t_a) − P_F(t_ref)) in 2^-32 count (R152). -/
def auxOfs (g : AuxCfg) (p p0 : V3) : Int := sat (F64.toInt (F64.mul g.k (g.u.dot (p.sub p0))) 32) 64

/-- The offset of an auxiliary carrel at a solve of cycle n (R152): 0 at the first after its channel was enabled, which
takes t_ref; held while its frame is INVALID (R154); `pt` is P_F(t_a) as the batch took it. Where P_F(t_ref) is not known, after a resynchronisation, it is
the one that leaves the offset where it stands. (log 23, DESIGN CHOICE) -/
def Block.auxOffset (s : Block) (n c : Nat) (pt : Option V3) : Block :=
  let x := s.prf c
  let put := fun (o : Int) (s : Block) => s.modSolv (fun v => { v with aux := v.aux ++ [(c, o)] })
  let keep := fun (p : V3) (s : Block) => s.modVmf (fun v => { v with auxP := sset (fun _ => none) v.auxP c (some p) })
  let g := sget (fun _ => ({} : AuxCfg)) s.cfg.auxGeo c
  if !s.carEn c then s
  else match pt, x.auxRef, sget (fun _ => none) s.vmf.auxP c with
    | none, _, _ => put x.oNew s
    | some p, none, _ => put 0 (keep p (s.setPrf c { x with auxRef := some (solveTime n) }))
    | some p, some _, some p0 => put (auxOfs g p p0) s
    | some p, some _, none => put x.oNew (keep (p.sub (V3.scale (F64.div (F64.ofInt x.oNew 32) g.k) g.u)) s)

/-- The link frames of machine m's joint carrels, by the positions latched at FBD (R193): chain joints, then tool
joints. -/
def Block.linkFrames (s : Block) (m : Nat) (k : MachCfg) : List KFrame × List KNote :=
  kChain k.rows 0 {} ((k.joints ++ k.toolFk).zip (machQ s.solv.fkQ m)) []

/-- The allocation, whose inputs are taken, runs once the array is free (R194). -/
def Block.taGo (s : Block) : Block :=
  if s.solv.taRun.isSome && s.solv.fk.isNone && s.solv.ikRun.isNone then s.setB R.SOLV_STAT 2 true else s

/-- Keep SOLV_PASS_CLK and its highest value (R217). -/
def Block.passClk (s : Block) (clk : Nat) : Block :=
  let c := min clk 65535
  let s := s.setF R.SOLV_PASS_CLK 0 16 c
  if s.fl R.SOLV_PASS_MAX 0 16 < c then s.setF R.SOLV_PASS_MAX 0 16 c else s

/-- The batch whose inputs are taken starts on the array: the warm-start records are checked (R202). -/
def Block.ikGo (s : Block) (mem : Mem) : Block := (s.warmTake mem).setB R.SOLV_STAT 1 true

/-- SOLVER_FK_DONE, `clk` WING clocks after FBD: the link frames are handed to monitor A; the batch starts where the profile
tick has come (R194, R204, R217). -/
def opSolverFkDone (clk : Nat) (s : Block) (mem : Mem) : Block :=
  match s.solv.fk with
  | none => s
  | some n =>
    let links := s.cfg.machs.map (fun m => (m.1, s.linkFrames m.1 m.2))
    let s := (s.modSolv (fun v => { v with fk := none, links := links.map (fun l => (l.1, l.2.1)) })).setB R.SOLV_STAT 0 false
    let s := (forL links (fun l s => s.kNotes l.1 false l.2.2) s).passClk clk
    if s.solv.ikRun = some n then s.ikGo mem else s.taGo

/-- IK_BATCH_DONE, `clk` WING clocks after FBD: set-points and offsets wait for their profile tick; event 0x0C8
(R193, R201). -/
def opIkBatchDone (clk : Nat) (s : Block) (_mem : Mem) : Block × List MemOp :=
  match s.solv.ikRun with
  | none => (s, [])
  | some n =>
    if s.solv.fk.isSome then (s, [])
    else
      let s := s.modSolv (fun v => { v with res := [], aux := [] })
      let r := s.cfg.machs.foldl (fun (a : Block × List MemOp) (m : Nat × MachCfg) =>
        if a.1.pathSt m.1 = 3 then (a.1.poseFromP m.1 m.2, a.2)
        else if a.1.solv.ikIn.any (fun x => x.1 == m.1 && x.2.1.isNone) && a.1.vmf.lastT.all (fun x => x.1 != m.1) then a
        else
          let b := a.1.solveMachine m.1 m.2
          (b.1, a.2 ++ b.2)) (s, [])
      let s := forL r.1.solv.auxIn (fun p s => s.auxOffset n p.1 p.2) r.1
      let s := s.modSolv (fun v => { v with ikRun := none, ikFor := some n, warm := [] })
      (((s.setB R.SOLV_STAT 1 false).taGo.passClk clk).postEv 0x0C8, r.2)

/-- FK starts at FBD of a cycle n with n mod 8 = 0 (R193, R194). -/
def Block.fkStart (s : Block) (n : Nat) : Block :=
  if s.isCoord && n % 8 == 0 && s.pageEn solvPage then (s.modSolv (fun v => { v with fk := some n, fkQ := s.latchedQ })).setB R.SOLV_STAT 0 true else s

/-- SOLVE_HANDOVER and SOLVER_OVERRUN at the profile tick of n (R47, R49, R174, R176). -/
def Block.solveHandover (s : Block) (n : Nat) : Block :=
  if n % 8 ≠ 0 then s
  else if s.solv.ikFor = some (n - 8) ∧ 8 ≤ n then
    let v := s.solv
    let s := forL (v.res.filter (fun r => s.carEn r.1)) (fun r s => s.setPrf r.1 { s.prf r.1 with solve := some (r.2.1, r.2.2.1, r.2.2.2) }) s
    let s := forL (v.aux.filter (fun r => s.carEn r.1)) (fun r s => s.auxNew r.1 r.2) s
    s.modSolv (fun v => { v with ikFor := none, res := [], aux := [] })
  else match s.solv.ikRun with
    | some _ => ((s.flag R.TB_ERR 2 0x40300000 2).modSolv (fun v => { v with ikRun := none })).setB R.SOLV_STAT 1 false |>.taGo
    | none => s

/-! ### Variants (R197) -/

/-- VARIANT_REQUEST: a write of SOLV_M_VAR_m. -/
def opVariantRequest (m : Nat) (snd : Sender) (v : Word) (s : Block) : Block :=
  if s.fl (R.SOLV_M_CFG m) 9 2 < fld v 0 2 then s.refuse true (R.SOLV_M_VAR m) snd .range
  else
    let s := if v.getLsbD 3 then s.setB (R.SOLV_M_VAR m) 3 false else s
    (s.setF (R.SOLV_M_VAR m) 0 2 (fld v 0 2)).setB (R.SOLV_M_VAR m) 2 true

/-- The variant switch of machine m at a solve boundary. -/
def Block.variantSwitch (s : Block) (m : Nat) (k : MachCfg) : Block :=
  if !s.bt (R.SOLV_M_VAR m) 2 then s
  else
    let s := s.setB (R.SOLV_M_VAR m) 2 false
    if !s.pathAtRest m then (s.setB (R.SOLV_M_VAR m) 3 true).solvFlag 7
    else
      let x := s.fl (R.SOLV_M_VAR m) 0 2
      let v := k.variants.getD x {}
      ((s.setF (R.SOLV_M_CFG m) 11 2 x).setF (R.SOLV_M_CFG m) 13 6 v.task).wrN (R.SOLV_M_SIG m) v.sig

/-- IK_BATCH_START at the profile tick of n, after the planning-frame and variant switches (R194, R206). -/
def Block.ikStart (s : Block) (mem : Mem) (n : Nat) : Block :=
  if !s.isCoord || n % 8 != 0 || !s.pageEn solvPage then s
  else
    let s := forL s.cfg.machs (fun m s => (s.frameSwitch n m.1).variantSwitch m.1 m.2) s
    if !s.bt R.SOLV_CTRL 0 then s
    else
      let s := s.ikTake n
      if s.solv.fk.isNone then s.ikGo mem else s

/-! ### Thrust allocation (R207 to R211) -/

/-- TA_COMMIT: demand and gains are copied to the allocation (R211). -/
def opTaCommit (s : Block) : Block :=
  s.modSolv (fun v => { v with dem := (List.range 6).map (fun r => s.rdI (R.TA_DEM r)),
                               gain := (List.range 12).map (fun i => s.rdI (R.TA_GAIN i)), committed := true })

/-- The allocation starts at the profile tick of a cycle n with n mod 64 = 8 (R193, R211). -/
def Block.taStart (s : Block) (n : Nat) : Block :=
  if !s.isCoord || n % 64 != 8 || !s.bt R.SOLV_CTRL 1 || !s.pageEn solvPage then s
  else
    (s.modSolv (fun v => { v with taRun := some n, demUse := v.dem, gainUse := v.gain, stale := !v.committed, committed := false })).taGo

/-- A variable of the allocation: its actuator, its place there, its bounds. -/
structure TaVar where
  act : Nat
  ix : Nat
  lo : Int
  hi : Int
  deriving DecidableEq, Repr

/-- The variables in order (R207). -/
def taVars (acts : List ActCfg) : List TaVar :=
  acts.zipIdx.flatMap (fun (a, i) => (List.range (if a.kind = 0 then 2 else 1)).map (fun j => ⟨i, j, a.lo.getD j 0, a.hi.getD j 0⟩))

/-- Fractional bits of a variable at the register boundary: forces 2^-4 N, fin angles 2^-28 rad (R207). -/
def taBits (t : TaCfg) (v : TaVar) : Nat := match t.acts[v.act]? with
  | some a => if a.kind = 2 then 28 else 4
  | none => 4

/-- A bound of a variable, given in its format at the register boundary. -/
def taBound (t : TaCfg) (v : TaVar) (b : Int) : Fx := ⟨b, taBits t v⟩

/-- A number with 62 fractional bits: exact in every format of R198. -/
def fxWide (x : Fx) : Int := shl x.v (62 - x.f)

/-- How far u violates the bounds of a variable, in N or rad with 62 fractional bits. (log 52, DEDUCED) -/
def violation (t : TaCfg) (v : TaVar) (u : Fx) : Int :=
  max (fxWide u - fxWide (taBound t v v.hi)) (fxWide (taBound t v v.lo) - fxWide u)

/-- The bound that u violates, u where it violates none. -/
def taClamp (t : TaCfg) (v : TaVar) (u : Fx) : Fx :=
  if fxWide (taBound t v v.hi) < fxWide u then taBound t v v.hi else if fxWide u < fxWide (taBound t v v.lo) then taBound t v v.lo else u

/-- The free variable with the largest violation, ties to the lowest index (R208). -/
def worst (t : TaCfg) (vars : List TaVar) (u : List Fx) (clamped : List Nat) : Option Nat :=
  let viol := fun k => match vars[k]? with | some v => violation t v (u.getD k {}) | none => 0
  ((List.range vars.length).filter (fun k => !clamped.contains k)).foldl (fun b k =>
    if (match b with | none => 0 | some j => viol j) < viol k then some k else b) none

/-- Column of B of a variable in row r, in the format of its element (R207): a fin's is G_i c_i. -/
def taCol (t : TaCfg) (gain : List Int) (k : Nat) (v : TaVar) (r : Nat) : KinM Fx :=
  let fm := fmtOf t.rows 5 (24 * r + k)
  match t.acts[v.act]? with
  | none => pure ⟨0, fm.f⟩
  | some a =>
    let c := (a.cols.getD v.ix []).getD r 0
    if a.kind = 2 then kSat fm (24 * r + k) 15 (rnd (c * gain.getD v.act 0) t.gShift) else pure ⟨c, fm.f⟩

/-- The matrix B by rows, all six of them (R207). -/
def taMat (t : TaCfg) (gain : List Int) (vars : List TaVar) : KinM (List (List Fx)) :=
  (List.range 6).mapM (fun r => vars.zipIdx.mapM (fun v => taCol t gain v.2 v.1 r))

/-- Row r of a generalised force: 2^-4 N or N·m as at the register boundary (R207). -/
def taRow (t : TaCfg) (r : Nat) : RowFmt := { fmtOf t.rows 28 r with f := 4 }

/-- x − Σ B u in row r (R198, R208). -/
def taSub (t : TaCfg) (b : List (List Fx)) (u : List (Nat × Fx)) (x : List Fx) : KinM (List Fx) :=
  (List.range 6).mapM (fun r => kSubF (taRow t r) r 15 (x.getD r {}) (u.map (fun e => ((b.getD r []).getD e.1 {}, e.2))))

/-- u_free := W⁻¹ B_freeᵀ · solve(A, τ') for the free variables, in their rows (R208). -/
def taSolve (t : TaCfg) (floor : Nat) (mat : List (List Fx)) (tau : List Fx) (vars : List Nat) : KinM (List (Nat × Fx)) := do
  let fs := t.rows
  let rows := (List.range 6).filter (fun r => nbit t.demand r)
  let b := rows.map (fun r => vars.map (fun k => (mat.getD r []).getD k {}))
  let bw ← (rows.zip b).mapM (fun p => (vars.zip p.2).mapM (fun x =>
    kDot fs 6 (24 * p.1 + x.1) 15 [(x.2, ⟨t.winv.getD x.1 0, (fmtOf fs 7 x.1).f⟩)]))
  let a ← kGram fs 15 bw b (fun i => (⟨t.qinv.getD (rows.getD i 0) 0, (fmtOf fs 40 0).f⟩, fxOne))
  let fac ← kLdl fs t.lambda floor 15 a [] []
  let y ← kSolve fs 14 15 fac (rows.map (fun r => tau.getD r {}))
  vars.zipIdx.mapM (fun x => do
    let u ← kDot fs 17 x.1 15 ((bw.map (fun row => row.getD x.2 {})).zip y)
    pure (x.1, u))

/-- The loop of R208: u, the clamped variables, iterations, and whether TA_ITER was met. `fix` holds the clamped values
and τ' what is left of the demand. -/
def taLoop (t : TaCfg) (floor : Nat) (vars : List TaVar) (mat : List (List Fx)) :
    Nat → Nat → List Fx → List Nat → List Fx → KinM (List Fx × List Nat × Nat × Bool)
  | 0, iter, _, clamped, fix => pure (fix, clamped, iter, false)
  | fuel + 1, iter, tau, clamped, fix => do
    let sol ← taSolve t floor mat tau ((List.range vars.length).filter (fun k => !clamped.contains k))
    let u := sol.foldl (fun u x => u.set x.1 x.2) fix
    match worst t vars u clamped with
    | none => pure (u, clamped, iter + 1, false)
    | some k =>
      if iter + 1 = 8 then
        pure (vars.zipIdx.map (fun (v, j) => if clamped.contains j then u.getD j {} else taClamp t v (u.getD j {})),
         clamped ++ (List.range vars.length).filter (fun j => !clamped.contains j &&
           (match vars[j]? with | some v => decide (0 < violation t v (u.getD j {})) | none => false)), 8, true)
      else
        let v := vars.getD k ⟨0, 0, 0, 0⟩
        let c := taClamp t v (u.getD k {})
        let tau ← taSub t mat [(k, c)] tau
        taLoop t floor vars mat fuel (iter + 1) tau (clamped ++ [k]) (fix.set k c)

/-- What an allocation yields: u in its rows and at the register boundary, s, the clamped variables, iterations, TA_ITER. -/
structure TaOut where
  u : List Int
  s : List Int
  clamped : List Nat
  iter : Nat
  lim : Bool

/-- The allocation of a demand (R207, R208). -/
def taRun (t : TaCfg) (floor : Nat) (vars : List TaVar) (dem gain : List Int) : KinM TaOut := do
  let mat ← taMat t gain vars
  let tau := (List.range 6).map (fun r => Fx.mk (dem.getD r 0) 4)
  let o ← taLoop t floor vars mat 8 0 tau [] (List.replicate vars.length {})
  let s ← taSub t mat (o.1.zipIdx.map (fun x => (x.2, x.1))) tau
  let u ← vars.zipIdx.mapM (fun v =>
    let f := taBits t v.1
    kSat { f := f } v.2 15 (fxTo (o.1.getD v.2 {}) f))
  pure { u := u.map (fun x => x.v), s := s.map (fun x => x.v), clamped := o.2.1, iter := o.2.2.1, lim := o.2.2.2 }

/-- The speed of R209 for thrust T, and whether T is at TMAX or above. -/
def taSpeed (a : ActCfg) (t : Nat) : Int × Bool :=
  if a.tmax ≤ t then ((a.table.getD 16 0 : Nat), true)
  else
    let j := t * 16 / a.tmax
    let f : Int := ((t * 16 % a.tmax) * 2 ^ 16 / a.tmax : Nat)
    ((a.table.getD j 0 : Nat) + shr (((a.table.getD (j + 1) 0 : Nat) - (a.table.getD j 0 : Nat)) * f) 16, false)

/-- The variables of actuator i. (log 52, DEDUCED) -/
def actU (vars : List TaVar) (u : List Int) (i : Nat) : List Int :=
  (vars.zipIdx.filter (fun (v, _) => v.act == i)).map (fun (_, k) => u.getD k 0)

/-- Thrust magnitude of actuator i (R209). -/
def taThrust (a : ActCfg) (u : List Int) : Nat :=
  if a.kind = 0 then isqrt ((u.getD 0 0) ^ 2 + (u.getD 1 0) ^ 2).toNat else (u.getD 0 0).natAbs

/-- THRUST_ALLOCATION_DONE, once the array has run it (R194): outputs and residuals, event 0x0C9 (R193, R208, R209). -/
def opThrustAllocationDone (clk : Nat) (s : Block) : Block :=
  match s.solv.taRun with
  | none => s
  | some n =>
    if !s.bt R.SOLV_STAT 2 then s else
    let t := s.cfg.ta
    let v := s.solv
    let vars := taVars t.acts
    let o := taRun t (s.fl R.SOLV_PIVOT_FLOOR 0 16) vars v.demUse v.gainUse []
    let u := o.1.u
    let s := forN 6 (fun r s => s.wrI (R.TA_RES r) (o.1.s.getD r 0)) s
    let sat_ := (List.range 6).any (fun r => decide ((t.tol.getD r 0) < (o.1.s.getD r 0).natAbs))
      || (t.acts.zipIdx.any (fun (a, i) => a.kind != 2 && (taSpeed a (taThrust a (actU vars u i))).2))
    let s := if sat_ then s.solvFlag 9 else s
    let s := if o.1.lim then s.solvFlag 8 else s
    let s := s.kNotes 16 true o.2
    let s := forL t.acts.zipIdx (fun (a, i) s =>
      let x := actU vars u i
      let s := (s.wrI (R.TA_OUT_A i) (x.getD 0 0)).wrI (R.TA_OUT_B i) (if a.kind = 0 then x.getD 1 0 else 0)
      if a.kind = 0 ∧ taThrust a x ≠ 0 then s.wrN (R.TA_AZ i) (atan2T (x.getD 1 0) (x.getD 0 0)) else s) s
    let s := s.wrN R.TA_STAT (o.1.iter + min o.1.clamped.length 31 * 2 ^ 4 + (if v.stale then 2 ^ 9 else 0))
    let s := s.modSolv (fun v => { v with taRun := none, taFor := some n, u := u })
    ((s.setB R.SOLV_STAT 2 false).passClk clk).postEv 0x0C9

/-- An angle output to carrel c (R210): the target is written, inside the soft limits, and a GO acts where PS_CMD.GO would not
be refused. (log 52, DEDUCED) -/
def Block.taAngle (s : Block) (c : Nat) (t : Int) : Block :=
  let st := s.psSt c
  if s.psMode c ≠ 1 ∨ st = 5 ∨ s.carEn c = false ∨ ((s.prf c).rested = true ∧ st = 0) then s.solvFlag 10
  else
    let x := clamp t (s.rdI (R.PS_SOFT_MIN c)) (s.rdI (R.PS_SOFT_MAX c))
    let s := if x ≠ t then s.solvFlag 11 else s
    let s := s.wrI (R.PS_TARGET c) x
    if s.moving c || (s.goRefused c).isSome then s else s.setPrf c { s.prf c with go := true }

/-- A speed output to carrel c (R210); one that a step output cannot follow (R183) is not applied. (log 114, DEDUCED) -/
def Block.taSpeedOut (s : Block) (c : Nat) (v : Int) : Block :=
  if s.psMode c ≠ 2 ∨ s.psSt c = 5 ∨ s.carEn c = false ∨ ((s.prf c).rested = true ∧ s.psSt c = 0)
    ∨ (s.psOut c = 1 ∧ fastStep (s.fl (R.PS_STEP_CFG c) 8 8) v.natAbs = true) then s.solvFlag 10
  else (s.wrN (R.PS_VMAX c) v.natAbs).setB (R.PS_CFG c) 5 (decide (v < 0))

/-- The count equivalent of a base value, modulo one turn of `turn` counts, that lies nearest P (R209). -/
def nearest (base : Int) (turn : Nat) (p : Int) : Int :=
  base + turn * ((p - counts base + shl turn 31) / counts turn)

/-- The outputs of the allocation of n − 8 at the profile tick of n (R210). (log 53, DEDUCED) -/
def Block.taHandover (s : Block) (n : Nat) : Block :=
  if s.solv.taFor ≠ some (n - 8) ∨ n < 8 then s
  else
    let t := s.cfg.ta
    let vars := taVars t.acts
    let u := s.solv.u
    let s := forL t.acts.zipIdx (fun (a, i) s =>
      let x := actU vars u i
      let th := taThrust a x
      let s := if a.kind = 0 then
          if th = 0 then s
          else s.taAngle a.angle (nearest (shr ((s.rdN (R.TA_AZ i) * a.scale : Nat)) 32) a.scale (s.prf a.angle).p)
        else if a.kind = 2 then s.taAngle a.angle (shr (x.getD 0 0 * a.scale) 28) else s
      if a.kind = 2 then s
      else
        let v := (taSpeed a th).1
        s.taSpeedOut a.speed (if a.kind = 1 ∧ x.getD 0 0 < 0 then -v else v)) s
    s.modSolv (fun v => { v with taFor := none })

/-! ### Double-precision jobs (R212 to R215) -/

/-- A task of the VMF has the lanes (R212). -/
def Block.lanesTaken (s : Block) : Bool := s.vmf.busy.isSome || s.vmf.fitBusy

/-- Bytes of a STATUS word (R213). -/
def dpStatus (st reason its : Nat) : List Byte := bytesOf 4 (st + reason * 2 ^ 8 + min its 65535 * 2 ^ 16)

/-- The address of a descriptor in Solver SRAM. -/
def dpAddr (off : Nat) : Nat := 0x20000000 + off

/-- The head of the queue goes to the lanes, once no job and no task of the VMF has them (R212). -/
def Block.dpStart (s : Block) : Block × List MemOp :=
  match s.solv.job, (if s.pageEn solvPage && !s.lanesTaken then s.solv.jobs else []) with
  | none, off :: rest =>
    let s := s.modSolv (fun v => { v with job := some off, jobs := rest })
    let s := (s.wrN R.SOLV_DPJ_STAT (off / 8 + 2 ^ 17)).setF R.SOLV_STAT 5 5 rest.length
    ((s.setB R.SOLV_STAT 4 true).setB R.SOLV_STAT 3 true, [.store (dpAddr off + 4) (dpStatus 1 0 0)])
  | _, _ => (s, [])

/-- DP_JOB_SUBMIT: a write of SOLV_DPJ_SUBMIT (R213, R217). (log 53, DEDUCED) -/
def opDpJobSubmit (snd : Sender) (v : Word) (s : Block) (_mem : Mem) : Block × List MemOp :=
    let off := fld v 3 17 * 8
    if off < 0x60000 ∨ 0x100000 ≤ off then (s.refuse true R.SOLV_DPJ_SUBMIT snd .range, [])
    else if !s.bt R.SOLV_CTRL 2 || decide (16 ≤ s.solv.jobs.length) then (s.refuse true R.SOLV_DPJ_SUBMIT snd .state, [])
    else
      let s := (s.modSolv (fun x => { x with jobs := x.jobs ++ [off] })).setF R.SOLV_STAT 5 5 (s.solv.jobs.length + 1)
      let r := s.dpStart
      (r.1, .store (dpAddr off + 4) (dpStatus 0 0 0) :: r.2)

/-- Solver SRAM that neither firmware nor a job of it writes (R216): the records of the image, and the VMF's area. -/
def Block.solverOwns (s : Block) (a n : Nat) : Bool :=
  (decide (0x20000000 < a + n) && decide (a < 0x20050000))
    || (decide (0x20060000 < a + n) && decide (s.cfg.vmf.dpAt < a + n) && decide (a < s.cfg.vmf.dpAt + s.cfg.vmf.dpLen))

/-- A range that a job reads or writes: shared SRAM, wing SRAM, SDRAM or Solver SRAM. (log 53, DEDUCED) -/
def Block.dpRange (s : Block) (a n : Nat) : Bool := s.dmaOk a n || (decide (0x20000000 ≤ a) && decide (a + n ≤ 0x20100000))

/-- SIZES of a job (R213): frames, markers and observations, or n and the right-hand sides. -/
def dpSizes (mem : Mem) (a : Nat) : Nat × Nat × Nat := (mrdN mem (a + 16) 2, mrdN mem (a + 18) 2, mrdN mem (a + 20) 4)

/-- Bytes that a job reads at IN and leaves at OUT (R214, R215). (log 53, PRESUMED) -/
def dpBytes (mem : Mem) (a : Nat) : Nat × Nat :=
  let z := dpSizes mem a
  if mrdN mem a 2 = 2 then (8 * (z.1 * (z.1 + 1) / 2 + z.1 * z.2.1), 8 * (z.1 * z.2.1))
  else (64 * z.1 + 32 * z.2.1 + 32 * z.2.2, 56 * z.1 + 24 * z.2.1 + 8 + (if mrdN mem (a + 2) 2 % 2 = 1 then 48 * z.1 else 0))

/-- The memory of a job: IN and OUT lie where a job reads and writes, OUT in none of the device's own areas, and SCRATCH holds
what the job needs, in SDRAM (R213, R216). (log 53, DEDUCED) -/
def Block.dpMem (s : Block) (mem : Mem) (a : Nat) : Bool :=
  let z := dpSizes mem a
  let b := dpBytes mem a
  let need := Config.dpScratch (mrdN mem a 2) z.1 z.2.1 z.2.2
  let at_ := mrdN mem (a + 40) 5
  s.dpRange (mrdN mem (a + 24) 5) b.1 && s.dpRange (mrdN mem (a + 32) 5) b.2 && !s.solverOwns (mrdN mem (a + 32) 5) b.2
    && decide (need ≤ mrdN mem (a + 48) 4) && (need == 0 || (decide (0x100000000 ≤ at_) && decide (at_ + need ≤ s.sdramTop)))

/-- The reason with which a job fails before it computes (R213): 0 none, 1 kind, 2 size, 4 memory. -/
def Block.dpReason (s : Block) (mem : Mem) (a : Nat) : Nat :=
  let kind := mrdN mem a 2
  let z := dpSizes mem a
  if kind ≠ 1 ∧ kind ≠ 2 then 1
  else if (kind = 2 ∧ (512 < z.1 ∨ 16 < z.2.1)) ∨ (kind = 1 ∧ (64 < z.1 ∨ 4096 < z.2.1 ∨ 200000 < z.2.2)) then 2
  else if !s.dpMem mem a then 4 else 0

/-- SPD_SOLVE (R213, R214): the bytes of X, and whether a pivot was raised. A stands row by row, its right-hand sides one
after another behind it; X has their layout. (log 53, DEDUCED) -/
def spdSolve (rel : Nat) (mem : Mem) (a : Nat) : List Byte × Bool :=
  let n := mrdN mem (a + 16) 2
  let k := mrdN mem (a + 18) 2
  let inp := mrdN mem (a + 24) 5
  let el := fun (i j : Nat) => dpNum mem inp (i * (i + 1) / 2 + j)
  let f := dpLdl el (F64.mul (diagMax el n) (F64.ofInt 1 rel)) (dpNum mem (a + 8) 0) n
  let solve := fun (r : Nat) => dpSolve f ((List.range n).map (fun i => dpNum mem inp (n * (n + 1) / 2 + r * n + i)))
  (((List.range k).flatMap solve).flatMap (fun x => bytesOf 8 x.toNat), f.2.2)

/-- What a job leaves: its reason, its iterations, whether a pivot was raised, and the bytes at OUT. -/
structure DpOut where
  reason : Nat := 0
  its : Nat := 0
  raised : Bool := false
  out : List Byte := []
  deriving DecidableEq, Repr

/-- A bundle adjustment (R215): no FIXED frame is reason 3, MAX_IT iterations without an end reason 5. (log 53, DEDUCED) -/
def baRun (rel : Nat) (mem : Mem) (a : Nat) : DpOut :=
  let z := dpSizes mem a
  let inp := mrdN mem (a + 24) 5
  let e := baRead mem inp z.1 z.2.1
  let l := baObs mem inp z.1 z.2.1 z.2.2
  let lam := dpNum mem (a + 8) 0
  if !e.frames.any BaFrame.fixed then { reason := 3 }
  else
    let o := baLoop rel lam (dpNum mem (a + 56) 0) l (min (mrdN mem (a + 52) 4) 100) 0 lam e (e.cost l) false
    if !o.ok then { reason := 5, its := o.its, raised := o.raised }
    else
      let cov := if mrdN mem (a + 2) 2 % 2 = 1 then o.est.covDiag rel lam l else []
      { its := o.its, raised := o.raised, out := (o.nums cov).flatMap (fun x => bytesOf 8 x.toNat) }

/-- A job runs (R213 to R215); one whose memory fails on its way (`reason` 4) leaves `its` iterations and whether it had
raised a pivot. (log 53, DEDUCED) -/
def Block.dpRun (s : Block) (reason its : Nat) (pivot : Bool) (mem : Mem) (a : Nat) : DpOut :=
  let rel := s.fl R.SOLV_DP_PIVOT_REL 0 6
  if s.dpReason mem a ≠ 0 then { reason := s.dpReason mem a }
  else if reason = 4 then { reason := 4, its := its, raised := pivot }
  else if mrdN mem a 2 = 2 then { raised := (spdSolve rel mem a).2, out := (spdSolve rel mem a).1 }
  else baRun rel mem a

/-- DP_JOB_DONE: the running job ends, once the lanes are its own (R212): STATUS, its output, event 0x0CB (R213 to R215).
(log 53, DEDUCED) -/
def opDpJobDone (reason its : Nat) (pivot : Bool) (s : Block) (mem : Mem) : Block × List MemOp :=
  match s.solv.job with
  | none => (s, [])
  | some off =>
    if s.lanesTaken then (s, [])
    else
      let a := dpAddr off
      let o := s.dpRun reason its pivot mem a
      let s := if o.raised then s.solvFlag 12 else s
      let s := if o.reason ≠ 0 then s.solvFlag 13 else s
      let s := s.modSolv (fun v => { v with job := none })
      let s := ((s.wrN R.SOLV_DPJ_STAT 0).setB R.SOLV_STAT 4 false).setB R.SOLV_STAT 3 false
      let s := s.wrN R.SOLV_DPJ_DONE_CNT (s.rdN R.SOLV_DPJ_DONE_CNT + 1)
      let n := (s.postEv 0x0CB).dpStart
      (n.1, (if o.reason = 0 then [.store (mrdN mem (a + 32) 5) o.out] else []) ++
        [.store (a + 4) (dpStatus (if o.reason = 0 then 2 else 3) o.reason o.its)] ++ n.2)

/-! ### Memory errors (R218) -/

/-- SOLVER_ECC_ERROR: `kind` 0 in a warm-start record, 1 in a machine record, 2 elsewhere; m the machine. -/
def opSolverEcc (kind m : Nat) (uncorr : Bool) (s : Block) : Block :=
  if !uncorr then s.solvFlag 14
  else
    let s := s.solvFlag 15
    let s := if kind = 0 then s.modSolv (fun v => { v with bad := m :: v.bad.filter (· != m) })
      else if kind = 1 then
        match s.cfg.machs.find? (fun k => k.1 == m) with
        | none => s
        | some k => forL (machCarrels k.2) (fun c s => s.setPrf c { s.prf c with fault := true }) s
      else s
    s.archive 0x20 m 9 2 (s.rdN R.SOLV_ERR) 0 0

/-! ### The meanings -/

/-- A task of the VMF that leaves the lanes lets the head of the queue start (R212). -/
def lanesFree (f : Block → Block) (s : Block) (_mem : Mem) : Block × List MemOp :=
  if s.lanesTaken then (f s).dpStart else (f s, [])

def execVmfUpdateDone (s : State) : Out := ifRun (onMem (lanesFree opVmfUpdateDone)) s
def execWaveFitDone (s : State) : Out := ifRun (onMem (lanesFree opWaveFitDone)) s
def execVmfRunEnable (snd : Sender) (v : Word) (s : State) : Out :=
  onMem (busWriteM snd R.VMF_CTRL v (lanesFree (opVmfRunEnable snd v))) s
def execVmfRunDisable (snd : Sender) (v : Word) (s : State) : Out :=
  onMem (busWriteM snd R.VMF_CTRL v (lanesFree (opVmfRunDisable snd v))) s
def execVmfRealign (snd : Sender) (v : Word) (s : State) : Out :=
  onMem (busWriteM snd R.VMF_CTRL v (lanesFree (opVmfRealign snd v))) s

def execIkBatchDone (clk : Nat) (s : State) : Out := ifRun (onMem (opIkBatchDone clk)) s
def execThrustAllocationDone (clk : Nat) (s : State) : Out := ifRun (onApp (opThrustAllocationDone clk)) s
def execTaCommit (snd : Sender) (v : Word) (s : State) : Out :=
  onApp (busWrite snd R.TA_COMMIT v (fun s => if v.getLsbD 0 then opTaCommit s else s)) s
def execVariantRequest (m : PathIx) (snd : Sender) (v : Word) (s : State) : Out :=
  onApp (busWrite snd (R.SOLV_M_VAR m.val) v (opVariantRequest m.val snd v)) s
def execDpJobSubmit (snd : Sender) (v : Word) (s : State) : Out := onMem (busWriteM snd R.SOLV_DPJ_SUBMIT v (opDpJobSubmit snd v)) s
def execDpJobDone (reason : Fin 6) (its : Nat) (pivot : Bool) (_out : List Byte) (s : State) : Out :=
  ifRun (onMem (opDpJobDone reason.val its pivot)) s
def execSolverEccError (kind : Fin 3) (m : PathIx) (uncorr : Bool) (s : State) : Out :=
  ifRun (onApp (opSolverEcc kind.val m.val uncorr)) s

end Sys2Proof.Machine
end

