-- ==== Sys2Proof/Machine/Ssm.lean ====
section
/-! DEFINITION. The Separation Monitor (13_separation_monitor.md): the scene at FBD, a pass of a channel, the demand of
each machine, and the SSM page. One description serves both channels: A computes in 2^-20 m, B in 2^-16 m (R312). -/

namespace Sys2Proof.Machine

def ssmPage : Nat := 0x40220000

/-- Set a flag of SSM_ERR and the bit of IRQ_RAW at the same position (R319). -/
def Block.ssmFlag (s : Block) (i : Nat) : Block := s.flag R.SSM_ERR i ssmPage i

/-- Division rounding up. -/
def cdiv (a b : Nat) : Nat := (a + b - 1) / b

/-! ### Tracks and units (R302 to R304) -/

/-- The unit of a perception endpoint (R303). -/
def unitOf (g : SsmCfg) (ep : Nat) : Option (Nat × SUnit) := g.units.find? (fun u => u.2.ep == ep)

/-- A track item that an island channel has accepted, at a latch at Deck Time `t` (R303); true where it is discarded. -/
def trackItem (g : SsmCfg) (t ep : Nat) (x : Ssm) (it : SafeItem) : Ssm × Bool :=
  match it, unitOf g ep with
  | .track time pos vel r h sigma slot cls valid present, some (u, k) =>
    let x := { x with unitT := sset (fun _ => none) x.unitT u (some t) }
    let at_ := extTime t time
    if slot < k.lo ∨ k.hi < slot ∨ 64 ≤ slot ∨ !valid ∨ !(g.classes.any (fun c => c.1 == cls)) ∨ t < at_ then (x, true)
    else if !present then ({ x with tracks := sset (fun _ => none) x.tracks slot none }, false)
    else ({ x with tracks := sset (fun _ => none) x.tracks slot (some ⟨at_, vel, sigma, cls, pos, r, h⟩) }, false)
  | _, _ => (x, false)

/-- The items of an accepted payload. -/
def trackItems (g : SsmCfg) (t ep : Nat) (x : Ssm) (l : List SafeItem) : Ssm × Bool :=
  l.foldl (fun r it => let q := trackItem g t ep r.1 it; (q.1, r.2 || q.2)) (x, false)

/-- Whether unit u is lost at Deck Time t (R304). (log 59, DEDUCED) -/
def unitLost (x : Ssm) (t u : Nat) (k : SUnit) : Bool :=
  match sget (fun _ => none) x.unitT u with
  | none => true
  | some a => decide (k.tmo ≤ t - a)

/-- The lost units at Deck Time t, as a mask. -/
def lostMask (g : SsmCfg) (x : Ssm) (t : Nat) : Nat :=
  (g.units.map (fun (u, k) => if unitLost x t u k then 2 ^ u else 0)).sum

/-- The present tracks of a list of slots. (log 59, DEDUCED) -/
def present (m : Sparse (Option Track)) : List (Nat × Track) := m.filterMap (fun e => e.2.map (fun t => (e.1, t)))

/-- The rope length of a hung load in 2^-84 m (R300): ℓ0 in 2^-20 m, KR in 2^-52 m per count, the measured count in
2^-32. -/
def ropeLen (x : Ssm) (e : SElem) : Int :=
  e.l0 * 2 ^ 64 + (match e.rope with | none => 0 | some c => e.kr * sget (fun _ => 0) x.ropeP c)

/-! ### The scene's elements (R298 to R301) -/

/-- An element is a machine capsule up to 255, a hung load from 256 on (R298). -/
def isLoad (n : Nat) : Bool := decide (256 ≤ n)
def elemOf (g : SsmCfg) (n : Nat) : SElem := sget (fun _ => {}) g.elems n
/-- The capsule whose joint moves element n: a load's is the one that carries it (R300). -/
def baseElem (g : SsmCfg) (n : Nat) : SElem := if isLoad n then elemOf g (elemOf g n).carry else elemOf g n
/-- The machine of element n: a load belongs to that of its carrying capsule (R300). -/
def machOf (g : SsmCfg) (n : Nat) : Nat := (baseElem g n).machine

/-- The chain and tool joints of machine m. -/
def machJoints (l : List (Nat × MachCfg)) (m : Nat) : List JointCfg := match l.find? (fun k => k.1 == m) with
  | some k => k.2.joints ++ k.2.toolFk
  | none => []

/-- U(e): the carrels that move element n, the chain and tool joints up to its joint and the rope carrel of a load; with each
revolute joint its place, none for a prismatic one and a rope (R308). -/
def movers (l : List (Nat × MachCfg)) (g : SsmCfg) (n : Nat) : List (Nat × Option Nat) :=
  (match (baseElem g n).joint with
    | none => []
    | some j => ((machJoints l (machOf g n)).take (j + 1)).zipIdx.map (fun c => (c.1.carrel, if c.1.prism then none else some c.2)))
    ++ (if isLoad n then ((elemOf g n).rope.map (fun c => (c, none))).toList else [])

/-- What the newest update of the VMF handed of frame f (R310); INVALID before the first. -/
def Block.ssmFrame (s : Block) (f : Nat) : SFrame := sget (fun _ => { ok := false }) s.vmf.hand f

/-- The scene of the pass of cycle n, latched at FBD (R315): tracks, speeds, joint values, rope counts, planning frames,
and what the newest update of the VMF handed. (log 17, DEDUCED) -/
def Block.ssmLatch (s : Block) (g : SsmCfg) (x : Ssm) : Ssm :=
  let cars := (g.elems.flatMap (fun e => (movers s.cfg.machs g e.1).map Prod.fst)).dedup
  let x := { x with
    latchT := s.tb.dt, scene := present x.tracks, lost := lostMask g x s.tb.dt,
    speed := cars.foldl (fun m c => sset (fun _ => 0) m c (s.lp c).vfb.natAbs) [],
    q := s.latchedQ,
    ropeP := (g.elems.filterMap (fun (e : Nat × SElem) => e.2.rope)).foldl (fun m c => sset (fun _ => 0) m c (s.lp c).pfb) [],
    plan := s.cfg.machs.foldl (fun m (k : Nat × MachCfg) => sset (fun _ => 0) m k.1 (s.machFrame k.1)) [],
    frames := [1, 2, 4, 5, 6, 7].map (fun f => (f, s.ssmFrame f)), grav := s.vmf.grav }
  { x with rope := g.elems.any (fun e => isLoad e.1 && decide (ropeLen x e.2 < 0)) }

/-! ### Motion of an element (R307, R308) -/

/-- N_R for the largest divider d among the carrels of an element (R307). -/
def reactCount (fbd d : Nat) : Nat := cdiv (78125 + (d - 1) * 15625 - 5 * fbd) 15625

/-- The non-zero steps of a stop ramp from speed v, for at most `fuel` steps. -/
def rampStepsN (r : Ramp) : Nat → Nat → Nat
  | 0, _ => 0
  | fuel + 1, v => if stopstep r v = 0 then 0 else 1 + rampStepsN r fuel (stopstep r v)

def rampSteps (r : Ramp) (v : Nat) : Nat := if r.a1 = 0 ∨ r.a2 = 0 then 0 else rampStepsN r (v + 1) v

/-! ### The scene in V (R299 to R302, R312) -/

/-- Fractional bits of the rotations of the channel whose lengths are in 2^-fb m (R312). -/
def rotBits (fb : Nat) : Nat := if fb = 20 then 30 else 24

/-- The frames of each machine in V: its base, then its chain and tool joints. Channel A takes the Solver's link frames,
channel B computes its own (R312). -/
def sceneLinks (s : Block) (x : Ssm) (fb : Nat) : List (Nat × List IFrame) :=
  s.cfg.machs.map (fun m =>
    let base := frameOf (rotBits fb) fb m.2.base
    let l :=
      if fb = 20 then (match s.solv.links.find? (fun k => k.1 == m.1) with
        | some k => k.2.map frameA
        | none => [])
      else chainB m.2.rows 0 (idFrame 24) ((m.2.joints ++ m.2.toolFk).zip (machQ x.q m.1))
    (m.1, base :: l.map (base.comp (rotBits fb))))

/-- Frame i of machine m: 0 its base, j + 1 joint j. -/
def linkOf (rb : Nat) (l : List (Nat × List IFrame)) (m i : Nat) : IFrame := match l.find? (fun k => k.1 == m) with
  | some k => k.2.getD i (idFrame rb)
  | none => idFrame rb

/-- An endpoint of a machine capsule in V. -/
def capEnd (fb : Nat) (l : List (Nat × List IFrame)) (e : SElem) (p : List Int) : List Int :=
  (linkOf (rotBits fb) l e.machine (match e.joint with | none => 0 | some j => j + 1)).act (rotBits fb) (ptTo fb p)

/-- A machine capsule, or a hung load along the gravity direction (R299, R300), in V. -/
def elemShape (g : SsmCfg) (x : Ssm) (fb : Nat) (l : List (Nat × List IFrame)) (n : Nat) : Shape :=
  let e := elemOf g n
  if isLoad n then
    let c := baseElem g n
    let p := capEnd fb l c c.e1
    let len := rnd (max 0 (ropeLen x e) + e.h * 2 ^ 64) (84 - fb)
    .capsule p (along (rotBits fb) p (x.grav.toList.map (fun v => F64.toInt v (rotBits fb))) len)
      (lenUp fb e.rho + cdiv (len.toNat * e.sinsw) (2 ^ 30))
  else .capsule (capEnd fb l e e.e0) (capEnd fb l e e.e1) (lenUp fb e.rho)

/-- Millimetres in 2^-fb m, rounded up. -/
def mmUp (fb mm : Nat) : Nat := cdiv (mm * 2 ^ fb) 1000

/-- A track: a capsule from r above the floor point upward to max(H − r, r) (R302). -/
def trackShape (fb : Nat) (t : Track) : Shape :=
  let up := fun (mm : Nat) => addI (ptTo fb t.pos) [0, 0, -((mmUp fb mm : Nat) : Int)]
  .capsule (up t.r) (up (max (t.h - t.r) t.r)) (mmUp fb t.r)

def frameIn (x : Ssm) (f : Nat) : SFrame := match x.frames.find? (fun p => p.1 == f) with
  | some p => p.2
  | none => {}

/-- A zone in V (R301), its frame where the newest update has it. (log 17, DEDUCED) -/
def zoneShape (x : Ssm) (fb : Nat) (z : SZone) : Shape :=
  let rb := rotBits fb
  let p := (frameIn x z.frame).pose
  if z.box then .box (frameOf rb fb (p.comp z.pose)) (ptTo fb z.half)
  else
    let t := frameOf rb fb p
    .capsule (t.act rb (ptTo fb z.e0)) (t.act rb (ptTo fb z.e1)) (lenUp fb z.rho)

/-! ### Motion of the elements (R308) -/

/-- What a pass knows of an element: N_R, T_s in cycles, S_e in 2^-fb m, where it is, and its machine's planning frame. -/
structure EMot where
  nr : Nat := 0
  ns : Nat := 0
  se : Nat := 0
  shape : Shape := .capsule [0, 0, 0] [0, 0, 0] 0
  frame : Nat := 0
  deriving DecidableEq, Repr

/-- A carrel's term of S_e in 2^-fb m: K in 2^-52, the way in 2^-48 count, R_je in 2^-fb m or none for 1. -/
def moveTerm (fb k way : Nat) : Option Nat → Nat
  | none => cdiv (k * way) (2 ^ (100 - fb))
  | some r => cdiv (k * r * way) (2 ^ 100)

/-- The sum of the terms over the carrels of an element, whose reach from a joint's axis is `reach`. -/
def moveTerms (s : Block) (g : SsmCfg) (x : Ssm) (fb nr : Nat) (reach : Nat → Nat) : List (Nat × Option Nat) → EMot
  | [] => { nr := nr }
  | c :: cs =>
    let k := sget (fun _ => ({} : SCar)) g.cars c.1
    let v := sget (fun _ => 0) x.speed c.1 * 2 ^ 20 + k.amax * nr
    let r := s.stopRamp c.1
    let way := 3125 * nr * v + dist r v * 65536
    let m := moveTerms s g x fb nr reach cs
    { m with ns := max m.ns (1 + rampSteps r v), se := m.se + moveTerm fb k.k way (c.2.map reach) }

/-- Element n of the latched scene: where it is and how it moves. -/
def elemMot (s : Block) (g : SsmCfg) (x : Ssm) (fb : Nat) (l : List (Nat × List IFrame)) (n : Nat) : EMot :=
  let sh := elemShape g x fb l n
  let us := movers s.cfg.machs g n
  let nr := reactCount (s.fl R.TB_FB_DEADLINE 0 12) ((us.map (fun c => s.rateD c.1)).foldl max 1)
  { moveTerms s g x fb nr (fun j => axisReach (linkOf (rotBits fb) l (machOf g n) (j + 1)) sh) us with
    shape := sh, frame := sget (fun _ => 0) x.plan (machOf g n) }

/-- The elements of the scene, by number. -/
def elemMots (s : Block) (g : SsmCfg) (x : Ssm) (fb : Nat) : Sparse EMot :=
  let l := sceneLinks s x fb
  g.elems.foldl (fun r e => sset (fun _ => {}) r e.1 (elemMot s g x fb l e.1)) []

/-! ### Margins (R305, R306, R309 to R311) -/

/-- The margin of a pair and what it was formed from, in 2^-fb m. -/
structure Margin where
  a : Nat
  b : Nat
  machs : List Nat
  cat : Nat
  w : Nat
  d : Nat := 0
  sa : Nat := 0
  sb : Nat := 0
  c : Nat := 0
  z : Nat := 0
  sv : Nat := 0
  old : Bool := false
  bad : Bool := false
  deriving DecidableEq, Repr

def Margin.sp (m : Margin) : Nat := m.sa + m.sb + m.c + m.z + m.sv

/-- Integer square root rounded up. -/
def isqrtUp (x : Nat) : Nat := if isqrt x * isqrt x = x then isqrt x else isqrt x + 1

/-- A bound of the VMF in units of 2^-1074; what is no number stays open. -/
def boundUnits (v : F64) : Nat := if F64.isNan v || F64.isInf v then (F64.toInt v 1074).natAbs else (F64.units v).natAbs

/-- s_F of an element or zone that lies in frame f, `own` ns its reaction and stop time and `t` ns those of the pair, and
whether the frame is INVALID (R310). -/
def frameTerm (g : SsmCfg) (x : Ssm) (fb f own t : Nat) (sh : Shape) : Nat × Bool :=
  let w := frameIn x f
  if f = 0 then (0, false)
  else if !w.ok then (mmUp fb g.svInvalid, true)
  else
    let b := if g.svHorizon * 1000000 < own then sget (fun _ => (0#64, 0#64)) g.svMax f else (w.u, w.w)
    (cdiv ((boundUnits b.1 * 2 ^ fb + boundUnits b.2 * shapeReach (rotBits fb) sh) * t) (2 ^ 1074 * 1000000000), false)

/-- N_R × 15.625 µs + T_s in ns. -/
def stopNs (nr ns : Nat) : Nat := (nr + ns) * 15625
def EMot.stop (m : EMot) : Nat := stopNs m.nr m.ns

def zrOf (g : SsmCfg) (m : Nat) : Nat := sget (fun _ => 0) g.zr m

/-- A pair of two machine elements (R305, R306, R310), by the machine rule with C = 0. -/
def pairMargin (g : SsmCfg) (x : Ssm) (fb : Nat) (mots : Sparse EMot) (a b : Nat) : Margin :=
  let ma := sget (fun _ => ({} : EMot)) mots a
  let mb := sget (fun _ => ({} : EMot)) mots b
  let t := stopNs (max ma.nr mb.nr) (max ma.ns mb.ns)
  let fa := frameTerm g x fb ma.frame ma.stop t ma.shape
  let fe := frameTerm g x fb mb.frame mb.stop t mb.shape
  { a := a, b := b, machs := [machOf g a, machOf g b], cat := g.rule.cat, w := g.rule.w,
    d := shapeDist (rotBits fb) ma.shape mb.shape, sa := ma.se, sb := mb.se,
    z := mmUp fb (zrOf g (machOf g a)) + mmUp fb (zrOf g (machOf g b)), sv := fa.1 + fe.1, bad := fa.2 || fe.2 }

/-- A pair of a machine element and a zone (R301, R305, R306, R310), by the zone's rule. -/
def zoneMargin (g : SsmCfg) (x : Ssm) (fb : Nat) (mots : Sparse EMot) (e zn : Nat) (z : SZone) : Margin :=
  let ma := sget (fun _ => ({} : EMot)) mots e
  let sh := zoneShape x fb z
  let fa := frameTerm g x fb ma.frame ma.stop ma.stop ma.shape
  let fz := frameTerm g x fb z.frame ma.stop ma.stop sh
  { a := e, b := zn, machs := [machOf g e], cat := z.rule.cat, w := z.rule.w, d := shapeDist (rotBits fb) ma.shape sh,
    sa := ma.se, c := mmUp fb z.rule.c, z := mmUp fb (zrOf g (machOf g e)), sv := fa.1 + fz.1, bad := fa.2 || fz.2 }

/-- The pairs of elements of two machines that the matrix enables, then the self-pairs (R305): a load pairs with a capsule of
its own machine only where the list has the pair. -/
def machPairs (g : SsmCfg) : List (Nat × Nat) :=
  let on := fun (a b : Nat) => machOf g a != machOf g b
    && g.matrix.any (fun p => p == (machOf g a, machOf g b) || p == (machOf g b, machOf g a))
  let ns := g.elems.map Prod.fst
  ns.flatMap (fun a => (ns.filter (fun b => decide (a < b) && on a b)).map (fun b => (a, b)))
    ++ g.selfs.filter (fun p => ns.contains p.1 && ns.contains p.2 && machOf g p.1 == machOf g p.2)

/-- Elements and the zones whose mask has their machine (R301, R305). -/
def zonePairs (g : SsmCfg) : List (Nat × Nat × SZone) :=
  g.elems.flatMap (fun e => (g.zones.filter (fun z => nbit z.2.machs (machOf g e.1))).map (fun z => (e.1, z.1, z.2)))

/-- S_h in 2^-fb m (R309): the larger of the horizontal speed, by its square, and VH, over the ns of its time, rounded
up. -/
def trackReach (fb v2 vh ns : Nat) : Nat := isqrtUp (cdiv (max v2 (vh ^ 2) * (ns * 2 ^ fb) ^ 2) (1000000000000 ^ 2))

/-- A pair of a machine element and a present track (R303, R305, R309). -/
def trackMargin (g : SsmCfg) (x : Ssm) (fb : Nat) (mots : Sparse EMot) (e slot : Nat) (t : Track) (k : SClass) : Margin :=
  let ma := sget (fun _ => ({} : EMot)) mots e
  let fa := frameTerm g x fb ma.frame ma.stop ma.stop ma.shape
  let age := x.latchT - t.time
  { a := e, b := 272 + slot, machs := [machOf g e], cat := k.cat, w := k.w,
    d := shapeDist (rotBits fb) ma.shape (trackShape fb t), sa := ma.se,
    sb := trackReach fb ((t.vel.getD 0 0).natAbs ^ 2 + (t.vel.getD 1 0).natAbs ^ 2) k.vh (age + ma.stop),
    c := mmUp fb k.c, z := mmUp fb (zrOf g (machOf g e)) + mmUp fb (k.kSigma * t.sigma), sv := fa.1,
    old := decide (g.ageMax * 1000000 < age), bad := fa.2 }

/-- Element and track, for each class and the machines of its mask. -/
def trackPairs (g : SsmCfg) (x : Ssm) : List (Nat × Nat × Track × SClass) :=
  (x.scene.map (fun (slot, t) =>
    match g.classes.find? (fun c => c.1 == t.cls) with
    | none => []
    | some (_, k) => (g.elems.filter (fun e => nbit k.machs (machOf g e.1))).map (fun e => (e.1, slot, t, k)))).flatten

/-- The slots that the image gives a unit (R303). -/
def slotsUsed (g : SsmCfg) : Nat := ((List.range 64).filter (fun n => g.units.any (fun u => decide (u.2.lo ≤ n) && decide (n ≤ u.2.hi)))).length

/-- The pairs that the image enables (R305): those with tracks for each of the slots. -/
def pairCount (g : SsmCfg) : Nat :=
  (machPairs g).length + (zonePairs g).length
    + slotsUsed g * (g.elems.filter (fun e => g.classes.any (fun k => nbit k.2.machs (machOf g e.1)))).length

/-- SSM_SCENE (R320): capsules, loads, zones and track slots. -/
def sceneWord (g : SsmCfg) : Nat :=
  (g.elems.filter (fun e => !isLoad e.1)).length % 2 ^ 9 + (g.elems.filter (fun e => isLoad e.1)).length % 2 ^ 5 * 2 ^ 9
    + g.zones.length % 2 ^ 6 * 2 ^ 14 + slotsUsed g % 2 ^ 7 * 2 ^ 20

/-- The margins of every enabled pair of the scene. (log 59, DEDUCED) -/
def allMargins (s : Block) (g : SsmCfg) (x : Ssm) (fb : Nat) : List Margin :=
  let mots := elemMots s g x fb
  (machPairs g).map (fun p => pairMargin g x fb mots p.1 p.2) ++ (zonePairs g).map (fun q => zoneMargin g x fb mots q.1 q.2.1 q.2.2)
    ++ (trackPairs g x).map (fun q => trackMargin g x fb mots q.1 q.2.1 q.2.2.1 q.2.2.2)

/-- μ of a pair in 2^-fb m. -/
def Margin.mu (m : Margin) : Int := (m.d : Int) - m.sp

/-- μ in mm, rounded towards minus infinity and saturated to ± CAP (R303, R311). -/
def Margin.mm (g : SsmCfg) (fb : Nat) (m : Margin) : Int :=
  if m.old then -(g.cap : Int) else clamp (m.mu * 1000 / 2 ^ fb) (-(g.cap : Int)) g.cap

/-- The demand of a pair (R316): 0 NONE, 1 REDUCE, 2 STOP2, 3 STOP1. -/
def Margin.dem (fb : Nat) (m : Margin) : Nat :=
  if m.old ∨ m.mu ≤ 0 then (if m.cat = 2 then 2 else 3)
  else if m.mu * 1000 ≤ m.w * 2 ^ fb then 1 else 0

/-- μ for the comparison of margins, in mm · 2^fb: −CAP for a pair whose track is too old (R303). -/
def Margin.key (g : SsmCfg) (fb : Nat) (m : Margin) : Int := if m.old then -((g.cap : Int) * 2 ^ fb) else m.mu * 1000

/-- The pair with the smallest margin of machine m, the first of equals (R313). -/
def smallest (g : SsmCfg) (fb mach : Nat) (l : List Margin) : Option Margin :=
  (l.filter (fun x => x.machs.contains mach)).foldl
    (fun b x => match b with
      | none => some x
      | some y => if x.key g fb < y.key g fb then some x else some y) none

/-- The demand of a lost unit's loss action: 1 REDUCE, 2 STOP2, 3 STOP1. -/
def lossDem (g : SsmCfg) (lost mach : Nat) : Nat :=
  (g.units.map (fun (u, k) => if nbit lost u && nbit k.machs mach then k.loss else 0)).foldl max 0

/-- A machine's demand in force after a pass whose raw demand is `raw` (R316). -/
def releaseStep (g : SsmCfg) (x : MDem) (raw : Nat) : MDem :=
  if x.dem ≤ raw then { x with dem := raw, cnt := 0, worst := 0 }
  else if g.release ≤ x.cnt + 1 then { x with dem := max x.worst raw, cnt := 0, worst := 0 }
  else { x with cnt := x.cnt + 1, worst := max x.worst raw }

/-- What a channel reports of a machine after a pass. -/
def machDem (g : SsmCfg) (x : Ssm) (fb mach : Nat) (l : List Margin) : MDem :=
  let mine := l.filter (fun q => q.machs.contains mach)
  let raw := (mine.map (Margin.dem fb)).foldl max (lossDem g x.lost mach)
  let y := releaseStep g (sget (fun _ => {}) x.dems mach) raw
  match smallest g fb mach l with
  | none => { y with margin := g.cap, pair := none }
  | some q => { y with margin := q.mm g fb, pair := some (q.a, q.b) }

/-- The end of a channel's pass: the demands of every machine, and the margins. -/
def ssmPass (s : Block) (g : SsmCfg) (x : Ssm) (fb : Nat) : Ssm × List Margin :=
  let r := allMargins s g x fb
  let x2 := g.machs.foldl
    (fun y m => { y with dems := sset (fun _ => {}) y.dems m (machDem g x fb m r) }) x
  ({ x2 with done := x.busy, busy := none }, r)

/-! ### The registers of a pass (R320, R349) -/

/-- SSM_M_DEM of a machine. -/
def demWord (d : MDem) : Nat :=
  d.dem + (if d.cnt = 0 then 0 else 4) + (d.cnt % 256) * 8 + lowBits 16 d.margin * 2 ^ 16

/-- SSM_M_PAIR of a machine. -/
def pairWord (d : MDem) : Nat :=
  match d.pair with
  | none => 0
  | some (a, b) => a % 512 + b % 512 * 2 ^ 9 + 2 ^ 18

/-- The error flags that a pass sets: TRACK_OLD, FRAME_INVALID, ROPE_CLAMP, UNIT_LOST (R319). -/
def passErr (g : SsmCfg) (x : Ssm) (l : List Margin) : List Nat :=
  (if (x.scene.any (fun t => decide (g.ageMax * 1000000 < x.latchT - t.2.time))) then [3] else [])
    ++ (if l.any (fun m => m.bad) then [4] else []) ++ (if x.rope then [5] else [])
    ++ (if x.lost = 0 then [] else [1])

/-- The frames flagged INVALID at the latch, as SSM_FRAME shows them. -/
def badFrames (x : Ssm) : Nat :=
  ((List.range 6).map (fun i => if (frameIn x (if i < 2 then i + 1 else i + 2)).ok then 0 else 2 ^ i)).sum

/-- A length in 2^-20 m as a signed 32-bit number, saturating. -/
def diagLen (x : Int) : Int := sat x 32

/-- The break-down of the limiting pair of the machine that SSM_DIAG_SEL names. -/
def Block.ssmDiag (s : Block) (g : SsmCfg) (l : List Margin) : Block :=
  match smallest g 20 (s.fl R.SSM_DIAG_SEL 0 4) l with
  | none => s
  | some q =>
    let s := ((s.wrI R.SSM_DIAG_D (diagLen q.d)).wrI R.SSM_DIAG_SA (diagLen q.sa)).wrI R.SSM_DIAG_SB (diagLen q.sb)
    let s := ((s.wrI R.SSM_DIAG_C (diagLen q.c)).wrI R.SSM_DIAG_Z (diagLen q.z)).wrI R.SSM_DIAG_SV (diagLen q.sv)
    s.wrI R.SSM_DIAG_SP (diagLen q.sp)

/-- The SSM page after a pass of `clk` WING clocks. -/
def Block.ssmShow (s : Block) (g : SsmCfg) (clk : Nat) (l : List Margin) : Block :=
  let x := s.ssmA
  let s := s.wrN R.SSM_PASS_CNT (s.rdN R.SSM_PASS_CNT + 1)
  let c := min clk 0xFFFF
  let s := (s.setF R.SSM_PASS_CLK 0 16 c).setF R.SSM_PASS_MAX 0 16 (max c (s.fl R.SSM_PASS_MAX 0 16))
  let mask := (x.scene.map (fun t => 2 ^ t.1)).sum
  let s := (s.wrN R.SSM_TRACK_LO mask).wrN R.SSM_TRACK_HI (mask / 2 ^ 32)
  let s := (s.setF R.SSM_UNIT 0 8 x.lost).wrN R.SSM_FRAME (badFrames x)
  let s := forL g.machs (fun m s =>
    (s.wrN (R.SSM_M_DEM m) (demWord (sget (fun _ => {}) x.dems m))).wrN (R.SSM_M_PAIR m)
      (pairWord (sget (fun _ => {}) x.dems m))) s
  let s := forL (passErr g x l) (fun i s => s.ssmFlag i) s
  s.ssmDiag g l

/-- SSM_PASS_DONE_A: the pass of channel A ends after `clk` WING clocks; `ecc` is 1 for a corrected and 2 for an
uncorrectable error in its scene memory (R315, R319). -/
def opSsmPassDoneA (clk ecc : Nat) (s : Block) : Block :=
  match s.ssmA.busy with
  | none => s
  | some _ =>
    let g := s.cfg.safe.ssm
    let s := s.setB R.SSM_STAT 1 false
    let s := if ecc = 1 then s.ssmFlag 6 else s
    if ecc = 2 then
      let s := { s with ssmA := { s.ssmA with busy := none } }
      let s := s.ssmFlag 7
      s.archive 0x22 0 10 2 (s.rdN R.SSM_ERR) 0 0
    else
      let r := ssmPass s g s.ssmA 20
      let s := { s with ssmA := r.1 }
      ((s.ssmShow g clk r.2).setB R.SSM_STAT 2 true).postEv 0x0CC

/-- Monitor A starts when the Solver's forward kinematics of cycle n ends (R315). -/
def Block.ssmStartA (s : Block) (n : Nat) : Block :=
  if s.bt R.SSM_STAT 0 then ({ s with ssmA := { s.ssmA with busy := some n } } : Block).setB R.SSM_STAT 1 true else s

/-- A channel's monitor when a unit is found lost (R304): its loss action acts on the demands in force. -/
def unitLostIn (g : SsmCfg) (x : Ssm) (u : Nat) (k : SUnit) : Ssm :=
  (g.machs.filter (fun m => nbit k.machs m)).foldl
    (fun y m =>
      let d := sget (fun _ => ({} : MDem)) y.dems m
      { y with dems := sset (fun _ => {}) y.dems m { d with dem := max d.dem k.loss } })
    { x with lost := if nbit x.lost u then x.lost else x.lost + 2 ^ u }

/-! ### The meanings -/

/-- SOLVER_FK_DONE (R194, R315): the link frames are handed to monitor A, which starts its pass. -/
def opFkDone (clk : Nat) (s : Block) (mem : Mem) : Block × List MemOp :=
  match s.solv.fk with
  | none => (s, [])
  | some n => ((opSolverFkDone clk s mem).ssmStartA n, [])

def execSolverFkDone (s : State) (clk : Nat := 0) : Out := ifRun (onMem (opFkDone clk)) s
def execSsmPassDoneA (clk : Nat) (ecc : Fin 3) (s : State) : Out := ifRun (onApp (opSsmPassDoneA clk ecc.val)) s

end Sys2Proof.Machine
end

