-- ==== Sys2Proof/Machine/Island.lean ====
section
/-! DEFINITION. The Safety Island (14_safety_island.md). Both channels decide alike here: what could make them differ
is a fault of the hardware, and comes as an operand or as a command of its own. -/

namespace Sys2Proof.Machine

/-! ### Registers of the SAFE pages -/

def Island.rd (i : Island) (a : Nat) : Word := sget regDefault i.regs a
def Island.wr (i : Island) (a : Nat) (v : Word) : Island := { i with regs := sset regDefault i.regs a v }
def Island.rdN (i : Island) (a : Nat) : Nat := (i.rd a).toNat
def Island.wrN (i : Island) (a n : Nat) : Island := i.wr a (BitVec.ofNat 32 n)
def Island.fl (i : Island) (a lo len : Nat) : Nat := fld (i.rd a) lo len
def Island.setF (i : Island) (a lo len v : Nat) : Island := i.wr a (setFld (i.rd a) lo len v)
def Island.bt (i : Island) (a k : Nat) : Bool := (i.rd a).getLsbD k
def Island.setB (i : Island) (a k : Nat) (b : Bool) : Island := i.wr a (setBit (i.rd a) k b)

/-- A change made in the pages of both channels. -/
def Island.both (f : Nat → Island → Island) (i : Island) : Island := f 1 (f 0 i)

/-- SAFE_CH_STATE.STATE (R324): 0 START, 1 HOLD, 2 RUN, 3 LOCKOUT. -/
def Island.st (i : Island) : Nat := i.fl (R.SAFE_CH_STATE 0) 0 3
def Island.setSt (i : Island) (v : Nat) : Island := i.both (fun ch i => i.setF (R.SAFE_CH_STATE ch) 0 3 v)

/-- Set bit k of SAFE_CH_EVT (R347). -/
def Island.evt (i : Island) (k : Nat) : Island := i.both (fun ch i => i.setB (R.SAFE_CH_EVT ch) k true)

/-- HOLD or RUN: the island answers messages and forms demands (R325). -/
def Island.alive (i : Island) : Bool := !i.held && (i.st == 1 || i.st == 2)

def Island.isDecider (i : Island) : Bool := i.role == 1 || i.role == 3

/-- A meaning of the Safety Island: it acts whatever the state of the application side (R321, R325). -/
def onIsl (f : Block → Island → Block × Island) (s : State) : Out :=
  .next { s with blk := (f s.blk s.isl).1, isl := (f s.blk s.isl).2 }

/-- A meaning of the application side, the Safety Island and the addressed memories. -/
def onAll (f : Block → Island → Mem → (Block × Island) × List MemOp) (s : State) : Out :=
  .next { s with blk := (f s.blk s.isl s.mem).1.1, isl := (f s.blk s.isl s.mem).1.2, mem := mapply s.mem (f s.blk s.isl s.mem).2 }

/-! ### Axes and machines -/

def Island.ax (i : Island) (j : Nat) : SAxis := sget (fun _ => {}) i.axes j
def Island.setAx (i : Island) (j : Nat) (x : SAxis) : Island := { i with axes := sset (fun _ => {}) i.axes j x }
def Island.axc (i : Island) (j : Nat) : AxisCfg := sget (fun _ => {}) i.cfg.axes j
def Island.axIds (i : Island) : List Nat := i.cfg.axes.map Prod.fst
def Island.mc (i : Island) (m : Nat) : SMach := sget (fun _ => {}) i.mach m
def Island.setMc (i : Island) (m : Nat) (x : SMach) : Island := { i with mach := sset (fun _ => {}) i.mach m x }
def Island.machIds (i : Island) : List Nat := i.cfg.machs.map Prod.fst
def Island.con (i : Island) (k : Nat) : SConn := sget (fun _ => {}) i.conns k
def Island.setCon (i : Island) (k : Nat) (x : SConn) : Island := { i with conns := sset (fun _ => {}) i.conns k x }
def Island.sin (i : Island) (k : Nat) : SIn := sget (fun _ => {}) i.sins k
def Island.setSin (i : Island) (k : Nat) (x : SIn) : Island := { i with sins := sset (fun _ => {}) i.sins k x }

/-- A change for each element of a list, in order. -/
def islL {α : Type} (l : List α) (f : α → Island → Island) (i : Island) : Island := l.foldl (fun i a => f a i) i

/-- SAFE_CH_AXIS of axis j, one of 24 (R347). -/
def Island.showAx (i : Island) (j : Nat) : Island :=
  let x := i.ax j
  let b := fun (v : Bool) k => if v then 2 ^ k else 0
  if j < 24 then
    i.both (fun ch i => i.wrN (R.SAFE_CH_AXIS ch j)
      (x.func + b x.atRest 3 + b x.viol 4 + b x.measDis 5 + (i.axc j).group * 2 ^ 8 + min x.k 65535 * 2 ^ 16))
  else i

/-! ### Outputs (R340 to R342) -/

/-- The STO groups that are on. -/
def Island.stoOn (i : Island) : Nat := i.fl R.SAFE_STO_OUT 0 8

/-- Drive the STO outputs of both channels; the readback follows them (assumption 18). (log 18, DESIGN CHOICE) -/
def Island.setSto (i : Island) (mask : Nat) : Island :=
  let i := (i.wrN R.SAFE_STO_OUT (mask % 256 * 257)).wrN R.SAFE_STO_FB (mask % 256 * 257)
  i.both (fun ch i => i.setF (R.SAFE_CH_OUT ch) 0 8 mask)

/-- The contactors that are on, and driving them; the mirror contacts follow (assumption 18). -/
def Island.kOn (i : Island) : Nat := i.fl R.SAFE_KOUT 0 4
def Island.setK (i : Island) (mask : Nat) : Island :=
  let m := mask % 16
  let i := i.wrN R.SAFE_KOUT (m + m * 16 + (15 - m) * 256)
  i.both (fun ch i => i.setF (R.SAFE_CH_OUT ch) 8 4 mask)

/-- The groups released by RELEASE requests. -/
def Island.released (i : Island) : Nat := i.fl (R.SAFE_CH_OUT 0) 12 8
def Island.setReleased (i : Island) (mask : Nat) : Island := i.both (fun ch i => i.setF (R.SAFE_CH_OUT ch) 12 8 mask)

/-- An axis in STO. -/
def SAxis.sto (x : SAxis) : SAxis :=
  { x with func := 4, stoNext := false, sosNext := false, envNew := false, rest := 0, slsCnt := 0, k := 0, env := 0 }

/-- Groups of a mask that are on go off: an off-pulse of theirs in progress is still to end (R341). -/
def Island.noteOff (i : Island) (mask : Nat) : Island := { i with justOff := i.justOff ||| (i.stoOn &&& mask) }

/-- Switch a group off: STO of each of its axes, and its release ends (R335, assumption 19). (log 19, DEDUCED) -/
def Island.groupOff (i : Island) (g : Nat) : Island :=
  let i := i.noteOff (2 ^ g)
  let i := (i.setSto (i.stoOn &&& (255 ^^^ 2 ^ g))).setReleased (i.released &&& (255 ^^^ 2 ^ g))
  islL (i.axIds.filter (fun j => (i.axc j).group == g)) (fun j i => (i.setAx j (i.ax j).sto).showAx j) i

/-- All STO and KOUT outputs off. -/
def Island.allOff (i : Island) : Island :=
  let i := i.noteOff 255
  let i := (i.setSto 0).setReleased 0
  let i := if i.kOn = 0 then i else i.setK 0
  islL i.axIds (fun j i => (i.setAx j (i.ax j).sto).showAx j) i

/-! ### Internal faults (R345) -/

/-- The record of an internal fault: its CODE is the fault's (R345, R498). -/
def Block.safeRecord (s : Block) (code : Nat) : Block :=
  Block.useFree (s.offerRec
    { source := 0x60, index := 0, code := code, cls := 3, dt := s.tb.dt, poh := s.rdN R.SEC_POH, w5 := s.eaWord5,
      err := code, info := 0, addr := 0, args := [], safe := true })

/-- An internal fault in any state: every output off, LOCKOUT, LAST_FAULT and a record (R324, R345). -/
def islFault (code : Nat) (b : Block) (i : Island) : Block × Island :=
  if i.held then (b, i)
  else (b.safeRecord code, (i.allOff.setSt 3).both (fun ch i => i.setF (R.SAFE_CH_STATE ch) 8 8 code))

/-! ### Safe inputs (R331) -/

def Island.inCfg (i : Island) (n : Nat) : SInCfg := sget (fun _ => {}) i.cfg.ins n

/-- Whether a channel shows the demanding level of input n: the inactive one (assumption 20). (log 20, DEDUCED) -/
def Island.demA (i : Island) (n : Nat) : Bool := !i.bt R.SAFE_SIN_A n
def Island.demB (i : Island) (n : Nat) : Bool := if (i.inCfg n).antiv then i.bt R.SAFE_SIN_B n else !i.bt R.SAFE_SIN_B n

/-- SAFE_INPUT_CHANGE: a filtered level changes; a discrepancy ends when both channels show the demanding level. -/
def islInput (n : Nat) (chB level : Bool) (b : Block) (i : Island) : Block × Island :=
  if i.held then (b, i)
  else
    let i := i.setB (if chB then R.SAFE_SIN_B else R.SAFE_SIN_A) n level
    if i.demA n && i.demB n then
      (b, (i.setSin n { i.sin n with disc := false }).setB R.SAFE_SIN_STATE (16 + n) false)
    else (b, i)

/-- SAFE_INPUT_DISCREPANCY: the channels of input n have disagreed for longer than DISC. -/
def islDiscrepancy (n : Nat) (b : Block) (i : Island) : Block × Island :=
  if i.held || i.demA n == i.demB n then (b, i)
  else (b, ((i.setSin n { i.sin n with disc := true, dem := true }).setB R.SAFE_SIN_STATE (16 + n) true).evt 4)

/-- The inputs as latched at tick 0. -/
def Island.latchInputs (i : Island) : Island :=
  islL (List.range 16) (fun n i =>
    let x := i.sin n
    let d := if i.demA n || i.demB n then true else x.disc
    (i.setSin n { x with dem := d, latched := x.latched || (d && (i.inCfg n).latched) }).setB R.SAFE_SIN_STATE n d) i

/-- Input n asks for its action: it demands, or its LATCHED action is kept. -/
def Island.asks (i : Island) (n : Nat) : Bool := (i.sin n).dem || (i.sin n).latched

/-- The strongest action on target t (machine of a decider, axis of a supervisor) of the inputs of which `p` holds:
0 NONE, 1 SLS, 2 SS2, 3 SS1, 4 STO. -/
def Island.inputDemBy (i : Island) (p : Nat → Bool) (t : Nat) : Nat :=
  (i.cfg.ins.map (fun (n, c) => if p n && nbit c.mask t then c.action else 0)).foldl max 0
def Island.inputDem (i : Island) (t : Nat) : Nat := i.inputDemBy i.asks t

/-- The same with the levels of this moment, which tick 0 still has to latch. -/
def Island.inputNow (i : Island) (t : Nat) : Nat := i.inputDemBy (fun n => i.asks n || i.demA n || i.demB n) t

/-! ### Connections (R332 to R334) -/

/-- Bit k of SAFE_CH_CONN: connection k is lost. -/
def Island.lost (i : Island) (k : Nat) : Bool := i.bt (R.SAFE_CH_CONN 0) k
def Island.setLost (i : Island) (k : Nat) (b : Bool) : Island := i.both (fun ch i => i.setB (R.SAFE_CH_CONN ch) k b)

/-- The bytes of an item (R302, R332). -/
def itemBytes : SafeItem → List Byte
  | .track time pos vel r h sigma slot cls valid present =>
    leBytes 4 time ++ pos.flatMap (fun x => leBytes 4 (lowBits 32 x)) ++ vel.flatMap (fun x => leBytes 2 (lowBits 16 x))
      ++ leBytes 2 r ++ leBytes 2 h ++ leBytes 2 sigma ++ leBytes 1 slot ++ leBytes 1 cls
      ++ leBytes 2 ((if valid then 1 else 0) + (if present then 2 else 0))
  | .command dst axis func limit => leBytes 2 dst ++ leBytes 1 axis ++ leBytes 1 func ++ leBytes 4 limit ++ leBytes 8 0
  | .status axis func flags kfb vel count =>
    leBytes 1 axis ++ leBytes 1 func ++ leBytes 1 flags ++ leBytes 1 kfb ++ leBytes 4 vel ++ leBytes 4 count ++ leBytes 4 0

/-- The bytes of a payload before its safety check, and the check of them (R332). -/
def payBody (p : SafePayload) : List Byte :=
  leBytes 2 (p.src + p.kind * 2 ^ 12) ++ leBytes 2 p.seq ++ leBytes 2 p.items.length ++ leBytes 2 0 ++ p.items.flatMap itemBytes
def payCrc (p : SafePayload) : Nat := safeCheck (payBody p)

/-- The payload passes the safety check. -/
def payPasses (p : SafePayload) : Bool := match p.check with
  | none => p.checkOk
  | some c => p.checkOk && c == payCrc p

/-- SAFETY_FRAME_RX: a channel's copy of a payload is checked (R333): channel A takes X and B takes Y; `ok` says that its
Synzon CRC holds. While no payload of a connection was accepted yet, any sequence is taken: R333 gives no first one.
(log 64, DEDUCED) -/
def Island.safeCopy (i : Island) (chA ok : Bool) (p : SafePayload) : Island :=
  if i.held then i
  else match i.cfg.conns.find? (fun c => c.2.src == p.src && c.2.kind == p.kind) with
    | none => if chA then { i with strayA := i.strayA + 1 } else { i with strayB := i.strayB + 1 }
    | some (k, _) =>
      let x := i.con k
      let ahead := match x.last with
        | none => 1
        | some l => (p.seq + 65536 - l % 65536) % 65536
      if !ok || !payPasses p || 8 < ahead then i.setCon k { x with bad := true }
      else if ahead = 0 then i
      else if chA then i.setCon k { x with copyA := some p } else i.setCon k { x with copyB := some p }

/-- A copy that misses the latch of its cycle waits for the next (R44). -/
def Island.safeRx (i : Island) (late chA ok : Bool) (p : SafePayload) : Island :=
  if late then (if i.held then i else { i with lateCopies := i.lateCopies ++ [(chA, ok, p)] }) else i.safeCopy chA ok p

/-- The copies that waited come up at tick 0. -/
def Island.takeLate (i : Island) : Island :=
  islL i.lateCopies (fun x i => i.safeCopy x.1 x.2.1 x.2.2) { i with lateCopies := [] }

/-- SAFE_CH_CONN_ERR counts payloads that were not accepted (R333). -/
def Island.connErr (i : Island) (n : Nat) : Island :=
  i.both (fun ch i => i.setF (R.SAFE_CH_CONN_ERR ch) 0 16 (satAdd (i.fl (R.SAFE_CH_CONN_ERR ch) 0 16) n 0xFFFF))

/-- A stop demand comes up (R344). -/
def Island.stopNow (i : Island) : Island := { i with newStop := true }

/-- STOP0 of machine m until a RELEASE (R337, R339). -/
def Island.stop0 (m : Nat) (i : Island) : Island := (i.setMc m { i.mc m with stop0 := true }).stopNow

/-- The axes whose status items say VIOL. -/
def violAxes (items : List SafeItem) : List Nat := items.filterMap (fun it => match it with
  | .status axis _ flags _ _ _ => if axis ≠ 0xFF ∧ nbit flags 1 = true then some axis else none
  | _ => none)

/-- The machines of the axes that newly say VIOL (R337). (log 63, DEDUCED) -/
def violMachs (c : ConnCfg) (old new : List SafeItem) : List Nat :=
  (c.axes.filter (fun a => (violAxes new).contains a.1 && !(violAxes old).contains a.1)).map (fun a => a.2.1)

/-- The latch of one connection: FBD on a decider, APD on a node (R329, R330, R333). (log 64, DEDUCED) -/
def latchConn (k : Nat) (c : ConnCfg) (b : Block) (i : Island) : Block × Island :=
  let x := i.con k
  let base := { x with copyA := none, copyB := none, bad := false }
  let ok := !x.bad && x.copyA.isSome && x.copyA.map payBody == x.copyB.map payBody
  if ok then
    let p := x.copyA.getD { src := 0, kind := 0, seq := 0 }
    let i := (i.setCon k { base with last := some p.seq, items := p.items, misses := 0 }).setLost k false
    if c.kind = 1 then
      let t := b.tb.dt
      let ra := trackItems b.cfg.safe.ssm t c.src b.ssmA p.items
      let rb := trackItems i.cfg.ssm t c.src i.ssmB p.items
      let b := { b with ssmA := ra.1 }
      let i := { i with ssmB := rb.1 }
      (if ra.2 then b.ssmFlag 2 else b, if rb.2 then i.setB R.SAFE_SSMB_ERR 2 true else i)
    else (b, islL (if c.kind = 3 then violMachs c x.items p.items else []) Island.stop0 i)
  else
    let any := x.bad || x.copyA.isSome || x.copyB.isSome
    let i := i.setCon k { base with misses := min (x.misses + 1) 255 }
    (b, if any then i.connErr 1 else i)

/-- Payloads of connections that no one configured were not accepted either: one for the copies of both channels (R333). -/
def Island.countStray (i : Island) : Island :=
  let n := max i.strayA i.strayB
  if n = 0 then i else ({ i with strayA := 0, strayB := 0 } : Island).connErr n

/-- The latch of every connection. -/
def islLatchItems (b : Block) (i : Island) : Block × Island :=
  if !i.alive then (b, i) else i.cfg.conns.foldl (fun r c => latchConn c.1 c.2 r.1 r.2) (b, i.countStray)

/-- SAFETY_CONNECTION_LOST: SF_TMO latches without an accepted payload (R334); its loss action acts while it is lost. -/
def islConnLost (k : Nat) (b : Block) (i : Island) : Block × Island :=
  match i.cfg.conns.find? (fun c => c.1 == k) with
  | none => (b, i)
  | some (_, c) => if i.alive && decide (c.tmo ≤ (i.con k).misses) && !i.lost k then (b, (i.setLost k true).evt 5) else (b, i)

/-! ### Machine demands of a decider (R328, R337, R339) -/

/-- The loss actions of lost connections, other than perception units', on machine m. -/
def Island.lossDem (i : Island) (m : Nat) : Nat :=
  (i.cfg.conns.map (fun (k, c) => if c.kind != 1 && i.lost k && nbit c.mask m then c.loss else 0)).foldl max 0

/-- What the status items of connection k demand of machine m: its remote inputs. -/
def statusDem (c : ConnCfg) (items : List SafeItem) (m : Nat) : Nat :=
  (items.map (fun it => match it with
    | .status 0xFF _ _ _ vel _ =>
      (c.inputs.map (fun (n, dem, machs) => if !nbit vel n && nbit machs m then dem else 0)).foldl max 0
    | _ => 0)).foldl max 0

def Island.remoteDem (i : Island) (m : Nat) : Nat :=
  (i.cfg.conns.map (fun (k, c) => if c.kind = 3 ∧ i.lost k = false then statusDem c (i.con k).items m else 0)).foldl max 0

/-- The sources of machine m's demand: monitor, inputs, connections, firmware. (log 61, DEDUCED) -/
def Island.demSrc (i : Island) (m : Nat) : List Nat :=
  let x := i.mc m
  [x.mon, max (i.inputDem m) (i.remoteDem m), i.lossDem m, max (max x.fwStop (if x.fwSls = 0 then 0 else 1)) (if x.stop0 then 4 else 0)]

/-- The demand of machine m in force (R328), and SAFE_CH_MDEM: the sources shown are those that ask for it. (log 61, DEDUCED) -/
def Island.formMach (i : Island) (m : Nat) : Island :=
  let x := i.mc m
  let src := i.demSrc m
  let d := src.foldl max 0
  let bits := ((src.zipIdx).map (fun (v, k) => if v = d ∧ d ≠ 0 then 2 ^ k else 0)).sum
  let lims := (if x.mon = 1 ∨ i.inputDem m = 1 ∨ i.remoteDem m = 1 ∨ i.lossDem m = 1 then 1 else 0)
    ||| (if x.fwSls = 0 then 0 else 2 ^ (x.fwSls - 1))
  let i := i.setMc m { x with dem := d, src := bits, lim := lims }
  if m < 16 then i.both (fun ch i => i.wrN (R.SAFE_CH_MDEM ch m) (d + bits * 8)) else i

/-- The SLS limit of a carrel of a machine: the lowest of those asked for. (log 61, DEDUCED) -/
def limOf (lims : List Nat) (mask : Nat) : Nat :=
  ((lims.zipIdx).filterMap (fun (v, k) => if nbit mask k then some v else none)).foldl min 0xFFFFFFFF

/-! ### Functions of an axis (R330, R335, R337, R338) -/

/-- STOP0 ... SLS as the function of a supervisor (R335). (log 61, DEDUCED) -/
def demFunc (d : Nat) : Nat := d

/-- A connection to decider d, if the image has one. -/
def Island.deciderConn (i : Island) (d : Nat) : Option Nat :=
  (i.cfg.conns.find? (fun c => c.2.kind == 2 && c.2.decider == d)).map Prod.fst

/-- Decider d has a connection that is not lost. -/
def Island.deciderAlive (i : Island) (d : Nat) : Bool := match i.deciderConn d with
  | none => false
  | some k => !i.lost k

/-- The demands on axis j: function and SLS limit (R330). A decider with LOCAL axes is the first of their deciders, the one
whose command items it takes the second. (log 39, DEDUCED) -/
def Island.axDemands (i : Island) (j : Nat) : List (Nat × Nat) :=
  let x := i.ax j
  let c := i.axc j
  let o := fun (v : Option (Nat × Nat)) => match v with
    | none => []
    | some p => [p]
  let dec := if i.isDecider then o x.cmd0 ++ (if i.cfg.conns.any (fun k => k.2.kind == 2 && !i.lost k.1) then o x.cmd1 else [])
    else if (i.deciderConn 0).isSome || (i.deciderConn 1).isSome then
      if i.deciderAlive 0 || i.deciderAlive 1 then
        (if i.deciderAlive 0 then o x.cmd0 else []) ++ (if i.deciderAlive 1 then o x.cmd1 else [])
      else [(i.cfg.deciderLoss, 0)]
    else []
  let inp := if i.isDecider then 0 else i.inputDem j
  dec ++ [(inp, c.limits.getD 0 0), (x.fwStop, 0)]
    ++ (if x.fwSls = 0 then [] else [(1, c.limits.getD (x.fwSls - 1) 0)]) ++ (if x.react then [(3, 0)] else [])

/-- The function that axis j is asked for, and the lowest SLS limit among its SLS demands. -/
def Island.wantAx (i : Island) (j : Nat) : Nat × Nat :=
  let l := i.axDemands j
  ((l.map Prod.fst).foldl max 0, ((l.filter (fun p => p.1 == 1)).map Prod.snd).foldl min 0xFFFFFFFF)

/-- A function comes into force on an axis in this cycle. -/
def SAxis.begin (x : SAxis) (f lim : Nat) : SAxis :=
  { x with func := f, limit := lim, envNew := f != 0, k := 0, env := 0, rest := 0, slsCnt := 0, sosNext := false }

/-- The function of an axis that is not in STO, for the strength comparison: SOS is the end of SS2. -/
def SAxis.strength (x : SAxis) : Nat := if x.func = 5 then 2 else x.func

/-- A stronger function comes into force at once (R330, R335); STO takes the group with it. -/
def Island.strengthen (i : Island) (j : Nat) : Island :=
  let w := i.wantAx j
  let x := { i.ax j with want := w.1, wantLim := w.2 }
  let i := i.setAx j x
  if w.1 = 4 ∧ (x.func ≠ 4 ∨ nbit i.stoOn (i.axc j).group = true) then i.groupOff (i.axc j).group
  else if x.func = 4 then i
  else if x.strength < w.1 ∨ w.1 = 1 ∧ x.func = 1 ∧ w.2 < x.limit then (i.setAx j (x.begin w.1 w.2)).showAx j
  else i

/-- A weaker function acts at tick 0 (R338). -/
def Island.weaken (i : Island) (j : Nat) : Island :=
  let x := i.ax j
  if x.func ≠ 4 ∧ (x.want < x.strength ∨ x.want = 1 ∧ x.func = 1 ∧ x.limit < x.wantLim) then
    (i.setAx j (x.begin x.want x.wantLim)).showAx j
  else i

/-- A released group whose axes ask for nothing stronger than SLS comes on (R338, R340). (log 60, DEDUCED) -/
def Island.groupOn (i : Island) (g : Nat) : Island :=
  let js := i.axIds.filter (fun j => (i.axc j).group == g)
  if i.st = 2 ∧ nbit i.released g = true ∧ nbit i.stoOn g = false ∧ js.all (fun j => (i.ax j).want ≤ 1) = true then
    let i := i.setSto (i.stoOn ||| 2 ^ g)
    islL js (fun j i =>
      let x := i.ax j
      (i.setAx j { x.begin x.want x.wantLim with viol := false, measDis := false, cat0 := false }).showAx j) i
  else i

/-- What the last latches decided for tick 0: STO of a group, and SOS at the end of SS2 (R337, R338). -/
def Island.applyNext (i : Island) (j : Nat) : Island :=
  let x := i.ax j
  if x.stoNext then i.groupOff (i.axc j).group
  else if x.sosNext then (i.setAx j { x with func := 5, sosNext := false, sosCount := x.cntA, k := 0 }).showAx j
  else i

/-- The axes at tick 0. -/
def Island.axesTick (i : Island) : Island :=
  let i := islL i.axIds (fun j i => i.applyNext j) i
  let i := islL i.axIds (fun j i => i.strengthen j) i
  let i := islL i.axIds (fun j i => i.weaken j) i
  if i.role = 2 then i else islL (List.range 8) (fun g i => i.groupOn g) i

/-- A coordinator's own axes take the demand of their machine (R327). -/
def Island.localAxes (i : Island) : Island :=
  if i.isDecider then
    islL i.axIds (fun j i =>
      let c := i.axc j
      let m := i.mc c.machine
      let lims := ((sget (fun _ => ({} : SMachCfg)) i.cfg.machs c.machine).cars.find? (fun p => p.1 == c.carrel)).map Prod.snd
      i.setAx j { i.ax j with cmd0 := some (demFunc m.dem, limOf (lims.getD c.limits) m.lim) }) i
  else i

/-! ### Measurement (R336 to R338) -/

/-- The count of channel B's own counter. -/
def SAxis.countB (x : SAxis) : Int := x.base + (x.cu - x.cuBase)

/-- Channel B loads channel A's count (R336). -/
def SAxis.load (x : SAxis) (cnt : Int) : SAxis :=
  { x with base := cnt, cuBase := x.cu, hist := [cnt], since := 0, loaded := true }

/-- The lines A and B of channel B's interface come to (a, b): its counter counts as R276 states. -/
def SAxis.quadB (x : SAxis) (a b inv : Bool) : SAxis :=
  let d := (quadIx a b + 4 - quadIx x.linA x.linB) % 4
  let k : Int := if d = 1 then 1 else if d = 3 then -1 else 0
  { x with linA := a, linB := b, cu := x.cu + (if inv then -k else k) }

/-- The Hall lines of channel B's interface come to state h (R277). -/
def SAxis.hallB (x : SAxis) (h : Nat) (inv : Bool) : SAxis :=
  let k : Int := match hallIx x.hall, hallIx h with
    | some p, some q => if (q + 6 - p) % 6 = 1 then 1 else if (q + 6 - p) % 6 = 5 then -1 else 0
    | _, _ => 0
  { x with hall := h, cu := x.cu + (if inv then -k else k) }

/-- Lines of interface f that stood for `held` TB ticks reach the counters that read them, through B_FILT in SAFE clocks of
2/3 tick (R336). (log 60, DEDUCED) -/
def Island.seeB (i : Island) (f held : Nat) (g : SAxis → SAxis) : Island :=
  if i.held then i
  else islL (i.axIds.filter (fun j => (i.axc j).fbB == f && filtered (i.axc j).bFilt (held * 3 / 2))) (fun j i => i.setAx j (g (i.ax j))) i

/-- QUAD_TRANSITION and HALL_STATE_CHANGE: the application's interface and the island's counters see the lines (R275, R336). -/
def islQuad (f : Nat) (a c : Bool) (held : Nat) (b : Block) (i : Island) : Block × Island :=
  (if b.off then b else opQuadTransition f a c held b, i.seeB f held (fun x => x.quadB a c (b.bt (R.FBK_CFG f) 3)))
def islHall (f h held : Nat) (b : Block) (i : Island) : Block × Island :=
  (if b.off then b else opHallStateChange f h held b, i.seeB f held (fun x => x.hallB h (b.bt (R.FBK_CFG f) 3)))

/-- The speed of channel B over 8 cycles, internal format. (log 60, DEDUCED) -/
def speedB (now old : Int) : Int := tdiv (shl (now - old) 48) 25000

/-- Axis j goes to STO at the next tick 0, for a violation or a measurement disagreement (R336 to R338). -/
def Island.toSto (i : Island) (j : Nat) (x : SAxis) : Island := (i.setAx j { x with stoNext := true, cat0 := true }).stopNow

/-- The measurement of axis j at a cycle latch of its channel-A interface. -/
def measure (j : Nat) (b : Block) (i : Island) : Block × Island :=
  let x := i.ax j
  let c := i.axc j
  let cnt := b.rdI (R.FBK_LC_POS c.fbA)
  let va := shl (b.rdI (R.FBK_LC_VEL c.fbA)) 20
  let preset := (b.fbi c.fbA).preset
  let doLoad := preset || (!x.loaded && b.carEn c.carrel)
  let b := if preset then b.setFbi c.fbA { b.fbi c.fbA with preset := false } else b
  let x := if doLoad then x.load cnt
    else { x with hist := (x.countB :: x.hist).take 9, since := x.since + 1 }
  let cb := x.countB
  let vb := if x.loaded && decide (8 ≤ x.since) then speedB cb (x.hist.getD 8 cb) else va
  let v := max va.natAbs vb.natAbs
  let differ := decide (c.measTol * 65536 < (va - vb).natAbs)
    || (x.loaded && decide (1 ≤ x.since) && decide (c.posTol < (cnt - cb).natAbs))
  let n := if differ then x.measCnt + 1 else 0
  let x := { x with cntA := cnt, cntB := cb, vel := v, measCnt := n, atRest := decide (v ≤ c.vrest * 65536) }
  if differ && decide (c.measCyc ≤ n) then
    (b, (((i.toSto j { x with measDis := true, measCnt := 0 }).evt 3).showAx j))
  else (b, i.setAx j x)

/-- The stop-ramp row of an axis (R14, R337). -/
def axRamp (c : AxisCfg) : Ramp := ⟨c.vb * 65536, c.vstop * 65536, c.a1, c.a2⟩

/-- The envelope of the latch of n_s + k (R337). -/
def SAxis.nextEnv (x : SAxis) (c : AxisCfg) : Nat :=
  if x.envNew then x.vel + c.vtol * 65536 else if x.k + 1 ≤ c.lag then x.env else stopstep (axRamp c) x.env

/-- The checks of axis j at a latch: the envelope of SS1, SS2 and SLS, the end of SS1 and SS2, SOS and SLS. (log 60, DEDUCED) -/
def Island.checkAx (i : Island) (j : Nat) : Island :=
  let x := i.ax j
  let c := i.axc j
  if x.func = 5 then
    if c.vrest * 65536 < x.vel ∨ c.sosWin < (x.cntA - x.sosCount).natAbs ∨ c.sosWin < (x.cntB - x.sosCount).natAbs then
      ((i.toSto j x).evt 1).showAx j
    else i.showAx j
  else if x.func = 0 ∨ x.func = 4 then i.showAx j
  else
    let e := x.nextEnv c
    let floor := if x.func = 1 then (x.limit + c.vtol) * 65536 else c.vrest * 65536
    let x := { x with env := e, k := if x.envNew then 0 else x.k + 1, envNew := false }
    if x.func = 1 ∧ e ≤ floor then
      let n := if floor < x.vel then x.slsCnt + 1 else 0
      if floor < x.vel ∧ c.slsCyc ≤ n then
        ((if c.slsStop1 then (i.setAx j { x with slsCnt := 0, react := true }).stopNow
          else i.toSto j { x with slsCnt := 0 }).evt 2).showAx j
      else (i.setAx j { x with slsCnt := n }).showAx j
    else if max e floor < x.vel then
      let i := if i.isDecider then Island.stop0 c.machine i else i
      ((i.toSto j { x with viol := true }).evt 0).showAx j
    else if x.func = 1 then (i.setAx j x).showAx j
    else
      let r := if x.vel ≤ c.vrest * 65536 then x.rest + 1 else 0
      let x := { x with rest := r }
      if c.restCyc ≤ r ∨ e = 0 then
        (i.setAx j (if x.func = 3 then { x with stoNext := true } else { x with sosNext := true })).showAx j
      else (i.setAx j x).showAx j

/-- The axes of channel-A interface f at its cycle latch. -/
def islLatchFb (f : Nat) (b : Block) (i : Island) : Block × Island :=
  if !i.alive then (b, i)
  else
    (i.axIds.filter (fun j => (i.axc j).fbA == f)).foldl
      (fun r j => let q := measure j r.1 r.2; (q.1, if q.2.st = 2 then q.2.checkAx j else q.2.showAx j)) (b, i)

/-- NODE_FEEDBACK_LATCH of interface f: a node's cycle latch (R280), and the supervision of its axes. -/
def islNodeLatch (f : Nat) (b : Block) (i : Island) : Block × Island :=
  if b.off || !b.isNode || !b.deadline (b.nodeLatchTick f) then (b, i) else islLatchFb f (opNodeFeedbackLatch f b) i

/-! ### Monitor results (R313, R328) -/

/-- A monitor demand as a machine demand (R328): REDUCE is SLS at limit index 0. -/
def monDem (d : Nat) : Nat := d

/-- Page 3 as channel B took a result over (R349). -/
def Island.showB (i : Island) : Island :=
  let x := i.ssmB
  let i := (i.wrN R.SAFE_SSMB_PASS_CNT x.cnt).setF R.SAFE_SSMB_PASS_CLK 0 16 (min x.clk 65535)
  islL (i.cfg.ssm.machs.filter (fun m => decide (m < 16))) (fun m i =>
    (i.wrN (R.SAFE_SSMB_DEM m) (demWord (sget (fun _ => {}) x.dems m))).wrN (R.SAFE_SSMB_PAIR m)
      (pairWord (sget (fun _ => {}) x.dems m))) i

/-- Channel A's result of the pass of cycle n is taken, or missed: PASS_LATE (R319). -/
def Block.takeA (b : Block) (n : Nat) : Block :=
  let b := if b.ssmA.done == some n then b else b.ssmFlag 0
  { b with ssmA := { b.ssmA with done := none } }

/-- SSM_RESULT_TAKEOVER at tick 0 of cycle n + 4, for the pass of cycle n: in START and LOCKOUT no demand comes of it. -/
def takeover (n : Nat) (b : Block) (i : Island) : Block × Island :=
  let okA := b.ssmA.done == some n
  let okB := i.ssmB.done == some n
  let g := i.cfg.ssm
  let da := fun m => sget (fun _ => ({} : MDem)) b.ssmA.dems m
  let db := fun m => sget (fun _ => ({} : MDem)) i.ssmB.dems m
  let dis := fun m => okA && okB && decide (g.machs.contains m) && decide (i.cfg.ssmTol < ((da m).margin - (db m).margin).natAbs)
  let anyDis := g.machs.any dis
  let miss := !okA || !okB
  let b := b.takeA n
  let i := if okB then i.showB else i.setB R.SAFE_SSMB_ERR 0 true
  if !i.alive then (b, { i with ssmB := { i.ssmB with done := none } }) else
  let i := islL i.machIds (fun m i =>
    let d := max (if okA then monDem (da m).dem else 0) (if okB then monDem (db m).dem else 0)
    i.setMc m { i.mc m with mon := if dis m || miss then max d 3 else d }) i
  let i := if anyDis then i.evt 6 else i
  let i := if miss then i.evt 7 else i
  let two := anyDis && i.disRun
  let twoMiss := (!okA && i.missA) || (!okB && i.missB)
  let i := { i with ssmB := { i.ssmB with done := none }, disRun := anyDis, missA := !okA, missB := !okB }
  if twoMiss then islFault 7 b i else if two then islFault 8 b i else (b, i)

/-! ### The cycle (R323, R329, R330) -/

/-- The comparison at tick 0 (R323): `diff` says that the channels' decisions of the last cycle differ. -/
def compare_ (diff : Bool) (b : Block) (i : Island) : Block × Island :=
  if !diff then (b, { i with cmpRun := false })
  else if i.cmpRun then islFault 2 b i
  else (b, ({ i with cmpRun := true } : Island).both
    (fun ch i => i.setF (R.SAFE_CH_DISC_CNT ch) 0 16 (satAdd (i.fl (R.SAFE_CH_DISC_CNT ch) 0 16) 1 0xFFFF)))

/-- The machine demands of a decider, from the inputs of tick 0 and the items latched before. (log 62, DEDUCED) -/
def Island.formAll (i : Island) : Island := if i.isDecider then islL i.machIds (fun m i => i.formMach m) i else i

/-- The SAFE pages copied to the mirror (R76): IRQ_RAW bit 0 of pages 0 and 1 where STATE changed, bit 1 where an
event bit set. (log 58, DEDUCED) -/
def mirror (stamp : Nat) (i : Island) (b : Block) : Block :=
  let old := b
  let i := islL [0, 1, 2, 3] (fun p i => i.wrN (R.SAFE_MIRROR_CYC p) stamp) i
  let keep := b.regs.filter (fun e => !(decide (0x40600040 ≤ e.1) && decide (e.1 < 0x40604000) && decide (0x40 ≤ e.1 % 0x1000)))
  let b := (i.regs.filter (fun e => decide (0x40600040 ≤ e.1) && decide (e.1 < 0x40604000))).foldl
    (fun b e => b.wr e.1 e.2) { b with regs := keep }
  forL [0, 1] (fun ch b =>
    let page := 0x40600000 + ch * 0x1000
    let b := if fld (old.rd (R.SAFE_CH_STATE ch)) 0 3 = b.fl (R.SAFE_CH_STATE ch) 0 3 then b else b.raise page 0
    if b.rd (R.SAFE_CH_EVT ch) &&& ~~~(old.rd (R.SAFE_CH_EVT ch)) = 0#32 then b else b.raise page 1) b

/-- Outputs that one channel alone demands off are off, as each channel drives its own switch in series (R323): groups in
bits 7 to 0, contactors in bits 11 to 8. (log 62, DEDUCED) -/
def Island.restrict (i : Island) (off : Nat) : Island :=
  let i := islL ((List.range 8).filter (fun g => nbit off g && nbit i.stoOn g)) (fun g i => i.groupOff g) i
  if i.kOn &&& (off / 256) = 0 then i else i.setK (i.kOn &&& (15 ^^^ off / 256 % 16))

/-- Tick 0 of cycle n at the island (R329); where the channels differ, `off` are the outputs that one alone demands off. -/
def islTick0 (n : Nat) (diff : Bool) (off : Nat) (b : Block) (i : Island) : Block × Island :=
  let due := b.bt R.SSM_STAT 0 && n % 8 == 4
  if i.held then (if due then b.takeA (n - 4) else b, i)
  else
    let i := ({ i with newStop := false } : Island).takeLate
    let r := if i.alive then compare_ diff b i else (b, i)
    let b := r.1
    let i := r.2.latchInputs
    let r := if due then takeover (n - 4) b i else (b, i)
    let b := r.1
    let i := r.2
    let i := if i.alive then i.formAll.localAxes else i
    let i := if i.st = 2 then i.axesTick else i
    let i := if diff && i.st == 2 then i.restrict off else i
    (mirror n i b, i)

/-- SUPERVISOR_COMBINE at APD (R330): the newest accepted commands of the two deciders for each axis, and for the
device's outputs (axis 0xFF, assumption 21), but for a decider's own. A contactor whose mirror contact does not show closed is
not released (R342). (log 21, DEDUCED) -/
def takeCmd (ep d kfb : Nat) (it : SafeItem) (i : Island) : Island :=
  match it with
  | .command dst axis func limit =>
    if dst ≠ ep ∨ axis = 0xFF ∧ i.isDecider = true then i
    else if axis = 0xFF then
      let old := if d = 0 then i.rel0 else i.rel1
      let new := func % 2 * 4096 + limit % 4096
      let i := if d = 0 then { i with rel0 := new } else { i with rel1 := new }
      let i := if i.st = 1 ∧ new / 4096 = 1 ∧ old / 4096 = 0 ∧ i.role ≠ 2 then i.setSt 2 else i
      if i.st ≠ 2 ∨ i.role = 2 then i
      else
        let up := new &&& (new ^^^ old)
        let dn := old &&& (new ^^^ old)
        let i := i.setReleased ((i.released ||| (up % 256)) &&& (255 ^^^ dn % 256))
        let i := islL ((List.range 8).filter (fun g => nbit dn g)) (fun g i => i.groupOff g) i
        let upK := up / 256 % 16 &&& (kfb ||| i.kOn)
        if upK = 0 ∧ dn / 256 % 16 = 0 then i else i.setK ((i.kOn ||| upK) &&& (15 ^^^ dn / 256 % 16))
    else if i.axIds.contains axis then
      let x := i.ax axis
      i.setAx axis (if d = 0 then { x with cmd0 := some (func, limit) } else { x with cmd1 := some (func, limit) })
    else i
  | _ => i

def islCombine (kfb : Nat) (b : Block) (i : Island) : Block × Island :=
  if !i.alive then (b, i)
  else
    let ep := b.fl R.SZN_ID 0 12
    let i := i.cfg.conns.foldl
      (fun i c => if c.2.kind = 2 ∧ (i.con c.1).misses = 0 then
        (i.con c.1).items.foldl (fun i it => takeCmd ep (if i.isDecider then 1 else c.2.decider) kfb it i) i else i) i
    (b, if i.st = 2 ∧ i.isDecider = false then islL i.axIds (fun j i => i.strengthen j) i else i)

/-- The island handles a fault of carrel c at Category 0 (R172): a violation or a measurement disagreement put an axis of its
in STO, or the island is in START or LOCKOUT, or held. -/
def Island.cat0 (i : Island) (c : Nat) : Bool :=
  !i.alive || i.axIds.any (fun j => (i.axc j).carrel == c && (i.ax j).cat0 && (i.ax j).func == 4)

/-- The demands at the profile tick (R317, R329): row 1 of R166, PS_SPEED_LIM, and V := 0 for Category 0 (R172). (log 62, DEDUCED) -/
def islProfile (i : Island) (b : Block) : Block :=
  let b := forL i.axIds (fun j b =>
    let c := (i.axc j).carrel
    b.setPrf c { b.prf c with off := i.cat0 c }) b
  if !i.isDecider then b
  else
    forL i.cfg.machs (fun (m, g) b =>
      let x := i.mc m
      forL g.cars (fun (c, lims) b =>
        let b := b.setPrf c { b.prf c with safe := decide (x.dem = 2 ∨ x.dem = 3), off := decide (x.dem = 4) || i.cat0 c }
        b.wrN (R.PS_SPEED_LIM c) (if x.dem = 1 then limOf lims x.lim else 0xFFFFFFFF)) b) b

/-! ### Requests from firmware (R343, R344) -/

/-- The mailbox of the island holds a message for it. -/
def requestIn (b : Block) (i : Island) : Bool :=
  !b.off && i.alive && decide (i.cfg.mbx < 32) && b.mbxSt i.cfg.mbx == 2 && b.fl (R.MBX_CFG i.cfg.mbx) 0 4 == 8

def reqWord (b : Block) (i : Island) (k : Nat) : Nat := b.rdN (R.MBX_DATA i.cfg.mbx k)

/-- Channel A acknowledges with a return code. -/
def ackReq (rc : Nat) (b : Block) (i : Island) : Block := opMailboxAck i.cfg.mbx { agent := 8 } (BitVec.ofNat 32 rc) b

/-- The stop demand of machine m that remains after a RELEASE: every source but the firmware's stop. -/
def Island.remainM (i : Island) (m : Nat) : Nat :=
  [(i.mc m).mon, max (i.inputNow m) (i.remoteDem m), i.lossDem m].foldl max 0

/-- A RELEASE clears firmware stops, held STOP0s and the named LATCHED actions. -/
def Island.clearStops (i : Island) (ins : Nat) : Island :=
  let i := islL ((List.range 16).filter (fun n => nbit ins n)) (fun n i => i.setSin n { i.sin n with latched := false }) i
  let i := islL i.machIds (fun m i => i.setMc m { i.mc m with fwStop := 0, stop0 := false }) i
  islL i.axIds (fun j i => i.setAx j { i.ax j with fwStop := 0, react := false }) i

/-- An input still demands: at the last tick 0 or by its levels now. -/
def Island.stillDem (i : Island) (n : Nat) : Bool := (i.sin n).dem || i.demA n || i.demB n

/-- The evaluation of a RELEASE: the return code, and the island where it is 0; `barred` in the lifecycles BLANK and RETURNED
(R491). A stop demand raised since the last tick 0 stays in force (R344). (log 62, DEDUCED) -/
def release (w1 w2 kfb : Nat) (barred : Bool) (i : Island) : Nat × Island :=
  let ins := w2 / 2 ^ 16
  let k := w2 % 16
  if 256 ≤ w1 ∨ w2 / 16 % 4096 ≠ 0 then (5, i)
  else if i.role = 2 ∨ barred = true then (6, i)
  else if (List.range 16).any (fun n => nbit ins n && i.stillDem n) then (3, i)
  else
    let i2 := i.clearStops ins
    let stopM := i.isDecider && i2.machIds.any (fun m => decide (2 ≤ i2.remainM m))
    let i3 := if i2.isDecider then i2.formAll.localAxes else i2
    let stopA := i3.axIds.any (fun j => nbit w1 (i3.axc j).group && decide (2 ≤ max (i3.wantAx j).1 (if i3.isDecider then 0 else i3.inputNow j)))
    if i.newStop || stopM || stopA then (1, i)
    else if (List.range 4).any (fun n => nbit k n && !nbit i.kOn n && !nbit kfb n) then (4, i)
    else
      let i := i3.setSt 2
      let i := islL i.axIds (fun j i => let w := i.wantAx j; i.setAx j { i.ax j with want := w.1, wantLim := w.2 }) i
      let i := i.setReleased (i.released ||| w1)
      let i := islL (List.range 8) (fun g i => i.groupOn g) i
      (0, if k = 0 then i else i.setK (i.kOn ||| k))

/-- A firmware STOP: category 0, 1 or 2 as STOP0, STOP1, STOP2 on machines of a decider or axes of a supervisor. (log 62, DEDUCED) -/
def stopReq (w1 w2 : Nat) (i : Island) : Nat × Island :=
  if 2 < w1 then (5, i)
  else
    let d := 4 - w1
    let i := i.stopNow
    if i.isDecider then
      (0, islL (i.machIds.filter (fun m => nbit w2 m)) (fun m i => i.setMc m { i.mc m with fwStop := max (i.mc m).fwStop d }) i)
    else
      let i := islL (i.axIds.filter (fun j => nbit w2 j)) (fun j i => i.setAx j { i.ax j with fwStop := max (i.ax j).fwStop d }) i
      (0, if i.st = 2 then islL i.axIds (fun j i => i.strengthen j) i else i)

/-- SLS_SET and SLS_CLEAR: a limit index + 1, or 0, for the machines or axes of a mask. (log 62, DEDUCED) -/
def slsReq (mask v : Nat) (i : Island) : Nat × Island :=
  if i.isDecider then (0, islL (i.machIds.filter (fun m => nbit mask m)) (fun m i => i.setMc m { i.mc m with fwSls := v }) i)
  else
    let i := islL (i.axIds.filter (fun j => nbit mask j)) (fun j i => i.setAx j { i.ax j with fwSls := v }) i
    (0, if i.st = 2 then islL i.axIds (fun j i => i.strengthen j) i else i)

/-- CLEAR_EVENTS: the named bits of SAFE_CH_EVT. -/
def clearEvents (w1 : Nat) (i : Island) : Nat × Island :=
  (0, i.both (fun ch i => i.wr (R.SAFE_CH_EVT ch) (i.rd (R.SAFE_CH_EVT ch) &&& ~~~(BitVec.ofNat 32 w1))))

/-- A request: `code` is the one that the command names; a message with an unknown code is answered BAD_REQ by any.
`outcome` is 0 where the channels agree, 1 where they disagree, 2 where a fault arises during evaluation. (log 62, DEDUCED) -/
def request (code outcome : Nat) (act : Nat → Nat → Island → Nat × Island) (b : Block) (i : Island) : Block × Island :=
  if !requestIn b i then (b, i)
  else
    let c := reqWord b i 0 % 256
    if outcome = 1 then (ackReq 0xFF b i, i)
    else if outcome = 2 then
      let r := islFault 4 b i
      (ackReq 2 r.1 r.2, r.2)
    else if c = 0 ∨ 5 < c then (ackReq 5 b i, i)
    else if c ≠ code then (b, i)
    else
      let r := act (reqWord b i 1) (reqWord b i 2) i
      (ackReq r.1 b i, r.2)

/-! ### Start, lock-out and tests (R324, R326, R340 to R342) -/

/-- SAFE_START_TESTS_DONE. -/
def islTests (passed : Bool) (b : Block) (i : Island) : Block × Island :=
  if i.held || i.st != 0 then (b, i)
  else if passed then (b, (i.setSt 1).both (fun ch i => i.setB (R.SAFE_CH_STATE ch) 3 true))
  else islFault 9 b i

/-- START: every output off, the axes unmeasured, TESTS_OK 0. -/
def Island.start (i : Island) : Island :=
  let i := i.allOff.setSt 0
  let i := islL i.axIds (fun j i => i.setAx j { i.ax j with loaded := false, hist := [], since := 0, measCnt := 0 }) i
  let i := { i with cmpRun := false, disRun := false, missA := false, missB := false, rel0 := 0, rel1 := 0, justOff := 0 }
  i.both (fun ch i => i.setB (R.SAFE_CH_STATE ch) 3 false)

/-- DELIBERATE_RESET (R326): the pattern on SRST_A and SRST_B in µs: the larger skew of its edges, the shortest and
the longest time that both stay active, and whether a fault was detected during it. -/
def islDeliberate (skew lo hi : Nat) (fault : Bool) (b : Block) (i : Island) : Block × Island :=
  if i.held || i.st != 3 then (b, i)
  else if !fault && decide (skew ≤ 50000) && decide (250000 ≤ lo) && decide (hi ≤ 3000000) then (b, i.start)
  else (b, i.setF R.SAFE_RST_STAT 8 8 (satAdd (i.fl R.SAFE_RST_STAT 8 8) 1 255))

/-- OFF_PULSE_TEST of a group on a channel (R341): while the group is on, and the pulse during which it went off. (log 63, DEDUCED) -/
def islPulse (g ch : Nat) (passed : Bool) (b : Block) (i : Island) : Block × Island :=
  if !i.alive || !(nbit i.stoOn g || nbit i.justOff g) then (b, i)
  else
    let i := { i with justOff := i.justOff &&& (255 ^^^ 2 ^ g) }
    let n := i.fl R.SAFE_OPT_STAT 16 16 + (if passed then 1 else 0)
    let i := i.wrN R.SAFE_OPT_STAT (g + ch * 8 + (if passed then 16 else 0) + n % 65536 * 2 ^ 16)
    if passed then (b, i) else islFault 5 b i

/-- STO_READBACK_MISMATCH of a group on a channel (R340): the readback has differed for 100 µs. -/
def islReadback (g ch : Nat) (b : Block) (i : Island) : Block × Island :=
  if !i.alive then (b, i)
  else islFault 5 b (i.setB R.SAFE_STO_FB (8 * ch + g) (!i.bt R.SAFE_STO_OUT (8 * ch + g)))

/-- CONTACTOR_FEEDBACK_TIMEOUT of a contactor (R342): KFB does not show the opposite state within KSW. -/
def islContactor (n : Nat) (b : Block) (i : Island) : Block × Island :=
  if !i.alive then (b, i)
  else islFault 6 b (i.setB R.SAFE_KOUT (8 + n) (i.bt R.SAFE_KOUT n))

/-- LOOP_ENGINE_ECC_ERROR in carrel c (R238, R339). (log 63, DEDUCED) -/
def islLoopEcc (c : Nat) (shadow uncorr : Bool) (b : Block) (i : Island) : Block × Island :=
  let b2 := if b.off then b else opLoopEngineEcc c shadow uncorr b
  if b.off || !uncorr || shadow || i.held then (b2, i)
  else
    let i := islL ((i.cfg.machs.filter (fun g => g.2.cars.any (fun p => p.1 == c))).map Prod.fst) Island.stop0 i
    (b2, islL (i.axIds.filter (fun j => (i.axc j).carrel == c)) (fun j i => i.toSto j (i.ax j)) i)

/-- The island records an overcurrent trip, bit 0, or a stuck modulator, bit 1, of each carrel whose channel now shows it,
and changes nothing (R13, R339). -/
def Island.noteTrips (i : Island) (old b : Block) : Island :=
  if i.held then i
  else islL (b.cfg.cars.filter b.carLocal) (fun c i =>
    let e := fun (x : Block) => x.rd (R.PWM_CH_ERR (b.fl (R.CAR_BIND c) 2 4))
    let k := (if (e b).getLsbD 2 && !(e old).getLsbD 2 then 1 else 0) ||| (if (e b).getLsbD 6 && !(e old).getLsbD 6 then 2 else 0)
    if k = 0 then i else { i with noted := sset (fun _ => 0) i.noted c (sget (fun _ => 0) i.noted c ||| k) }) i

/-- A command of the power stage, and what the island records of it. -/
def islTrips (f : Block → Block) (b : Block) (i : Island) : Block × Island :=
  if b.off then (b, i) else (f b, i.noteTrips b (f b))

/-- An application-side system reset as the island sees it (R86, R324): outputs off, HOLD; demands are kept. -/
def Island.sysReset (i : Island) : Island := if i.held || i.st != 2 then i else i.allOff.setSt 1

/-- SAFETY_POWER_ON_RESET: SPORN low, or VDD_SAFE out of tolerance: the island alone is reset (R83). Its record of the
reset stands in no register. (log 22, DEDUCED) -/
def islPowerOn (b : Block) (_ : Island) : Block × Island := (b, { held := true })

/-- SPORN_RELEASE: START, with the safety parameters of the accepted image where there is one (assumption 22). (log 22, DEDUCED) -/
def islRelease (b : Block) (i : Island) : Block × Island :=
  if !i.held then (b, i)
  else
    let c := if b.bt R.SYS_BOOT_STAT 6 then b.cfg.safe else {}
    let i : Island := { role := b.role, cfg := c }
    (b, i.both (fun ch i => ((i.setB (R.SAFE_CH_STATE ch) 4 i.isDecider).setB (R.SAFE_CH_STATE ch) 5 (!c.axes.isEmpty)).wrN (R.SAFE_CH_PSIG ch) c.psig))

/-! ### Monitor channel B and perception units -/

/-- SSM_PASS_DONE_B: the pass of channel B ends after `clk` SAFE clocks (R315, R319). -/
def islPassB (clk ecc : Nat) (b : Block) (i : Island) : Block × Island :=
  match i.ssmB.busy with
  | none => (b, i)
  | some _ =>
    let i := if ecc = 1 then i.setB R.SAFE_SSMB_ERR 6 true else i
    if ecc = 2 then
      let i := { i with ssmB := { i.ssmB with busy := none } }
      let i := i.setB R.SAFE_SSMB_ERR 7 true
      (b.archive 0x61 0 10 2 (i.rdN R.SAFE_SSMB_ERR) 0 0, i)
    else
      let r := ssmPass b i.cfg.ssm i.ssmB 16
      let i := { i with ssmB := { r.1 with cnt := (i.ssmB.cnt + 1) % 2 ^ 32, clk := clk } }
      (b, islL (passErr i.cfg.ssm i.ssmB r.2) (fun k i => i.setB R.SAFE_SSMB_ERR k true) i)

/-- Monitor B starts at FBD of a pass cycle n, on the scene latched there (R315). -/
def islPassStart (n : Nat) (b : Block) (i : Island) : Block × Island :=
  if !b.bt R.SSM_STAT 0 || n % 8 != 0 then (b, i)
  else
    let b := { b with ssmA := b.ssmLatch b.cfg.safe.ssm b.ssmA }
    (b, if i.held then i else { i with ssmB := { b.ssmLatch i.cfg.ssm i.ssmB with busy := some n } })

/-- PERCEPTION_UNIT_LOST: no accepted item from unit u for PU_TMO (R304). -/
def islUnitLost (u : Nat) (b : Block) (i : Island) : Block × Island :=
  match b.cfg.safe.ssm.units.find? (fun k => k.1 == u) with
  | none => (b, i)
  | some (_, k) =>
    if b.off || !b.bt R.SSM_STAT 0 then (b, i)
    else
      let t := b.tb.dt
      let b := if unitLost b.ssmA t u k then
          (({ b with ssmA := unitLostIn b.cfg.safe.ssm b.ssmA u k } : Block).setB R.SSM_UNIT u true).ssmFlag 1
        else b
      (b, if i.held || !unitLost i.ssmB t u k then i
          else ({ i with ssmB := unitLostIn i.cfg.ssm i.ssmB u k } : Island).setB R.SAFE_SSMB_ERR 1 true)

/-! ### The meanings -/

def execSafeStartTestsDone (passed : Bool) (s : State) : Out := onIsl (islTests passed) s
def execDeliberateReset (skew lo hi : Nat) (fault : Bool) (s : State) : Out := onIsl (islDeliberate skew lo hi fault) s
def execInternalFault (code : Fin 11) (s : State) : Out := onIsl (islFault code.val) s
def execSafeInputChange (n : PwmIx) (chB level : Bool) (s : State) : Out := onIsl (islInput n.val chB level) s
def execSafeInputDiscrepancy (n : PwmIx) (s : State) : Out := onIsl (islDiscrepancy n.val) s
def execSafetyConnectionLost (k : MbxIx) (s : State) : Out := onIsl (islConnLost k.val) s
def execSafeRelease (outcome : Fin 3) (kfb : Fin 16) (s : State) : Out :=
    onIsl (fun b i => request 1 outcome.val
    (fun w1 w2 i => release w1 w2 kfb.val (decide (b.fl R.SEC_STAT 0 2 = 0 ∨ b.fl R.SEC_STAT 0 2 = 3)) i) b i) s
def execSafeStopRequest (outcome : Fin 3) (s : State) : Out := onIsl (request 2 outcome.val stopReq) s
def execSafeSlsSet (outcome : Fin 3) (s : State) : Out :=
  onIsl (request 3 outcome.val (fun w1 w2 i => if 3 < w2 then (5, i) else slsReq w1 (w2 + 1) i)) s
def execSafeSlsClear (outcome : Fin 3) (s : State) : Out := onIsl (request 4 outcome.val (fun w1 _ i => slsReq w1 0 i)) s
def execSafeClearEvents (outcome : Fin 3) (s : State) : Out := onIsl (request 5 outcome.val (fun w1 _ i => clearEvents w1 i)) s
def execOffPulseTest (g : Fin 8) (ch : Fin 2) (passed : Bool) (s : State) : Out := onIsl (islPulse g.val ch.val passed) s
def execStoReadbackMismatch (g : Fin 8) (ch : Fin 2) (s : State) : Out := onIsl (islReadback g.val ch.val) s
def execContactorFeedbackTimeout (n : CanIx) (s : State) : Out := onIsl (islContactor n.val) s
def execSpornRelease (s : State) : Out := onIsl islRelease s
def execSafetyPowerOnReset (s : State) : Out := onIsl islPowerOn s
def execLoopEngineEccError (c : Carrel) (shadow uncorr : Bool) (s : State) : Out := onIsl (islLoopEcc c.val shadow uncorr) s
def execSsmPassDoneB (clk : Nat) (ecc : Fin 3) (s : State) : Out := onIsl (islPassB clk ecc.val) s
def execPerceptionUnitLost (u : Fin 8) (s : State) : Out := onIsl (islUnitLost u.val) s
def execNodeFeedbackLatch (f : FbIx) (s : State) : Out := onIsl (islNodeLatch f.val) s
def execQuadTransition (f : FbIx) (a b : Bool) (s : State) (held : Nat := 16) : Out := onIsl (islQuad f.val a b held) s
def execHallStateChange (f : FbIx) (h : Fin 8) (s : State) (held : Nat := 16) : Out := onIsl (islHall f.val h.val held) s
def execSampleWindowEnd (p : PwmIx) (u v w : List Bool) (s : State) : Out := onIsl (islTrips (opSampleWindowEnd p.val u v w)) s
def execOvercurrentTrip (i : Fin 48) (ones : Nat) (s : State) : Out := onIsl (islTrips (opOvercurrentTrip i.val ones)) s

end Sys2Proof.Machine
end

