-- ==== Sys2Proof/Machine/Synzon.lean ====
section
/-! DEFINITION. Synzon links (15_synzon_link.md): ports, link delay, frames received, accession, the star guardian,
Catalogue switches, remote access, wake. Sending in slots is in Slots.lean. -/

namespace Sys2Proof.Machine

/-- The SZN common page and the page of a port (R383, R385). -/
def sznPage : Nat := 0x40400000
def szpPage (k : Nat) : Nat := 0x40480000 + k * 0x1000

/-- Set a flag of SZN_ERR (R382). -/
def Block.sznFlag (s : Block) (i : Nat) : Block := s.flag R.SZN_ERR i sznPage i

/-- Set a flag of SZP_ERR (R382). -/
def Block.szpFlag (s : Block) (k i : Nat) : Block := s.flag (R.SZP_ERR k) i (szpPage k) i

/-- Change the Synzon hidden state. -/
def Block.modSzn (s : Block) (f : Szn → Szn) : Block := { s with szn := f s.szn }

/-- SZN_STAT.STATE: 0 OFF, 1 LISTEN, 2 COLD, 3 ACCEDE, 4 MEMBER, 5 HOLD, 6 CONFLICT (R383). -/
def Block.sznSt (s : Block) : Nat := s.fl R.SZN_STAT 0 3

/-- Enter a Synzon state; PAGE_STAT.ACTIVE is 1 in COLD, MEMBER and HOLD. -/
def Block.setSzn (s : Block) (st : Nat) : Block :=
  (s.setF R.SZN_STAT 0 3 st).setB (R.PAGE_STAT sznPage) 2 (st == 2 || st == 4 || st == 5)

/-- Whether a port is UP. -/
def Block.portUp (s : Block) (k : Nat) : Bool := s.fl (R.SZP_STAT k) 0 2 == 2

/-- The UP ports. -/
def Block.upPorts (s : Block) : List Nat := (List.range 64).filter s.portUp

/-- Queue a service message: up to eight wait (R361). A ninth is not queued (assumption 8). (log 8, DESIGN CHOICE) -/
def Block.svcPut (s : Block) (m : SvcMsg) : Block :=
  if 8 ≤ s.szn.svcq.length then s else s.modSzn (fun z => { z with svcq := z.svcq ++ [m] })

/-- Own endpoint (R386). -/
def Block.ownEp (s : Block) : Nat := s.fl R.SZN_ID 0 12

/-- The Catalogue entry of a number, empty where the image gives none. -/
def Block.catEntry (s : Block) (e : Nat) : CatEntry := s.szn.cat.getD e {}

/-- ENTRY, the entry in use. -/
def Block.entry (s : Block) : Nat := s.fl R.SZN_STAT 4 3

/-- The slots of the entry in use. -/
def Block.slots (s : Block) : List Slot := (s.catEntry s.entry).slots

/-- The members of an entry: the endpoints that send in one of its slots (R363). -/
def Block.members (s : Block) (e : Nat) : List Nat := ((s.catEntry e).slots.map (fun x => x.sender)).dedup

/-! ### Ports and link delay (R352, R353) -/

/-- A port becomes DOWN. -/
def Block.portDown (s : Block) (k : Nat) : Block :=
  let s := (s.setF (R.SZP_STAT k) 0 2 0).setB (R.PAGE_STAT (szpPage k)) 2 false
  s.modSzn (fun z => { z with delays := sset (fun _ => {}) z.delays k {} })


/-- LINK_SYNC_ACQUIRED: a port with EN = 1 enters SYNC and starts delay measurement. -/
def opLinkSyncAcquired (k : Nat) (s : Block) : Block :=
  if s.pageEn (szpPage k) ∧ s.bt (R.SZP_CFG k) 0 ∧ s.fl (R.SZP_STAT k) 0 2 = 0 then
    (s.setF (R.SZP_STAT k) 0 2 1).modSzn (fun z => { z with delays := sset (fun _ => {}) z.delays k {} })
  else s

/-- Whether a port belongs to the twin link (R412). -/
def Block.twinPort (s : Block) (k : Nat) : Bool := s.bt (R.SZP_CFG k) 2

/-- A twin link that leaves UP ends a resynchronisation (R417): the peer returns to STALE, and the Active sends no more
records until the next request. (log 116, DEDUCED) -/
def Block.rsFail (s : Block) : Block :=
  if s.fl R.RED_STAT 0 3 = 1 then { s with red := { s.red with rsOn := false, rsTodo := [], rsSnap := [], peerSt := 0 } } else
  if s.fl R.RED_STAT 0 3 = 4 then
    (s.setF R.RED_STAT 0 3 3).flag R.RED_ERR 9 0x40420000 9
  else s

/-- PORT_ENABLE: a write of SZP_CFG (R352, R385). Clearing EN returns the port to electrical idle and DOWN, which ends a
resynchronisation over it (R417). -/
def opPortEnable (k : Nat) (snd : Sender) (v : Word) (s : Block) : Block :=
  if v.getLsbD 1 && s.isNode then s.refuse true (R.SZP_CFG k) snd .state
  else if v.getLsbD 3 && k != 0 then s.refuse true (R.SZP_CFG k) snd .range
  else
    let gone := s.twinPort k && s.portUp k && !v.getLsbD 0
    let s := if gone then s.rsFail else s
    let s := s.setF (R.SZP_CFG k) 0 4 (fld v 0 4)
    if v.getLsbD 0 then s else s.portDown k

/-- LINK_SYNC_LOST: SYNC or UP becomes DOWN; LINK_LOST where EN = 1 (R352). -/
def opLinkSyncLost (k : Nat) (s : Block) : Block :=
  if s.fl (R.SZP_STAT k) 0 2 = 0 then s
  else
    let s := if s.twinPort k && s.portUp k then s.rsFail else s
    let s := s.portDown k
    if s.bt (R.SZP_CFG k) 0 then s.szpFlag k 7 else s

/-- The link-delay measurement of a port. -/
def Block.dly (s : Block) (k : Nat) : PortDelay := sget (fun _ => {}) s.szn.delays k

/-- Write the link-delay measurement of a port. -/
def Block.setDly (s : Block) (k : Nat) (d : PortDelay) : Block :=
  s.modSzn (fun z => { z with delays := sset (fun _ => {}) z.delays k d })

/-- The cycle number of the current cycle (R36). -/
def Block.cyc (s : Block) : Nat := s.tb.dt / 15625

/-- DELAY_REQUEST_SEND: at a Service Tick while no cycle exists, otherwise in cycles with n mod 64 = 32 at or after
JOIN_START (R353). -/
def opDelayRequestSend (k : Nat) (s : Block) : Block :=
  if s.fl (R.SZP_STAT k) 0 2 = 0 || !s.pageEn (szpPage k) then s
  else if s.bt R.TB_STAT 1 && !(s.cyc % 64 == 32 && decide ((s.catEntry s.entry).joinStart ≤ s.tick)) then s
  else (s.setDly k { s.dly k with wait := true }).modSzn (fun z => { z with dlyReq := z.dlyReq + 1 })

/-- DELAY_REQUEST_RX: answered 256 ns later, unless with CYCLE_RUN = 1 a CYCLE_START or slot frame on that port
would start or be in progress within 16 ns of that instant (R353); `clash` says whether one would. -/
def opDelayRequestRx (k : Nat) (clash : Bool) (s : Block) : Block :=
  if s.fl (R.SZP_STAT k) 0 2 = 0 then s
  else if s.bt R.TB_STAT 1 && clash then s
  else s.modSzn (fun z => { z with dlyRsp := z.dlyRsp + 1 })

/-- Mean of a list of measurements, in 2^-4 ns. -/
def meanOf (l : List Nat) : Nat := l.sum / l.length

/-- DELAY_RESPONSE_RX: `rtt` is the round trip in 2^-4 ns; δ := (RTT − 256 ns) / 2 (R353). The port enters UP at the
16th accepted measurement (R352). -/
def opDelayResponseRx (k rtt : Nat) (s : Block) : Block :=
  let d := s.dly k
  if s.fl (R.SZP_STAT k) 0 2 = 0 ∨ d.wait = false then s
  else
    let m := (rtt - 4096) / 2
    let ref := meanOf (d.acc.take 16)
    let far := d.acc ≠ [] ∧ (m + 320 < ref ∨ ref + 320 < m)
    if far then
      let s := s.szpFlag k 8
      if s.fl (R.SZP_STAT k) 0 2 = 1 ∧ 3 ≤ d.bad then s.setDly k {}
      else s.setDly k { d with bad := d.bad + 1, wait := false }
    else
      let acc := (m :: d.acc).take 16
      let s := s.setDly k { acc := acc, bad := 0, wait := false }
      if s.fl (R.SZP_STAT k) 0 2 = 1 then
        if acc.length = 16 then
          (s.setF (R.SZP_DELAY k) 0 24 (meanOf acc)).setF (R.SZP_STAT k) 0 2 2
        else s
      else s.setF (R.SZP_DELAY k) 0 24 (meanOf acc)

/-- DELAY_RESPONSE_TIMEOUT (R353). -/
def opDelayResponseTimeout (k : Nat) (s : Block) : Block :=
  if (s.dly k).wait then (s.setDly k { s.dly k with wait := false }).szpFlag k 8 else s

/-! ### Checks of a received frame (R351, R355, R356) -/

/-- The checks before a frame's content: the state with the flags of a failed check, and whether it passed. -/
def Block.frameCheck (s : Block) (k : Nat) (h : FrameHdr) : Block × Bool :=
  if !s.portUp k then (s, false)
  else if !h.codeOk then ((s.incSat (R.SZP_CRC_CNT k) 16 16).szpFlag k 1, false)
  else if !h.crcOk then ((s.incSat (R.SZP_CRC_CNT k) 0 16).szpFlag k 0, false)
  else if !h.kindOk then (s.szpFlag k 10, false)
  else if !h.lenOk then (s.szpFlag k 11, false)
  else (s, true)

/-- Whether a frame is addressed to this device (R355). -/
def Block.forMe (s : Block) (h : FrameHdr) : Bool := h.dst.val == s.ownEp || h.dst.val == 0xFFF

/-- Count an accepted frame of a port. -/
def Block.rxCount (s : Block) (k : Nat) : Block := s.wrN (R.SZP_RX_CNT k) (s.rdN (R.SZP_RX_CNT k) + 1)

/-- How a frame's CYCLE stands to the receiver's current cycle: 0 current, 1 previous, 2 other (R355). -/
def Block.cycAge (s : Block) (h : FrameHdr) : Nat :=
  if h.cycle % 2 ^ 32 = s.cyc % 2 ^ 32 then 0
  else if (h.cycle + 1) % 2 ^ 32 = s.cyc % 2 ^ 32 then 1 else 2

/-- Take the first copy of an expected frame: the state with the copy counted, and whether this copy is the first
of its cycle (R368). -/
def Block.firstCopy (s : Block) (k kind : Nat) (h : FrameHdr) : Block × Bool :=
  let x := decide (k < 32)
  let rec1 : CopyRec := ⟨kind, h.src.val, h.dst.val, x⟩
  let first := !(s.szn.copies.any (fun c => c.kind == kind && c.src == h.src.val && c.dst == h.dst.val))
  let s := s.modSzn (fun z => { z with copies := z.copies ++ [rec1] })
  if first then (s.incSat R.SZN_FIRST (if x then 0 else 16) 16, true) else (s, false)

/-- A frame of a member in one of its own slots admits it (R97), and its ACK counts for a pending switch (R378). -/
def Block.noteMember (s : Block) (kind : Nat) (h : FrameHdr) : Block :=
  let s := if s.slots.any (fun x => x.sender == h.src.val && x.kind == kind) then
      s.modSzn (fun z => { z with admitted := sset (fun _ => 0) z.admitted h.src.val (s.cyc + 1) })
    else s
  match h.ack, s.szn.sw with
  | some (t, id), some w =>
    if t = w.target ∧ id = w.id ∧ w.acked.contains h.src.val = false then
      s.modSzn (fun z => { z with sw := some { w with acked := h.src.val :: w.acked } })
    else s
  | _, _ => s

/-! ### The star guardian (R374, R375) -/

/-- The windows of a port: open and close of each slot whose sender the routing table reaches through it, in 1/16 ns
of the local cycle (R374). -/
def Block.slotWindows (s : Block) (k : Nat) : List (Int × Int) :=
  s.slots.filterMap (fun x =>
    let r := sget (fun _ => {}) s.fab.rt x.sender
    let via := if k < 32 then r.xv && r.xport == k else r.yv && r.yport + 32 == k
    if via then some ((80 * x.start : Nat) + (r.delta : Int) - 1280, (80 * (x.start + x.len) : Nat) + (r.delta : Int) + 1280)
    else none)

/-- What the guardian finds of a frame that starts and ends at these local times: 0 inside a window, 1 EARLY,
2 TRUNC, 3 BABBLE (R375). -/
def guardOf (ws : List (Int × Int)) (st en : Int) : Nat :=
  match ws.find? (fun w => decide (w.1 ≤ st) && decide (st ≤ w.2)) with
  | some w => if en ≤ w.2 then 0 else 2
  | none => if ws.any (fun w => decide (st < w.1) && decide (w.1 ≤ en)) then 1 else 3

/-- The local time of a frame's start and end within the cycle, 1/16 ns; a command comes at the frame's end. -/
def Block.frameSpan (s : Block) (h : FrameHdr) : Int × Int :=
  let e : Int := (16 * (s.tb.dt % 15625) : Nat)
  (e + h.arr, e)

/-- PORT_CUTOFF: TRUNC_RUN has reached 3 (R375). The CUTOFF message names the sender (R376). -/
def Block.cutPort (s : Block) (k src : Nat) : Block :=
  let s := (s.setB (R.SZP_STAT k) 2 true).szpFlag k 5
  (s.postEv 0x0E2).svcPut { typ := 0x04, body := [src, k / 32], dst := src }

/-- GUARDIAN_TRUNCATE: a frame outside its window (R375). The first in a cycle raises TRUNC_RUN. -/
def Block.guardBad (s : Block) (k g src : Nat) : Block :=
  let s := s.szpFlag k (if g = 1 then 3 else if g = 2 then 2 else 4)
  let s := s.incSat (R.SZP_GUARD_CNT k) (if g = 3 then 16 else 0) 16
  if s.szn.bad.contains k then s
  else
    let s := s.modSzn (fun z => { z with bad := k :: z.bad })
    let n := satAdd (s.fl (R.SZP_STAT k) 3 2) 1 3
    let s := s.setF (R.SZP_STAT k) 3 2 n
    if n = 3 ∧ s.bt (R.SZP_STAT k) 2 = false then s.cutPort k src else s

/-- The guardian at a port with STAR = 1: the state after it, and whether the frame passes (R374, R375). -/
def Block.guard (s : Block) (k : Nat) (h : FrameHdr) : Block × Bool :=
  if !s.bt (R.SZP_CFG k) 1 then (s, true)
  else if s.bt (R.SZP_STAT k) 2 then (s, false)
  else
    let sp := s.frameSpan h
    let g := guardOf (s.slotWindows k) sp.1 sp.2
    if g = 0 then (s.modSzn (fun z => { z with good := k :: z.good }), true) else (s.guardBad k g h.src.val, false)

/-- At a cycle boundary (R375, R376): a cycle with frames all inside windows sets TRUNC_RUN to 0; ports reinstated
by an ACCEDE message leave CUTOFF. -/
def Block.guardCycle (s : Block) : Block :=
  let s := forL (s.szn.good.filter (fun k => !s.szn.bad.contains k)) (fun k s => s.setF (R.SZP_STAT k) 3 2 0) s
  let s := forL s.szn.reinstate (fun k s =>
    ((s.setB (R.SZP_STAT k) 2 false).setF (R.SZP_STAT k) 3 2 0).postEv 0x0E2) s
  s.modSzn (fun z => { z with good := [], bad := [], reinstate := [], joinSeen := [] })

/-- SZN_LOST at the end of a cycle: expected frames with one copy missing, and with both (R368). -/
def Block.countLost (s : Block) : Block :=
  if !s.bt R.TB_STAT 1 then s.modSzn (fun z => { z with copies := [], csSeen := none })
  else
    let exp := (s.slots.filter (fun x => x.sender != s.ownEp && x.kind != 4 && (x.dst == s.ownEp || x.dst == 0xFFF))).map
      (fun x => (x.kind, x.sender, x.dst))
    let cnt := fun (e : Nat × Nat × Nat) (x : Bool) =>
      s.szn.copies.any (fun c => c.kind == e.1 && c.src == e.2.1 && c.dst == e.2.2 && c.chanX == x)
    let s' := forL exp (fun e s =>
      let nx := cnt e true
      let ny := cnt e false
      if nx && ny then s else if nx || ny then s.incSat R.SZN_LOST 0 16 else s.incSat R.SZN_LOST 16 16) s
    let s' := if s.bt R.SZN_STAT 3 then s'
      else
        let nx := s.szn.copies.any (fun c => c.kind == 1 && c.chanX)
        let ny := s.szn.copies.any (fun c => c.kind == 1 && !c.chanX)
        if nx && ny then s' else if nx || ny then s'.incSat R.SZN_LOST 0 16 else s'.incSat R.SZN_LOST 16 16
    s'.modSzn (fun z => { z with copies := [], csSeen := none })

/-! ### Deck Time from cycle-start frames (R39, R537) -/

/-- TB_STAT.DT_STATE: 0 FREE, 1 ACQUIRING, 2 LOCKED, 3 HOLDOVER (R57). -/
def Block.dtState (s : Block) : Nat := s.fl R.TB_STAT 2 2
def Block.setDtState (s : Block) (n : Nat) : Block := s.setF R.TB_STAT 2 2 n

/-- Set or clear TB_STAT.CYCLE_RUN; the time-outs convert where the active mode changes (R57, R117). -/
def Block.setCycleRun (s : Block) (b : Bool) : Block := s.keepMode (fun s => s.setB R.TB_STAT 1 b)

/-- Set a flag of TB_ERR (R58). -/
def Block.tbFlag (s : Block) (i : Nat) : Block := s.flag R.TB_ERR i 0x40300000 i

/-- Move Deck Time to a value: pending DECK deadlines shift with it (R118), and the cycle number follows (R36). -/
def Block.setDeck (s : Block) (dt : Nat) : Block :=
  let s := s.shiftTmo ((dt : Int) - s.tb.dt)
  { s with tb := { s.tb with dt := dt % 2 ^ 64, cycDone := dt % 2 ^ 64 / 15625 + 1 } }

/-- Deck Time as a cycle-start frame gives it at this instant: its Deck Time, plus CORR and the port's delay and the
time since its /S/, to a whole tick (R39, R367; assumption 9). (log 9, DEDUCED) -/
def deckFromFrame (b : CsBody) (h : FrameHdr) (delay : Nat) : Nat :=
  (((b.deckTime : Int) + ((b.corr : Int) + (delay : Int) - h.arr) / 16) / 5 * 5).toNat

/-- The offset o of R367 in 1/16 ns: own tick 0 minus the time master's. -/
def Block.offset16 (s : Block) (b : CsBody) (h : FrameHdr) (delay : Nat) : Int :=
  (16 * b.deckTime : Nat) - (((16 * s.tb.dt : Nat) : Int) + h.arr - (b.corr : Int) - (delay : Int))

/-- At the cycle boundary at which the device becomes time master, TB_FREQ_ADJ takes the steering in force, clamped
to TB_SLEW_MAX (R37). -/
def Block.loadFreqAdj (s : Block) : Block :=
  let lim : Int := (s.fl R.TB_SLEW_MAX 0 7 : Nat) * 1024000
  let y := clamp s.tb.pllY (-lim) lim
  { s.wrI R.TB_FREQ_ADJ y with tb := { s.tb with trim := y, adjPend := false } }

/-- Whether a member of the entry in use is admitted (R97): a frame of it within the last 64 cycles; a member none of
whose slot frames this device receives counts as admitted. (log 90, DEDUCED) -/
def Block.memberIn (s : Block) (e : Nat) : Bool :=
  if e = s.ownEp then s.bt R.SZN_STAT 3 || s.sznSt == 4
  else !(s.slots.any (fun x => x.sender == e && (x.dst == s.ownEp || x.dst == 0xFFF))) ||
    (let c := sget (fun _ => 0) s.szn.admitted e
     c != 0 && decide (s.cyc + 1 < c + 64))

/-- Whether every member of the entry in use is admitted (R97). -/
def Block.allAdmitted (s : Block) : Bool := (s.members s.entry).all s.memberIn

/-- Whether the conditions of READY hold (R97): SYS_BOOT_STAT shows it as of each read. -/
def Block.readyNow (s : Block) : Bool :=
  let st := fun ch => s.fl (R.SAFE_CH_STATE ch) 0 3
  s.bt R.SYS_BOOT_STAT 6 && s.bt R.TB_STAT 1 && (st 0 == 1 || st 0 == 2) && (st 1 == 1 || st 1 == 2)
    && (!s.isCoord || s.allAdmitted)

/-- Steering of the TB PLL (R537): I and y in 1/1024 ppb, o in ns. -/
def Block.steer (s : Block) (o : Int) : Block :=
  let lim : Int := 100 * 1024000
  let i := clamp (s.tb.pllI + tdiv (o * 1024000) 256) (-lim) lim
  { s with tb := { s.tb with pllI := i, pllY := clamp (i + o * 1024000) (-lim) lim } }

/-- Listen count of a Coordinator or Reserve with COLD_EN = 1 (R370). -/
def Block.setListen (s : Block) : Block :=
  let n := if s.isCoord && s.bt R.SZN_CTRL 1 then 2 * (1 + s.seat) else 0
  s.setF R.SZN_STAT 10 7 n

/-- Accession lost (R370): no slots are sent, ACC_LOST, event 0x0E2; LISTEN on a Coordinator or Reserve with
COLD_EN = 1, otherwise ACCEDE. -/
def Block.loseAccession (s : Block) : Block :=
  let s := (s.sznFlag 3).postEv 0x0E2
  let s := (s.setB R.SZN_STAT 8 false).setB R.SZN_STAT 9 false
  let s := s.modSzn (fun z => { z with csRun := 0 })
  if s.isCoord && s.bt R.SZN_CTRL 1 then (s.setSzn 1).setListen else s.setSzn 3

/-- The time base at a valid cycle-start frame (R39, R537). The offset is steered by and shown in whole ns: what lies
below one is dropped, toward zero. (log 9, DEDUCED) -/
def Block.tbFrame (s : Block) (b : CsBody) (h : FrameHdr) (delay : Nat) (o16 : Int) : Block :=
  let o := tdiv o16 16
  let again := s.tb.reload
  let in40 := decide (-640 ≤ o16) && decide (o16 ≤ 640)
  let in1us := decide (-16000 ≤ o16) && decide (o16 ≤ 16000)
  let s := { s with tb := { s.tb with lost := 0, csLate := b.corr + delay, reload := false } }
  match s.dtState with
  | 0 => (s.setDeck (deckFromFrame b h delay)).setDtState 1
  | 1 => if in1us && !again then s.steer o else s.setDeck (deckFromFrame b h delay)
  | 2 => s.steer o
  | _ =>
    if in40 then (s.steer o).setDtState 2
    else ((s.setCycleRun false).setDeck (deckFromFrame b h delay)).setDtState 1

/-! ### Accession (R370) -/

/-- ACCESSION (R370): MEMBER, event 0x0E2, CYCLE_RUN and LOCKED (R39); the frames go on the pair on which the frame
arrived (R364). -/
def Block.accede (s : Block) (k : Nat) : Block :=
  let s := ((s.setSzn 4).postEv 0x0E2).setDtState 2
  let s := (s.setCycleRun true)
  let s := (s.setB R.SZN_STAT 8 true).setB R.SZN_STAT 9 true
  s.modSzn (fun z => { z with uplink := k % 32, sendFrom := s.cyc + 1, cutX := false, cutY := false, missedGo := false })

/-- A claim above another (R402). -/
def claimAbove (a b : Nat) : Bool :=
  let d := (a / 32 + 2048 - b / 32 % 2048) % 2048
  (decide (1 ≤ d) && decide (d ≤ 1023)) || (a / 32 % 2048 == b / 32 % 2048 && decide (b % 32 < a % 32))

/-- Own claim (RED_CLAIM). -/
def Block.ownClaim (s : Block) : Nat := s.fl R.RED_CLAIM 0 16

/-- Set a flag of RED_ERR (R421). -/
def Block.redFlag (s : Block) (i : Nat) : Block := s.flag R.RED_ERR i 0x40420000 i

/-- RED_STAT.STATE: 0 NONE, 1 ACTIVE, 2 STANDBY, 3 STALE, 4 RESYNC. -/
def Block.redSt (s : Block) : Nat := s.fl R.RED_STAT 0 3
/-- Enter a redundancy state; PAGE_STAT.ACTIVE is 1 in ACTIVE, STANDBY and RESYNC. -/
def Block.setRed (s : Block) (n : Nat) : Block :=
  (s.setF R.RED_STAT 0 3 n).setB (R.PAGE_STAT 0x40420000) 2 (n == 1 || n == 2 || n == 4)

/-- Own claim with an epoch (R402, R403). -/
def Block.setEpoch (s : Block) (e : Nat) : Block := s.setF R.RED_CLAIM 0 16 (e % 2048 * 32 + s.seat)

/-- DEPOSE (R409): an ACTIVE coordinator that sees a higher claim of the other stops being time master and enters
STALE; its epoch is the new Active's − 1 (R403). -/
def Block.depose (s : Block) (claim : Nat) : Block :=
  let s := (s.setB R.SZN_STAT 3 false).redFlag 4
  let s := { s with red := { s.red with hoArm := false, hoTx := false, hoTest := none, rsOn := false, rsTodo := [], rsSnap := [] } }
  ((s.postEv 0x0E3).setRed 3).setEpoch (claim / 32 + 2047)

/-- The other coordinator's endpoint (RED_PEER). -/
def Block.peerEp (s : Block) : Nat := s.fl R.RED_PEER 0 12

/-- A coordinator that is not ACTIVE follows the Active's epoch (R403); a STANDBY that missed a TWIN frame enters
STALE (R415). -/
def Block.redFrame (s : Block) (h : FrameHdr) : Block :=
  if !s.isCoord || h.src.val != s.peerEp || s.redSt == 1 then s
  else
    let s := (s.setF R.RED_CLAIM 16 16 h.claim).setB R.RED_STAT 3 true
    let s := s.setEpoch (h.claim / 32 + 2047)
    if s.redSt = 2 ∧ s.red.twinMiss = true then
      (({ s with red := { s.red with twinMiss := false } } : Block).setRed 3).redFlag 5
    else if s.redSt = 0 then s.setRed 3
    else s

/-- AGREEMENT_CHECK (R397, R398): the digest, revision and firmware set of the frame against the device's own; a Hub
compares once SEALED, a device without an accepted image makes no comparison. -/
def Block.agree (s : Block) (b : CsBody) : Block :=
  let may := if s.isHub then s.fl R.FAB_STAT 0 2 == 2 else s.bt R.SYS_BOOT_STAT 6
  if !may || !(s.sznSt == 4 || s.sznSt == 5) then s
  else
    let why := if b.digest ≠ s.rd64 R.FAB_DIGEST_LO then 1
      else if b.rev ≠ s.fl R.SYS_ID 0 8 then 2
      else if b.fwset ≠ s.fl R.FAB_FWSET 0 24 then 3 else 0
    if why = 0 then
      if s.bt R.FAB_STAT 3 then
        ((s.setB R.FAB_STAT 3 false).setF R.FAB_STAT 4 4 0).modSzn (fun z => { z with sendFrom := s.cyc + 1 })
      else s
    else
      let s := (s.setB R.FAB_STAT 3 true).setF R.FAB_STAT 4 4 why
      { s with fab := { s.fab with holdPend := true } }

/-- A Catalogue switch as a member sees it in the time master's frames (R378, R379). -/
def Block.swFrame (s : Block) (b : CsBody) : Block :=
  let s := s.setF R.SZN_STAT 4 3 b.entry
  let s := s.modSzn (fun z => { z with missedGo := false })
  if b.swCount = 0 then
    match s.szn.sw with
    | none => s
    | some _ =>
      let s := s.modSzn (fun z => { z with sw := none, ackOut := none })
      let s := (s.setB R.SZN_STAT 7 false).setF R.SZN_CAT_STAT 8 2 3
      (s.sznFlag 2).postEv 0x0E1
  else
    let w : Switch := { target := b.swTarget, id := b.swId, count := b.swCount, go := b.go, abort := b.abort }
    let ack := if s.bt R.FAB_STAT 3 then none else some (b.swTarget, b.swId)
    let s := s.modSzn (fun z => { z with sw := some w, swIdLast := b.swId, ackOut := ack })
    let s := s.setB R.SZN_STAT 7 true
    ((s.setF R.SZN_CAT_STAT 0 3 b.swTarget).setF R.SZN_CAT_STAT 3 5 b.swId).setF R.SZN_CAT_STAT 8 2 1

/-- Rejoining a cut-off channel: two consecutive valid cycle starts on it (R376). -/
def Block.rejoin (s : Block) (k : Nat) (in40 : Bool) : Block :=
  let x := decide (k < 32)
  if x && s.szn.cutX then
    let n := if in40 then s.szn.rejX + 1 else 0
    if 2 ≤ n then
      (s.modSzn (fun z => { z with rejX := 0, rejoinX := 2 })).svcPut { typ := 0x03, body := [s.ownEp, 0] }
    else s.modSzn (fun z => { z with rejX := n })
  else if !x && s.szn.cutY then
    let n := if in40 then s.szn.rejY + 1 else 0
    if 2 ≤ n then
      (s.modSzn (fun z => { z with rejY := 0, rejoinY := 2 })).svcPut { typ := 0x03, body := [s.ownEp, 1] }
    else s.modSzn (fun z => { z with rejY := n })
  else s

/-- A device that follows the time master, at the first valid copy of a cycle (R39, R367, R370). -/
def Block.followFrame (s : Block) (k : Nat) (h : FrameHdr) (b : CsBody) : Block :=
  let delay := s.fl (R.SZP_DELAY k) 0 24
  let o16 := s.offset16 b h delay
  let in40 := decide (-640 ≤ o16) && decide (o16 ≤ 640)
  let dt0 := s.dtState
  let s := s.wrI R.TB_OFFSET (tdiv o16 16)
  let s := (s.setF R.SZN_TM 0 12 h.src.val).setF R.SZN_TM 12 16 h.claim
  let s := s.tbFrame b h delay o16
  let run := if s.szn.csLast + 15625 = b.deckTime then s.szn.csRun else 0
  let s := s.modSzn (fun z => { z with csLast := b.deckTime, csRun := if in40 && dt0 != 0 then run + 1 else 0 })
  let s := s.redFrame h
  match s.sznSt with
  | 1 => s.setSzn 3
  | 3 =>
    if 2 ≤ s.szn.csRun then
      if (s.members b.entry).contains s.ownEp then ((s.swFrame b).accede k).agree b
      else (s.sznFlag 6).setF R.SZN_STAT 4 3 b.entry
    else s.setF R.SZN_STAT 4 3 b.entry
  | 4 => (s.swFrame b).agree b
  | 5 =>
    if in40 then ((s.setSzn 4).swFrame b).agree b
    else s.loseAccession
  | _ => s

/-- Enter CONFLICT (R370, R372). -/
def Block.seatConflict (s : Block) : Block := ((s.setB R.SZN_STAT 3 false).setSzn 6).sznFlag 0

/-- CYCLE_START_FRAME_RX (R355 to R357, R367, R370, R373, R397, R409). -/
def opCycleStartFrameRx (k : Nat) (h : FrameHdr) (b : CsBody) (s : Block) : Block :=
  if s.sznSt = 0 ∨ s.sznSt = 6 then s
  else
    let (s, ok) := s.frameCheck k h
    if !ok || h.cycle % 2 ^ 32 != b.deckTime / 15625 % 2 ^ 32 then s
    else if s.bt R.TB_STAT 1 && s.cycAge h == 2 then s.szpFlag k 9
    else
      let s := s.rxCount k
      if s.bt R.SZN_STAT 3 then
        -- the device is time master
        if s.sznSt = 2 then
          if b.seat = s.seat then (s.svcPut { typ := 0x05, body := [s.seat] }).seatConflict
          else
            let s := (s.setB R.SZN_STAT 3 false).setSzn 3
            (((s.setCycleRun false).setDtState 0).setRed 0).followFrame k h b
        else if claimAbove h.claim s.ownClaim then
          let s := if s.redSt = 1 ∧ h.src.val = s.peerEp ∧ s.red.hoWait = 0 then s.depose h.claim else s.setB R.SZN_STAT 3 false
          (s.setDtState 2).modSzn (fun z => { z with csLast := b.deckTime, csRun := 1 })
        else s
      else
        let delay := s.fl (R.SZP_DELAY k) 0 24
        let o16 := s.offset16 b h delay
        let s := s.rejoin k (decide (-640 ≤ o16) && decide (o16 ≤ 640))
        match s.szn.csSeen with
        | some (src, claim, port) =>
          let (s, _) := s.firstCopy k 1 h
          if src = h.src.val then s
          else
            let s := s.sznFlag 1
            if claimAbove h.claim claim || (h.claim == claim && decide (k < port)) then
              (s.modSzn (fun z => { z with csSeen := some (h.src.val, h.claim, k) })).followFrame k h b
            else s
        | none =>
          let (s, _) := s.firstCopy k 1 h
          let s := s.modSzn (fun z => { z with csSeen := some (h.src.val, h.claim, k) })
          s.followFrame k h b

/-- The first tick of a cycle that lies no earlier than its expected tick + 1 µs (R537). -/
def Block.csDue (s : Block) : Nat := (s.tb.csLate + 16 * 1416 + 79) / 80

/-- CYCLE_START_TIMEOUT (R537): no valid copy was accepted in this cycle by the expected tick + 1 µs, to which time moves
on; LOCKED becomes HOLDOVER and MEMBER becomes HOLD, in the same tick. (log 29, DESIGN CHOICE) -/
def opCycleStartTimeout (s : Block) : Block :=
  if s.bt R.SZN_STAT 3 || s.szn.csSeen.isSome || decide (3125 ≤ s.csDue) || !(s.dtState == 2 || s.sznSt == 4) then s
  else
    let s := s.advanceToTick s.csDue
    let s := if s.dtState = 2 then (s.setDtState 3).tbFlag 5 else s
    if s.sznSt = 4 then (s.setSzn 5).modSzn (fun z => { z with holdCnt := 0, csRun := 0 }) else s

/-- ACQUIRING_TIMEOUT (R39): 64 consecutive local cycles without a valid cycle-start frame. `lost` counts the cycle starts
since the last one, the one that ends that frame's own cycle among them. -/
def opAcquiringTimeout (s : Block) : Block :=
  if s.dtState = 1 ∧ 64 < s.tb.lost then s.setDtState 0 else s

/-- SYNZON_ENABLE: SZN_CTRL.EN = 1 (R370, R384). -/
def opSynzonEnable (snd : Sender) (v : Word) (s : Block) : Block :=
  if v.getLsbD 1 && !s.isCoord then s.refuse true R.SZN_CTRL snd .state
  else
    let s := s.setF R.SZN_CTRL 0 2 (fld v 0 2)
    if s.sznSt = 0 then (s.setSzn 1).setListen else s

/-- SYNZON_DISABLE: SZN_CTRL.EN = 0 from any state but OFF; CONFLICT is left only by a system reset (R370). -/
def opSynzonDisable (snd : Sender) (v : Word) (s : Block) : Block :=
  if v.getLsbD 1 && !s.isCoord then s.refuse true R.SZN_CTRL snd .state
  else
    let s := s.setF R.SZN_CTRL 0 2 (fld v 0 2)
    if s.sznSt = 0 ∨ s.sznSt = 6 then s
    else
      let s := ((s.setSzn 0).setB R.SZN_STAT 3 false).setF R.SZN_STAT 8 2 0
      { s with tx := [] }

/-- DT_STATE of a time master (R40): FREE with the source FREE; with a PTP source LOCKED while PTP_LOCKED is 1, ACQUIRING
until firmware first sets that bit, HOLDOVER after it has cleared it. -/
def Block.masterDt (s : Block) : Nat :=
  if s.fl R.TB_CTRL 0 2 = 0 then 0 else if s.bt R.TB_CTRL 2 then 2 else if s.tb.ptpSet then 3 else 1

/-- A time master's DT_STATE follows its source (R40, R58). -/
def Block.masterState (s : Block) : Block :=
  if !s.bt R.SZN_STAT 3 then s
  else
    let t := s.setDtState s.masterDt
    if s.masterDt = 3 ∧ s.dtState ≠ 3 then t.tbFlag 5 else t

/-- LISTEN_EXPIRE (R370, R403, R40): a Coordinator or Reserve with COLD_EN = 1 becomes time master in COLD. A cycle
exists from then on (R57), TB_FREQ_ADJ takes the steering in force (R37). (log 38, DEDUCED) -/
def opListenExpire (s : Block) : Block :=
  if s.sznSt = 1 ∧ s.fl R.SZN_STAT 10 7 = 0 ∧ s.bt R.SZN_CTRL 1 = true then
    let s := (s.setSzn 2).setB R.SZN_STAT 3 true
    let s := (s.setEpoch 1).setRed 1
    let s := (s.setCycleRun true).loadFreqAdj.masterState
    let s := s.setF R.SZN_STAT 4 3 0
    s.modSzn (fun z => { z with coldSent := 0, coldFlag := true })
  else s

/-- COLD_START_COMPLETE (R370): 8 cycles sent with no contender. -/
def opColdStartComplete (s : Block) : Block :=
  if s.sznSt = 2 ∧ 8 ≤ s.szn.coldSent then
    let s := ((s.setSzn 4).setB R.SZN_STAT 8 true).setB R.SZN_STAT 9 true
    s.modSzn (fun z => { z with coldFlag := false, sendFrom := s.cyc })
  else s

/-- HOLD_TIMEOUT (R370, R39): SZN_HOLD_MAX cycles in HOLD. No frame is there to reload Deck Time from: the next valid one
reloads it. (log 9, DEDUCED) -/
def opHoldTimeout (s : Block) : Block :=
  if s.sznSt = 5 ∧ s.fl R.SZN_HOLD_MAX 0 8 ≤ s.szn.holdCnt then
    let s := ((s.loseAccession).setCycleRun false).setDtState 1
    { s with tb := { s.tb with reload := true } }
  else s

/-- What the ECC of the Catalogue or queue memory finds (R33, R382): an uncorrectable error stops the sending in slots and
brings the device, the time master and a cold starter too, to ACCEDE, or LISTEN where R370 sends it on a loss; it is
recorded. -/
def Block.sznEcc (s : Block) (e : Ecc) : Block :=
  match e with
  | .none => s
  | .corr => s.sznFlag 8
  | .uncorr =>
    let s := s.sznFlag 9
    let s := if s.sznSt = 2 ∨ s.sznSt = 4 ∨ s.sznSt = 5 then s.loseAccession.setB R.SZN_STAT 3 false else s
    s.archive 0x40 0 15 2 (s.rdN R.SZN_ERR) 0 0

/-- What the ECC of the routing table finds (R33, R401). -/
def Block.fabEcc (s : Block) (e : Ecc) : Block :=
  match e with
  | .none => s
  | .corr => s.flag R.FAB_ERR 7 0x40410000 7
  | .uncorr =>
    let s := s.flag R.FAB_ERR 8 0x40410000 8
    s.archive 0x42 0 16 2 (s.rdN R.FAB_ERR) 0 0

/-! ### Frames of items -/

/-- The slot of the entry in use by sender and kind. -/
def Block.slotOf (s : Block) (src kind dst : Nat) : Option Slot :=
  s.slots.find? (fun x => x.sender == src && x.kind == kind && x.dst == dst)

/-- The common path of FEEDBACK, COMMAND, DATA and TWIN frames: checks, window, CYCLE and first copy (R355, R368,
R374). `act` gets whether the frame is of the previous cycle. -/
def Block.itemFrame (s : Block) (k kind : Nat) (h : FrameHdr) (act : Bool → Block → Block) : Block :=
  let (s, ok) := s.frameCheck k h
  if !ok || !s.forMe h then s
  else if !s.bt R.TB_STAT 1 then s
  else
    let (s, inside) := s.guard k h
    if !inside then s
    else if s.cycAge h = 2 then s.szpFlag k 9
    else
      let s := (s.rxCount k).noteMember kind h
      let (s, first) := s.firstCopy k kind h
      if first then act (s.cycAge h == 1) s else s

/-- An item that missed the latch of this cycle waits for the next; one of the cycle before gives way to it (R44). -/
def Szn.keepLate (z : Szn) (c : Nat) (prev : Bool) (it : FbItem) : Szn :=
  if prev && (sget (fun _ => none) z.fbNext c).isSome then z else { z with fbNext := sset (fun _ => none) z.fbNext c (some it) }

/-- FEEDBACK_FRAME_RX (R358, R44): the items are taken for the next latch. AGE is one higher for a frame of the previous
cycle, and for one that is late for the FBD of its cycle (R355, R369). (log 35, DEDUCED) -/
def opFeedbackFrameRx (k : Nat) (h : FrameHdr) (items : List FbItem) (s : Block) : Block :=
  s.itemFrame k 2 h (fun prev s =>
    match s.slotOf h.src.val 2 h.dst.val with
    | none => s
    | some sl =>
      let missed := decide (s.fl R.TB_FB_DEADLINE 0 12 ≤ s.tick)
      let add := (if prev then 1 else 0) + (if missed then 1 else 0)
      forL (sl.items.zip items) (fun p s =>
        match p.1 with
        | .carrel c =>
          let it := { p.2 with age := satAdd p.2.age add 255 }
          s.modSzn (fun z => if missed then z.keepLate c prev it
            else if prev then { z with fbLate := sset (fun _ => none) z.fbLate c (some it) }
            else { z with fbNew := sset (fun _ => none) z.fbNew c (some it) })
        | _ => s) s)

/-- COMMAND_FRAME_RX (R359, R404, R409): the items are kept for APD, those that miss it for the next (R44); CFG_TAG must match; an ACTIVE coordinator that
sees a higher claim of the other is deposed, unless it is handing over (R409). -/
def opCommandFrameRx (k : Nat) (h : FrameHdr) (items : List CmdItem) (cfgTag : Nat) (s : Block) : Block :=
  s.itemFrame k 3 h (fun late s =>
    if s.redSt = 1 ∧ h.src.val = s.peerEp ∧ s.red.hoWait = 0 ∧ claimAbove h.claim s.ownClaim = true then s.depose h.claim
    else if !s.isNode then s
    else if cfgTag ≠ s.rdN R.FAB_DIGEST_LO then s.sznFlag 5
    else if s.fl R.TB_APP_DEADLINE 0 12 ≤ s.tick then
      s.modSzn (fun z => { z with cmdNext := z.cmdNext.filter (fun x => x.1 != h.src.val) ++ [(h.src.val, h.claim, items)] })
    else if late then
      s.modSzn (fun z => { z with cmdLate := z.cmdLate.filter (fun x => x.1 != h.src.val) ++ [(h.src.val, h.claim, items)] })
    else s.modSzn (fun z => { z with cmdNew := z.cmdNew.filter (fun x => x.1 != h.src.val) ++ [(h.src.val, h.claim, items)] }))

/-- DATA_FRAME_RX (R360, R139, R142): IMU items or target items for the VMF; those that miss FBD wait for the next
(R44). -/
def opDataFrameRx (k : Nat) (h : FrameHdr) (imus : List ImuItem) (tgts : List TgtItem) (s : Block) : Block :=
  s.itemFrame k 5 h (fun late s =>
    match s.slotOf h.src.val 5 h.dst.val with
    | none => s
    | some sl =>
      let missed := decide (s.fl R.TB_FB_DEADLINE 0 12 ≤ s.tick)
      let age := fun a => satAdd a ((if late then 1 else 0) + (if missed then 1 else 0)) 255
      let s := forL (sl.items.zip imus) (fun p s =>
        match p.1 with
        | .imu i =>
          let it := { p.2 with age := age p.2.age }
          if missed then s.modSzn (fun z => { z with imuNext := z.imuNext ++ [(i, h.src.val, it)] }) else s.imuSample i h.src.val it
        | _ => s) s
      forL (sl.items.zip tgts) (fun p s =>
        match p.1 with
        | .target _ =>
          let it := { p.2 with age := age p.2.age }
          if missed then s.modSzn (fun z => { z with tgtNext := z.tgtNext ++ [(h.src.val, it)] }) else s.targetItem h.src.val it
        | _ => s) s)

/-- A safety frame at its port: the state after the checks, and whether the copy goes to the Safety Island. -/
def Block.safetyFrame (s : Block) (k : Nat) (h : FrameHdr) : Block × Bool :=
  let (s, ok) := s.frameCheck k h
  if !ok || !s.forMe h || !s.bt R.TB_STAT 1 then (s, false)
  else
    let (s, inside) := s.guard k h
    if !inside then (s, false)
    else if s.cycAge h = 2 then (s.szpFlag k 9, false)
    else ((s.rxCount k).noteMember 4 h, true)

/-- A frame toward this device at an UP port whose Synzon CRC fails: the copy fails its check (R333). -/
def Block.badCopy (s : Block) (k : Nat) (h : FrameHdr) : Bool :=
  s.portUp k && !(h.codeOk && h.crcOk) && s.forMe h && s.bt R.TB_STAT 1

/-- SAFETY_FRAME_RX (R333, R13): the copy from X goes to channel A and the copy from Y to channel B; one that misses the
latch of its cycle, FBD or on a Node APD, waits for the next (R44). -/
def opSafetyFrameRx (k : Nat) (h : FrameHdr) (p : SafePayload) (b : Block) (i : Island) : Block × Island :=
  if b.off then (b, i)
  else
    let r := b.safetyFrame k h
    let late := decide (b.fl (if b.isNode then R.TB_APP_DEADLINE else R.TB_FB_DEADLINE) 0 12 ≤ b.tick)
    (r.1, if r.2 || b.badCopy k h then i.safeRx late (decide (k < 32)) r.2 p else i)

/-! ### Stars: forwarding (R366, R371, R374, R377, R393) -/

/-- Where the routing table sends a frame from port k (R393): the egress ports, or none where it is dropped. -/
def Block.routePorts (s : Block) (k dst : Nat) : Option (List Nat) :=
  let x := decide (k < 32)
  if dst = 0xFFF then some (s.upPorts.filter (fun j => decide (j < 32) == x && j != k))
  else
    let r := sget (fun _ => {}) s.fab.rt dst
    if !(r.xv || r.yv) then none
    else if x then (if r.xv && s.portUp r.xport then some [r.xport] else some [])
    else (if r.yv && s.portUp (r.yport + 32) then some [r.yport + 32] else some [])

/-- Hand a frame to egress ports. -/
def Block.sendOn (s : Block) (ports : List Nat) (f : TxFrame) : Block :=
  let ports := ports.filter (fun p => s.pageEn (szpPage p))
  let s := { s with tx := ports.map (fun p => { f with port := p }) }
  forL ports (fun p s => s.wrN (R.SZP_TX_CNT p) (s.rdN (R.SZP_TX_CNT p) + 1)) s

/-- A frame with no valid routing entry is dropped (R393). -/
def Block.routeMiss (s : Block) : Block :=
  (s.incSat R.FAB_RT_MISS_CNT 0 16).flag R.FAB_ERR 4 0x40410000 4

/-- Whether the star's own COLD frame, sent at its tick 0 in state COLD, came within the same 80 ns (R371). -/
def Block.ownCold (s : Block) (h : FrameHdr) : Bool :=
  let a := (s.frameSpan h).1
  s.sznSt == 2 && (decide (-1280 < a ∧ a < 1280) || decide (16 * 15625 - 1280 < a))

/-- A CYCLE_START frame at a star (R366, R371): cut-through to all other UP ports with CORR raised by the ingress
delay and the residence, `resid` in 2^-4 ns; COLD frames are arbitrated per channel, the lowest port first. `lower`
says whether a COLD frame of a lower port or the star's own came within the same 80 ns. -/
def Block.forwardCs (s : Block) (k : Nat) (f : TxFrame) (b : CsBody) (resid : Nat) (lower : Bool) : Block :=
  let x := decide (k < 32)
  let win := if x then s.szn.coldWinX else s.szn.coldWinY
  let blocked := b.cold && (lower || (match win with | some w => w != k | none => false))
  if blocked then s.szpFlag k 6
  else
    let s := if b.cold then s.modSzn (fun z => if x then { z with coldWinX := some k, coldAbsent := 0 }
        else { z with coldWinY := some k, coldAbsent := 0 })
      else s.modSzn (fun z => { z with coldAbsent := 0 })
    let b' := { b with corr := b.corr + s.fl (R.SZP_DELAY k) 0 24 + resid }
    s.sendOn (s.upPorts.filter (fun j => decide (j < 32) == x && j != k)) { f with body := .cycleStart b' }

/-- A Hub that has not received its whole routing table and all its slot windows, as the SEAL that follows them tells it:
it forwards nothing but cycle-start and discovery frames (R18). (log 118, DEDUCED) -/
def Block.hubEmpty (s : Block) : Bool := s.isHub && s.fl R.FAB_STAT 0 2 != 2

/-- FRAME_FORWARD (R374, R375, R393, R398): a star forwards a frame arriving on a port with STAR = 1. JOIN and
DISCOVERY frames have rows of their own. A frame whose routing entry fails its ECC is dropped (R401). -/
def opFrameForward (k : Nat) (h : FrameHdr) (f : TxFrame) (resid : Nat) (lower : Bool) (e : Ecc) (s : Block) : Block :=
  if s.isNode || !s.bt (R.SZP_CFG k) 1 then s
  else
    let (s, ok) := s.frameCheck k h
    if !ok then s
    else match f.body with
      | .cycleStart b => if s.bt (R.SZP_STAT k) 2 then s else s.forwardCs k f b resid (lower || s.ownCold h)
      | .join => s
      | .discovery _ => s
      | _ =>
        let load := match f.body with | .load _ => true | _ => false
        if s.bt R.FAB_STAT 3 && s.isHub && !load then s
        else if s.hubEmpty && !load then s
        else
          let (s, inside) := s.guard k h
          if !inside || h.dst.val = s.ownEp then s
          else
            let s := if h.dst.val = 0xFFF then s else s.fabEcc e
            if e = .uncorr ∧ h.dst.val ≠ 0xFFF then s
            else match s.routePorts k h.dst.val with
              | none => s.routeMiss
              | some ps => s.sendOn ps f

/-- A JOIN or DISCOVERY frame that a star passes on to `outs` (R377, R389): one per ingress port per cycle; where several go
toward one uplink in a cycle one is forwarded and up to four others are queued in port order. -/
def Block.joinPass (s : Block) (k src : Nat) (outs : List Nat) (f : TxFrame) : Block :=
  if s.szn.joinSeen.any (fun q => q.1 == k) then s.guardBad k 3 src
  else match outs with
    | [] => s.modSzn (fun z => { z with joinSeen := (k, k) :: z.joinSeen })
    | out :: _ =>
      let busy := s.szn.joinSeen.any (fun q => q.2 == out && q.1 != out)
      let s := s.modSzn (fun z => { z with joinSeen := (k, out) :: z.joinSeen })
      if !busy then s.sendOn outs f
      else if 4 ≤ (s.szn.joinQ.filter (fun q => q.out == out)).length then s.guardBad k 3 src
      else s.modSzn (fun z => { z with joinQ := (z.joinQ.filter (fun q => decide (q.port ≤ k))) ++ [⟨k, out, f⟩]
        ++ (z.joinQ.filter (fun q => decide (k < q.port))) })

/-- A JOIN frame at a star (R377): forwarded where it lies inside the join window. -/
def Block.joinForward (s : Block) (k : Nat) (h : FrameHdr) (f : TxFrame) (short : Bool) : Block :=
  let sp := s.frameSpan h
  let r := sget (fun _ => {}) s.fab.rt h.src.val
  let opens : Int := (80 * (s.catEntry s.entry).joinStart : Nat) + (r.delta : Int) - 1280
  let closes : Int := 16 * (15625 - 160)
  if !short || decide (sp.1 < opens) || decide (closes < sp.2) then
    s.guardBad k (if decide (sp.1 < opens) then 1 else if decide (closes < sp.2) then 2 else 3) h.src.val
  else s.joinPass k h.src.val (((s.routePorts k h.dst.val).getD []).filter (· != k)) f

/-- JOIN_FRAME_RX (R377, R378): delivered, or forwarded by a star. Its service message has a row of its own. -/
def opJoinFrameRx (k : Nat) (h : FrameHdr) (f : TxFrame) (short : Bool) (s : Block) : Block :=
  let (s, ok) := s.frameCheck k h
  if !ok || s.sznSt = 0 then s
  else
    let s := (s.rxCount k).noteMember 6 h
    if s.bt (R.SZP_CFG k) 1 && !s.isNode && !s.hubEmpty && h.dst.val != s.ownEp then s.joinForward k h f short else s

/-- JOIN_QUEUE_FORWARD (R377): the first queued frame in port order goes in a later cycle. -/
def opJoinQueueForward (s : Block) : Block :=
  match s.szn.joinQ with
  | [] => s
  | q :: qs => (s.modSzn (fun z => { z with joinQ := qs })).sendOn [q.out] q.frame

/-! ### Service messages (R361, R362, R376) -/

/-- ACCEDE message: the star reinstates the cut-off port of that channel at the next boundary (R376). -/
def opAccede (k ep chan : Nat) (s : Block) : Block :=
  let _ := ep
  let port := k % 32 + 32 * (chan % 2)
  if s.bt (R.SZP_STAT port) 2 then s.modSzn (fun z => { z with reinstate := port :: z.reinstate }) else s

/-- CUTOFF message naming this device: no slots on that channel (R376). -/
def opCutoff (ep chan : Nat) (s : Block) : Block :=
  if ep ≠ s.ownEp then s
  else
    let s := s.sznFlag 4
    if chan = 0 then (s.setB R.SZN_STAT 8 false).modSzn (fun z => { z with cutX := true, rejX := 0 })
    else (s.setB R.SZN_STAT 9 false).modSzn (fun z => { z with cutY := true, rejY := 0 })

/-- CONFLICT message: a device in COLD enters CONFLICT (R370, R372). -/
def opConflict (seat : Nat) (s : Block) : Block :=
  if s.sznSt = 2 ∧ seat = s.seat then s.seatConflict else s

/-- SERVICE_MESSAGE_DROP: a message that has waited 64 cycles is dropped (R361). -/
def opServiceMessageDrop (s : Block) : Block :=
  if s.szn.svcq.any (fun m => decide (64 ≤ m.waited)) then
    (s.modSzn (fun z => { z with svcq := z.svcq.filter (fun m => decide (m.waited < 64)) })).sznFlag 7
  else s

/-- REMOTE_ACCESS_GO: a write of SZN_RA_CMD (R362, R383). -/
def opRemoteAccessGo (snd : Sender) (v : Word) (s : Block) : Block :=
  let n := fld v 0 4
  if n = 0 ∨ 8 < n then s.refuse true R.SZN_RA_CMD snd .range
  else if !v.getLsbD 5 then s
  else if s.fl R.SZN_RA_STAT 0 2 = 1 then s.refuse true R.SZN_RA_CMD snd .state
  else
    let wr := v.getLsbD 4
    let tag := (s.szn.raTag + 1) % 65536
    let words := if wr then (List.range n).map (fun i => s.rdN (R.SZN_RA_DATA i)) else []
    let m : SvcMsg := { typ := 0x01, body := [tag, n, (if wr then 1 else 0), s.rd64 R.SZN_RA_ADDR_LO % 2 ^ 40] ++ words,
                        dst := s.fl R.SZN_RA_DST 0 12 }
    let s := s.modSzn (fun z => { z with raTag := tag, raWait := 0 })
    (s.svcPut m).wrN R.SZN_RA_STAT 1

/-- ACCESS_RSP: the response sets RESULT and places read words (R362). (log 89, DESIGN CHOICE) -/
def opAccessRsp (tag result reason : Nat) (words : List Word) (s : Block) : Block :=
  if s.fl R.SZN_RA_STAT 0 2 = 1 ∧ tag = s.szn.raTag then
    let s := forL ((List.range 8).zip words) (fun p s => s.wr (R.SZN_RA_DATA p.1) p.2) s
    s.wrN R.SZN_RA_STAT (2 + result % 4 * 4 + reason % 16 * 16)
  else s

/-- REMOTE_ACCESS_TIMEOUT: no response within 64 cycles (R362). -/
def opRemoteAccessTimeout (s : Block) : Block :=
  if s.fl R.SZN_RA_STAT 0 2 = 1 ∧ 64 ≤ s.szn.raWait then s.wrN R.SZN_RA_STAT 3 else s

/-! ### Catalogue switch (R378, R379) -/

/-- CATALOGUE_SWITCH_REQUEST: a write of SZN_CAT_REQ (R378). -/
def opCatalogueSwitchRequest (snd : Sender) (v : Word) (s : Block) : Block :=
  let t := fld v 0 3
  let s := s.setF R.SZN_CAT_REQ 0 3 t
  if !v.getLsbD 3 then s
  else if !s.bt R.SZN_STAT 3 || s.bt R.SZN_STAT 7 || t == s.entry then s.refuse true R.SZN_CAT_REQ snd .state
  else if !(s.catEntry t).valid then s.refuse true R.SZN_CAT_REQ snd .range
  else
    let id := (s.szn.swIdLast + 1) % 32
    -- SW_COUNT is 9 until tick 0 of cycle a, where it becomes 8
    let s := s.modSzn (fun z => { z with swIdLast := id, sw := some { target := t, id := id, count := 9, acked := [s.ownEp] } })
    let s := s.setB R.SZN_STAT 7 true
    (((s.setF R.SZN_CAT_STAT 0 3 t).setF R.SZN_CAT_STAT 3 5 id).setF R.SZN_CAT_STAT 8 2 1).setF R.SZN_CAT_STAT 16 12 0

/-- The time master decides GO or ABORT in cycle a + 7, where SW_COUNT is 1 (R378). -/
def Block.switchDecide (s : Block) : Block :=
  match s.szn.sw with
  | none => s
  | some w =>
    if !s.bt R.SZN_STAT 3 || w.count != 1 || w.go || w.abort then s
    else
      let missing := ((s.members s.entry).filter (fun e => !w.acked.contains e)).mergeSort (· ≤ ·)
      match missing with
      | [] => s.modSzn (fun z => { z with sw := some { w with go := true } })
      | e :: _ => (s.modSzn (fun z => { z with sw := some { w with abort := true } })).setF R.SZN_CAT_STAT 16 12 e

/-- A switch ends at tick 0 of a + 8, where SW_COUNT has come to 0 (R378, R379). A member that saw neither GO nor ABORT
sends nothing until it receives a CYCLE_START. -/
def Block.switchApply (s : Block) : Block :=
  match s.szn.sw with
  | none => s
  | some w =>
    let s := (s.modSzn (fun z => { z with sw := none, ackOut := none })).setB R.SZN_STAT 7 false
    if w.go then ((s.setF R.SZN_STAT 4 3 w.target).setF R.SZN_CAT_STAT 8 2 2).postEv 0x0E1
    else if w.abort then ((s.setF R.SZN_CAT_STAT 8 2 3).sznFlag 2).postEv 0x0E1
    else if s.bt R.SZN_STAT 3 then s
    else (s.setB R.SZN_CAT_STAT 10 true).modSzn (fun z => { z with missedGo := true })

/-- A switch on its way counts down at tick 0, and what that tick brings is done where it is not done yet. (log 44, DEDUCED) -/
def Block.switchCycle (s : Block) : Block :=
  match s.szn.sw with
  | none => s
  | some w =>
    let s := s.modSzn (fun z => { z with sw := some { w with count := w.count - 1 } })
    if w.count ≤ 1 then s.switchApply else s.switchDecide

/-- SW_COUNT of the switch in progress, 0 without one. -/
def Block.swCount (s : Block) : Nat := match s.szn.sw with
  | none => 0
  | some w => w.count

/-- CATALOGUE_SWITCH_DECIDE: at tick 0 of a + 7, before that tick's frame (R378). (log 44, DEDUCED) -/
def opCatalogueSwitchDecide (s : Block) : Block :=
  if s.swCount = 2 ∧ s.bt R.SZN_STAT 3 = true then
    match s.szn.sw with
    | none => s
    | some w =>
      -- the count itself goes down with the tick
      let s := s.advanceToNext
      let t := (s.modSzn (fun z => { z with sw := some { w with count := 1 } })).switchDecide
      t.modSzn (fun z => { z with sw := z.sw.map (fun w => { w with count := 2 }) })
  else s.switchDecide

/-- CATALOGUE_SWITCH_APPLY: at tick 0 of a + 8, before that tick's frame (R378, R379). (log 44, DEDUCED) -/
def opCatalogueSwitchApply (s : Block) : Block := if s.swCount = 1 then s.advanceToNext.switchApply else s

/-! ### Wake (R380) -/

/-- Whether a port carries a slot of the entry in use: it is the uplink of a device with slots, or a route names it. -/
def Block.portHasSlot (s : Block) (k : Nat) : Bool :=
  (s.sznSt == 4 || s.sznSt == 5) && !s.slots.isEmpty &&
    (k % 32 == s.szn.uplink || s.slots.any (fun x =>
      let r := sget (fun _ => {}) s.fab.rt x.dst
      (r.xv && r.xport == k) || (r.yv && r.yport + 32 == k)))

/-- SEND_WAKE: a write of SZP_CMD.SEND_WAKE (R380). -/
def opSendWake (k : Nat) (snd : Sender) (s : Block) : Block :=
  if s.portHasSlot k then s.refuse true (R.SZP_CMD k) snd .state
  else if s.fl (R.SZP_STAT k) 0 2 = 0 then s
  else s.modSzn (fun z => { z with wakeSent := z.wakeSent + 64 })

/-! ### The meanings -/

def execPortEnable (k : PortIx) (snd : Sender) (v : Word) (s : State) : Out :=
  onApp (busWrite snd (R.SZP_CFG k.val) v (opPortEnable k.val snd v)) s
def execLinkSyncAcquired (k : PortIx) (s : State) : Out := ifRun (onApp (opLinkSyncAcquired k.val)) s
def execLinkSyncLost (k : PortIx) (s : State) : Out := ifRun (onApp (opLinkSyncLost k.val)) s
def execDelayRequestSend (k : PortIx) (s : State) : Out := ifRun (onApp (opDelayRequestSend k.val)) s
def execDelayRequestRx (k : PortIx) (clash : Bool) (s : State) : Out := ifRun (onApp (opDelayRequestRx k.val clash)) s
def execDelayResponseRx (k : PortIx) (rtt : Nat) (s : State) : Out := ifRun (onApp (opDelayResponseRx k.val rtt)) s
def execDelayResponseTimeout (k : PortIx) (s : State) : Out := ifRun (onApp (opDelayResponseTimeout k.val)) s
def execCycleStartFrameRx (k : PortIx) (h : FrameHdr) (b : CsBody) (s : State) : Out :=
  ifRun (onApp (opCycleStartFrameRx k.val h b)) s
def execCycleStartTimeout (s : State) : Out := ifRun (onApp opCycleStartTimeout) s
def execAcquiringTimeout (s : State) : Out := ifRun (onApp opAcquiringTimeout) s
def execSynzonEnable (snd : Sender) (v : Word) (s : State) : Out :=
  onApp (busWrite snd R.SZN_CTRL (setBit v 0 true) (opSynzonEnable snd (setBit v 0 true))) s
def execSynzonDisable (snd : Sender) (v : Word) (s : State) : Out :=
  onApp (busWrite snd R.SZN_CTRL (setBit v 0 false) (opSynzonDisable snd (setBit v 0 false))) s
def execListenExpire (s : State) : Out := ifRun (onApp opListenExpire) s
def execColdStartComplete (s : State) : Out := ifRun (onApp opColdStartComplete) s
def execHoldTimeout (s : State) : Out := ifRun (onApp opHoldTimeout) s
def execFeedbackFrameRx (k : PortIx) (h : FrameHdr) (items : List FbItem) (s : State) : Out :=
  ifRun (onApp (opFeedbackFrameRx k.val h items)) s
def execCommandFrameRx (k : PortIx) (h : FrameHdr) (items : List CmdItem) (cfgTag : Nat) (s : State) : Out :=
  ifRun (onApp (opCommandFrameRx k.val h items cfgTag)) s
def execDataFrameRx (k : PortIx) (h : FrameHdr) (imus : List ImuItem) (tgts : List TgtItem) (s : State) : Out :=
  ifRun (onApp (opDataFrameRx k.val h imus tgts)) s
def execSafetyFrameRx (k : PortIx) (h : FrameHdr) (p : SafePayload) (s : State) : Out :=
  onIsl (opSafetyFrameRx k.val h p) s
def execFrameForward (k : PortIx) (h : FrameHdr) (f : TxFrame) (resid : Nat) (lower : Bool) (s : State)
    (ecc : Ecc := .none) : Out :=
  ifRun (onApp (opFrameForward k.val h f resid lower ecc)) s
def execJoinFrameRx (k : PortIx) (h : FrameHdr) (f : TxFrame) (short : Bool) (s : State) : Out :=
  ifRun (onApp (opJoinFrameRx k.val h f short)) s
def execJoinQueueForward (s : State) : Out := ifRun (onApp opJoinQueueForward) s
def execAccede (k : PortIx) (ep chan : Nat) (s : State) : Out := ifRun (onApp (opAccede k.val ep chan)) s
def execCutoff (ep chan : Nat) (s : State) : Out := ifRun (onApp (opCutoff ep chan)) s
def execConflict (seat : Nat) (s : State) : Out := ifRun (onApp (opConflict seat)) s
def execServiceMessageDrop (s : State) : Out := ifRun (onApp opServiceMessageDrop) s
def execRemoteAccessGo (snd : Sender) (v : Word) (s : State) : Out :=
  onApp (busWrite snd R.SZN_RA_CMD v (opRemoteAccessGo snd v)) s
def execAccessRsp (tag result reason : Nat) (words : List Word) (s : State) : Out :=
  ifRun (onApp (opAccessRsp tag result reason words)) s
def execRemoteAccessTimeout (s : State) : Out := ifRun (onApp opRemoteAccessTimeout) s
def execCatalogueSwitchRequest (snd : Sender) (v : Word) (s : State) : Out :=
  onApp (busWrite snd R.SZN_CAT_REQ v (opCatalogueSwitchRequest snd v)) s
def execCatalogueSwitchDecide (s : State) : Out := ifRun (onApp opCatalogueSwitchDecide) s
def execCatalogueSwitchApply (s : State) : Out := ifRun (onApp opCatalogueSwitchApply) s
def execSendWake (k : PortIx) (snd : Sender) (s : State) : Out :=
  onApp (busWrite snd (R.SZP_CMD k.val) 1#32 (opSendWake k.val snd)) s

end Sys2Proof.Machine
end

