-- ==== Sys2Proof/Machine/Fabric.lean ====
section
/-! DEFINITION. The fabric (16_fabric.md): discovery, addressing, routing, image delivery, agreement reports. The
operations WRITE and READ are in Remote.lean, the verification of a loaded image in Boot.lean. -/

namespace Sys2Proof.Machine

/-- The FAB page (R401). -/
def fabPage : Nat := 0x40410000

/-- Set a flag of FAB_ERR (R401). -/
def Block.fabFlag (s : Block) (i : Nat) : Block := s.flag R.FAB_ERR i fabPage i

/-- Change the fabric's hidden state. -/
def Block.modFab (s : Block) (f : Fab → Fab) : Block := { s with fab := f s.fab }

/-- FAB_STAT.PHASE: 0 OPEN, 1 WALKING, 2 SEALED; PAGE_STAT.ACTIVE is 1 while SEALED (R401). -/
def Block.phase (s : Block) : Nat := s.fl R.FAB_STAT 0 2
def Block.setPhase (s : Block) (n : Nat) : Block :=
  (s.setF R.FAB_STAT 0 2 n).setB (R.PAGE_STAT fabPage) 2 (n == 2)

/-- The device table of the image (R387). -/
def Block.devs (s : Block) : List DevEntry := s.cfg.devs

/-- An entry of the device table. -/
def Block.devAt (s : Block) (d : Nat) : Option DevEntry := s.devs[d]?

/-- The walk's knowledge of an entry. -/
def Block.devSt (s : Block) (d : Nat) : DevStat := sget (fun _ => {}) s.fab.dev d
def Block.setDevSt (s : Block) (d : Nat) (x : DevStat) : Block :=
  s.modFab (fun f => { f with dev := sset (fun _ => {}) f.dev d x })

/-- The table entry of an endpoint. -/
def Block.devOfEp (s : Block) (ep : Nat) : Option Nat := s.devs.findIdx? (fun e => e.endpoint == ep)

/-- Send a DISCOVERY frame along a path on X and Y, behind the frames sent before in this command (R388, R391). -/
def Block.sendDisc (s : Block) (path : List Nat) (op : Nat) (operand : List Nat) : Block :=
  let tag := (s.fab.tag + 1) % 65536
  let b : DiscBody := { op := op, hops := path.length, hop := 1, path := path, ret := List.replicate 8 0,
                        tag := tag, operand := operand }
  let f : TxFrame := { port := 0, src := s.ownEp, dst := 0xFFF, cycle := s.cyc % 2 ^ 32, body := .discovery b }
  let s := s.modFab (fun f => { f with tag := tag })
  match path with
  | [] => s
  | p :: _ =>
    let t := s.sendOn ((List.range 64).filter (fun j => (j == p || j == p + 32) && s.portUp j)) f
    { t with tx := s.tx ++ t.tx }

/-! ### The walk (R391) -/

/-- The walk ends: every FOUND device is sealed and PHASE becomes SEALED (assumption 10). (log 10, DEDUCED) -/
def Block.walkEnd (s : Block) : Block :=
  let s := forL s.fab.toSeal (fun d s => match s.devAt d with
    | some e => s.sendDisc e.path 0x05 []
    | none => s) s
  (s.modFab (fun f => { f with toSeal := [], wait := none })).setPhase 2

/-- IDENTIFY through each port of a device that no PATH names beyond it and that does not lead back to the time master:
a star passes it on where that port is UP, and a reply marks a stranger (R391). (log 10, DEDUCED) -/
def Block.strangersAt (s : Block) (base : List Nat) (up : Option Nat) : Block :=
  if 8 ≤ base.length then s
  else forL ((List.range 32).filter (fun p => up != some p && (!base.isEmpty || s.portUp p)
      && !s.devs.any (fun e => e.path.take (base.length + 1) == base ++ [p])))
    (fun p s => s.sendDisc (base ++ [p]) 0x01 []) s

/-- The strangers behind the stars found by this walk whose depth lies from `lo - 1` up to `hi - 2`: the depths one greater
have been walked (R391). -/
def Block.strangers (s : Block) (lo hi : Nat) : Block :=
  forL s.fab.toSeal (fun d s => match s.devAt d with
    | some e =>
      if (e.role = 2 ∨ e.star = true) ∧ lo ≤ e.path.length + 1 ∧ e.path.length + 1 < hi then
        s.strangersAt e.path (some ((s.devSt d).up % 32))
      else s
    | none => s) s

/-- Depth of an entry (R391). -/
def Block.depth (s : Block) (d : Nat) : Nat := match s.devAt d with | some e => e.path.length | none => 0

/-- Visit the next entry of the walk, the last one having lain at depth `prev`: IDENTIFY along its PATH. -/
def Block.walkNext (s : Block) (prev : Nat) : Block :=
  match s.fab.todo with
  | [] => (s.strangers prev 9).walkEnd
  | d :: ds =>
    let s := s.strangers prev (s.depth d)
    let s := s.modFab (fun f => { f with todo := ds, wait := some (d, 0x01), waitCnt := 0, wrq := [] })
    match s.devAt d with
    | some e => s.sendDisc e.path 0x01 []
    | none => s

/-- Mark an entry of the walk, count the entries found since DISC, and go on. -/
def Block.walkMark (s : Block) (d st why uid : Nat) : Block :=
  let s := s.setDevSt d { s.devSt d with st := st, why := why, uid := uid }
  let s := if st = 3 then s.modFab (fun f => { f with toSeal := f.toSeal ++ [d] }) else s
  let s := s.setF R.FAB_STAT 8 12 (s.fab.dev.filter (fun x => decide (3 ≤ x.2.st))).length
  let s := if st = 1 then s.fabFlag 0 else if st = 2 then s.fabFlag 1 else s
  s.walkNext (s.depth d)

/-- Entries to visit, depth by depth and in table order (R391). -/
def walkOrder (devs : List DevEntry) (keep : DevEntry → Bool) : List Nat :=
  (List.range 8).flatMap (fun i => (List.range devs.length).filter (fun d =>
    match devs[d]? with
    | some e => e.path.length == i + 1 && keep e
    | none => false))

/-- DISCOVERY_WALK_START: a write of FAB_CTRL.DISC (R391). What an earlier walk found is UNSEEN again. (log 10, DEDUCED) -/
def opDiscoveryWalkStart (snd : Sender) (s : Block) : Block :=
  if !s.bt R.SZN_STAT 3 || s.phase == 1 then s.refuse true R.FAB_CTRL snd .state
  else
    let s := (({ s with tx := [] } : Block).setPhase 1).strangersAt [] none
    let s := s.setF R.FAB_STAT 8 12 0
    (s.modFab (fun f => { f with todo := walkOrder s.devs (fun _ => true), toSeal := [], dev := [] })).walkNext 0

/-- REDISCOVERY: a write of FAB_CTRL.REDISC: the entry in FAB_DEV_SEL and the devices beyond it (R391). -/
def opRediscovery (snd : Sender) (s : Block) : Block :=
  if !s.bt R.SZN_STAT 3 || s.phase == 1 then s.refuse true R.FAB_CTRL snd .state
  else match s.devAt (s.fl R.FAB_DEV_SEL 0 12) with
    | none => s
    | some e0 =>
      let s := ({ s with tx := [] } : Block).setPhase 1
      let todo := walkOrder s.devs (fun e => e.path.take e0.path.length == e0.path)
      (s.modFab (fun f => { f with todo := todo, toSeal := [] })).walkNext 0

/-- The routing writes for a star at `base` (R391, R393): for each endpoint its egress port and hop count, by three
words FAB_RT_SEL, FAB_RT_A, FAB_RT_B; `up` is the star's port toward the time master. Δ is the sum of the link
delays of the path between them plus 240 ns for each star passed (R538). -/
def routeWrites (devs : List DevEntry) (base : DevEntry) (up : Nat) : List (Nat × List Nat) :=
  devs.map (fun e =>
    let below := e.path.take base.path.length == base.path && e.path.length > base.path.length
    let me := e.path == base.path
    let port := if below then e.path.getD base.path.length 0 else up
    let hops := if below then e.path.length - base.path.length else base.path.length
    let a := if me then 2 ^ 12 else port + 2 ^ 5 + port * 2 ^ 6 + 2 ^ 11 + hops * 2 ^ 13
    let links := devs.filter (fun d => if below then
        d.path.length > base.path.length && d.path.length ≤ e.path.length && e.path.take d.path.length == d.path
      else d.path.length > 0 && base.path.take d.path.length == d.path)
    let delta := (links.map (fun d => d.dlyX)).sum + (hops - 1) * 3840
    (R.FAB_RT_SEL, [e.endpoint, a, if me then 0 else delta]))

/-- SZN_CAT of an entry (R383). -/
def catWord (e : CatEntry) : Nat := e.slots.length % 128 + (if e.valid then 128 else 0) + e.joinStart % 4096 * 256

/-- SZN_SLOT_A, B and C of a slot by number (R383). -/
def slotRegs (x : Slot) (k : Nat) : Nat :=
  if k = 0 then x.start % 4096 + x.len % 4096 * 4096
  else if k = 1 then x.sender % 4096 + x.kind % 16 * 4096 + x.items.length % 256 * 65536 + x.allow % 128 * 16777216
  else x.dst % 4096

/-- The slot windows written to a star (R18, R391): of each valid entry SZN_CAT, then its slots, each by the four words
SZN_SLOT_SEL, A, B and C. (log 102, DESIGN CHOICE) -/
def slotWrites (cat : List CatEntry) : List (Nat × List Nat) :=
  (cat.zipIdx.filter (fun e => e.1.valid)).flatMap (fun e =>
    (R.SZN_CAT e.2, [catWord { e.1 with slots := [] }]) ::
      e.1.slots.zipIdx.map (fun x => (R.SZN_SLOT_SEL, [e.2 + x.2 * 8, slotRegs x.1 0, slotRegs x.1 1, slotRegs x.1 2])))

/-- A slot from its register words; of the items only the number is sent. -/
def slotOfRegs (a b c : Nat) : Slot :=
  { start := a % 4096, len := a / 4096 % 4096, sender := b % 4096, kind := b / 4096 % 16, dst := c % 4096
    items := List.replicate (b / 65536 % 256) (.carrel 0), allow := b / 16777216 % 128 }

/-- Change entry e of the Catalogue. -/
def Block.modCat (s : Block) (e : Nat) (f : CatEntry → CatEntry) : Block :=
  s.modSzn (fun z => { z with cat := (z.cat ++ List.replicate (8 - z.cat.length) ({} : CatEntry)).modify e f })

/-- The loader's write of a Catalogue register of a Hub (R18): SZN_CAT clears an entry, SZN_SLOT_C commits the staged slot
as the selected one. (log 102, DESIGN CHOICE) -/
def Block.loadSlot (s : Block) (a : Nat) (v : Word) : Block :=
  let s := s.wr a v
  if R.SZN_CAT 0 ≤ a ∧ a < R.SZN_CAT 8 then
    s.modCat ((a - R.SZN_CAT 0) / 4) (fun _ => { valid := v.getLsbD 7, joinStart := fld v 8 12 })
  else if a = R.SZN_SLOT_C then
    let sel := s.rdN R.SZN_SLOT_SEL
    let x := slotOfRegs (s.rdN R.SZN_SLOT_A) (s.rdN R.SZN_SLOT_B) v.toNat
    let s := s.modCat (sel % 8) (fun e => { e with slots := e.slots.take (sel / 8 % 64) ++ x :: e.slots.drop (sel / 8 % 64 + 1) })
    s.wrN (R.SZN_CAT (sel % 8)) (catWord (s.catEntry (sel % 8)))
  else s

/-- What a Hub compares with cycle starts: FAB_DIGEST, which takes its pair, and FAB_FWSET (R397, R401). -/
def Block.agreeWrites (s : Block) : List (Nat × List Nat) :=
  [(R.FAB_DIGEST_LO, [s.rdN R.FAB_DIGEST_LO, s.rdN R.FAB_DIGEST_HI, s.fl R.FAB_FWSET 0 24])]

/-- Send the next routing write, or mark the entry FOUND. -/
def Block.walkWrite (s : Block) (d uid : Nat) : Block :=
  match s.fab.wrq, s.devAt d with
  | (a, ws) :: rest, some e =>
    (s.modFab (fun f => { f with wrq := rest, wait := some (d, 0x03), waitCnt := 0 })).sendDisc e.path 0x03 ([a, ws.length] ++ ws)
  | _, _ => s.walkMark d 3 0 uid

/-- A reply reaches the time master (R391): `src` is the reply's SRC. -/
def Block.walkReply (s : Block) (src : Nat) (b : DiscBody) : Block :=
  match s.fab.wait with
  | none => if b.op = 0x01 then s.fabFlag 2 else s
  | some (d, op) =>
    match s.devAt d with
    | none => s
    | some e =>
      if b.op ≠ op ∨ b.path ≠ e.path then (if b.op = 0x01 then s.fabFlag 2 else s)
      else if op = 0x01 then
        let uid := b.operand.getD 0 0
        let bad := b.operand.getD 1 0 ≠ e.role ∨ b.operand.getD 2 0 ≠ e.seat ∨ b.operand.getD 3 0 ≠ 0xB0
        let badUid := e.pin = true ∧ uid ≠ e.uid
        let s := s.setDevSt d { s.devSt d with up := b.operand.getD 5 0 }
        let badThird := (b.operand.getD 6 0 ≠ 0) ≠ (e.third = true) ∨ (e.third = true ∧ b.operand.getD 7 0 ≠ e.model)
        if bad ∨ badUid ∨ badThird then s.walkMark d 2 4 uid
        else if src = e.endpoint then s.walkMark d 3 0 uid
        else if src ≠ 0xFFF then s.walkMark d 2 4 uid
        else
          let s := s.setDevSt d { s.devSt d with uid := uid }
          let q := if e.role = 2 ∨ e.star = true then routeWrites s.devs e (b.operand.getD 5 0) ++ slotWrites s.szn.cat
              ++ (if e.role = 2 then s.agreeWrites else []) else []
          (s.modFab (fun f => { f with wait := some (d, 0x02), waitCnt := 0, wrq := q })).sendDisc e.path 0x02 [e.endpoint]
      else s.walkWrite d (s.devSt d).uid

/-- DISCOVERY_REPLY_TIMEOUT: no reply within 64 cycles (R391). -/
def opDiscoveryReplyTimeout (s : Block) : Block :=
  match s.fab.wait with
  | none => s
  | some (d, op) =>
    if s.fab.waitCnt < 64 then s else
    let s : Block := { s with tx := [] }
    if op = 0x01 then s.walkMark d 1 0 0 else s.walkWrite d (s.devSt d).uid

/-! ### Operations at their target (R390, R392) -/

/-- A reply retraces the return path on the port of arrival; it is stored for a repetition of its TAG (R389, R390). -/
def Block.discReply (s : Block) (k src : Nat) (b : DiscBody) (result reason : Nat) (operand : List Nat) : Block :=
  let r := { b with reply := true, fail := result != 0, result := result, reason := reason, operand := operand }
  let s := s.modFab (fun f => { f with opLast := sset (fun _ => (0, { op := 0 })) f.opLast src (b.tag + 1, r) })
  s.sendOn [k] { port := k, src := s.ownEp, dst := 0xFFF, cycle := s.cyc % 2 ^ 32, body := .discovery r }

/-- An operation repeated with the TAG of the last one from the same SRC returns the stored reply (R390). -/
def Block.discOnce (s : Block) (k src : Nat) (b : DiscBody) (act : Block → Block) : Block :=
  let last := sget (fun _ => (0, ({ op := 0 } : DiscBody))) s.fab.opLast src
  if last.1 = b.tag + 1 then
    s.sendOn [k] { port := k, src := s.ownEp, dst := 0xFFF, cycle := s.cyc % 2 ^ 32, body := .discovery last.2 }
  else act s

/-- IDENTIFY (R390): UID, ROLE, SEAT, revision, firmware set version, port of arrival, THIRD and MODEL. -/
def opIdentify (k src : Nat) (b : DiscBody) (s : Block) : Block :=
  s.discOnce k src b (fun s => s.discReply k src b 0 0
    [s.rd64 R.SYS_UID_LO, s.role, s.seat, s.fl R.SYS_ID 0 8, s.fl R.FAB_FWSET 0 24, k, 0, 0])

/-- ASSIGN (R392): phase OPEN only; after SEAL it returns RESULT 3. -/
def opAssign (k src : Nat) (b : DiscBody) (s : Block) : Block :=
  s.discOnce k src b (fun s =>
    if s.phase = 2 then s.discReply k src b 3 0 []
    else (s.setF R.SZN_ID 0 12 (b.operand.getD 0 0)).discReply k src b 0 0 [])

/-- SEAL (R392): PHASE becomes SEALED; after that it returns RESULT 3. -/
def opSeal (k src : Nat) (b : DiscBody) (s : Block) : Block :=
  s.discOnce k src b (fun s =>
    if s.phase = 2 then s.discReply k src b 3 0 []
    else (s.setPhase 2).discReply k src b 0 0 [])

/-- Chunk c of image k is held. -/
def Block.holds (s : Block) (k c : Nat) : Bool := s.fab.held.any (fun x => x.1 == k && x.2.1 == c)

/-- The header of image k as far as its first chunk gives it (R483), nothing while that is not held. -/
def Block.heldHdr (s : Block) (k : Nat) : List Byte :=
  match s.fab.held.find? (fun x => x.1 == k && x.2.1 == 0) with
  | some x => x.2.2
  | none => []

/-- TYPE of image k, 0 while its header is not held. -/
def Block.heldType (s : Block) (k : Nat) : Nat := ((s.heldHdr k).getD 6 0).toNat

/-- The chunks of image k: header, body and signature block (R483, R394). -/
def Block.heldChunks (s : Block) (k : Nat) : Nat := (256 + ofBytes (((s.heldHdr k).drop 8).take 4) + 4096 + 959) / 960

/-- ROLES of a header admits the device's role (R483). -/
def Block.takesHdr (s : Block) (hdr : List Byte) : Bool := nbit (hdr.getD 13 0).toNat s.role

/-- A whole firmware image for the device's role is held: its fetch has ended (R92, R394). -/
def Block.fwFetched (s : Block) : Bool :=
  (List.range 8).any (fun k => s.heldType k == 1 && s.takesHdr (s.heldHdr k) && (List.range (s.heldChunks k)).all (s.holds k))

/-- LOAD (R394): a device that boots over Synzon, in ACCEDE with its endpoint assigned, stores a chunk that it does
not hold, of an image that its role takes as the first chunk says. With the last chunk of its firmware image the fetch
ends: STAGE 0x3 (R92). -/
def opLoad (b : LoadBody) (s : Block) : Block :=
  if s.fl R.SYS_BOOT_STAT 4 2 = 2 ∧ s.sznSt = 3 ∧ s.ownEp ≠ 0xFFF ∧ ¬ s.isHub = true then
    if s.holds b.img b.chunk || (b.chunk == 0 && !s.takesHdr b.data) then s
    else
      let s := (s.modFab (fun f => { f with held := f.held ++ [(b.img, b.chunk, b.data)] })).setB R.FAB_STAT 2 true
      if s.bootStage = 2 ∧ s.fwFetched = true then s.setStage 3 else s
  else s

/-- Forward a DISCOVERY frame hop by hop, outbound or as a reply, as a JOIN frame (R389, R377). -/
def Block.discForward (s : Block) (k : Nat) (h : FrameHdr) (b : DiscBody) : Block :=
  let f : TxFrame := { port := 0, src := h.src.val, dst := h.dst.val, cycle := h.cycle, body := .discovery b }
  if b.reply then
    let p := b.ret.getD (b.hop - 1) 0 % 32 + (if k < 32 then 0 else 32)
    if s.portUp p then s.joinPass k h.src.val [p] { f with body := .discovery { b with hop := b.hop - 1 } } else s
  else
    let p := b.path.getD b.hop 0 % 32 + (if k < 32 then 0 else 32)
    if s.portUp p then
      s.joinPass k h.src.val [p] { f with body := .discovery { b with hop := b.hop + 1, ret := b.ret.set b.hop (k % 32) } }
    else s

/-- DISCOVERY_FRAME_RX (R389): forwarded hop by hop, taken as a reply by the time master, or counted at its target,
where the operation's own row executes it. A Node forwards nothing. `inside` says whether the frame lies in the join
window of a star (R377). -/
def opDiscoveryFrameRx (k : Nat) (h : FrameHdr) (b : DiscBody) (inside : Bool) (s : Block) : Block :=
  let (s, ok) := s.frameCheck k h
  if !ok || s.sznSt == 0 then s
  else
    let s := s.rxCount k
    if b.reply && s.bt R.SZN_STAT 3 && decide (b.hop ≤ 1) then ({ s with tx := [] } : Block).walkReply h.src.val b
    else if decide (b.hop < b.hops) || b.reply then
      if s.isNode || !s.bt (R.SZP_CFG k) 1 then s
      else if !inside then s.guardBad k 3 h.src.val
      else s.discForward k h b
    else s

/-! ### Commands on FAB and messages (R394, R396, R398, R401) -/

/-- IMAGE_LOAD_ENABLE: a write of FAB_CTRL.LOAD_EN (R394). Cleared, the chunks start again at the first. -/
def opImageLoadEnable (v : Word) (s : Block) : Block :=
  let s := if v.getLsbD 1 then s else s.modFab (fun f => { f with loadPos := none })
  let s := s.setB R.FAB_CTRL 1 (v.getLsbD 1)
  s.setB R.FAB_STAT 2 (v.getLsbD 1)

/-- A routing entry from its register fields (R401). -/
def rtOfWords (a b : Nat) : RtEntry :=
  { xport := a % 32, xv := a.testBit 5, yport := a / 64 % 32, yv := a.testBit 11, isLocal := a.testBit 12,
    hops := a / 2 ^ 13 % 16, delta := b % 2 ^ 20 }

/-- FAB_RT_A of a routing entry (R401). -/
def rtWordA (r : RtEntry) : Nat :=
  r.xport % 32 + (if r.xv then 32 else 0) + r.yport % 32 * 64 + (if r.yv then 2 ^ 11 else 0)
    + (if r.isLocal then 2 ^ 12 else 0) + r.hops % 16 * 2 ^ 13

/-- ROUTE_COMMIT: a write of FAB_RT_B commits the staged fields as the selected entry (R401). -/
def opRouteCommit (snd : Sender) (v : Word) (s : Block) : Block :=
  if s.phase = 2 then s.refuse true R.FAB_RT_B snd .state
  else s.modFab (fun f => { f with rt := sset (fun _ => {}) f.rt (s.fl R.FAB_RT_SEL 0 12) (rtOfWords f.rtStage v.toNat) })

/-- MISMATCH message (R396, R398): the time master marks the device HELD. -/
def opMismatch (src why : Nat) (s : Block) : Block :=
  if !s.bt R.SZN_STAT 3 then s
  else match s.devOfEp src with
    | none => s
    | some d => (s.setDevSt d { s.devSt d with st := 6, why := why }).fabFlag 3

/-- LOAD_STAT message (R396): an image load result. -/
def opLoadStat (src result : Nat) (s : Block) : Block :=
  if !s.bt R.SZN_STAT 3 then s
  else if result ≠ 0 then s.fabFlag 6
  else match s.devOfEp src with
    | none => s
    | some d => s.setDevSt d { s.devSt d with st := 4 }

/-- MISMATCH_REPORT_SEND: a held device reports every 64 cycles (R396, R398). -/
def opMismatchReportSend (s : Block) : Block :=
  if s.bt R.FAB_STAT 3 && decide (64 ≤ s.fab.misCnt) then
    let body := [s.fl R.FAB_STAT 4 4, s.rd64 R.FAB_DIGEST_LO, s.fl R.SYS_ID 0 8, s.fl R.FAB_FWSET 0 24]
    let m : SvcMsg := { typ := 0x10, dst := s.fl R.SZN_TM 0 12, body := body }
    (s.modFab (fun f => { f with misCnt := 0 })).svcPut m
  else s

/-! ### The meanings -/

def execDiscoveryWalkStart (snd : Sender) (s : State) : Out :=
  onApp (busWrite snd R.FAB_CTRL 1#32 (opDiscoveryWalkStart snd)) s
def execRediscovery (snd : Sender) (s : State) : Out :=
  onApp (busWrite snd R.FAB_CTRL 4#32 (opRediscovery snd)) s
def execDiscoveryReplyTimeout (s : State) : Out := ifRun (onApp opDiscoveryReplyTimeout) s
def execDiscoveryFrameRx (k : PortIx) (h : FrameHdr) (b : DiscBody) (inside : Bool) (s : State) : Out :=
  ifRun (onApp (opDiscoveryFrameRx k.val h b inside)) s
def execIdentify (k : PortIx) (src : Fin 4096) (b : DiscBody) (s : State) : Out :=
  ifRun (onApp (opIdentify k.val src.val b)) s
def execAssign (k : PortIx) (src : Fin 4096) (b : DiscBody) (s : State) : Out :=
  ifRun (onApp (opAssign k.val src.val b)) s
def execSeal (k : PortIx) (src : Fin 4096) (b : DiscBody) (s : State) : Out :=
  ifRun (onApp (opSeal k.val src.val b)) s
def execLoad (b : LoadBody) (s : State) : Out := ifRun (onApp (opLoad b)) s
def execImageLoadEnable (snd : Sender) (v : Word) (s : State) : Out :=
  onApp (busWrite snd R.FAB_CTRL v (opImageLoadEnable v)) s
def execRouteCommit (snd : Sender) (v : Word) (s : State) : Out :=
  onApp (busWrite snd R.FAB_RT_B v (opRouteCommit snd v)) s
def execMismatch (src : Fin 4096) (why : Nat) (s : State) : Out := ifRun (onApp (opMismatch src.val why)) s
def execLoadStat (src : Fin 4096) (result : Nat) (s : State) : Out := ifRun (onApp (opLoadStat src.val result)) s
def execMismatchReportSend (s : State) : Out := ifRun (onApp opMismatchReportSend) s

end Sys2Proof.Machine
end

