-- ==== Sys2Proof/Machine/Redundancy.lean ====
section
/-! DEFINITION. Active and Reserve Coordinators (17_redundancy.md): claims, the node's claim gate, take-over,
hand-over, the twin link's frames, discrepancy and proof test. Records of a resynchronisation are in Resync.lean,
the application of twin writes in Remote.lean. -/

namespace Sys2Proof.Machine

/-- The RED page (R421). -/
def redPage : Nat := 0x40420000

/-- Change the redundancy logic's hidden state. -/
def Block.modRed (s : Block) (f : Red → Red) : Block := { s with red := f s.red }

/-! ### The claim gate (R402 to R407) -/

/-- The valid command frames of this APD (R404): the newest of each coordinator, late ones where none newer came. -/
def Block.validCmds (s : Block) : List (Nat × Nat × List CmdItem) :=
  let late := s.szn.cmdLate.filter (fun x => !s.szn.cmdNew.any (fun y => y.1 == x.1))
  (s.szn.cmdNew ++ late).filter (fun x =>
    (x.1 == s.fl R.RED_NODE_CFG 0 12 && x.2.1 % 32 == s.cfg.coordSeatA)
    || (x.1 == s.fl R.RED_NODE_CFG 12 12 && x.2.1 % 32 == s.cfg.coordSeatB))

/-- Two claims that R402 orders neither way. -/
def claimEq (a b : Nat) : Bool := !claimAbove a b && !claimAbove b a

/-- What the gate decides at an APD (R404): the row taken, and the frame set applied by rows 2 and 3. -/
def Block.claimRow (s : Block) : Nat × Option (Nat × Nat × List CmdItem) :=
  match s.validCmds with
  | [] => (5, none)
  | f :: fs =>
    if fs.any (fun g => g.1 != f.1 && claimEq g.2.1 f.2.1) then (1, none)
    else
      let h := fs.foldl (fun best g => if claimAbove g.2.1 best.2.1 then g else best) f
      match s.red.srcClaim with
      | none => (2, some h)
      | some (sc, _) =>
        if claimEq h.2.1 sc || claimAbove h.2.1 sc then (2, some h)
        else if s.red.prevHold then (3, some h)
        else (4, none)

/-- A change of source claim posts event 0x0E3 and queues CLAIM_ACK (R404, R420). -/
def Block.takeSource (s : Block) (claim src : Nat) : Block :=
  match s.red.srcClaim with
  | some (old, osrc) =>
    if old = claim ∧ osrc = src then s
    else
      let s := (s.modRed (fun r => { r with srcClaim := some (claim, src), fresh := true })).postEv 0x0E3
      (s.setF R.RED_CLAIM 16 16 claim).svcPut { typ := 0x22, body := [old, claim], dst := src }
  | none =>
    let s := (s.modRed (fun r => { r with srcClaim := some (claim, src), fresh := true })).postEv 0x0E3
    (s.setF R.RED_CLAIM 16 16 claim).svcPut { typ := 0x22, body := [0, claim], dst := src }

/-- CLAIM_GATE (R404): the state after the gate's counts and flags, and the frame set to apply. -/
def Block.claimGate (s : Block) : Block × Option (Nat × Nat × List CmdItem) :=
  let r := s.claimRow
  let s := if r.1 = 5 then s.setF R.RED_ORPHAN 8 4 (satAdd (s.fl R.RED_ORPHAN 8 4) 1 15) else s.setF R.RED_ORPHAN 8 4 0
  let s := s.modRed (fun x => { x with prevHold := r.1 == 4 || r.1 == 5 })
  if r.1 = 1 then (s.redFlag 2, none)
  else if r.1 = 4 then ((s.incSat R.RED_HOLD_CNT 0 16).redFlag 0, none)
  else if r.1 = 5 then (s, none)
  else match r.2 with
    | some f => (s.takeSource f.2.1 f.1, some f)
    | none => (s, none)

/-- A node carrel's held command. -/
def Block.nodeCmd (s : Block) (c : Nat) : NodeCmd := sget (fun _ => {}) s.red.node c
def Block.setNodeCmd (s : Block) (c : Nat) (x : NodeCmd) : Block :=
  s.modRed (fun r => { r with node := sset (fun _ => {}) r.node c x })

/-- How a node carrel takes the SEQ of an item (R400, R405): 0 the same command, 1 a new one, 2 older; and whether
HOME and HOME_SET are acted on. -/
def seqClass (last : Option Nat) (fresh : Bool) (seq : Nat) : Nat × Bool :=
  match last with
  | none => (1, true)
  | some l =>
    let d := (seq + 65536 - l % 65536) % 65536
    if fresh then (1, decide (1 ≤ d) && decide (d ≤ 32767))
    else if d = 0 then (0, false)
    else if d ≤ 32767 then (1, true) else (2, false)

/-- COORDINATOR_DISCREPANCY (R407): items of both coordinators differ; the VALUE of a step item is in 2^-32 count. -/
def itemsDiffer (tol : Nat) (a b : CmdItem) : Bool :=
  let t : Int := if a.step then (tol : Int) * 4294967296 else tol
  a.seq != b.seq || a.en != b.en || a.home != b.home || a.homeSet != b.homeSet || a.step != b.step
    || decide (t < |a.value - b.value|)

/-- Compare the items of both coordinators carrel by carrel (R407). -/
def Block.discrepancy (s : Block) : Block :=
  match s.validCmds with
  | [x, y] =>
    forL ((List.range (min x.2.2.length y.2.2.length)).zip (x.2.2.zip y.2.2)) (fun p s =>
      if itemsDiffer (s.rdN R.RED_DISC_TOL) p.2.1 p.2.2 then
        ((s.incSat R.RED_DISC_CNT 0 16).setF R.RED_DISC_CNT 16 8 p.1).redFlag 3
      else s) s
  | _ => s

/-- DISC_REPORT_SEND: every 64 cycles in which the count has risen (R407, R420). -/
def opDiscReportSend (s : Block) : Block :=
  if s.red.discLast < s.fl R.RED_DISC_CNT 0 16 ∧ 64 ≤ s.red.discCnt then
    let m : SvcMsg := { typ := 0x21, body := [s.fl R.RED_DISC_CNT 16 8, s.fl R.RED_DISC_CNT 0 16] }
    let s := s.svcPut { m with dst := s.fl R.RED_NODE_CFG 0 12 }
    let s := s.svcPut { m with dst := s.fl R.RED_NODE_CFG 12 12 }
    s.modRed (fun r => { r with discLast := s.fl R.RED_DISC_CNT 0 16, discCnt := 0 })
  else s

/-- DISC_REPORT message (R420, R421). -/
def opDiscReport (src count : Nat) (s : Block) : Block :=
  if s.isCoord then (s.setF R.RED_DISC_RPT 0 12 src).setF R.RED_DISC_RPT 16 16 count else s

/-! ### Taking over (R408) -/

/-- Become ACTIVE with the epoch last seen of the Active + 1, record the time and count (R403, R408, R418). -/
def Block.becomeActive (s : Block) : Block :=
  let s := (s.setEpoch (s.fl R.RED_CLAIM 16 16 / 32 + 1)).setRed 1
  let s := s.wr64 R.RED_SWAP_T_LO s.tb.dt
  (s.setF R.RED_SWAP_CNT 0 16 (s.fl R.RED_SWAP_CNT 0 16 + 1)).postEv 0x0E3

/-- TIME_MASTER := 1 at the boundary from which the device sends CYCLE_START: Deck Time and the cycle go on without a jump
(R40, R37, R370). -/
def Block.becomeTm (s : Block) : Block :=
  let s := (s.setB R.SZN_STAT 3 true).loadFreqAdj
  (s.setSzn 4).masterState

/-- Cycle n is missed (R408). -/
def Block.cycleMissed (s : Block) : Bool :=
  s.red.twinPrev == some false ||
    !((match s.szn.csSeen with | some (src, _, _) => src == s.peerEp | none => false) || s.red.twinPrev == some true)

/-- MISSED_CYCLE_CHECK at tick 200 (R408): TAKEOVER at MAX in STANDBY, time master from the
next cycle; NO_TAKEOVER in STALE or RESYNC. (log 92, DEDUCED) -/
def opMissedCycleCheck (s : Block) : Block :=
  if !s.isCoord || s.redSt == 0 || s.redSt == 1 then s
  else if !s.cycleMissed then s.setF R.RED_MISS 8 4 0
  else
    let n := satAdd (s.fl R.RED_MISS 8 4) 1 15
    let s := s.setF R.RED_MISS 8 4 n
    if s.fl R.RED_MISS 0 4 ≤ n then
      if s.redSt = 2 then (s.becomeActive.modRed (fun r => { r with hoArm := true })).setF R.RED_MISS 8 4 0
      else s.redFlag 10
    else s

/-! ### Hand-over and proof test (R418, R419) -/

/-- COORDINATOR_SWAP: a write of RED_CTRL.SWAP (R418). -/
def opCoordinatorSwap (snd : Sender) (s : Block) : Block :=
  if s.isNode || !(s.redSt == 1 && s.red.peerSt == 2) then s.refuse true R.RED_CTRL snd .state
  else s.modRed (fun r => { r with hoTx := true })

/-- RESYNC_COMMAND: a write of RED_CTRL.RESYNC (R416). -/
def opResyncCommand (snd : Sender) (s : Block) : Block :=
  if s.isNode then s.refuse true R.RED_CTRL snd .state
  else if s.redSt = 3 then (s.svcPut { typ := 0x20, dst := s.peerEp }).modRed (fun r => { r with reqCnt := 0 })
  else s

/-- YIELD: a write of RED_CTRL.YIELD; HEALTH := 0 in later TWIN frames (R408, R421). -/
def opYield (snd : Sender) (v : Word) (s : Block) : Block :=
  if s.isNode then s.refuse true R.RED_CTRL snd .state else s.setB R.RED_CTRL 2 (v.getLsbD 2)

/-- RESYNC_REQ_REPEAT: a STALE coordinator whose twin link is UP, every 64 cycles (R416). -/
def opResyncReqRepeat (s : Block) : Block :=
  if s.redSt = 3 ∧ 64 ≤ s.red.reqCnt ∧ (s.upPorts.any s.twinPort) = true then
    (s.svcPut { typ := 0x20, dst := s.peerEp }).modRed (fun r => { r with reqCnt := 0 })
  else s

/-- HANDOVER_ADOPT and the end of a hand-over at tick 0 (R418). The new Active sends CYCLE_START from tick 0 of
h + 2; at that tick the former Active is STANDBY. -/
def Block.handoverCycle (s : Block) : Block :=
  let s := if s.red.hoArm then (s.becomeTm).modRed (fun r => { r with hoArm := false }) else s
  let s := if s.red.hoRx ∧ s.redSt = 2 then
      (s.becomeActive).modRed (fun r => { r with hoRx := false, hoArm := true, hoAcks := [], hoTest := some 0, peerSt := 2, hoWait := 0 })
    else s.modRed (fun r => { r with hoRx := false })
  if s.redSt = 1 ∧ s.red.hoWait = 1 then
    let s := (s.setB R.SZN_STAT 3 false).setDtState 2
    let s := s.wr64 R.RED_SWAP_T_LO s.tb.dt
    let s := s.setF R.RED_SWAP_CNT 0 16 (s.fl R.RED_SWAP_CNT 0 16 + 1)
    ((s.setRed 2).postEv 0x0E3).modRed (fun r => { r with hoWait := 0, peerSt := 0, hoTest := none, rsOn := false })
  else if 1 < s.red.hoWait then s.modRed (fun r => { r with hoWait := r.hoWait - 1 })
  else s

/-- The node members of the entry in use. -/
def Block.nodeMembers (s : Block) : List Nat :=
  (s.members s.entry).filter (fun e => s.devs.any (fun d => d.endpoint == e && d.role == 0))

/-- A hand-over to this device awaits acknowledgements, within 64 cycles (R418). -/
def Block.hoRuns (s : Block) : Bool := s.redSt == 1 && (match s.red.hoTest with | some n => decide (n < 64) | none => false)

/-- CLAIM_ACK message: it counts towards the proof test of a hand-over (R418). -/
def opClaimAck (src : Nat) (s : Block) : Block :=
  if !s.hoRuns then s
  else
    let s := s.modRed (fun r => { r with hoAcks := if r.hoAcks.contains src then r.hoAcks else src :: r.hoAcks })
    if s.nodeMembers ≠ [] ∧ s.nodeMembers.all (fun e => s.red.hoAcks.contains e) = true then
      (s.setB R.RED_ERR 7 false).modRed (fun r => { r with ptLast := s.tb.dt, hoTest := none })
    else s

/-- HANDOVER_ACK_TIMEOUT: not every node acknowledged within 64 cycles (R418). -/
def opHandoverAckTimeout (s : Block) : Block :=
  if s.redSt = 1 ∧ (64 ≤ s.red.hoTest.getD 0) ∧ s.nodeMembers.all (fun e => s.red.hoAcks.contains e) = false then
    (s.modRed (fun r => { r with hoTest := none })).redFlag 8
  else s

/-- PROOF_TEST_DUE: Deck Time since the last hand-over that passed exceeds RED_PT_INTERVAL, in hours (R419). -/
def opProofTestDue (s : Block) : Block :=
  if s.isCoord = true ∧ s.fl R.RED_PT_INTERVAL 0 16 * 3600000000000 < s.tb.dt - s.red.ptLast then s.redFlag 7 else s

/-! ### The TWIN frame (R413, R415) -/

/-- The frame brings the first record of a resynchronisation (R417). -/
def Block.rsFirst (s : Block) (b : TwinBody) : Bool :=
  match b.records.head?, s.cfg.cars with
  | some r, c :: _ => r.kind == 1 && r.sub == 0 && r.index == c
  | some r, [] => r.kind == 2 && r.index == 0
  | none, _ => false

/-- TWIN_FRAME_RX (R413): health, twin writes and records of the Active's frame. A STALE coordinator enters RESYNC where RS
is set and the records start. (log 116, DEDUCED) -/
def opTwinFrameRx (k : Nat) (h : FrameHdr) (b : TwinBody) (s : Block) : Block :=
  if !s.twinPort k then s
  else s.itemFrame k 8 h (fun _ s =>
    if s.redSt = 1 ∨ h.src.val ≠ s.peerEp then s
    else
      let s := if s.redSt = 3 ∧ b.rs = true ∧ s.rsFirst b = true then ((s.setRed 4).setF R.RED_STAT 4 12 0).modRed (fun r => { r with recs := [], rsU := 0, rsM := 0 }) else s
      s.modRed (fun r => { r with twinSeen := true, health := b.health, twNow := b.writes,
                                  recs := r.recs ++ b.records, hoRx := r.hoRx || b.handover }))

/-- The twin link at tick 0: what arrived in the cycle before (R408, R415). A STANDBY that missed a TWIN frame enters
STALE at the next valid CYCLE_START of the Active; a lost frame ends a resynchronisation (R417). -/
def Block.twinCycle (s : Block) : Block :=
  let seen := s.red.twinSeen
  let s := s.modRed (fun r => { r with
    twinPrev := if seen then some r.health else none
    twinMiss := r.twinMiss || (s.redSt == 2 && !seen), twinSeen := false
    twNow := if s.redSt = 1 then r.twSent else if seen then r.twNow else []
    twSent := [] })
  if s.redSt = 4 ∧ seen = false then s.rsFail else s

/-- TWIN_WRITE_GO: a write of RED_TW_GO (R414). The twinned pages are the carrel, PS and LE pages, SOLV and VMF. -/
def opTwinWriteGo (snd : Sender) (s : Block) : Block :=
  let a := s.rd64 R.RED_TW_ADDR_LO % 2 ^ 40
  let twinned := match pageOf a with
    | some p => p.code == 0x15 || p.code == 0x12 || p.code == 0x11 || p.code == 0x20 || p.code == 0x21
    | none => false
  let locked := match regDef a with
    | some r => r.rwl != 0 && !s.unlockedFor (pageBase a) snd
    | none => false
  if !twinned then s.refuse true R.RED_TW_GO snd .range
  else if s.redSt != 1 || decide (16 ≤ s.red.twq.length) || locked then s.refuse true R.RED_TW_GO snd .state
  else
    let s := s.modRed (fun r => { r with twq := r.twq ++ [⟨a, snd.agent.val, s.rd R.RED_TW_DATA⟩] })
    s.setF R.RED_TW_STAT 0 5 s.red.twq.length

/-! ### The meanings -/

def execDiscReportSend (s : State) : Out := ifRun (onApp opDiscReportSend) s
def execDiscReport (src : Fin 4096) (count : Nat) (s : State) : Out := ifRun (onApp (opDiscReport src.val count)) s
def execMissedCycleCheck (s : State) : Out :=
  ifRun (onApp (fun s => opMissedCycleCheck (s.advanceToTick 200))) s
def execCoordinatorSwap (snd : Sender) (s : State) : Out :=
  onApp (busWrite snd R.RED_CTRL 1#32 (opCoordinatorSwap snd)) s
def execResyncCommand (snd : Sender) (s : State) : Out :=
  onApp (busWrite snd R.RED_CTRL 2#32 (opResyncCommand snd)) s
def execYield (snd : Sender) (v : Word) (s : State) : Out :=
  onApp (busWrite snd R.RED_CTRL v (opYield snd v)) s
def execResyncReqRepeat (s : State) : Out := ifRun (onApp opResyncReqRepeat) s
def execClaimAck (src : Fin 4096) (s : State) : Out := ifRun (onApp (opClaimAck src.val)) s
def execHandoverAckTimeout (s : State) : Out := ifRun (onApp opHandoverAckTimeout) s
def execProofTestDue (s : State) : Out := ifRun (onApp opProofTestDue) s
def execTwinFrameRx (k : PortIx) (h : FrameHdr) (b : TwinBody) (s : State) : Out :=
  ifRun (onApp (opTwinFrameRx k.val h b)) s
def execTwinWriteGo (snd : Sender) (s : State) : Out :=
  onApp (busWrite snd R.RED_TW_GO 1#32 (opTwinWriteGo snd)) s

end Sys2Proof.Machine
end

