-- ==== Sys2Proof/Machine/Resync.lean ====
section
/-! DEFINITION. Resynchronisation of a STALE coordinator (R416, R417): the records that the Active sends and what the
peer adopts. The order of a record's fields is R416's (assumption 23). -/

namespace Sys2Proof.Machine

/-- The size of a record with its header (R416). -/
def recSize (kind : Nat) : Nat :=
  if kind = 4 then 32 else if kind = 5 then 132 else if kind = 7 then 4 else 264

/-- Registers of the record of a carrel: PS_TARGET to PS_A2. -/
def carRegs (c : Nat) : List Nat :=
  [R.PS_TARGET c, R.PS_VSTART c, R.PS_VBREAK c, R.PS_VMAX c, R.PS_VSTOP c, R.PS_A1 c, R.PS_A2 c]

/-- The PATH_ parameters of a machine. -/
def pathRegs (m : Nat) : List Nat :=
  let w := m / 4
  let j := m % 4
  [R.PATH_VSTART w j, R.PATH_VB w j, R.PATH_VMAX w j, R.PATH_VSTOP w j, R.PATH_A1 w j, R.PATH_A2 w j,
   R.PATH_SR_A1 w j, R.PATH_SR_A2 w j, R.PATH_SR_VB w j, R.PATH_SR_VSTOP w j]

/-- A register's value as a field. -/
def Block.regI (s : Block) (a : Nat) : Int := (s.rdN a : Nat)
/-- Write a register from a field. -/
def Block.setRegI (s : Block) (a : Nat) (x : Int) : Block := s.wrN a (lowBits 32 x)

/-- An optional time as a field: 0 for none. -/
def optI (x : Option Nat) : Int := match x with
  | none => 0
  | some n => (n : Int) + 1
def optOf (x : Int) : Option Nat := if x ≤ 0 then none else some (x.toNat - 1)
def boolI (b : Bool) : Int := if b then 1 else 0

/-- The delay elements of the eight biquads of a carrel. -/
def bqI (l : Loop) : List Int :=
  ((List.range 8).map (fun i => let b := sget (fun _ => ({} : Bq)) l.bq i; [b.x1, b.x2, b.y1, b.y2])).flatten

/-- Binary64 values as fields. -/
def f64I (l : List F64) : List Int := l.map (fun x => (x.toNat : Int))
def i64F (l : List Int) : List F64 := l.map (fun x => BitVec.ofInt 64 x)
def poseI (p : Pose) : List Int := f64I (p.p.toList ++ p.q.toList)
def poseOf (l : List Int) : Pose :=
  let f := i64F l
  ⟨V3.ofList f, ⟨f.getD 3 0, f.getD 4 0, f.getD 5 0, f.getD 6 0⟩⟩

/-- A list of exactly n fields. -/
def pad (n : Nat) (l : List Int) : List Int := (l ++ List.replicate n 0).take n

/-- The estimator as 14 chunks of 32 fields carry it (R416): states, pose and velocity, biases, covariance, target poses,
wave frequencies and amplitudes, and the times of estimate and amplitudes. (log 23, DESIGN CHOICE) -/
def Block.vmfFields (s : Block) : List Int :=
  let v := s.vmf
  let e := v.est.getD {}
  [(s.fl R.VMF_STAT 0 15 : Int), (v.epoch : Int), (v.runT : Int), (v.alignCnt : Int), (v.inertT : Int), optI v.posT, optI v.hdgT,
       optI v.velT] ++ (List.range 4).map (fun t => optI (sget (fun _ => none) v.tgtT t))
    ++ (List.range 8).map (fun f => ((sget (fun _ => 0) v.coastT f : Nat) : Int))
    ++ poseI e.pose ++ f64I (e.vel.toList ++ e.bg.toList ++ e.ba.toList ++ e.br.toList) ++ pad 171 (f64I e.cov)
    ++ ((List.range 4).map (fun t => poseI ((sget (fun _ => none) v.tgt t).getD {}).pose)).flatten
    ++ pad 16 (f64I (v.comps.map (fun k => k.w))) ++ pad 192 (f64I (v.comps.flatMap (fun k => k.c ++ k.s)))
    ++ [optI (v.est.map (fun e => e.t)), (v.waveT : Int)]

/-- The body of a record as the Active snapshots it. (log 23, DESIGN CHOICE) -/
def Block.recBody (s : Block) (mem : Mem) (kind sub ix : Nat) : List Int :=
  match kind with
  | 1 => (List.range 65).map (fun i => s.regI (if sub = 0 then R.LIVE_FOLIO ix i else R.SHADOW_FOLIO ix i))
  | 2 =>
    let l := (s.vmf.ring.reverse.drop (4 * ix)).take 4
    (match l with | [] => 0 | e :: _ => (e.upd : Int)) :: (l.map (fun e => (e.upd : Int) :: poseI e.pose)).flatten
  | 3 => (s.vmfFields.drop (32 * ix)).take 32
  | 4 => match (s.pth ix).segs[sub]? with
    | some g => g.pos ++ g.quat
    | none => []
  | 5 =>
    if ix = 16 then s.solv.dem ++ s.solv.gain ++ (List.range 6).map (fun r => s.rdI (R.TA_DEM r))
    else
      let x := s.pth ix
      [x.s, x.v, s.regI (R.PATH_STAT (ix / 4) (ix % 4)), 0, (x.segs.length : Int)] ++ (pathRegs ix).map s.regI
        ++ [s.regI (R.SOLV_M_VAR ix), (s.activeVar ix : Nat), s.regI (R.VMF_MFRAME ix)]
        ++ (mrdBytes mem (warmAddr ix) (8 + 4 * (sget (fun _ => ({} : MachCfg)) s.cfg.machs ix).joints.length)).map (fun b => (b.toNat : Int))
  | 6 =>
    let x := s.prf ix
    let l := s.lp ix
    [x.p, x.v, x.acc, x.o, x.oNew, optI x.auxRef, s.regI (R.PS_STAT ix)] ++ (carRegs ix).map s.regI
      ++ [s.regI (R.PS_CFG ix), l.i, l.r, s.regI (R.LE_STAT ix)] ++ bqI l ++ [l.iref, (l.seq : Int), boolI (s.carEn ix)]
  | _ => []

/-- The records of a resynchronisation in the order of R417: KIND, SUB, INDEX. -/
def Block.recList (s : Block) : List (Nat × Nat × Nat) :=
  let cars := s.cfg.cars
  let ms := s.machines
  (cars.map (fun c => [(1, 0, c), (1, 1, c)])).flatten ++ (List.range 128).map (fun i => (2, 0, i))
    ++ (List.range 14).map (fun i => (3, 0, i))
    ++ (ms.map (fun m => (List.range (s.pth m).segs.length).map (fun j => (4, j, m)))).flatten
    ++ ms.map (fun m => (5, 0, m)) ++ [(5, 0, 16)] ++ cars.map (fun c => (6, 0, c)) ++ [(7, 0, 0)]

/-- The update whose estimates the VMF chunks adopted in cycle n carry. -/
def chunkUpdate (n : Nat) : Nat := (n - 9) / 64 * 64

/-- Whether a record may be adopted at tick 0 of cycle n (R416): `u` is the update of the VMF chunks, `m` the cycle
of the last MACHINE adoption. -/
def mayAdopt (n u m kind : Nat) : Bool :=
  if kind = 3 then decide (u + 9 ≤ n) && decide (n ≤ u + 64)
  else if kind = 5 then n % 8 == 0 && decide (u + 72 ≤ n)
  else if kind = 6 then decide (m + 9 ≤ n) else true

/-- The records that go in the frame whose adoption is at tick 0 of cycle n, at most 264 bytes: the ones taken, the
ones left, and the new update and MACHINE cycle. -/
def takeRecs (n : Nat) : List (Nat × Nat × Nat) → Nat → Nat → Nat → List (Nat × Nat × Nat) × List (Nat × Nat × Nat) × Nat × Nat
  | [], _, u, m => ([], [], u, m)
  | r :: rs, room, u, m =>
    let u' := if r.1 = 3 ∧ r.2.2 = 0 then chunkUpdate n else u
    let fits := decide (recSize r.1 ≤ room) && mayAdopt n u' m r.1
      && (r.1 != 3 || r.2.2 != 0 || (decide (9 ≤ n) && decide (n + 13 ≤ u' + 64)))
    if fits then
      let t := takeRecs n rs (room - recSize r.1) u' (if r.1 = 5 then n else m)
      (r :: t.1, t.2.1, t.2.2.1, t.2.2.2)
    else ([], r :: rs, u, m)

/-- The Active's snapshot at FBD + 620 of cycle n, once a cycle (R416). -/
def Block.rsSnapshot (s : Block) (mem : Mem) (n : Nat) : Block :=
  if !s.red.rsOn || s.redSt != 1 || !s.red.rsSnap.isEmpty then s
  else
    let t := takeRecs (n + 1) s.red.rsTodo 264 s.red.rsU s.red.rsM
    let l : List RsRec := t.1.map (fun r => { kind := r.1, sub := r.2.1, index := r.2.2, body := s.recBody mem r.1 r.2.1 r.2.2 })
    s.modRed (fun r => { r with rsSnap := l, rsTodo := t.2.1, rsU := t.2.2.1, rsM := t.2.2.2 })

/-- RESYNC_REQ message (R416, R417): the Active sets RS and sends every record anew. -/
def opResyncReq (src : Nat) (s : Block) : Block :=
  if s.redSt ≠ 1 ∨ src ≠ s.peerEp then s
  else
    let l := s.recList
    s.modRed (fun r => { r with rsOn := true, rsTodo := l, rsSnap := [], peerSt := 4, rsU := 0, rsM := 0 })

/-! ### Adoption (R416) -/

/-- Write a list of registers from fields. -/
def Block.setRegs (s : Block) (regs : List Nat) (f : List Int) : Block :=
  forL (regs.zip f) (fun p s => s.setRegI p.1 p.2) s

/-- The segments of machine m with segment j replaced or added: its length is that from the end pose before it. -/
def Block.adoptSeg (s : Block) (m j : Nat) (f : List Int) : Block :=
  let x := s.pth m
  let prev := x.segs.take j
  let l := match prev.getLast? with
    | some g => segLen g.pos g.quat (f.take 3) (f.drop 3) (s.rotR m)
    | none => segLenFrom x.start ⟨f.take 3, f.drop 3, 0⟩ (s.rotR m)
  let g : Seg := ⟨f.take 3, f.drop 3, l⟩
  s.setPth m { x with segs := prev ++ [g] }

/-- Adopt the fields of a CARREL record. -/
def Block.adoptCar (s : Block) (c : Nat) (f : List Int) : Block :=
  let g := fun i => f.getD i 0
  let s := s.setPrf c { s.prf c with p := g 0, v := g 1, vt := g 1, inc := g 2, acc := g 2, o := g 3, oNew := g 4, auxRef := optOf (g 5) }
  let s := (s.setRegI (R.PS_STAT c) (g 6)).setRegs (carRegs c) (f.drop 7)
  let s := s.setRegI (R.PS_CFG c) (g 14)
  let bq := (List.range 8).foldl
    (fun m i => sset (fun _ => {}) m i (⟨g (18 + 4 * i), g (19 + 4 * i), g (20 + 4 * i), g (21 + 4 * i)⟩ : Bq)) ([] : Sparse Bq)
  let s := (s.setLp c { s.lp c with i := g 15, r := g 16, bq := bq, iref := g 50, seq := (g 51).toNat }).setRegI (R.LE_STAT c) (g 17)
  let en := g 52 != 0
  (s.setB (R.CAR_CTRL c) 0 en).setEnabled c en

/-- Adopt the entries of a RING record: one that has left the ring is discarded. (log 23, DESIGN CHOICE) -/
def Block.adoptRing (s : Block) (f : List Int) : Block :=
  let es := (List.range (f.length / 8)).map (fun i => (f.drop (1 + 8 * i)).take 8)
  forL es (fun e s =>
    let u := (e.getD 0 0).toNat
    let r := s.vmf.ring
    let old := r.find? (fun x => x.upd == u)
    let new : RingEnt := ⟨u, u * 1000000, poseOf (e.drop 1), match old with | some x => x.vel | none => {}⟩
    let r := r.filter (fun x => u < x.upd) ++ new :: r.filter (fun x => x.upd < u)
    s.modVmf (fun v => { v with ring := r.take 512 })) s

/-- Adopt the estimator once its chunks are complete: 448 fields. (log 23, DESIGN CHOICE) -/
def Block.adoptVmf (s : Block) (f : List Int) : Block :=
  let g := fun i => (f.getD i 0).toNat
  let s := s.setF R.VMF_STAT 0 15 (g 0)
  s.modVmf (fun v => { v with
    epoch := g 1, runT := g 2, alignCnt := g 3, inertT := g 4, posT := optOf (f.getD 5 0), hdgT := optOf (f.getD 6 0),
    velT := optOf (f.getD 7 0),
    tgtT := (List.range 4).foldl (fun m t => sset (fun _ => none) m t (optOf (f.getD (8 + t) 0))) [],
    coastT := (List.range 8).foldl (fun m k => sset (fun _ => 0) m k (g (12 + k))) []
    est := (optOf (f.getD 446 0)).map (fun t =>
      let x := fun i => V3.ofList (i64F ((f.drop i).take 3))
      { t := t, pose := poseOf (f.drop 20), vel := x 27, rate := (v.est.getD {}).rate, bg := x 30, ba := x 33, br := x 36,
        cov := i64F ((f.drop 39).take 171) })
    tgt := (List.range 4).foldl (fun m n => sset (fun _ => none) m n ((optOf (f.getD (8 + n) 0)).map (fun t =>
      { (sget (fun _ => none) v.tgt n).getD {} with t := t, pose := poseOf (f.drop (210 + 7 * n)) }))) []
    comps := ((List.range 16).filter (fun i => f.getD (238 + i) 0 ≠ 0)).map (fun i =>
      let a := i64F ((f.drop (254 + 12 * i)).take 12)
      ⟨BitVec.ofInt 64 (f.getD (238 + i) 0), a.take 6, a.drop 6⟩)
    waveT := g 447, rsChunks := [] })

/-- Adopt a VMF chunk: the fourteenth completes the estimator. -/
def Block.adoptChunk (s : Block) (ix : Nat) (f : List Int) : Block :=
  let l := if ix = 0 then f else s.vmf.rsChunks ++ f
  if ix = 13 ∧ l.length = 448 then s.adoptVmf l else s.modVmf (fun v => { v with rsChunks := l })

/-- Adopt the fields of a MACHINE record; the warm-start record goes to memory. -/
def Block.adoptMach (s : Block) (m : Nat) (f : List Int) : Block × List MemOp :=
  if m = 16 then
    let k := f.length - 6
    let d := s.solv.dem.length
    let s := s.modSolv (fun v => { v with dem := (f.take k).take d, gain := (f.take k).drop d })
    (forL ((List.range 6).zip (f.drop k)) (fun p s => s.wrI (R.TA_DEM p.1) p.2) s, [])
  else
    let g := fun i => f.getD i 0
    let x := s.pth m
    let st := s.pathSt m
    let s := s.setPth m { x with s := g 0, v := g 1, segs := x.segs.take (g 4).toNat, go := decide (st ≠ 0) && x.go }
    let s := (s.setRegI (R.PATH_STAT (m / 4) (m % 4)) (g 2)).setRegs (pathRegs m) (f.drop 5)
    let s := ((s.setRegI (R.SOLV_M_VAR m) (g 15)).setF (R.SOLV_M_CFG m) 11 2 (g 16).toNat).setRegI (R.VMF_MFRAME m) (g 17)
    (s, [.store (warmAddr m) ((f.drop 18).map (fun b => BitVec.ofInt 8 b))])

/-- Adopt one record at tick 0 of cycle n; true where its condition is met. (log 23, DESIGN CHOICE) -/
def Block.adoptRec (s : Block) (n : Nat) (r : RsRec) : Block × List MemOp × Bool :=
  let u := if r.kind = 3 ∧ r.index = 0 then chunkUpdate n else s.red.rsU
  if !mayAdopt n u s.red.rsM r.kind then (s, [], false)
  else
    let s := s.modRed (fun x => { x with rsU := u, rsM := if r.kind = 5 then n else x.rsM })
    match r.kind with
    | 1 => (s.setRegs ((List.range 65).map (fun i => if r.sub = 0 then R.LIVE_FOLIO r.index i else R.SHADOW_FOLIO r.index i)) r.body, [], true)
    | 2 => (s.adoptRing r.body, [], true)
    | 3 => (s.adoptChunk r.index r.body, [], true)
    | 4 => (s.adoptSeg r.index r.sub r.body, [], true)
    | 5 => let q := s.adoptMach r.index r.body; (q.1, q.2, true)
    | 6 => (s.adoptCar r.index r.body, [], true)
    | 7 => (s.setRed 2, [], true)
    | _ => (s, [], true)

/-- RESYNC_RECORD_ADOPT at tick 0 of cycle n: the records of the previous frame, before the twin writes; a condition
that is not met ends the resynchronisation (R416, R417). -/
def Block.adoptRecs (s : Block) (n : Nat) : Block × List MemOp :=
  let l := s.red.recs
  let s := s.modRed (fun r => { r with recs := [] })
  if s.redSt ≠ 4 then (s, [])
  else l.foldl (fun p r =>
    if p.1.redSt ≠ 4 then p
    else
      let q := p.1.adoptRec n r
      if q.2.2 then (q.1.incSat R.RED_STAT 4 12, p.2 ++ q.2.1) else (p.1.rsFail, p.2)) (s, [])

/-! ### The meanings -/

def execResyncReq (src : Fin 4096) (s : State) : Out := ifRun (onApp (opResyncReq src.val)) s

end Sys2Proof.Machine
end

