-- ==== Sys2Proof/Machine/Dsp.lean ====
section
/-! DEFINITION. The Spectral Processors (18_spectral_processors.md): the kernels bit for bit, jobs, suspension. -/

namespace Sys2Proof.Machine

def dspPage (w : Nat) : Nat := 0x40103000 + w * 0x40000
def Block.dspAt (s : Block) (w : Nat) : Dsp := sget (fun _ => {}) s.dsp w
def Block.setDsp (s : Block) (w : Nat) (x : Dsp) : Block := { s with dsp := sset (fun _ => {}) s.dsp w x }
/-- Set a flag of DSP_ERR (R436). -/
def Block.dspFlag (s : Block) (w i : Nat) : Block := s.flag (R.DSP_ERR w) i (dspPage w) (8 + i)
/-- DSP_STAT.STATE: 0 IDLE, 1 RUNNING, 2 DONE_HELD, 3 SUSPENDED. -/
def Block.dspSt (s : Block) (w : Nat) : Nat := s.fl (R.DSP_STAT w) 0 2
def Block.setDspSt (s : Block) (w st : Nat) : Block := (s.setF (R.DSP_STAT w) 0 2 st).setB (R.PAGE_STAT (dspPage w)) 2 (st != 0)
/-- Show the fills of both queues. -/
def Block.dspFill (s : Block) (w : Nat) : Block :=
  (s.setF (R.DSP_STAT w) 3 4 (s.dspAt w).jobs.length).setF (R.DSP_STAT w) 7 3 (s.dspAt w).vmfJobs

/-! ### Data and arithmetic (R422, R424) -/

/-- A sample of 24 bits, and one stored with its sign extension. -/
def smp (m : Mem) (a : Nat) : Int := sx 24 (mrdN m a 4)
def putSmp (m : Mem) (a : Nat) (x : Int) : Mem := mstore m a (bytesOf 4 (lowBits 32 x))

/-- The fields of a descriptor that the device reads (R430). -/
structure DspDesc where
  kind : Nat
  flags : Nat
  size : Nat
  param : Nat
  inp : Nat
  out : Nat
  aux : Nat
  cl : Nat
  st : Nat

def dspDesc (m : Mem) (a : Nat) : DspDesc :=
  { kind := mrdN m a 2, flags := mrdN m (a + 2) 2, size := mrdN m (a + 8) 4, param := mrdN m (a + 12) 4,
    inp := mrdN m (a + 16) 5, out := mrdN m (a + 21) 5, aux := mrdN m (a + 26) 5, cl := mrdN m (a + 32) 4,
    st := mrdN m (a + 36) 4 }

def dReal (d : DspDesc) : Bool := nbit d.flags 1
/-- L and N of an FFT; M and T of an FIR; S of a BIQ. -/
def dL (d : DspDesc) : Nat := d.size % 16
def dN (d : DspDesc) : Nat := 2 ^ dL d
def dM (d : DspDesc) : Nat := d.size % 2 ^ 13
def dT (d : DspDesc) : Nat := d.size / 2 ^ 16 % 2 ^ 9
def dS (d : DspDesc) : Nat := d.size / 2 ^ 16 % 2 ^ 5
def dD (d : DspDesc) : Nat := d.param / 2 ^ 8 % 16 + 1

/-- Bytes of an input element. -/
def dElem (d : DspDesc) : Nat := if d.kind = 1 ∧ dReal d = false then 8 else 4

/-- The address of input element j (R424). -/
def inAddr (d : DspDesc) (j : Nat) : Nat :=
  d.inp + (if d.cl = 0 then d.st + j else (d.st + j) % d.cl) * dElem d

/-- A run of a kernel: the memory, the block exponent, the shift of the stage, and whether a value saturated. -/
structure DspRun where
  mem : Mem
  bexp : Nat := 0
  s : Nat := 0
  sat : Bool := false

/-- Saturation to 24 bits and whether it changed the value. -/
def sat24 (x : Int) : Int × Bool := (sat x 24, decide (sat x 24 ≠ x))

/-! ### The FFT (R425 to R427) -/

/-- C[i] of the twiddle table. -/
def twC (i : Nat) : Int := sat (sinTab (2 ^ 23) (i + 1024)) 24

/-- The twiddle of index k of an N-point transform. -/
def twiddle (d : DspDesc) (k : Nat) : Int × Int :=
  let i := k * 4096 / dN d
  let wi := -twC ((i + 3072) % 4096)
  (twC i, if nbit d.flags 2 then -wi else wi)

def bitrev : Nat → Nat → Nat
  | 0, _ => 0
  | n + 1, j => j % 2 * 2 ^ n + bitrev n (j / 2)

/-- One part of an input element through the window. -/
def windowed (d : DspDesc) (j : Nat) (x : Int) : Int × Bool :=
  if nbit d.flags 3 then sat24 (rnd (x * shr (2 ^ 23 - twC (j * 4096 / dN d)) 1) 23) else (x, false)

/-- Input element j goes to its bit-reversed place. -/
def fftIn (d : DspDesc) (r : DspRun) (j : Nat) : DspRun :=
  let a := inAddr d j
  let re := windowed d j (smp r.mem a)
  let im := windowed d j (if dReal d then 0 else smp r.mem (a + 4))
  let o := d.out + 8 * bitrev (dL d) j
  { r with mem := putSmp (putSmp r.mem o re.1) (o + 4) im.1, sat := r.sat || re.2 || im.2 }

/-- The largest magnitude among the first n words from an address. -/
def maxMag (m : Mem) (a : Nat) : Nat → Nat
  | 0 => 0
  | n + 1 => max (smp m (a + 4 * n)).natAbs (maxMag m a n)

/-- The shift of a stage (R426). -/
def stageShift (m : Nat) : Nat := if m < 2 ^ 21 then 0 else if m < 2 ^ 22 then 1 else 2

/-- Butterfly b of a stage of half-size h. The stage's shift is chosen at its first butterfly. -/
def fftBfly (d : DspDesc) (r : DspRun) (h b : Nat) : DspRun :=
  let r := if b = 0 then
      let s := stageShift (maxMag r.mem d.out (2 * dN d))
      { r with s := s, bexp := r.bexp + s }
    else r
  let k := b % h
  let ia := d.out + 8 * (b / h * (2 * h) + k)
  let ib := ia + 8 * h
  let ar := smp r.mem ia
  let ai := smp r.mem (ia + 4)
  let br := smp r.mem ib
  let bi := smp r.mem (ib + 4)
  let w := twiddle d (k * (dN d / (2 * h)))
  let t := if k = 0 then (shl br 23, shl bi 23) else (br * w.1 - bi * w.2, br * w.2 + bi * w.1)
  let f := fun (x y : Int) => sat24 (rnd (shl x 23 + y) (23 + r.s))
  let p0 := f ar t.1
  let p1 := f ai t.2
  let q0 := f ar (-t.1)
  let q1 := f ai (-t.2)
  { r with mem := putSmp (putSmp (putSmp (putSmp r.mem ia p0.1) (ia + 4) p1.1) ib q0.1) (ib + 4) q1.1,
           sat := r.sat || p0.2 || p1.2 || q0.2 || q1.2 }

/-- The power of bin k (R427). -/
def fftPow (d : DspDesc) (r : DspRun) (k : Nat) : DspRun :=
  let yr := smp r.mem (d.out + 8 * k)
  let yi := smp r.mem (d.out + 8 * k + 4)
  let p := min (rnd (yr * yr + yi * yi) 16).toNat (2 ^ 32 - 1)
  { r with mem := mstore r.mem (d.out + 8 * dN d + 4 * k) (bytesOf 4 p) }

/-- Element e of an FFT: the input pass, the stages, the power pass. -/
def fftElem (d : DspDesc) (r : DspRun) (e : Nat) : DspRun :=
  let n := dN d
  if e < n then fftIn d r e
  else if e < n + dL d * (n / 2) then fftBfly d r (2 ^ ((e - n) / (n / 2))) ((e - n) % (n / 2))
  else fftPow d r (e - n - dL d * (n / 2))

/-! ### FIR and BIQ (R428) -/

/-- The sum of an FIR output over taps 0 to t − 1. -/
def firSum (d : DspDesc) (m : Mem) (j : Nat) : Nat → Int
  | 0 => 0
  | t + 1 => firSum d m j t + smp m (d.aux + 4 * t) * smp m (inAddr d (j * dD d + (dT d - 1) - t))

def firElem (d : DspDesc) (r : DspRun) (j : Nat) : DspRun :=
  let y := sat24 (rnd (firSum d r.mem j (dT d)) (d.param % 32))
  { r with mem := putSmp r.mem (d.out + 4 * j) y.1, sat := r.sat || y.2 }

/-- One section at its place in AUX: its output, and its states updated. -/
def biqSection (a : Nat) (x : Int) (r : DspRun) : Int × DspRun :=
  let c := fun i => smp r.mem (a + 4 * i)
  let y := sat24 (rnd (c 0 * x + c 1 * c 5 + c 2 * c 6 - c 3 * c 7 - c 4 * c 8) 22)
  (y.1, { r with mem := putSmp (putSmp (putSmp (putSmp r.mem (a + 24) (c 5)) (a + 20) x) (a + 32) (c 7)) (a + 28) y.1,
                 sat := r.sat || y.2 })

def biqElem (d : DspDesc) (r : DspRun) (j : Nat) : DspRun :=
  let q := (List.range (dS d)).foldl (fun q i => biqSection (d.aux + 36 * i) q.1 q.2) (smp r.mem (inAddr d j), r)
  { q.2 with mem := putSmp q.2.mem (d.out + 4 * j) q.1 }

/-! ### Jobs (R423, R429, R430) -/

/-- The elements of a job. -/
def dspTotal (d : DspDesc) : Nat :=
  if d.kind = 1 then dN d + dL d * (dN d / 2) + (if nbit d.flags 4 then dN d else 0) else dM d

def dspElem (d : DspDesc) (r : DspRun) (e : Nat) : DspRun :=
  if d.kind = 1 then fftElem d r e else if d.kind = 2 then firElem d r e else biqElem d r e

/-- Elements e0 to e0 + n − 1. -/
def dspRun (d : DspDesc) (e0 : Nat) : Nat → DspRun → DspRun
  | 0, r => r
  | n + 1, r => dspElem d (dspRun d e0 n r) (e0 + n)

/-- Bytes of the output and of AUX that a job reads. -/
def outLen (d : DspDesc) : Nat :=
  if d.kind = 1 then (if nbit d.flags 4 then 12 else 8) * dN d else 4 * dM d
def auxLen (d : DspDesc) : Nat := if d.kind = 2 then 4 * dT d else if d.kind = 3 then 36 * dS d else 0

/-- Input elements that a job reads, and the range of addresses they lie in. -/
def inCount (d : DspDesc) : Nat :=
  if d.kind = 1 then dN d else if d.kind = 2 then (dM d - 1) * dD d + dT d else dM d
def inRange (d : DspDesc) : Nat × Nat :=
  if d.cl = 0 then (d.inp + d.st * dElem d, inCount d * dElem d) else (d.inp, d.cl * dElem d)

/-- A range lies in the wing's own SRAM or in the shared SRAM (R423). -/
def dspMem (w a len : Nat) : Bool :=
  (decide (0x18000000 + w * 0x200000 ≤ a) && decide (a + len ≤ 0x18000000 + (w + 1) * 0x200000))
    || (decide (0x10000000 ≤ a) && decide (a + len ≤ 0x10800000))

def overlap (a la b lb : Nat) : Bool := decide (a < b + lb) && decide (b < a + la) && la != 0 && lb != 0

/-- The reason with which a job fails by its descriptor: 0 none, 1 kind, 2 size, 3 address. (log 65, DESIGN CHOICE) -/
def dspReason (w : Nat) (d : DspDesc) : Nat :=
  if d.kind = 0 ∨ 3 < d.kind then 1
  else
    let bad := if d.kind = 1 then decide (dL d < 4 ∨ 12 < dL d)
      else decide (dM d = 0 ∨ 4096 < dM d) || (if d.kind = 2 then decide (dT d = 0 ∨ 256 < dT d) else decide (dS d = 0 ∨ 16 < dS d))
    let i := inRange d
    if bad then 2
    else if d.kind = 2 ∧ d.cl = 0 ∧ dspMem w i.1 4 = true ∧ dspMem w i.1 i.2 = false then 2
    else if !dspMem w i.1 i.2 || !dspMem w d.out (outLen d) || (auxLen d != 0 && !dspMem w d.aux (auxLen d)) then 3
    else if overlap i.1 i.2 d.out (outLen d) || overlap i.1 i.2 d.aux (auxLen d) || overlap d.out (outLen d) d.aux (auxLen d) then 3
    else 0

/-- The address of a descriptor of wing w, and the bytes of its STATUS. -/
def dspAddr (w off : Nat) : Nat := 0x18000000 + w * 0x200000 + off
def dspStatus (st reason bexp : Nat) (sat : Bool) : List Byte :=
  bytesOf 4 (st + reason * 2 ^ 8 + bexp % 256 * 2 ^ 16 + (if sat then 2 ^ 24 else 0))

/-- The offset of the running or suspended job, and whether it is the VMF's. -/
def Block.dspJob (s : Block) (w : Nat) : Nat := s.fl (R.DSP_JOB w) 0 18 * 8
def Block.dspValid (s : Block) (w : Nat) : Bool := s.bt (R.DSP_JOB w) 18
def Block.dspVmf (s : Block) (w : Nat) : Bool := s.bt (R.DSP_JOB w) 19

/-- The end of a firmware job (R431): STATUS, DONE, the event; DONE_HELD until the event is admitted. -/
def Block.dspEnd (s : Block) (w st reason : Nat) : Block × List MemOp :=
  let x := s.dspAt w
  let a := dspAddr w (s.dspJob w)
  let s := if st = 3 then s.dspFlag w 0 else s
  let s := s.wrN (R.DSP_JOB w) 0
  let s := (s.wrN (R.DSP_DONE_CNT w) (s.rdN (R.DSP_DONE_CNT w) + 1)).raise (dspPage w) 0
  let s := (s.setDspSt w 2).postStall (.dsp w)
  let s := if s.disp.held.contains (.dsp w) then s else s.dspFree w
  (s, [.store (a + 4) (dspStatus st reason x.bexp x.sat)])

/-- Elements e0 to e0 + n − 1 of the job in hand: the state with the new context, and what is stored. (log 65, DESIGN CHOICE) -/
def Block.dspExec (s : Block) (mem : Mem) (w n : Nat) : Block × List MemOp :=
  let x := s.dspAt w
  let d := dspDesc mem (dspAddr w (s.dspJob w))
  let r := dspRun d x.done n { mem := mem, bexp := x.bexp, s := x.s, sat := x.sat }
  let s := if r.sat then s.dspFlag w 2 else s
  (s.setDsp w { x with done := x.done + n, bexp := r.bexp, s := r.s, sat := r.sat },
    .store d.out (mrdBytes r.mem d.out (outLen d)) ::
      (if d.kind = 3 then [.store d.aux (mrdBytes r.mem d.aux (auxLen d))] else []))

/-- An offset lies in DSP_VMF_AREA. -/
def Block.vmfArea (s : Block) (w off : Nat) : Bool :=
  let b := s.fl (R.DSP_VMF_AREA w) 0 9 * 4096
  decide (b ≤ off) && decide (off < b + s.fl (R.DSP_VMF_AREA w) 16 16 * 4096)

/-- DSP_SUBMIT: a write of that register (R430, R436, R437). -/
def opDspSubmit (w : Nat) (snd : Sender) (v : Word) (s : Block) (mem : Mem) : Block × List MemOp :=
  let off := fld v 3 18 * 8
  let a := dspAddr w off
  if s.vmfArea w off then (s.refuse true (R.DSP_SUBMIT w) snd .range, [])
  else if 8 ≤ (s.dspAt w).jobs.length then ((s.refuse true (R.DSP_SUBMIT w) snd .state).dspFlag w 1, [])
  else
    let s := (s.setDsp w { s.dspAt w with jobs := (s.dspAt w).jobs ++ [off] }).dspFill w
    (s, if nbit (mrdN mem (a + 2) 2) 0 then [] else [.store (a + 4) (dspStatus 0 0 0 false)])

/-- Start firmware job `off`: with FLAGS.RESUME its context must be that of a suspended job (R433). -/
def Block.dspBegin (s : Block) (mem : Mem) (w off : Nat) : Block × List MemOp :=
  let a := dspAddr w off
  let d := dspDesc mem a
  let s := (s.wrN (R.DSP_JOB w) (off / 8 + 2 ^ 18)).setDspSt w 1
  let resume := nbit d.flags 0
  let tag := mrdN mem (a + 40) 2
  let ctx := mrdN mem (a + 42) 2
  let e := sget (fun _ => (0, false)) (s.dspAt w).ctx tag
  let fresh := { s.dspAt w with done := 0, bexp := 0, s := 0, sat := false }
  let s := s.setDsp w (if resume then { fresh with done := e.1, sat := e.2, bexp := ctx % 256, s := ctx / 256 % 4 } else fresh)
  let why := dspReason w d
  let loops := (List.range 3).map (fun i => mrdN mem (a + 52 + 4 * i) 4)
  let badCtx := resume && (mrdN mem (a + 4) 1 % 8 != 4 || loops.any (fun l => l / 2 ^ 28 != tag % 16))
  if why ≠ 0 then (s.dspEnd w 3 why)
  else if badCtx then ((s.dspFlag w 3).dspEnd w 3 4)
  else
    let s := if resume then forL ((List.range 3).zip loops) (fun p s => s.wrN (R.DSP_LOOP w p.1) p.2) s
      else s
    (s, [.store (a + 4) (dspStatus 1 0 0 false)])

/-- Where the VMF's area of wing w holds the descriptor of the job of degree of freedom d, its ring of samples, and its
output: the layout is the model's (assumption 55). (log 55, DESIGN CHOICE) -/
def Block.vmfBase (s : Block) (w : Nat) : Nat := s.fl (R.DSP_VMF_AREA w) 0 9 * 4096
def Block.vmfJobOff (s : Block) (w d : Nat) : Nat := s.vmfBase w + 64 * d
def Block.vmfRing (s : Block) (w d : Nat) : Nat := dspAddr w (s.vmfBase w + 0x1000 + 0x1000 * d)
def Block.vmfOut (s : Block) (w d : Nat) : Nat := dspAddr w (s.vmfBase w + 0x7000 + 0x3000 * d)

/-- DSP_JOB_START at a job boundary (R430): the head of the VMF queue, otherwise of the firmware queue. -/
def opDspJobStart (w : Nat) (s : Block) (mem : Mem) : Block × List MemOp :=
  let x := s.dspAt w
  if s.dspSt w ≠ 0 ∨ s.bt (R.DSP_CTRL w) 0 = false ∨ s.pageEn (dspPage w) = false ∨ s.domState w ≠ 0 then (s, [])
  else if x.vmfJobs ≠ 0 then
    let off := s.vmfJobOff w (6 - x.vmfJobs)
    let s := ((s.setDsp w { x with vmfJobs := x.vmfJobs - 1, done := 0, bexp := 0, s := 0, sat := false }).dspFill w).setDspSt w 1
    ((s.wrN (R.DSP_JOB w) (off / 8 + 2 ^ 18 + 2 ^ 19)).setB (R.DSP_STAT w) 2 true, [.store (dspAddr w off + 4) (dspStatus 1 0 0 false)])
  else match x.jobs with
    | [] => (s, [])
    | off :: rest => ((s.setDsp w { x with jobs := rest }).dspFill w).dspBegin mem w off

/-- The power that the spectrum of degree of freedom d gives bin k, with its block exponent in STATUS (R426, R427, R431). -/
def Block.wavePow (s : Block) (mem : Mem) (w d k : Nat) : Nat :=
  mrdN mem (s.vmfOut w d + 8192 + 4 * k) 4 * 2 ^ (2 * (mrdN mem (dspAddr w (s.vmfJobOff w d) + 6) 1))

/-- The summed spectrum in bin k (R148). -/
def Block.waveSum (s : Block) (mem : Mem) (w k : Nat) : Nat :=
  ((List.range 6).map (fun d => s.wavePow mem w d k)).sum

/-- The bins of up to 16 peaks between 0.03 Hz and 0.5 Hz whose power exceeds 1/1000 of the highest, the highest first;
a bin is 1/128 Hz (R148). (log 108, DEDUCED) -/
def wavePeaks (p : Nat → Nat) : List Nat :=
  let peaks := (List.range 65).filter (fun k => decide (4 ≤ k) && decide (p (k - 1) < p k) && decide (p (k + 1) ≤ p k))
  let top := (peaks.map p).foldl max 0
  ((peaks.filter (fun k => decide (top < 1000 * p k))).insertionSort (fun a b => p b ≤ p a)).take 16

/-- A VMF job ends: with the last one of an interval the VMF selects the frequencies, and with 128 s of samples the fit
starts (R148). (log 55, DESIGN CHOICE) -/
def Block.vmfJobDone (s : Block) (mem : Mem) (w : Nat) : Block :=
  let n := s.vmf.waveJobs - 1
  let full := decide (1024 ≤ s.vmf.hist.length)
  let ws := if n = 0 then (wavePeaks (s.waveSum mem w)).map (fun k => F64.mul (F64.mul F64.two F64.pi) (F64.div (F64.ofInt (k : Nat) 0) (F64.ofInt 128 0)))
    else s.vmf.waveW
  s.modVmf (fun v => { v with waveJobs := n, waveW := ws, fitBusy := v.fitBusy || (n == 0 && full) })

/-- DSP_JOB_DONE: the job in hand ends after `clk` WING clocks; `ecc` for an uncorrectable error that it read. -/
def opDspJobDone (w clk : Nat) (ecc : Bool) (s : Block) (mem : Mem) : Block × List MemOp :=
  if s.dspSt w ≠ 1 then (s, [])
  else
    let s := s.setF (R.DSP_CLK w) 0 24 (min clk (2 ^ 24 - 1))
    let s := if ecc then (s.dspFlag w 4).archive 0x13 w 11 2 (s.rdN (R.DSP_ERR w)) 0 0 else s
    if s.dspVmf w then
      let x := s.dspAt w
      let a := dspAddr w (s.dspJob w)
      let d := dspDesc mem a
      let r := if ecc then (s, []) else s.dspExec mem w (dspTotal d - x.done)
      let y := r.1.dspAt w
      let ops := r.2 ++ [.store (a + 4) (dspStatus (if ecc then 3 else 2) (if ecc then 3 else 0) y.bexp y.sat)]
      ((((r.1.wrN (R.DSP_JOB w) 0).setB (R.DSP_STAT w) 2 false).dspFree w).vmfJobDone (mapply mem ops) w, ops)
    else if ecc then s.dspEnd w 3 3
    else
      let x := s.dspAt w
      let d := dspDesc mem (dspAddr w (s.dspJob w))
      let r := s.dspExec mem w (dspTotal d - x.done)
      let q := r.1.dspEnd w 2 0
      (q.1, r.2 ++ q.2)

/-! ### Commands (R432 to R434) -/

/-- A command of DSP_CMD: more than one bit set is refused with reason RANGE. (log 65, DESIGN CHOICE) -/
def dspCmd (w : Nat) (snd : Sender) (v : Word) (act : Block → Mem → Block × List MemOp) (s : Block) (mem : Mem) :
    Block × List MemOp :=
  if [1, 2, 4, 8].contains (fld v 0 4) then act s mem else (s.refuse true (R.DSP_CMD w) snd .range, [])

/-- DSP_SUSPEND (R432): a running job is stopped at its next boundary, which is a command of its own. -/
def opDspSuspend (w : Nat) (snd : Sender) (s : Block) (_ : Mem) : Block × List MemOp :=
  if s.dspSt w = 0 ∨ s.dspSt w = 3 then (s.refuse true (R.DSP_CMD w) snd .state, [])
  else (s.setDsp w { s.dspAt w with susp := true }, [])

/-- DSP_SUSPENDED: the boundary after `n` more elements (R432). (log 65, DESIGN CHOICE) -/
def opDspSuspended (w n : Nat) (s : Block) (mem : Mem) : Block × List MemOp :=
  let x := s.dspAt w
  let a := dspAddr w (s.dspJob w)
  if s.dspSt w ≠ 1 ∨ x.susp = false ∨ s.dspVmf w = true ∨ dspTotal (dspDesc mem a) ≤ x.done + n then (s, [])
  else
    let r := s.dspExec mem w n
    let s := r.1
    let y := s.dspAt w
    let tag := (y.tag + 1) % 65536
    let s := s.setDsp w { y with tag := tag, susp := false, ctx := sset (fun _ => (0, false)) y.ctx tag (y.done, y.sat) }
    let f := s.free
    let s := forN 4 (fun _ s => s.useFree) s
    let s := forN 3 (fun i s => s.wrN (R.DSP_LOOP w i) (Config.freeNat (f + i) % 2 ^ 28 + tag % 16 * 2 ^ 28)) s
    let s := (s.setDspSt w 3).raise (dspPage w) 1
    (s, r.2 ++ [.store (a + 40) (bytesOf 4 (tag + y.bexp % 256 * 2 ^ 16 + y.s * 2 ^ 24) ++ bytesOf 8 (Config.freeNat (f + 3) % 2 ^ 60)),
      .store (a + 4) (dspStatus 4 0 y.bexp y.sat)])

/-- DSP_RESUME: the suspended job goes on from its boundary; without a job the processor is IDLE. (log 65, DESIGN CHOICE) -/
def opDspResume (w : Nat) (snd : Sender) (s : Block) (_ : Mem) : Block × List MemOp :=
  if s.dspSt w ≠ 3 then (s.refuse true (R.DSP_CMD w) snd .state, [])
  else if s.dspValid w then (s.setDspSt w 1, [.store (dspAddr w (s.dspJob w) + 4) (dspStatus 1 0 0 false)])
  else (s.setDspSt w 0, [])

/-- DSP_RUN_NEXT: the job is set aside. -/
def opDspRunNext (w : Nat) (snd : Sender) (s : Block) (_ : Mem) : Block × List MemOp :=
  if s.dspSt w ≠ 3 then (s.refuse true (R.DSP_CMD w) snd .state, []) else ((s.wrN (R.DSP_JOB w) 0).setDspSt w 0, [])

/-- DSP_ABORT of a running job, `n` elements on, or of a suspended one (R434). -/
def opDspAbort (w n : Nat) (snd : Sender) (s : Block) (mem : Mem) : Block × List MemOp :=
  let st := s.dspSt w
  if !(st == 1 || st == 3) || !s.dspValid w || s.dspVmf w then (s.refuse true (R.DSP_CMD w) snd .state, [])
  else
    let d := dspDesc mem (dspAddr w (s.dspJob w))
    let r := s.dspExec mem w (if st = 3 then 0 else min n (dspTotal d - (s.dspAt w).done))
    let q := r.1.dspEnd w 3 5
    (q.1, r.2 ++ q.2)

/-! ### The wave model's jobs (R148, R435) -/

/-- The 1024-sample ring of degree of freedom d, oldest first, 24-bit samples; places not yet filled hold 0 (R148, R435). -/
def Block.waveRing (s : Block) (d : Nat) : List Byte :=
  let l := ((s.vmf.hist.take 1024).map (fun x => sat (Config.waveSample d (x.getD d 0#64)) 24)).reverse
  (List.replicate (1024 - l.length) 0 ++ l).flatMap (fun x => bytesOf 4 (lowBits 32 x))

/-- The descriptor of the job of degree of freedom d: a real, windowed 1024-point FFT with power (R430, R435). -/
def Block.waveDesc (s : Block) (w d : Nat) : List Byte :=
  bytesOf 2 1 ++ bytesOf 2 (2 + 8 + 16) ++ bytesOf 4 0 ++ bytesOf 4 10 ++ bytesOf 4 0 ++ bytesOf 5 (s.vmfRing w d)
    ++ bytesOf 5 (s.vmfOut w d) ++ bytesOf 6 0 ++ bytesOf 4 1024 ++ bytesOf 4 0 ++ List.replicate 24 0

/-- WAVE_FFT_SUBMIT: every 8 s in RUN or DEGRADED the VMF queues six jobs; where some of the last interval are not
done, that fit is skipped. (log 55, DESIGN CHOICE) -/
def opWaveFftSubmit (s : Block) (_ : Mem) : Block × List MemOp :=
  if !s.bt R.VMF_CTRL 1 || !(s.vmfSt == 2 || s.vmfSt == 3) then (s, [])
  else
    let w := s.fl R.VMF_CTRL 12 2
    let late := s.vmf.waveJobs != 0
    let s := if late then s.vmfFlag 9 else s
    let run := s.dspSt w == 1 && s.dspVmf w
    let s := s.modVmf (fun v => { v with waveJobs := 6 + (if run then 1 else 0), waveCnt := v.waveCnt + 1 })
    ((s.setDsp w { s.dspAt w with vmfJobs := 6 }).dspFill w,
      (List.range 6).flatMap (fun d => [.store (s.vmfRing w d) (s.waveRing d), .store (dspAddr w (s.vmfJobOff w d)) (s.waveDesc w d)]))

/-! ### The meanings -/

def execDspSubmit (w : WingIx) (snd : Sender) (v : Word) (s : State) : Out :=
  onMem (busWriteM snd (R.DSP_SUBMIT w.val) v (opDspSubmit w.val snd v)) s
def execDspJobStart (w : WingIx) (s : State) : Out := ifRun (onMem (opDspJobStart w.val)) s
def execDspJobDone (w : WingIx) (clk : Nat) (ecc : Bool) (s : State) : Out := ifRun (onMem (opDspJobDone w.val clk ecc)) s
def execDspSuspend (w : WingIx) (snd : Sender) (v : Word) (s : State) : Out :=
  onMem (busWriteM snd (R.DSP_CMD w.val) v (dspCmd w.val snd v (opDspSuspend w.val snd))) s
def execDspSuspended (w : WingIx) (n : Nat) (s : State) : Out := ifRun (onMem (opDspSuspended w.val n)) s
def execDspResume (w : WingIx) (snd : Sender) (v : Word) (s : State) : Out :=
  onMem (busWriteM snd (R.DSP_CMD w.val) v (dspCmd w.val snd v (opDspResume w.val snd))) s
def execDspRunNext (w : WingIx) (snd : Sender) (v : Word) (s : State) : Out :=
  onMem (busWriteM snd (R.DSP_CMD w.val) v (dspCmd w.val snd v (opDspRunNext w.val snd))) s
def execDspAbort (w : WingIx) (snd : Sender) (v : Word) (n : Nat) (s : State) : Out :=
  onMem (busWriteM snd (R.DSP_CMD w.val) v (dspCmd w.val snd v (opDspAbort w.val n snd))) s
def execWaveFftSubmit (s : State) : Out := ifRun (onMem opWaveFftSubmit) s

end Sys2Proof.Machine
end

