-- ==== Sys2Proof/Machine/Can.lean ====
section
/-! DEFINITION. The CAN FD controllers (19_can_fd.md). What a frame does on the bus comes with the command: the frame
received, the outcome of an attempt. The error counters follow ISO 11898-1 (assumption 24). -/

namespace Sys2Proof.Machine

def canPage (i : Nat) : Nat := 0x40500000 + i * 0x1000
def Block.canAt (s : Block) (i : Nat) : Can := sget (fun _ => {}) s.can i
def Block.setCan (s : Block) (i : Nat) (x : Can) : Block := { s with can := sset (fun _ => {}) s.can i x }
/-- Set a flag of CAN_ERR (R449). -/
def Block.canFlag (s : Block) (i b : Nat) : Block := s.flag (R.CAN_ERR i) b (canPage i) (8 + b)
/-- CAN_STAT.MODE in force: 0 INIT, 1 NORMAL, 2 LISTEN, 3 RESTRICTED; CAN_STAT.FC: 0 active, 1 passive, 2 bus-off. -/
def Block.canMode (s : Block) (i : Nat) : Nat := s.fl (R.CAN_STAT i) 0 2
def Block.canFc (s : Block) (i : Nat) : Nat := s.fl (R.CAN_STAT i) 2 2

/-- Post event n of controller i, of the stall class; one that is held already is merged (R448). -/
def Block.canEvent (s : Block) (i n : Nat) : Block :=
  if s.disp.held.contains (.can i n) then s
  else
    let s := s.postStall (.can i n)
    s.setB (R.CAN_STAT i) 22 ((List.range 4).any (fun k => s.disp.held.contains (.can i k)))

/-- Data bytes of a DLC (R450). -/
def canLen (fdf : Bool) (dlc : Nat) : Nat :=
  if dlc ≤ 8 then dlc else if !fdf then 8
  else if dlc = 9 then 12 else if dlc = 10 then 16 else if dlc = 11 then 20 else if dlc = 12 then 24
  else if dlc = 13 then 32 else if dlc = 14 then 48 else 64

/-- The 16 data words of the first `n` bytes. -/
def canWords (l : List Byte) (n : Nat) : List Nat :=
  (List.range 16).map (fun j => ofBytes ((List.range 4).map (fun b => if 4 * j + b < n then l.getD (4 * j + b) 0#8 else 0#8)))

/-- A received frame as stored: ID, CTL with the filter index, timestamp, data (R442, R450). -/
def canStored (f : CanFrame) (flt : Option Nat) (ts : Nat) : CanBuf :=
  let b := fun (x : Bool) k => if x then 2 ^ k else 0
  { id := f.ident.val + b f.ide 29,
    ctl := f.dlc.val + b f.fdf 4 + b f.brs 5 + b f.esi 6 + b f.rtr 7 + (flt.getD 0) % 64 * 2 ^ 8 + b flt.isNone 14,
    ts := ts % 2 ^ 32,
    data := canWords f.data (if f.rtr then 0 else canLen f.fdf f.dlc.val) }

/-- Filter n matches a frame (R441). -/
def Block.canMatch (s : Block) (i n : Nat) (f : CanFrame) : Bool :=
  let mask := s.fl (R.CAN_FLT_MASK i n) 0 29
  let fmt := s.fl (R.CAN_FLT_CFG i n) 1 2
  s.bt (R.CAN_FLT_CFG i n) 0 && (f.ident.val &&& mask) == (s.fl (R.CAN_FLT_ID i n) 0 29 &&& mask)
    && s.bt (R.CAN_FLT_ID i n) 29 == f.ide && (fmt == 0 || (fmt == 1 && !f.fdf) || (fmt == 2 && f.fdf))

/-- What the filters decide: the action (0 FIFO, 1 high-priority buffer, 2 reject) and the filter. -/
def Block.canFilter (s : Block) (i : Nat) (f : CanFrame) : Nat × Option Nat :=
  match (List.range 64).find? (fun n => s.canMatch i n f) with
  | some n => (s.fl (R.CAN_FLT_CFG i n) 3 2, some n)
  | none => (if s.bt (R.CAN_CTRL i) 5 then 0 else 2, none)

/-- Write a stored frame into a window of registers. -/
def Block.canWindow (s : Block) (id ctl ts : Nat) (data : Nat → Nat) (b : CanBuf) : Block :=
  let s := ((s.wrN id b.id).wrN ctl b.ctl).wrN ts b.ts
  forN 16 (fun j s => s.wrN (data j) (b.data.getD j 0)) s

/-- The FIFO window and the fills follow the FIFOs (R442, R450). -/
def Block.canShow (s : Block) (i : Nat) : Block :=
  let x := s.canAt i
  let s := s.canWindow (R.CAN_RXF_ID i) (R.CAN_RXF_CTL i) (R.CAN_RXF_TS i) (R.CAN_RXF_DATA i) (x.rxf.headD {})
  let s := ((s.setF (R.CAN_STAT i) 7 6 x.txf.length).setF (R.CAN_STAT i) 13 7 x.rxf.length)
  (s.setB (R.CAN_STAT i) 21 x.txd.isSome).setB (R.CAN_STAT i) 5 x.onBus.isSome

/-- Count a lost received frame, or an abandoned one (R442, R445). -/
def Block.canLost (s : Block) (i lo : Nat) : Block := s.incSat (R.CAN_LOST_CNT i) lo 16

/-! ### Fault confinement (R445, R449) -/

/-- TEC and REC. -/
def Block.tec (s : Block) (i : Nat) : Nat := s.fl (R.CAN_ECNT i) 0 8
def Block.rec_ (s : Block) (i : Nat) : Nat := s.fl (R.CAN_ECNT i) 8 8

/-- Set the counters; a change of state sets IRQ_RAW.STATE and posts event 3. -/
def Block.setCounters (s : Block) (i tec rec_ : Nat) : Block :=
  let fc0 := s.canFc i
  let fc := if fc0 = 2 ∨ 256 ≤ tec then 2 else if 127 < tec ∨ 127 < rec_ then 1 else 0
  let s := s.wrN (R.CAN_ECNT i) (min tec 255 + min rec_ 255 * 2 ^ 8 + (if 127 < rec_ then 2 ^ 16 else 0))
  if fc = fc0 then s
  else
    let s := s.setF (R.CAN_STAT i) 2 2 fc
    let s := if fc = 2 then (s.canFlag i 3).setCan i { s.canAt i with recov := s.bt (R.CAN_CTRL i) 3 }
      else if fc = 1 then s.canFlag i 4 else s
    (s.raise (canPage i) 4).canEvent i 3

/-- The counters move, but in restricted operation and in bus-off (R438, R445). (log 24, PRESUMED) -/
def Block.countErr (s : Block) (i tec rec_ : Nat) : Block :=
  if s.canMode i = 3 ∨ s.canFc i = 2 then s else s.setCounters i tec rec_

/-- REC after a frame received without error: a value above 127 becomes one from 119 to 127. -/
def Block.recDown (s : Block) (i : Nat) : Block :=
  let r := s.rec_ i
  if r = 0 then s
  else if r ≤ 127 then s.countErr i (s.tec i) (r - 1)
  else (s.countErr i (s.tec i) (119 + Config.freeNat s.free % 9)).useFree

/-- The end of a frame on the bus: a waiting MODE = INIT acts (R447). -/
def Block.canFrameEnd (s : Block) (i : Nat) : Block :=
  let x := s.canAt i
  let s := s.setB (R.CAN_STAT i) 6 false
  if x.initPend then
    let s := s.setCan i { x with initPend := false, onBus := none, recov := false }
    (((s.setF (R.CAN_STAT i) 0 2 0).setB (R.CAN_STAT i) 4 false).setB (R.PAGE_STAT (canPage i)) 2 false).canShow i
  else s

/-! ### Receiving (R441 to R443) -/

/-- Store a frame in the receive FIFO. -/
def Block.canFifo (s : Block) (i : Nat) (b : CanBuf) : Block :=
  let x := s.canAt i
  if 64 ≤ x.rxf.length then (s.canFlag i 0).canLost i 0
  else
    let s := (s.setCan i { x with rxf := x.rxf ++ [b] }).canShow i
    let s := s.raise (canPage i) 0
    if s.fl (R.CAN_EV_CFG i) 0 7 ≤ x.rxf.length + 1 then s.canEvent i 0 else s

/-- Store a frame in the high-priority buffer. -/
def Block.canHp (s : Block) (i : Nat) (b : CanBuf) : Block :=
  let s := if s.bt (R.CAN_STAT i) 20 then s.canFlag i 1 else s
  let s := (s.setCan i { s.canAt i with hp := b }).setB (R.CAN_STAT i) 20 true
  (s.raise (canPage i) 1).canEvent i 1

/-- CAN_FRAME_RX: a frame has passed the last bit of EOF but one; its SOF was sampled `ago` ns before. -/
def opCanFrameRx (i : Nat) (f : CanFrame) (ago : Nat) (s : Block) : Block :=
  if s.canMode i = 0 ∨ s.canFc i = 2 ∨ s.pageEn (canPage i) = false then s
  else
    let s := s.recDown i
    let d := s.canFilter i f
    let b := canStored f d.2 (s.tb.dt - ago)
    let s := if d.1 = 0 then s.canFifo i b else if d.1 = 1 then s.canHp i b else s
    s.canFrameEnd i

/-- CAN_RXF_POP. -/
def opCanRxfPop (i : Nat) (snd : Sender) (v : Word) (s : Block) : Block :=
  let x := s.canAt i
  if !v.getLsbD 0 then s
  else if x.rxf.isEmpty then s.refuse true (R.CAN_RXF_POP i) snd .state
  else (s.setCan i { x with rxf := x.rxf.drop 1 }).canShow i

/-- CAN_HP_READ: a read of CAN_HP_ID. -/
def opCanHpRead (i : Nat) (s : Block) : Block :=
  let b := (s.canAt i).hp
  let s := s.canWindow (R.CAN_HP_ID i) (R.CAN_HP_CTL i) (R.CAN_HP_TS i) (R.CAN_HP_DATA i) b
  (s.setB (R.CAN_STAT i) 20 false).reply b.id

/-! ### Sending (R444 to R446) -/

/-- CAN_DBT is usable (R439). -/
def Block.dbtOk (s : Block) (i : Nat) : Bool :=
  let f := fun lo len => s.fl (R.CAN_DBT i) lo len + 1
  decide (10 ≤ f 0 5 * (1 + f 5 5 + f 10 4)) && decide (f 14 4 ≤ f 10 4)

/-- A staged CTL that is refused (R444). -/
def Block.badCtl (s : Block) (i : Nat) (ctl : Word) : Bool :=
  let fdf := ctl.getLsbD 4
  (ctl.getLsbD 5 && !fdf) || (ctl.getLsbD 7 && fdf) || (fdf && !s.dbtOk i)

/-- A staged frame: data beyond its length is not sent. -/
def Block.staged (s : Block) (id ctl : Nat) (data : Nat → Nat) : CanBuf :=
  let c := s.rd ctl
  let n := if c.getLsbD 7 then 0 else canLen (c.getLsbD 4) (fld c 0 4)
  let bytes := ((List.range 16).map (fun j => bytesOf 4 (s.rdN (data j)))).flatten
  { id := s.rdN id % 2 ^ 30, ctl := fld c 0 4 + (fld c 4 2) * 16 + (if c.getLsbD 7 then 128 else 0), data := canWords bytes n }

/-- CAN_TXF_PUSH. -/
def opCanTxfPush (i : Nat) (snd : Sender) (v : Word) (s : Block) : Block :=
  let x := s.canAt i
  if !v.getLsbD 0 then s
  else if 32 ≤ x.txf.length ∨ 2 ≤ s.canMode i then s.refuse true (R.CAN_TXF_PUSH i) snd .state
  else if s.badCtl i (s.rd (R.CAN_TXF_CTL i)) then s.refuse true (R.CAN_TXF_PUSH i) snd .range
  else (s.setCan i { x with txf := x.txf ++ [s.staged (R.CAN_TXF_ID i) (R.CAN_TXF_CTL i) (R.CAN_TXF_DATA i)] }).canShow i

/-- CAN_TXD_SEND. -/
def opCanTxdSend (i : Nat) (snd : Sender) (v : Word) (s : Block) : Block :=
  let x := s.canAt i
  if !v.getLsbD 0 then s
  else if x.txd.isSome ∨ 2 ≤ s.canMode i then s.refuse true (R.CAN_TXD_SEND i) snd .state
  else if s.badCtl i (s.rd (R.CAN_TXD_CTL i)) then s.refuse true (R.CAN_TXD_SEND i) snd .range
  else (s.setCan i { x with txd := some (s.staged (R.CAN_TXD_ID i) (R.CAN_TXD_CTL i) (R.CAN_TXD_DATA i)), failD := 0 }).canShow i

/-- CAN_TX_DECISION: the direct-send frame if one is pending, otherwise the head of the FIFO. -/
def opCanTxDecision (i : Nat) (s : Block) : Block :=
  let x := s.canAt i
  if s.canMode i ≠ 1 ∨ s.pageEn (canPage i) = false ∨ s.canFc i = 2 ∨ x.onBus.isSome = true ∨ x.initPend = true then s
  else if x.txd.isSome then (s.setCan i { x with onBus := some true }).canShow i
  else if x.txf.isEmpty then s
  else (s.setCan i { x with onBus := some false }).canShow i

/-- Remove the frame that was on the bus. -/
def Can.dropBus (x : Can) : Can :=
  match x.onBus with
  | some true => { x with txd := none, failD := 0, abortD := false, onBus := none }
  | some false => { x with txf := x.txf.drop 1, failF := 0, abortF := false, onBus := none }
  | none => x

/-- An attempt fails: an aborted frame is discarded; one whose count equals or exceeds LIMIT is abandoned. -/
def Block.canFail (s : Block) (i : Nat) : Block :=
  let x := s.canAt i
  let d := x.onBus == some true
  let n := if d then x.failD else x.failF
  if (if d then x.abortD else x.abortF) then s.setCan i x.dropBus
  else if s.fl (R.CAN_RETRY i) 0 8 ≤ n then
    ((((s.setCan i x.dropBus).canFlag i 2).canLost i 16).raise (canPage i) 3).canEvent i 2
  else s.setCan i (if d then { x with failD := n + 1, onBus := none } else { x with failF := n + 1, onBus := none })

/-- The frame on the bus is an FD frame with BRS, in which the delay of the transmitter is measured (R440). -/
def Block.busBrs (s : Block) (i : Nat) : Bool :=
  let x := s.canAt i
  let ctl := if x.onBus = some true then (x.txd.getD {}).ctl else (x.txf.headD {}).ctl
  nbit ctl 4 && nbit ctl 5

/-- CAN_TX_ATTEMPT_END: `outcome` 0 success, 1 lost arbitration, 2 an error; `tecUp` says that the error raises TEC
(ISO 11898-1 exempts some); `delay` is a transmitter delay measured in the attempt (R440). (log 24, PRESUMED) -/
def opCanTxAttemptEnd (i outcome : Nat) (tecUp : Bool) (delay : Option Nat) (s : Block) : Block :=
  let x := s.canAt i
  if x.onBus.isNone then s
  else
    let s := match delay with
      | some d =>
        if s.bt (R.CAN_CTRL i) 6 && s.busBrs i then
          let s := s.setF (R.CAN_TDC i) 8 7 (min d 127)
          if 127 < d + s.fl (R.CAN_TDC i) 0 7 then s.canFlag i 7 else s
        else s
      | none => s
    let s := if outcome = 0 then
        let s := s.countErr i (s.tec i - 1) (s.rec_ i)
        ((s.setCan i (s.canAt i).dropBus).raise (canPage i) 2).canEvent i 2
      else
        let s := if outcome = 2 then
            let s := s.canFlag i 5
            if tecUp then s.countErr i (s.tec i + 8) (s.rec_ i) else s
          else s
        s.canFail i
    (s.canShow i).canFrameEnd i

/-- CAN_TXF_ABORT: every FIFO frame that is not on the bus is discarded. -/
def opCanTxfAbort (i : Nat) (v : Word) (s : Block) : Block :=
  let x := s.canAt i
  if !v.getLsbD 0 then s
  else if x.onBus = some false then (s.setCan i { x with txf := x.txf.take 1, abortF := true }).canShow i
  else (s.setCan i { x with txf := [], failF := 0 }).canShow i

/-- CAN_TXD_ABORT. -/
def opCanTxdAbort (i : Nat) (v : Word) (s : Block) : Block :=
  let x := s.canAt i
  if !v.getLsbD 1 then s
  else if x.onBus = some true then s.setCan i { x with abortD := true }
  else (s.setCan i { x with txd := none, failD := 0 }).canShow i

/-- A write of CAN_TXCMD: both of its bits act. -/
def opCanTxcmd (i : Nat) (v : Word) (s : Block) : Block := opCanTxdAbort i v (opCanTxfAbort i v s)

/-! ### Modes (R438, R445, R447, R450) -/

/-- A write of CAN_CTRL with the mode `m`: LOOPBACK may change in INIT only. `busy` says that a frame is in progress
on the bus. (log 66, DEDUCED) -/
def opCanMode (i m : Nat) (busy : Bool) (snd : Sender) (v : Word) (s : Block) : Block :=
  let x := s.canAt i
  if v.getLsbD 2 != s.bt (R.CAN_CTRL i) 2 && s.canMode i != 0 then s.refuse true (R.CAN_CTRL i) snd .state
  else
    let s := s.wrN (R.CAN_CTRL i) (m + fld v 2 5 * 4)
    if m = 0 then
      if s.canMode i = 0 then s
      else if x.onBus.isSome || busy then (s.setCan i { x with initPend := true }).setB (R.CAN_STAT i) 6 (busy && x.onBus.isNone)
      else (s.setCan i { x with initPend := true }).canFrameEnd i
    else
      let x := { x with initPend := false, recov := x.recov || (m == 1 && s.canFc i == 2) }
      (((s.setCan i x).setF (R.CAN_STAT i) 0 2 m).setB (R.CAN_STAT i) 4 true).setB (R.PAGE_STAT (canPage i)) 2 true

/-- CAN_BUS_OFF_RECOVERY_DONE: counters 0, error active (R445). -/
def opCanRecovered (i : Nat) (s : Block) : Block :=
  if s.canFc i ≠ 2 ∨ (s.canAt i).recov = false then s
  else
    let s := s.setCan i { s.canAt i with recov := false }
    let s := (s.wrN (R.CAN_ECNT i) 0).setF (R.CAN_STAT i) 2 2 0
    (s.raise (canPage i) 4).canEvent i 3

/-- CAN_BUS_ERROR: `kind` 0 an error seen while receiving, which raises REC by 8 where `heavy` and otherwise by 1;
1 a protocol exception event, which with PXD = 1 is a form error (R438); 2 an uncorrectable error in the memory of the receive FIFO's head (`at_` 0), of the
high-priority buffer (1), of the transmit FIFO's head (2) (R449). (log 24, PRESUMED; 66, DEDUCED) -/
def opCanBusError (i kind at_ : Nat) (heavy : Bool) (s : Block) : Block :=
  if kind = 2 then
    let x := s.canAt i
    let s := if at_ = 0 then (if x.rxf.isEmpty then s else (s.setCan i { x with rxf := x.rxf.drop 1 }).canLost i 0)
      else if at_ = 1 then (if s.bt (R.CAN_STAT i) 20 then ((s.setCan i { x with hp := {} }).setB (R.CAN_STAT i) 20 false).canLost i 0 else s)
      else if x.txf.isEmpty ∨ x.onBus = some false then s
      else (s.setCan i { x with txf := x.txf.drop 1, failF := 0 }).canLost i 16
    let s := (s.canShow i).canFlag i 8
    s.archive 0x50 i 12 2 (s.rdN (R.CAN_ERR i)) 0 0
  else if s.canMode i = 0 ∨ s.canFc i = 2 then s
  else if kind = 1 ∧ s.bt (R.CAN_CTRL i) 4 = false then (s.canFlag i 6).canFrameEnd i
  else ((s.canFlag i 5).countErr i (s.tec i) (s.rec_ i + (if heavy then 8 else 1))).canFrameEnd i

/-! ### The meanings -/

def execCanFrameRx (i : CanIx) (f : CanFrame) (ago : Nat) (s : State) : Out := ifRun (onApp (opCanFrameRx i.val f ago)) s
def execCanRxfPop (i : CanIx) (snd : Sender) (v : Word) (s : State) : Out :=
  onApp (busWrite snd (R.CAN_RXF_POP i.val) v (opCanRxfPop i.val snd v)) s
def execCanTxfPush (i : CanIx) (snd : Sender) (v : Word) (s : State) : Out :=
  onApp (busWrite snd (R.CAN_TXF_PUSH i.val) v (opCanTxfPush i.val snd v)) s
def execCanTxdSend (i : CanIx) (snd : Sender) (v : Word) (s : State) : Out :=
  onApp (busWrite snd (R.CAN_TXD_SEND i.val) v (opCanTxdSend i.val snd v)) s
def execCanTxDecision (i : CanIx) (s : State) : Out := ifRun (onApp (opCanTxDecision i.val)) s
def execCanTxAttemptEnd (i : CanIx) (outcome : Fin 3) (tecUp : Bool) (delay : Option Nat) (s : State) : Out :=
  ifRun (onApp (opCanTxAttemptEnd i.val outcome.val tecUp delay)) s
def execCanTxfAbort (i : CanIx) (snd : Sender) (v : Word) (s : State) : Out :=
  onApp (busWrite snd (R.CAN_TXCMD i.val) (setBit v 0 true) (opCanTxcmd i.val (setBit v 0 true))) s
def execCanTxdAbort (i : CanIx) (snd : Sender) (v : Word) (s : State) : Out :=
  onApp (busWrite snd (R.CAN_TXCMD i.val) (setBit v 1 true) (opCanTxcmd i.val (setBit v 1 true))) s
def execCanModeInit (i : CanIx) (busy : Bool) (snd : Sender) (v : Word) (s : State) : Out :=
  onApp (busWrite snd (R.CAN_CTRL i.val) (BitVec.ofNat 32 0 ||| (v &&& 0xFFFFFFFC#32)) (opCanMode i.val 0 busy snd v)) s
def execCanModeNormal (i : CanIx) (snd : Sender) (v : Word) (s : State) : Out :=
  onApp (busWrite snd (R.CAN_CTRL i.val) (BitVec.ofNat 32 1 ||| (v &&& 0xFFFFFFFC#32)) (opCanMode i.val 1 false snd v)) s
def execCanModeListen (i : CanIx) (snd : Sender) (v : Word) (s : State) : Out :=
  onApp (busWrite snd (R.CAN_CTRL i.val) (BitVec.ofNat 32 2 ||| (v &&& 0xFFFFFFFC#32)) (opCanMode i.val 2 false snd v)) s
def execCanModeRestricted (i : CanIx) (snd : Sender) (v : Word) (s : State) : Out :=
  onApp (busWrite snd (R.CAN_CTRL i.val) (BitVec.ofNat 32 3 ||| (v &&& 0xFFFFFFFC#32)) (opCanMode i.val 3 false snd v)) s
def execCanBusOffRecoveryDone (i : CanIx) (s : State) : Out := ifRun (onApp (opCanRecovered i.val)) s
def execCanBusError (i : CanIx) (kind at_ : Fin 3) (heavy : Bool) (s : State) : Out :=
  ifRun (onApp (opCanBusError i.val kind.val at_.val heavy)) s

end Sys2Proof.Machine
end

