-- ==== Sys2Proof/Machine/HostIf.lean ====
section
/-! DEFINITION. Host, memory and vessel network interfaces (20_host_memory_network.md): the PCIe endpoint's vectors and
outbound window, the Ethernet MACs, the SDRAM controller, the xSPI flash, SPI and SMBus. -/

namespace Sys2Proof.Machine

def pciePage : Nat := 0x40520000
def ethPage (i : Nat) : Nat := 0x40510000 + i * 0x1000
def sdcPage : Nat := 0x40530000
def xspiPage : Nat := 0x40540000

/-- Change the hidden state of the interfaces. -/
def Block.modHost (s : Block) (f : HostIf → HostIf) : Block := { s with host := f s.host }

/-! ### MSI-X (R452, R454) -/

/-- A dword of the MSI-X table; a vector's own mask is set at reset (assumption 25). (log 25, PRESUMED) -/
def Block.msixWord (s : Block) (k : Nat) : Nat := sget (fun k => if k % 4 = 3 then 1 else 0) s.host.msixTab k

/-- Whether vector v is masked, on its own or by the function mask. -/
def Block.msixMasked (s : Block) (v : Nat) : Bool := s.host.fmask || nbit (s.msixWord (4 * v + 3)) 0

/-- Vector v fires: it sends its message, or becomes pending where it is masked. (log 69, DEDUCED) -/
def Block.fireVec (s : Block) (v : Nat) : Block :=
  if s.msixMasked v then
    s.modHost (fun h => if h.pba.contains v then h else { h with pba := h.pba ++ [v] })
  else s.modHost (fun h => { h with msi := h.msi ++ [v] })

/-- A pending vector that no mask holds sends one message and its pending bit clears. -/
def Block.sendPending (s : Block) (v : Nat) : Block :=
  if s.host.pba.contains v && !s.msixMasked v then
    s.modHost (fun h => { h with pba := h.pba.filter (· != v), msi := h.msi ++ [v] })
  else s

/-- No message sent yet by this command. -/
def Block.clearMsi (s : Block) : Block := s.modHost (fun h => { h with msi := [] })

/-- MSIX_SOURCE_RISE of vector v (R454): the source named in its SRC has risen. -/
def opMsixSourceRise (v : Nat) (s : Block) : Block :=
  if s.host.rises.contains v then
    let s := s.clearMsi.modHost (fun h => { h with rises := h.rises.erase v })
    if s.fl (R.PCIE_MSIX_SRC v) 0 9 = 0 then s else s.fireVec v
  else s

/-- MSIX_FIRE (R454): each bit written 1 fires its vector. -/
def opMsixFire (hi : Bool) (v : Word) (s : Block) : Block :=
  forN 32 (fun j s => if v.getLsbD j then s.fireVec (j + if hi then 32 else 0) else s) s.clearMsi

/-- Write a dword of the MSI-X table; where that unmasks a vector, a pending one is sent. -/
def Block.msixWrite (s : Block) (k val : Nat) : Block :=
  let s := s.clearMsi.modHost (fun h =>
    { h with msixTab := sset (fun k => if k % 4 = 3 then 1 else 0) h.msixTab k val })
  s.sendPending (k / 4)

/-- The function mask of the MSI-X capability. -/
def Block.msixFunc (s : Block) (b : Bool) : Block :=
  forN 64 (fun v s => s.sendPending v) (s.clearMsi.modHost (fun h => { h with fmask := b }))

/-- MSIX_UNMASK of a vector, or of the function where none is named (R454). -/
def opMsixUnmask (v : Option (Fin 64)) (s : Block) : Block :=
  match v with
  | some v => s.msixWrite (4 * v.val + 3) (s.msixWord (4 * v.val + 3) / 2 * 2)
  | none => s.msixFunc false

/-! ### PCIe (R451 to R457) -/

/-- Set a flag of PCIE_ERR (R457). -/
def Block.pcieFlag (s : Block) (i : Nat) : Block := s.flag R.PCIE_ERR i pciePage i

/-- PCIE_LINK_UP (R451): the width is 2 to the power `w`, the generation `gen` + 1. -/
def opPcieLinkUp (w gen : Nat) (s : Block) : Block := s.setF R.PCIE_STAT 0 6 (1 + 2 ^ w * 2 + (gen + 1) * 16)

/-- PCIE_RESET (R456): PERSTN low, a hot reset, or link down. (log 69, DEDUCED) -/
def opPcieReset (s : Block) : Block :=
  let up := s.bt R.PCIE_STAT 0
  let pend := !s.host.obRd.isEmpty
  let s := s.resetRegs (fun a => pageBase a == pciePage)
  let s := s.modHost (fun h => { h with msixTab := [], pba := [], fmask := false, rises := [], msi := [], obRd := [], obTx := [] })
  let s := if up then s.pcieFlag 3 else s
  if pend then s.errorResp else s

/-- PCIE_OUTBOUND_ACCESS at offset `x` of the window (R455): `wr` is the word written, none for a read. -/
def opOutbound (snd : Sender) (x : Nat) (wr : Option Word) (s : Block) : Block :=
  if !s.bt R.PCIE_STAT 0 then s.errorResp
  else
    let host := (s.rd64 R.PCIE_OB_BASE_LO + x) % 2 ^ 64
    let s := s.modHost (fun h => { h with obTx := [(host, wr)] })
    match wr with
    | some _ => { s with answer := {} }
    | none => { s.modHost (fun h => { h with obRd := h.obRd ++ [snd] }) with answer := { stalled := true } }

/-- PCIE_OUTBOUND_COMPLETION of the oldest outstanding read (R455): `ok` is false for status UR or CA. -/
def opObCompletion (ok : Bool) (data : Word) (s : Block) : Block :=
  match s.host.obRd with
  | [] => s
  | _ :: rest =>
    let s := s.modHost (fun h => { h with obRd := rest })
    if ok then s.reply data.toNat else (s.pcieFlag 2).errorResp

/-- PCIE_OUTBOUND_TIMEOUT of the oldest outstanding read (R455). -/
def opObTimeout (s : Block) : Block :=
  match s.host.obRd with
  | [] => s
  | _ :: rest => ((s.modHost (fun h => { h with obRd := rest })).pcieFlag 1).errorResp

/-! ### Ethernet (R458 to R463) -/

def Block.ethAt (s : Block) (i : Nat) : Eth := sget (fun _ => {}) s.host.eth i
def Block.setEth (s : Block) (i : Nat) (x : Eth) : Block := s.modHost (fun h => { h with eth := sset (fun _ => {}) h.eth i x })
/-- Set a flag of ETH_ERR (R463). -/
def Block.ethFlag (s : Block) (i b : Nat) : Block := s.flag (R.ETH_ERR i) b (ethPage i) (8 + b)

/-- CRC-32 of IEEE 802.3 over one more bit, and over bytes: the hash of R459 (assumption 26). -/
def crc32Bit (c : Nat) : Nat := if c % 2 = 1 then (c / 2) ^^^ 0xEDB88320 else c / 2
def crc32Byte (c : Nat) (b : Byte) : Nat :=
  crc32Bit (crc32Bit (crc32Bit (crc32Bit (crc32Bit (crc32Bit (crc32Bit (crc32Bit (c ^^^ b.toNat))))))))
def crc32 (l : List Byte) : Nat := l.foldl crc32Byte 0xFFFFFFFF ^^^ 0xFFFFFFFF

/-- The tag control information of a tagged frame. -/
def ethTci (f : EthFrame) : Option Nat :=
  if (f.data.getD 12 0#8).toNat = 0x81 ∧ (f.data.getD 13 0#8).toNat = 0x00 then
    some ((f.data.getD 14 0#8).toNat * 256 + (f.data.getD 15 0#8).toNat)
  else none

/-- The destination matches (R459). -/
def Block.ethDst (s : Block) (i : Nat) (da : List Byte) : Bool :=
  let n := ofBytes da
  let h := crc32 da / 2 ^ 26
  n == s.rdN (R.ETH_MAC_LO i) + 2 ^ 32 * s.fl (R.ETH_MAC_HI i) 0 16 || n == 2 ^ 48 - 1
    || ((da.getD 0 0#8).getLsbD 0 && (if h < 32 then s.bt (R.ETH_MCH_LO i) h else s.bt (R.ETH_MCH_HI i) (h - 32)))

/-- The MAC accepts the frame (R459). (log 26, PRESUMED) -/
def Block.ethAccepts (s : Block) (i : Nat) (f : EthFrame) : Bool :=
  s.bt (R.ETH_CTRL i) 3 ||
    (s.ethDst i (f.data.take 6) &&
      match ethTci f with
      | none => true
      | some t =>
        (List.range 16).all (fun j => !s.bt (R.ETH_VID i j) 15)
          || (List.range 16).any (fun j => s.bt (R.ETH_VID i j) 15 && s.fl (R.ETH_VID i j) 0 12 == t % 4096))

/-- Deck Time at the message timestamp point; the device's own uncertainty of 4 ns stays open (R461). (log 68, DESIGN CHOICE) -/
def Block.ethTime (s : Block) : Int := (s.tb.dt : Int) + Config.freeInt s.free % 9 - 4

/-- The frame is discarded and counted (R460). -/
def Block.ethDrop (s : Block) (i : Nat) : Block := (s.incSat (R.ETH_DROP_CNT i) 0 16).ethFlag i 0

/-- ETH_FRAME_RX (R459 to R461). (log 26, PRESUMED; 67, DEDUCED) -/
def opEthFrameRx (i : Nat) (f : EthFrame) (s : Block) (m : Mem) : Block × List MemOp :=
  if !(s.bt (R.ETH_CTRL i) 0 && s.bt (R.ETH_STAT i) 0 && s.pageEn (ethPage i)) then (s, [])
  else
    let s := if f.fcsOk then s else s.ethFlag i 1
    if 1522 < f.data.length + 4 then (s.ethDrop i, [])
    else if !s.ethAccepts i f then (s, [])
    else
      let head := s.fl (R.ETH_RING_HEAD i 0) 0 10
      if head = s.fl (R.ETH_RING_TAIL i 0) 0 10 then (s.ethDrop i, [])
      else
        let d := s.rdN (R.ETH_RING_BASE i 0) * 256 + 32 * head
        if !s.dmaOk d 32 then ((s.ethFlag i 3).ethDrop i, [])
        else
          let tag := if s.bt (R.ETH_CTRL i) 4 then ethTci f else none
          let data := if tag.isSome then f.data.take 12 ++ f.data.drop 16 else f.data
          let buf := mrdN m d 8 % 2 ^ 40
          if mrdN m (d + 8) 2 < data.length then (s.ethDrop i, [])
          else if !s.dmaOk buf data.length then ((s.ethFlag i 3).ethDrop i, [])
          else
            let ts := lowBits 64 (s.ethTime + s.fl (R.ETH_RX_LAT i) 0 16)
            let w := tag.getD 0 + (if tag.isSome then 0x10000 else 0) + (if f.fcsOk then 0 else 0x20000)
            let s := (s.useFree.setF (R.ETH_RING_HEAD i 0) 0 10 ((head + 1) % s.fl (R.ETH_RING_SIZE i 0) 0 11)).raise (ethPage i) 0
            (s, [.store buf data, .store (d + 10) (bytesOf 2 data.length ++ bytesOf 4 w ++ bytesOf 8 ts ++ bytesOf 4 1)])

/-- At a frame boundary the MAC takes its next frame, queue 0 first (R459). (log 67, DEDUCED) -/
def Block.ethPick (s : Block) (i : Nat) : Block :=
  if (s.ethAt i).cur.isSome || !(s.bt (R.ETH_CTRL i) 0) || !s.pageEn (ethPage i) then s
  else
    let ready := fun q => s.fl (R.ETH_RING_HEAD i (q + 1)) 0 10 != s.fl (R.ETH_RING_TAIL i (q + 1)) 0 10
    s.setEth i { s.ethAt i with cur := [0, 1].find? ready }

/-- ETH_TAIL_WRITE of ring q (R460). (log 67, DEDUCED) -/
def opEthTail (i q : Nat) (v : Word) (s : Block) : Block := (s.setF (R.ETH_RING_TAIL i q) 0 10 (fld v 0 10)).ethPick i

/-- ETH_TX_DONE (R460, R461): the frame in progress has been sent. -/
def opEthTxDone (i : Nat) (s : Block) (m : Mem) : Block × List MemOp :=
  match (s.ethAt i).cur with
  | none => (s, [])
  | some q =>
    let head := s.fl (R.ETH_RING_HEAD i (q + 1)) 0 10
    let d := s.rdN (R.ETH_RING_BASE i (q + 1)) * 256 + 32 * head
    let len := mrdN m (d + 8) 2
    let buf := mrdN m d 8 % 2 ^ 40
    let s := s.setF (R.ETH_RING_HEAD i (q + 1)) 0 10 ((head + 1) % s.fl (R.ETH_RING_SIZE i (q + 1)) 0 11)
    if !s.dmaOk d 32 || !s.dmaOk buf len then
      (((s.setEth i { s.ethAt i with cur := none }).ethFlag i 3).ethPick i, [])
    else
      let opt := mrdN m (d + 10) 2
      let raw := mrdBytes m buf len
      let tci := mrdN m (d + 12) 2
      let frame := if nbit opt 1 then raw.take 12 ++ [0x81#8, 0x00#8, BitVec.ofNat 8 (tci / 256), BitVec.ofNat 8 tci] ++ raw.drop 12
        else raw
      let ts := lowBits 64 (s.ethTime - s.fl (R.ETH_TX_LAT i) 0 16)
      let s := (s.useFree.setEth i { cur := none, sent := some frame }).raise (ethPage i) (1 + q)
      (s.ethPick i, (if nbit opt 0 then [.store (d + 16) (bytesOf 8 ts)] else []) ++ [.store (d + 24) (bytesOf 4 1)])

/-- ETH_LINK_CHANGE (R463): the link comes up at a speed, 0 10, 1 100, 2 1000 Mbit/s, or is lost. -/
def opEthLink (i : Nat) (up : Bool) (speed : Nat) (s : Block) : Block :=
  if up then s.setF (R.ETH_STAT i) 0 4 (1 + speed * 2 + if s.bt (R.ETH_CTRL i) 2 then 8 else 0)
  else if s.bt (R.ETH_STAT i) 0 then (s.setF (R.ETH_STAT i) 0 4 0).ethFlag i 2
  else s

/-! ### SDRAM (R464 to R468) -/

/-- Set a flag of SDC_ERR (R468). -/
def Block.sdcFlag (s : Block) (i : Nat) : Block := s.flag R.SDC_ERR i sdcPage i

/-- Populated size in GB: eight ×8 data devices of 2, 4 or 8 Gb in each rank (R464). (log 70, DEDUCED) -/
def sdramGB (cfg : Word) : Nat := (if cfg.getLsbD 4 then 2 else 1) * 2 ^ (1 + fld cfg 2 2)

/-- SDRAM_TRAINING_DONE (R465): training ended, or failed. A failure before the entry to firmware is one of R96, which
ends the boot. (log 70, DEDUCED) -/
def opSdramTrained (ok : Bool) (s : Block) : Block :=
  if s.bt R.SDC_STAT 0 then s
  else if ok then
    let cfg := s.rd R.SDC_CFG
    let s := s.setF R.SDC_STAT 0 8 (1 + (if cfg.getLsbD 4 then 2 else 1) * 4 + sdramGB cfg % 16 * 16)
    s.wrN R.SDC_FILL_PTR (0x100000000 / 256)
  else (if s.bootStage = 4 ∨ s.bootStage = 0xF then s.bootErr 0x06 else s.bootFail 0x06).sdcFlag 2

/-- SDRAM_FILL_DONE (R465). (log 70, DEDUCED) -/
def opSdramFillDone (s : Block) (_ : Mem) : Block × List MemOp :=
  if s.bt R.SDC_STAT 0 && !s.bt R.SDC_STAT 1 then
    let s := (s.setB R.SDC_STAT 1 true).wrN R.SDC_FILL_PTR (s.sdramTop / 256)
    (s.modHost (fun h => { h with ue := [], scrub := 0 }), [.wipe 0x100000000 (s.sdramTop - 1)])
  else (s, [])

/-- Record the address of an error (R466, R468). -/
def Block.sdcAddr (s : Block) (a : Nat) (ue : Bool) : Block :=
  (s.wrN R.SDC_ECC_ADDR_LO a).wrN R.SDC_ECC_ADDR_HI (a / 2 ^ 32 % 256 + if ue then 256 else 0)

/-- A correctable error is corrected, counted and recorded (R466). -/
def Block.sdcCe (s : Block) (a : Nat) : Block := ((s.incSat R.SDC_CE_CNT 0 16).sdcAddr a false).sdcFlag 0

/-- An uncorrectable error ends the access with an error response, and is recorded (R466). -/
def Block.sdcUe (s : Block) (a : Nat) : Block :=
  let s := (s.sdcAddr a true).sdcFlag 1
  (s.archive 0x53 0 13 2 (s.rdN R.SDC_ERR) 0 a).errorResp

/-- SDRAM_ECC_ERROR (R466) of an access at an address. -/
def opSdramEcc (a : Nat) (ue : Bool) (s : Block) : Block :=
  if !(s.bt R.SDC_STAT 1 && decide (0x100000000 ≤ a) && decide (a < s.sdramTop)) then s
  else if ue then
    (s.modHost (fun h => { h with ue := if h.ue.contains (a / 8) then h.ue else h.ue ++ [a / 8] })).sdcUe (a / 8 * 8)
  else s.sdcCe (a / 8 * 8)

/-- SDRAM_SCRUB (R467): one burst of 64 bytes is read; `ce` says whether a correctable error stands in it. -/
def opSdramScrub (ce : Bool) (s : Block) : Block :=
  if !(s.bt R.SDC_STAT 1 && s.bt R.SDC_CTRL 0) then s
  else
    let a := 0x100000000 + 64 * s.host.scrub
    let s := s.modHost (fun h => { h with scrub := if a + 64 < s.sdramTop then h.scrub + 1 else 0 })
    let s := if ce then s.sdcCe a else s
    match s.host.ue.find? (fun w => w / 8 == a / 64) with
    | some w => { s.sdcUe (8 * w) with answer := s.answer }
    | none => s

/-! ### xSPI flash (R469, R470) -/

/-- Start of a program or erase; refused with reason STATE unless WR_MODE = 1, or while one runs (R470, R473). -/
def Block.xspiStart (s : Block) (snd : Sender) (op : Nat) : Block :=
  if !s.bt R.XSPI_CTRL 0 || s.bt R.XSPI_STAT 0 then s.refuse true R.XSPI_CMD snd .state
  else (s.setB R.XSPI_STAT 0 true).modHost (fun h => { h with xop := op, xaddr := s.fl R.XSPI_ADDR 0 28 })

/-- XSPI_PROGRAM (R470). -/
def opXspiProgram (snd : Sender) (s : Block) : Block := s.xspiStart snd 1
/-- XSPI_ERASE (R470). -/
def opXspiErase (snd : Sender) (s : Block) : Block := s.xspiStart snd 2

/-- A write to the window collects a byte in the page buffer; a byte of another page starts a new buffer (R470). (log 71, DEDUCED) -/
def Block.xspiCollect (s : Block) (a : Nat) (b : Byte) : Block :=
  s.modHost (fun h =>
    { h with xbuf := h.xbuf.filter (fun e => e.1 / 256 == a / 256 && e.1 != a) ++ [(a, b)] })

/-- What programming leaves in a byte: bits go from 1 to 0 (assumption 27). -/
def progByte (m : Mem) (e : Nat × Byte) : MemOp := .store e.1 [mrd m e.1 &&& e.2]

/-- XSPI_OP_DONE (R470): after a failure that the flash reports, what the bytes hold is open. (log 27, PRESUMED; 71, DEDUCED) -/
def opXspiDone (ok : Bool) (s : Block) (m : Mem) : Block × List MemOp :=
  if !s.bt R.XSPI_STAT 0 then (s, [])
  else
    let op := s.host.xop
    let sector := 0x30000000 + s.host.xaddr / 65536 * 65536
    let open_ := fun (a n : Nat) => MemOp.store a ((List.range n).map (fun k => BitVec.ofNat 8 (Config.freeNat (s.free + k))))
    let ops := if op = 1 then (if ok then s.host.xbuf.map (progByte m) else s.host.xbuf.map (fun e => open_ e.1 1))
      else if ok then [.wipe sector (sector + 65535)] else [open_ sector 65536]
    let s := (s.setF R.XSPI_STAT 0 2 (if ok then 0 else 2)).modHost (fun h =>
      { h with xop := 0, xbuf := if op = 1 then [] else h.xbuf })
    ((if ok then s else { s with free := s.free + 65536 }).raise xspiPage 0, ops)

/-! ### SPI (R471) -/

def Block.spiAt (s : Block) (k : Nat) : Spi := sget (fun _ => {}) s.host.spi k
def Block.setSpi (s : Block) (k : Nat) (x : Spi) : Block := s.modHost (fun h => { h with spi := sset (fun _ => {}) h.spi k x })

/-- The master belongs to the VMF (R471): some VMF_IMU_CFG names it as its source. -/
def Block.spiVmf (s : Block) (k : Nat) : Bool := (List.range 4).any (fun i => s.fl (R.VMF_IMU_CFG i) 0 2 == 2 + k)

/-- SPI_TRANSFER_GO: a write of SPI_CMD with GO (R471, R473). (log 72, DEDUCED) -/
def opSpiGo (k : Nat) (snd : Sender) (v : Word) (s : Block) : Block :=
  let n := fld v 0 6
  if s.spiVmf k then s.refuse true (R.SPI_CMD k) snd .state
  else if n = 0 ∨ 32 < n then s.refuse true (R.SPI_CMD k) snd .range
  else if !v.getLsbD 8 then s
  else if s.bt (R.SPI_STAT k) 0 then s.refuse true (R.SPI_CMD k) snd .state
  else
    let x := s.spiAt k
    (s.setSpi k { x with len := n, out := x.tx.take n, tx := x.tx.drop n }).setB (R.SPI_STAT k) 0 true

/-- SPI_TRANSFER_DONE: the bytes that came in (R471). -/
def opSpiDone (k : Nat) (rx : List Byte) (s : Block) : Block :=
  if !s.bt (R.SPI_STAT k) 0 then s
  else
    let x := s.spiAt k
    let rx := (x.rx ++ (List.range x.len).map (fun j => rx.getD j 0#8)).take 32
    let s := s.setSpi k { x with rx := rx, len := 0 }
    ((s.setB (R.SPI_STAT k) 0 false).setF (R.SPI_STAT k) 8 6 rx.length).raise xspiPage (1 + k)

/-- A write of SPI_DATA pushes a byte. -/
def Block.spiPush (s : Block) (k : Nat) (b : Byte) : Block :=
  let x := s.spiAt k
  if x.tx.length < 32 then s.setSpi k { x with tx := x.tx ++ [b] } else s

/-- A read of SPI_DATA pops a byte. -/
def Block.spiPop (s : Block) (k : Nat) : Block :=
  let x := s.spiAt k
  let s := (s.setSpi k { x with rx := x.rx.drop 1 }).setF (R.SPI_STAT k) 8 6 (x.rx.length - 1)
  s.reply (x.rx.headD 0#8).toNat

/-! ### SMBus (R472) -/

def Block.smbAt (s : Block) (c : Nat) : Smb := sget (fun _ => {}) s.host.smb c

/-- The buffer of port c, at most 32 bytes, and its fill. -/
def Block.setSmb (s : Block) (c : Nat) (x : Smb) : Block :=
  (s.modHost (fun h => { h with smb := sset (fun _ => {}) h.smb c { x with buf := x.buf.take 32 } })).setF (R.SMB_STAT c) 8 6
    (min x.buf.length 32)

/-- SMB_TRANSACTION_GO: a write of SMB_CMD with GO (R472, R473). (log 72, DEDUCED) -/
def opSmbGo (c : Nat) (snd : Sender) (v : Word) (s : Block) : Block :=
  let p := fld v 0 4
  if p = 0 ∨ 9 < p then s.refuse true (R.SMB_CMD c) snd .range
  else if !v.getLsbD 31 then s
  else if s.bt (R.SMB_STAT c) 0 || !s.bt (R.SMB_CFG c) 0 then s.refuse true (R.SMB_CMD c) snd .state
  else (s.setSmb c { s.smbAt c with cmd := v.toNat }).setB (R.SMB_STAT c) 0 true

/-- The end of a transaction: BUSY clears and the port's interrupt is raised. -/
def Block.smbEnd (s : Block) (c : Nat) : Block := (s.setB (R.SMB_STAT c) 0 false).raise xspiPage (3 + c)

/-- SMB_TRANSACTION_DONE (R472): `err` is none, or 0 NACK, 1 ARB_LOST, 2 PEC; `rx` holds the bytes of a protocol that
receives. -/
def opSmbDone (c : Nat) (err : Option (Fin 3)) (rx : List Byte) (s : Block) : Block :=
  if !s.bt (R.SMB_STAT c) 0 then s
  else
    match err with
    | some e => (s.setB (R.SMB_ERR c) e.val true).smbEnd c
    | none =>
      let x := s.smbAt c
      let p := x.cmd % 16
      let n := if p = 3 ∨ p = 5 then 1 else if p = 7 then 2 else if p = 9 then rx.length else 0
      let sent := if p = 2 ∨ p = 4 then 1 else if p = 6 then 2 else if p = 8 then 32 else 0
      (s.setSmb c { x with buf := x.buf.drop sent ++ (List.range n).map (fun j => rx.getD j 0#8) }).smbEnd c

/-- SMB_CLOCK_TIMEOUT (R472). -/
def opSmbTimeout (c : Nat) (s : Block) : Block :=
  if s.bt (R.SMB_STAT c) 0 then (s.setB (R.SMB_ERR c) 3 true).smbEnd c else s

/-- SMB_TARGET_ACCESS (R472): another controller writes bytes to the target address, or reads `n` bytes. -/
def opSmbTarget (c addr : Nat) (wr : Option (List Byte)) (n : Nat) (s : Block) : Block :=
  if !(s.bt (R.SMB_CFG c) 0 && s.bt (R.SMB_CFG c) 11 && s.fl (R.SMB_CFG c) 4 7 == addr) then s
  else
    let x := s.smbAt c
    (s.setSmb c { x with buf := match wr with | some l => x.buf ++ l | none => x.buf.drop n }).raise xspiPage (3 + c)

/-- A write of SMB_DATA pushes a byte. -/
def Block.smbPush (s : Block) (c : Nat) (b : Byte) : Block := s.setSmb c { s.smbAt c with buf := (s.smbAt c).buf ++ [b] }

/-- A read of SMB_DATA pops a byte. -/
def Block.smbPop (s : Block) (c : Nat) : Block :=
  let x := s.smbAt c
  (s.setSmb c { x with buf := x.buf.drop 1 }).reply (x.buf.headD 0#8).toNat

/-! ### The meanings -/

def execMsixSourceRise (v : Fin 64) (s : State) : Out := ifRun (onApp (opMsixSourceRise v.val)) s
def execMsixFire (snd : Sender) (hi : Bool) (v : Word) (s : State) : Out :=
  onApp (busWrite snd (if hi then R.PCIE_MSIX_FIRE_HI else R.PCIE_MSIX_FIRE_LO) v (opMsixFire hi v)) s
def execMsixUnmask (v : Option (Fin 64)) (s : State) : Out := ifRun (onApp (opMsixUnmask v)) s
def execPcieLinkUp (width gen : Fin 3) (s : State) : Out := ifRun (onApp (opPcieLinkUp width.val gen.val)) s
def execPcieReset (s : State) : Out := onApp opPcieReset s
def execPcieOutboundAccess (snd : Sender) (off : Fin (2 ^ 35)) (wr : Option Word) (s : State) : Out :=
  onApp (opOutbound snd off.val wr) s
def execPcieOutboundCompletion (ok : Bool) (data : Word) (s : State) : Out := ifRun (onApp (opObCompletion ok data)) s
def execPcieOutboundTimeout (s : State) : Out := ifRun (onApp opObTimeout) s
def execEthFrameRx (i : EthIx) (f : EthFrame) (s : State) : Out := ifRun (onMem (opEthFrameRx i.val f)) s
def execEthTailWrite (snd : Sender) (i : EthIx) (q : Fin 3) (v : Word) (s : State) : Out :=
  onApp (busWrite snd (R.ETH_RING_TAIL i.val q.val) v (opEthTail i.val q.val v)) s
def execEthTxDone (i : EthIx) (s : State) : Out := ifRun (onMem (opEthTxDone i.val)) s
def execEthLinkChange (i : EthIx) (up : Bool) (speed : Fin 3) (s : State) : Out := ifRun (onApp (opEthLink i.val up speed.val)) s
def execSdramTrainingDone (ok : Bool) (s : State) : Out := ifRun (onApp (opSdramTrained ok)) s
def execSdramFillDone (s : State) : Out := ifRun (onMem opSdramFillDone) s
def execSdramScrub (ce : Bool) (s : State) : Out := ifRun (onApp (opSdramScrub ce)) s
def execSdramEccError (addr : Fin (2 ^ 40)) (ue : Bool) (s : State) : Out := ifRun (onApp (opSdramEcc addr.val ue)) s
def execXspiProgram (snd : Sender) (s : State) : Out := onApp (busWrite snd R.XSPI_CMD 1#32 (opXspiProgram snd)) s
def execXspiErase (snd : Sender) (s : State) : Out := onApp (busWrite snd R.XSPI_CMD 2#32 (opXspiErase snd)) s
def execXspiOpDone (ok : Bool) (s : State) : Out := ifRun (onMem (opXspiDone ok)) s
def execSpiTransferGo (snd : Sender) (k : Fin 2) (v : Word) (s : State) : Out :=
  onApp (busWrite snd (R.SPI_CMD k.val) v (opSpiGo k.val snd v)) s
def execSpiTransferDone (k : Fin 2) (rx : List Byte) (s : State) : Out := ifRun (onApp (opSpiDone k.val rx)) s
def execSmbTransactionGo (snd : Sender) (c : Fin 2) (v : Word) (s : State) : Out :=
  onApp (busWrite snd (R.SMB_CMD c.val) v (opSmbGo c.val snd v)) s
def execSmbTransactionDone (c : Fin 2) (err : Option (Fin 3)) (rx : List Byte) (s : State) : Out :=
  ifRun (onApp (opSmbDone c.val err rx)) s
def execSmbClockTimeout (c : Fin 2) (s : State) : Out := ifRun (onApp (opSmbTimeout c.val)) s
def execSmbTargetAccess (c : Fin 2) (addr : Fin 128) (wr : Option (List Byte)) (n : Nat) (s : State) : Out :=
  ifRun (onApp (opSmbTarget c.val addr.val wr n)) s

end Sys2Proof.Machine
end

