-- ==== Sys2Proof/Machine/Image.lean ====
section
/-! DEFINITION. Images: the verification of R485 with the lifecycle's permissions (R491), and the checks that refuse a
configuration image (R46, R52, R53, R164, R195, R227, R228, R262, R266, R268, R278, R281, R305, R310, R336, R360, R365,
R387, R392, R403, R412). -/

namespace Sys2Proof.Machine

/-! ### Verification (R485, R491) -/

/-- A key slot that may sign at all: provisioned, and not revoked (R485, R487). Slots 0x10 and 0x11 are Crifeska's,
whose revoke fuses are 4 and 5. -/
def Nv.slotLive (n : Nv) (slot : Nat) : Bool :=
  if slot < 4 then n.prov.contains slot && !n.rev.contains slot
  else if slot = 0x10 then !n.rev.contains 4 else if slot = 0x11 then !n.rev.contains 5 else false

/-- The hash held for a slot: OTP's for a customer slot, the boot ROM's for a Crifeska key. -/
def Nv.slotHash (n : Nv) (slot : Nat) : Nat :=
  if slot < 4 then sget (fun _ => 0) n.keyHash slot else Config.romKeyHash slot

/-- The slots permitted for a type (R485, R491): Crifeska keys for SAFETY and RETURN_TOKEN, and for a DEBUG_TOKEN in
RETURNED; customer slots otherwise, for no image in BLANK or RETURNED. -/
def slotFor (lc typ slot : Nat) : Bool :=
  let crif := slot == 0x10 || slot == 0x11
  if typ = 3 ∨ typ = 6 then crif
  else if typ = 4 then if lc = 3 then crif else decide (slot < 4)
  else decide (slot < 4) && (decide (2 < typ) || lc == 1 || lc == 2)

/-- The failure code of an image, none where it is accepted (R485). The code for a customer image whose CTR is 0 is not
stated: it is a constant that stays open (assumption 28). -/
def verifyImage (role uid : Nat) (n : Nv) (h : ImgHdr) : Option Nat :=
  if !h.formOk || decide (h.typ = 0) || decide (6 < h.typ) then some 0x02
  else if h.rev ≠ 0xB0 then some 0x05
  else if !nbit h.roles role then some 0x02
  else if h.bind ≠ 0 ∧ h.bind ≠ uid then some 0x03
  else if h.slot = 0xFF ∧ (n.lc ≠ 0 ∨ h.typ = 3 ∨ 4 ≤ h.typ) then some 0x03
  else if h.slot ≠ 0xFF ∧ (!n.slotLive h.slot || !slotFor n.lc h.typ h.slot) then some 0x03
  else if h.slot ≠ 0xFF ∧ (h.keyHash ≠ n.slotHash h.slot ∨ !h.sigOk) then some 0x03
  else if h.typ ≠ 3 ∧ h.typ ≤ 2 ∧ h.ctr = 0 then some (Config.ctrZeroCode.toNat)
  else if h.ctrVal < sget (fun _ => 0) n.ctr h.ctr then some 0x04
  else none

/-- Keep the record of an accepted image, up to eight since the last system reset (R485). -/
def Block.recordImage (s : Block) (h : ImgHdr) : Block :=
  { s with sec := { s.sec with imgs := if s.sec.imgs.length < 8 then s.sec.imgs ++ [h] else s.sec.imgs } }

/-! ### The checks of a configuration image -/

/-- A register as the image gives it: its Image value, else its reset value. -/
def imgReg (img : Image) (a : Nat) : Word :=
  match img.regs.find? (fun e => e.1 == a) with
  | some e => BitVec.ofNat 32 e.2
  | none => regDefault a
def imgF (img : Image) (a lo len : Nat) : Nat := fld (imgReg img a) lo len
def imgB (img : Image) (a i : Nat) : Bool := (imgReg img a).getLsbD i

/-- The frame length of a slot in code-groups, for full items and the full service allowance (R354, R358 to R360, R394,
R413): none for kinds whose length the slot does not fix. -/
def slotGroups (x : Slot) : Nat :=
  let size := fun (r : ItemRef) => match r with | .carrel _ => if x.kind = 2 then 11 else 12 | .imu _ => 32 | .target _ => 40
  if x.kind = 7 then 1000 else if x.kind = 8 then 400
  else 16 + (x.items.map size).sum + 4 * x.allow + (if x.kind = 3 then 4 else 0) + 4 + 4

/-- The channel, step output and interface of a carrel (R239). -/
def imgLocal (img : Image) (c : Nat) : Bool := !imgB img (R.CAR_BIND c) 0
def imgPwm (img : Image) (c : Nat) : Option Nat :=
  if imgLocal img c && !imgB img (R.CAR_BIND c) 1 then some (imgF img (R.CAR_BIND c) 2 4) else none
/-- k of a cycle-locked channel, and its SE tick in the last cycle of the period (R246, R263). -/
def imgLock (img : Image) (p : Nat) : Bool := imgB img (R.PWM_CH_CFG p) 0
def imgK (img : Image) (p : Nat) : Nat := imgF img (R.PWM_CH_CFG p) 1 3 + 1
def imgSe (img : Image) (p : Nat) : Nat := imgF img (R.PWM_CH_SE p) 0 16 - 3125 * (imgK img p - 1)
/-- The channel runs the current loop (R272). -/
def imgCur (img : Image) (p : Nat) : Bool := imgF img (R.PWM_CH_CFG p) 10 2 == 1
/-- The carrel is LOCAL and fed by the current loop (R225). -/
def imgFed (img : Image) (c : Nat) : Bool := imgLocal img c && imgB img (R.LE_CFG c) 8
/-- The carrel belongs to a machine and not to the auxiliaries (R239). -/
def imgJoint (img : Image) (c : Nat) : Bool := !imgB img (R.CAR_MACH c) 4
/-- Carrels bound to a channel, with it. -/
def imgBound (img : Image) : List (Nat × Nat) := img.cars.filterMap (fun c => (imgPwm img c).map (fun p => (c, p)))
/-- d of a carrel's loop rate (R51). -/
def imgD (img : Image) (c : Nat) : Nat := 2 ^ imgF img (R.CAR_RATE c) 0 2

/-- A carrel that a coordinator commands: it stands in a command slot toward endpoint `ep`, or toward the one that the
image's device table gives the device (R53). -/
def imgCommanded (role seat ep : Nat) (img : Image) (c : Nat) : Bool :=
  let eps := ep :: (img.devs.filter (fun d => d.role == role && d.seat == seat)).map (fun d => d.endpoint)
  role == 0 && (img.cat.flatMap (fun e => e.slots)).any (fun x => x.kind == 3 && eps.contains x.dst && x.items.contains (.carrel c))

/-- The timeline check of R46. Times of a feedback slot are in 2^-4 ns. (log 82, DEDUCED) -/
def timelineOk (role seat ep : Nat) (img : Image) : Bool :=
  let coord := role == 1 || role == 3
  let fbd := imgF img R.TB_FB_DEADLINE 0 12
  let apd := imgF img R.TB_APP_DEADLINE 0 12
  let all := img.cat.flatMap (fun e => e.slots)
  let bound := (imgBound img).filter (fun b => imgLock img b.2)
  (!coord || (decide (400 ≤ fbd) && decide (fbd ≤ 2000)
      && all.all (fun x => x.kind != 3 || decide (fbd + 620 ≤ x.start))
      && all.all (fun x => x.kind != 2 || decide ((x.start + x.len) * 80 + x.delta + 1280 < fbd * 80))))
    && (role != 0 || (decide (1000 ≤ apd)
      && (bound.filter (fun b => imgCommanded role seat ep img b.1)).all (fun b => decide (apd ≤ imgSe img b.2))))
    && (decide (1 < role) || bound.all (fun b => decide (imgSe img b.2 + 120 ≤ 3125)))

/-- Limits of R195. (log 82, DEDUCED) -/
def limitsOk (img : Image) : Bool :=
  decide (img.machs.length ≤ 16) && img.machs.all (fun m => decide (m.2.joints.length ≤ 12) && decide (m.2.tools.length ≤ 8)
      && m.2.toolFk.map (fun j => j.carrel) == m.2.tools && decide (m.2.variants.length ≤ 4) && m.2.variants.all (fun v => decide (0 < v.lambda)))
    && decide ((img.machs.map (fun m => m.2.joints.length + m.2.tools.length)).sum ≤ 160)
    && decide (img.ta.acts.length ≤ 12) && decide ((img.ta.acts.map (fun a => a.cols.length)).sum ≤ 24) && decide (0 < img.ta.lambda)

/-- The word VMF_AUXFRj that the auxiliary carrels of an image give (R152, R155). -/
def auxWord (img : Image) (j : Nat) : Nat :=
  ((img.auxFrames.filter (fun p => p.1 / 8 == j)).map (fun p => p.2 % 16 * 2 ^ (4 * (p.1 % 8)))).sum % 2 ^ 32

/-- The structure signature of a variant (R197): CRC-32C over joint count (a byte), joint kinds (a byte each, 1 prismatic),
lock mask (two bytes) and TASK mask (a byte). R197 gives the contents and no widths. (log 16, PRESUMED) -/
def structSig (k : MachCfg) (v : VariantCfg) : Nat :=
  crc32c (bytesOf 1 k.joints.length ++ k.joints.map (fun j => if j.prism then 1#8 else 0#8) ++ bytesOf 2 v.lock ++ bytesOf 1 v.task)

/-- A machine's record with the signatures that R197 gives its variants. -/
def signed (k : MachCfg) : MachCfg := { k with variants := k.variants.map (fun v => { v with sig := structSig k v }) }

/-- SOLV_M_CFG of a machine whose active variant is `a` (R217). -/
def machWord (k : MachCfg) (a : Nat) : Nat :=
  k.joints.length % 16 + (k.joints.length + k.tools.length) % 32 * 2 ^ 4 + (k.variants.length - 1) % 4 * 2 ^ 9 + a % 4 * 2 ^ 11
    + (k.variants.getD a {}).task % 64 * 2 ^ 13 + 2 ^ 19

/-- The rope carrels of a machine's loads count among its carrels for every demand (R300); one that the image lists with no
speed limits has none. -/
def withRopes (g : SsmCfg) (m : Nat) (k : SMachCfg) : SMachCfg :=
  let ropes := (g.elems.filter (fun e => isLoad e.1 && machOf g e.1 == m)).filterMap (fun e => e.2.rope)
  { k with cars := k.cars ++ ((ropes.dedup.filter (fun c => !k.cars.any (fun x => x.1 == c))).map (fun c => (c, []))) }

/-- The axes of the safety parameters with the stop-ramp row of their carrel: there is one table of ramps, from which the
Profile Sequencer, the Safety Island and the Separation Monitors are loaded (R14). VMF_AUXFR reports the auxiliary frames
of the same image (R152), the machines' records hold the signatures of R197, and the machines of the safety parameters
their rope carrels (R300). -/
def oneRamp (img : Image) : Image :=
  let row := fun (x : AxisCfg) => { x with
    vb := (imgReg img (R.PS_SR_VB x.carrel)).toNat, vstop := (imgReg img (R.PS_SR_VSTOP x.carrel)).toNat
    a1 := (imgReg img (R.PS_SR_A1 x.carrel)).toNat, a2 := (imgReg img (R.PS_SR_A2 x.carrel)).toNat }
  { img with
    regs := img.regs.filter (fun e => decide (e.1 < R.VMF_AUXFR 0) || decide (R.VMF_AUXFR 23 < e.1))
      ++ ((List.range 24).filter (fun j => auxWord img j != 0)).map (fun j => (R.VMF_AUXFR j, auxWord img j))
    machs := img.machs.map (fun m => (m.1, signed m.2))
    safe := { img.safe with
      axes := img.safe.axes.map (fun x => (x.1, row x.2))
      machs := img.safe.machs.map (fun m => (m.1, withRopes img.safe.ssm m.1 m.2)) } }

/-- The speed limits of the safety parameters of carrel c; all ones is none. -/
def limsOfCar (c : SafeCfg) (n : Nat) : List Nat :=
  (c.machs.flatMap (fun m => (m.2.cars.filter (fun x => x.1 == n)).flatMap Prod.snd)).filter (fun v => decide (v < 0xFFFFFFFF))

/-- Homing speeds and speed limits of carrels bound to a step output (R183). -/
def stepsOk (img : Image) : Bool :=
  img.cars.all (fun c => !imgB img (R.CAR_BIND c) 1 ||
    !((imgReg img (R.PS_HOME_VFAST c)).toNat :: (imgReg img (R.PS_HOME_VSLOW c)).toNat :: limsOfCar img.safe c).any
      (fastStep (imgF img (R.PS_STEP_CFG c) 8 8)))

/-- Stop-ramp rows of the carrels, the supervised axes and the path channels (R164). -/
def rampsOk (img : Image) : Bool :=
  (img.cars ++ img.safe.axes.map (fun x => x.2.carrel)).all (fun c => imgReg img (R.PS_SR_A1 c) != 0#32 && imgReg img (R.PS_SR_A2 c) != 0#32 && imgReg img (R.PS_SR_VSTOP c) != 0#32)
    && img.machs.all (fun m => imgReg img (R.PATH_SR_A1 (m.1 / 4) (m.1 % 4)) != 0#32
      && imgReg img (R.PATH_SR_A2 (m.1 / 4) (m.1 % 4)) != 0#32 && imgReg img (R.PATH_SR_VSTOP (m.1 / 4) (m.1 % 4)) != 0#32)

/-- Loop rates against PWM rates, and free-running channels: their carrels are neither joints nor commanded, and their
period is at least 2000 ticks (R50, R52, R53, R268). -/
def ratesOk (role seat ep : Nat) (img : Image) : Bool :=
  (imgBound img).all (fun b => if imgLock img b.2 then decide (imgK img b.2 ≤ imgD img b.1)
    else !imgJoint img b.1 && !imgCommanded role seat ep img b.1)
    && (List.range 16).all (fun p => imgLock img p || decide (2000 ≤ imgF img (R.PWM_CH_PERIOD p) 0 16))

/-- WING clocks of the loop pass of wing w in the cycles with n mod 8 = r (R228). -/
def passCost (coord : Bool) (img : Image) (w r : Nat) : Nat :=
  let mine := img.cars.filter (fun c => c / 48 == w)
  let due := mine.filter (fun c => coord && r % imgD img c == imgF img (R.CAR_RATE c) 2 3)
  let cost := fun c => 1 + (5 + 5 * ((List.range 8).filter (fun i => imgB img (R.LE_CFG c) i)).length + 1) / 2
  20 + (due.map cost).sum + 28 * ((imgBound img).filter (fun b => b.1 / 48 == w && !imgLock img b.2)).length

/-- Current-loop and pass limits (R227, R228). -/
def loopsOk (role : Nat) (img : Image) : Bool :=
  let coord := role == 1 || role == 3
  let fbd := imgF img R.TB_FB_DEADLINE 0 12
  (List.range 4).all (fun w =>
      decide ((img.cars.filter (fun c => c / 48 == w && imgFed img c)).length ≤ 6)
        && (List.range 8).all (fun r => decide (passCost coord img w r ≤ 1200)))
    && (!coord || (imgBound img).all (fun b => !imgLock img b.2 || decide (imgSe img b.2 < fbd + 20) || decide (fbd + 620 < imgSe img b.2)))

/-- Power stage and current sensing (R262, R266, R268). -/
def powerOk (img : Image) : Bool :=
  let sdm := fun p => imgB img (R.PWM_CH_SDM p) 8
  let inb := fun p => imgF img (R.PWM_CH_SDM p) 0 6
  let chans := (List.range 16).filter sdm
  let adaptive := imgB img R.PWM_COM_CFG 2
  let lo := imgF img R.PWM_ADT_LIM 0 10
  let hi := imgF img R.PWM_ADT_LIM 16 10
  let fix := imgF img R.PWM_DT_FIX 0 10
  (imgBound img).all (fun b => inb b.2 == imgF img (R.CAR_BIND b.1) 11 6)
    && (List.range 16).all (fun p => !imgCur img p || sdm p)
    && (List.range 48).all (fun i =>
      let oc := fun lo len => imgF img (R.SDM_IN_OC i) lo len
      !imgB img (R.SDM_IN_OC i) 24
        || (decide (4 ≤ oc 0 6) && decide (oc 0 6 ≤ 32) && decide (oc 0 6 * imgF img (R.SDM_CLK (imgF img (R.SDM_IN_CFG i) 0 3)) 0 6 * 5 ≤ 960)
          && decide (oc 16 6 < oc 8 6) && decide (oc 8 6 ≤ oc 0 6)))
    && chans.all (fun p => chans.all (fun q => p == q || decide (inb p + 3 ≤ inb q) || decide (inb q + 3 ≤ inb p)))
    && (List.range 16).all (fun p => imgLock img p || !imgCur img p
      || decide (imgF img (R.PWM_CH_SE p) 0 16 + 120 ≤ imgF img (R.PWM_CH_PERIOD p) 0 16))
    && decide (lo ≤ hi)
    && (!adaptive || ((List.range 8).all (fun p => !imgB img (R.PWM_CH_CTRL (p + 8)) 0)
      && decide (lo ≤ fix) && decide (fix ≤ hi)))

/-- Position feedback: SSI reads and saturation limits (R278, R280, R281). -/
def feedbackOk (role : Nat) (img : Image) : Bool :=
  let se := fun i => (imgBound img).find? (fun b => imgF img (R.CAR_BIND b.1) 6 5 == i && imgLock img b.2 && imgK img b.2 == 1)
  let latch := fun i => if role = 1 ∨ role = 3 then imgF img R.TB_FB_DEADLINE 0 12
    else match se i with
      | some b => imgSe img b.2
      | none => imgF img (R.FBK_LATCH_TICK i) 0 12
  (List.range 24).all (fun i =>
      let c := fun lo len => imgF img (R.FBK_SSI_CFG i) lo len
      let st := imgF img (R.FBK_SSI_START i) 0 12
      let n := 1 + c 6 3 + c 0 6 + c 9 3
      let stop := st + 2 * c 12 8 * n
      imgF img (R.FBK_CFG i) 0 3 != 3 || (decide (stop ≤ latch i) && decide (stop + 200 * c 20 8 ≤ st + 3125)))
    && img.cars.all (fun c =>
      let i := imgF img (R.CAR_BIND c) 6 5
      !imgLocal img c || !imgB img (R.FBK_CFG i) 15
        || (decide ((imgReg img (R.FBK_SAT_MIN i)).toInt ≤ (imgReg img (R.PS_SOFT_MIN c)).toInt)
          && decide ((imgReg img (R.PS_SOFT_MAX c)).toInt ≤ (imgReg img (R.FBK_SAT_MAX i)).toInt)))

/-- The scene and the safety parameters (R298, R300, R305, R310, R336). (log 82, DEDUCED) -/
def safetyOk (img : Image) : Bool :=
  let m := img.safe.ssm
  decide (pairCount m ≤ 32768) && decide (m.elems.map Prod.fst).Nodup && m.elems.all (fun e => decide (e.1 < 272))
    && m.elems.all (fun e => !isLoad e.1 || (!isLoad e.2.carry && m.elems.any (fun c => c.1 == e.2.carry)))
    && decide (m.zones.map Prod.fst).Nodup && m.zones.all (fun z => decide (336 ≤ z.1) && decide (z.1 < 368))
    && decide (m.rule.w < m.cap) && m.zones.all (fun z => decide (z.2.rule.w < m.cap)) && m.classes.all (fun k => decide (k.2.w < m.cap))
    && decide (1 ≤ m.svHorizon) && decide (m.svHorizon ≤ 4000) && m.stopNs.all (fun t => decide (t ≤ m.svHorizon * 1000000))
    && img.safe.axes.all (fun x => imgF img (R.FBK_CFG x.2.fbA) 0 3 != 3 || x.2.fbB != x.2.fbA)

/-- Entries of the device table whose PATH is a proper prefix of an entry's: the links crossed before its own (R538). -/
def linkBefore (img : Image) (d : DevEntry) : List DevEntry :=
  img.devs.filter (fun e => decide (0 < e.path.length) && decide (e.path.length < d.path.length) && e.path == d.path.take e.path.length)

/-- What every frame from the time master needs to the sending end of the link of an entry, 2^-4 ns (R538). -/
def linkDelay (img : Image) (d : DevEntry) : Nat :=
  ((linkBefore img d).map (fun e => max e.dlyX e.dlyY)).sum + (d.path.length - 1) * 3840

/-- The conditions of R365 and R360 on one Catalogue entry; times in ticks, link times in 2^-4 ns. -/
def entryOk (img : Image) (e : CatEntry) : Bool :=
  let uses := e.slots.zipIdx.flatMap (fun x => x.1.links.map (fun l => (x.2, l)))
  let links := img.devs.filter (fun d => decide (0 < d.path.length))
  e.slots.all (fun x => decide (8 * slotGroups x + 8 ≤ 5 * x.len))
    && e.slots.all (fun x => decide (x.items.filter (fun r => match r with | .carrel _ => true | _ => false)).Nodup)
    && uses.all (fun u => uses.all (fun v => u.1 == v.1 || u.2.1 != v.2.1
      || decide (u.2.2.2 + 32 ≤ v.2.2.1) || decide (v.2.2.2 + 32 ≤ u.2.2.1)))
    && uses.all (fun u => match img.devs[u.2.1]? with
      | none => false
      | some d => decide (0 < d.path.length) && decide (linkDelay img d + 16 * (416 + 160) ≤ u.2.2.1 * 80))
    && decide (e.joinStart * 5 + 960 ≤ 15625) && uses.all (fun u => decide (u.2.2.2 ≤ e.joinStart))
    && links.all (fun d => decide (e.joinStart * 80 + max d.dlyX d.dlyY + 16 * 320 ≤ 16 * (15625 - 160)))
    && e.slots.all (fun x => x.items.all (fun r => match r with
      | .carrel c => imgLocal img c || ((x.kind != 2 || imgF img (R.CAR_REMOTE c) 0 12 == x.sender) && (x.kind != 3 || imgF img (R.CAR_REMOTE c) 0 12 == x.dst))
      | _ => true))
    && e.slots.all (fun x => x.kind != 5
      || x.items.all (fun r => match r with | .imu _ => true | _ => false)
      || x.items.all (fun r => match r with | .target _ => true | _ => false))

/-- Catalogue, device table and twin link (R365, R387, R392, R403, R412). (log 82, DEDUCED) -/
def fabricOk (role seat : Nat) (img : Image) : Bool :=
  let coord := role == 1 || role == 3
  let twinEnd := fun (x : Slot) => decide ((x.start * 5 + 3200) * 16 + x.delta < 15625 * 16)
  let coords := (img.devs.filter (fun d => d.role == 1 || d.role == 3)).map (fun d => d.seat)
  (img.cat.filter (fun e => e.valid)).all (entryOk img)
    && img.devs.all (fun d => (linkBefore img d).all (fun e => e.role == 2 || ((e.role == 1 || e.role == 3) && e.star)))
    && (!coord || (img.devs.filter (fun d => d.role == role && d.seat == seat)).length == 1)
    && coords.length == coords.dedup.length
    && (img.cat.flatMap (fun e => e.slots)).all (fun x => x.kind != 8
      || (decide (imgF img R.TB_FB_DEADLINE 0 12 + 640 ≤ x.start) && twinEnd x))

/-- Every check beside the timeline's, for a device at endpoint `ep`. -/
def imageOk (role seat ep : Nat) (img : Image) : Bool :=
  limitsOk img && rampsOk img && stepsOk img && ratesOk role seat ep img && loopsOk role img && powerOk img && feedbackOk role img && safetyOk img
    && fabricOk role seat img

end Sys2Proof.Machine
end

