-- ==== Sys2Proof/Machine/Boot.lean ====
section
/-! DEFINITION. Straps, resets and boot (04_straps_reset_power_up.md): what each reset source reaches, the boot's
stages, and the acceptance of images. -/

namespace Sys2Proof.Machine

/-! ### Straps (R80, R82) -/

/-- The fields that the straps set, by register: the 13 bits of SYS_STRAP (R88). -/
def strapInits (v : Nat) : List (Nat × Nat) :=
  let role := v % 4
  let seat := v / 4 % 32
  [(R.SYS_STRAP, v % 8192), (R.TB_CTRL, 8 + if role % 2 = 0 then 3 else 0), (R.SYS_BOOT_STAT, v / 128 % 4 * 16),
    (R.PWM_COM_CFG, v / 1024 % 4), (R.SZN_CTRL, if role = 2 then 1 else if role % 2 = 1 then 2 else 0),
    (R.SZN_ID, 0xFFF + seat * 2 ^ 12 + role * 2 ^ 17), (R.RED_CLAIM, seat)]
    ++ (List.range 4).map (fun i => (R.CAN_RETRY i, if nbit v 12 then 0x40 else 0x10))
    ++ (if role = 2 then (List.range 64).map (fun k => (R.SZP_CFG k, 3)) else [])

/-- Registers take the values that the straps give; PWR_STAT, which no application-side reset reaches, its reset value
only (R482). -/
def Block.applyStraps (s : Block) (v : Nat) : Block :=
  let s := forL (strapInits v) (fun e s => s.initReg e.1 (BitVec.ofNat 32 e.2)) s
  { s with rstv := sset regDefault s.rstv R.PWR_STAT (if v % 4 = 2 then 0x924#32 else 0#32) }

/-! ### Resets (R83 to R86) -/

/-- Registers that no application-side reset reaches: the RTC domain's, and the pages the Safety Island writes. -/
def sysKeeps (a : Nat) : Bool :=
  pageBase a == pwrPage || a == R.SYS_RST_CAUSE || (decide (0x40600000 ≤ a) && decide (a < 0x40604000))

/-- A system reset is a wake of all domains (R479), a Hub's wings excepted; a pending request is abandoned (R478). -/
def Block.resetWake (s : Block) : Block :=
  let s := if s.bt R.PWR_STAT 15 then s.pwrFlag 1 else s
  s.wrN R.PWR_STAT (if s.isHub then 0x924 else 0)

/-- A system reset with a cause bit, held by `st` (R83 to R85): every block of the application side returns to its
reset state, the RTC domain's registers stay, the cause bits accumulate, and a page soft reset that runs ends. Queued
records of the Event Archive are completed through it (R499), and debug requests stay counted until a power-on reset
(R494). The SRAMs are undefined after a power-on reset (R34) or a brownout. (log 76, DEDUCED; 97, DEDUCED) -/
def Block.sysReset (s : Block) (cause st : Nat) : Block :=
  let strap := s.rdN R.SYS_STRAP
  let st := if s.rstSt = 2 ∨ (s.rstSt = 3 ∧ st = 1) then s.rstSt else st
  let new : Block :=
    { regs := s.regs.filter (fun e => sysKeeps e.1), held := true, rstSt := st, raw := s.raw || decide (2 ≤ st), free := s.free
      pins := { hiZ := decide (2 ≤ st) }, eaq := s.eaq, sec := { fails := if cause = 0 then 0 else s.sec.fails } }
  let s := forL [pwrPage, 0x40600000, 0x40601000, 0x40602000, 0x40603000] (fun p s => s.setB (R.PAGE_STAT p) 1 false)
    (new.applyStraps strap).resetWake
  s.setB R.SYS_RST_CAUSE cause true

/-- The sources of a system reset (R83), by their cause bits (R89). -/
def rstBit : RstSrc → Nat
  | .powerOn => 0 | .brownout => 1 | .external => 2 | .watchdog => 3 | .software => 4 | .island => 5 | .debug => 6

/-- What a source holds the reset by (R83, R84). -/
def rstHold : RstSrc → Nat
  | .powerOn => 2
  | .brownout => 3
  | _ => 1

/-- Further sources that act in the clock of a reset: each sets its cause bit, and the widest scope applies (R85). -/
def Block.alsoReset (s : Block) (also : List RstSrc) : Block :=
  forL also (fun x s =>
    let st := if s.rstSt = 2 ∨ (s.rstSt = 3 ∧ (rstHold x) = 1) then s.rstSt else (rstHold x)
    let s := { s with rstSt := st, raw := s.raw || decide (2 ≤ st), pins := { s.pins with hiZ := decide (2 ≤ st) } }
    let s := if x = .powerOn then { s with sec := { s.sec with fails := 0 } } else s
    s.setB R.SYS_RST_CAUSE (rstBit x) true) s

/-- A system reset by a source, with the others that act in its clock (R85). -/
def Block.resetBy (s : Block) (x : RstSrc) (also : List RstSrc) : Block := (s.sysReset (rstBit x) (rstHold x)).alsoReset also

/-- The straps are sampled and the reset runs out (R79, R84): the gates take the idle level. -/
def Block.sampleStraps (s : Block) (v : Nat) : Block :=
  let new := { s with regs := s.regs.filter (fun e => sysKeeps e.1), rstv := [], rstSt := 1, pins := {} }
  (new.applyStraps v).resetWake

/-- PORN_RELEASE (R79, R84). (log 1, DESIGN CHOICE; 76, DEDUCED) -/
def opPornRelease (v : Nat) (s : Block) : Block := if s.rstSt = 2 then s.sampleStraps v else s

/-- BROWNOUT_RELEASE (R79, R83, R84). -/
def opBrownoutRelease (v : Nat) (s : Block) : Block := if s.rstSt = 3 then s.sampleStraps v else s

/-- APPLICATION_RELEASE (R84, R35, R95): the application side runs; Deck Time counts from 0. On a Hub the Synzon
ports, enabled by strap, start to listen (R370). (log 1, DESIGN CHOICE; 76, DEDUCED) -/
def opApplicationRelease (s : Block) : Block :=
  if s.held && s.rstSt == 1 then
    let s : Block := { s with held := false, rstSt := 0, tb := {} }
    let s := s.setF R.SYS_BOOT_STAT 0 4 0
    if s.bt R.SZN_CTRL 0 then (s.setSzn 1).setListen else s
  else s

/-- ALWAYS_ON_POWER_UP (R83, R89, R482, R499): the RTC domain is reset, every cause bit cleared, the queue of records
lost; a record that was being written leaves its slot with a wrong CRC. (log 74, DESIGN CHOICE) -/
def opAlwaysOn (writing : Bool) (s : Block) (n : Nv) : Block × Nv :=
  let lost := writing && !s.eaq.isEmpty
  let s := (s.resetRegs (fun a => pageBase a == pwrPage)).wr R.SYS_RST_CAUSE 0#32
  let s := s.wrN R.PWR_STAT (if s.isHub then 0x924 else 0)
  let s := forN 64 (fun i s => (s.wr (R.PWR_SCRATCH i) (BitVec.ofNat 32 (Config.freeNat s.free))).useFree) s
  let s := { s with eaq := [], pw := {} }
  let old := if n.archive.length < 256 then n.archive else n.archive.take 255
  (s, if lost then
      let r : EaRec := { source := 0, index := 0, code := 0, cls := 0, dt := 0, poh := 0, w5 := 0, err := 0, info := 0, addr := 0, args := [], safe := false }
      let slot : EaSlot := { seq := n.nextSeq, crcOk := false, body := r }
      { n with archive := slot :: old, nextSeq := n.nextSeq + 1 }
    else n)

/-! ### Watchdog and software reset (R90, R91) -/

/-- TIMEOUT is loaded into the count, and its millisecond divider restarts (R91). -/
def Block.wdtLoad (s : Block) (n : Nat) : Block := { s.wrN R.SYS_WDT_CNT n with wdtDiv := 0 }

/-- WATCHDOG_KICK (R87, R91). -/
def opWdtKick (snd : Sender) (v : Word) (s : Block) : Block :=
  if v = 0x0000A5C3#32 then s.wdtLoad (s.fl R.SYS_WDT_CTRL 16 16) else s.refuse true R.SYS_WDT_KICK snd .range

/-- WATCHDOG_ENABLE: a write of SYS_WDT_CTRL (R90, R91). (log 75, DEDUCED) -/
def opWdtCtrl (snd : Sender) (v : Word) (s : Block) : Block :=
  if s.bt R.SYS_WDT_CTRL 0 then s.refuse true R.SYS_WDT_CTRL snd .state
  else if fld v 16 16 = 0 then s.refuse true R.SYS_WDT_CTRL snd .range
  else
    let s := s.wr R.SYS_WDT_CTRL (v &&& 0xFFFF0003#32)
    if v.getLsbD 0 then s.wdtLoad (fld v 16 16) else s

/-- WATCHDOG_EXPIRE: the count, in its last millisecond, reaches 0 (R91), unless it pauses (R90). In the clock of a kick
the reset takes place (R85): the expiry then comes first. (log 75, DEDUCED) -/
def opWdtExpire (also : List RstSrc) (s : Block) : Block :=
  if s.off || !s.wdtRuns || decide (1 < s.rdN R.SYS_WDT_CNT) then s else s.resetBy .watchdog also

/-- SOFTWARE_RESET: a write of SYS_RST_CTRL (R90). -/
def opSoftReset (v : Word) (also : List RstSrc) (s : Block) : Block := if v.getLsbD 0 then s.resetBy .software also else s

/-- DEBUG_SYSTEM_RESET: a write of DBG_SYSRST, with permission RESET (R495, R503). -/
def opDebugReset (snd : Sender) (v : Word) (also : List RstSrc) (s : Block) : Block :=
  if !(s.bt R.DBG_AUTH_STAT 0 && s.bt R.DBG_AUTH_STAT 4) then s.refuse true R.DBG_SYSRST snd .agent
  else if v.getLsbD 0 then s.resetBy .debug also else s

/-! ### Boot (R92, R95, R96) -/

/-- SEC_STAT's fields that OTP gives (R502). -/
def Nv.secStat (n : Nv) : Nat :=
  let b := fun (l : List Nat) i k => if l.contains i then 2 ^ k else 0
  n.lc % 4 + b n.prov 0 2 + b n.prov 1 3 + b n.prov 2 4 + b n.prov 3 5
    + b n.rev 0 6 + b n.rev 1 7 + b n.rev 2 8 + b n.rev 3 9 + b n.rev 4 10 + b n.rev 5 11

/-- The registers of the SEC and DBG pages that show the fuses, the Event Archive and the failed debug requests
(R502, R503). -/
def Block.showOtp (s : Block) (n : Nv) : Block :=
  let s := s.setF R.SEC_STAT 0 12 n.secStat
  let s := s.wrN R.SEC_CTR (sget (fun _ => 0) n.ctr (s.fl R.SEC_CTR_SEL 0 6))
  let s := s.setF R.SEC_EA_STAT 0 9 ((n.archive.filter (fun e => e.crcOk)).length)
  let s := s.wrN R.SEC_POH n.poh
  let s := (s.setB R.DBG_AUTH_STAT 6 (decide (2 ≤ n.lc))).setF R.DBG_AUTH_STAT 8 8 (min s.sec.fails 255)
  s.setB R.DBG_AUTH_STAT 7 (decide (16 ≤ s.sec.fails))

/-- OTP_READ_DONE (R92, R95, R98): the unique ID, the lifecycle and the keys are read; the boot ROM, which does not run
on a Hub, acts on the BOOT strap. (log 75, DEDUCED; 77, DEDUCED) -/
def opOtpReadDone (s : Block) (n : Nv) : Block × Nv :=
  if s.held || s.bootStage != 0 then (s, n)
  else
    let s := (s.initReg R.SYS_UID_LO (BitVec.ofNat 32 n.uid)).initReg R.SYS_UID_HI (BitVec.ofNat 32 (n.uid / 2 ^ 32))
    let s := (s.initReg R.PCIE_ID (BitVec.ofNat 32 n.pcieId)).showOtp n
    let s := (s.setB R.TB_STAT 0 true).setStage 1
    if s.isHub then (s, n)
    else
      let boot := s.fl R.SYS_BOOT_STAT 4 2
      (if boot = 3 then { s.setStage 0xF with tb := { s.tb with svcRun := true } }
        else if boot = 2 then
          let s := forN 64 (fun k s => s.setB (R.SZP_CFG k) 0 true) s
          ((s.setB R.SZN_CTRL 0 true).setSzn 1).setListen
        else s, n)

/-- MEMORY_INIT_DONE (R92, R34, R54): every ECC memory is initialised; the Service Tick's divider starts. Over Synzon the
firmware image may have been fetched before: STAGE 0x3 then. The SRAMs of a Hub, on which the boot ROM does not run, stay
undefined. -/
def opMemoryInitDone (s : Block) (_ : Mem) : Block × List MemOp :=
  if s.bootStage != 1 || s.isHub then (s, [])
  else ({ s.setStage (if s.fl R.SYS_BOOT_STAT 4 2 = 2 ∧ s.fwFetched = true then 3 else 2) with raw := false, tb := { s.tb with svcRun := true } },
    [.wipe 0x10000000 0x107FFFFF, .wipe 0x18000000 0x187FFFFF, .wipe 0x20000000 0x200FFFFF])

/-- HUB_SERVICE_TICK_START (R54): 6 ms after the release on a Hub. (log 75, DEDUCED) -/
def opHubServiceTick (s : Block) : Block := if s.isHub then { s with tb := { s.tb with svcRun := true } } else s

/-- The image that the boot ROM takes of a type: the highest CTR_VAL, the first in order among equals; FIRMWARE only
for the strapped role (R486). -/
def bestImage (role typ : Nat) (l : List ImgHdr) : Option ImgHdr :=
  (l.filter (fun h => h.typ == typ && (typ != 1 || nbit h.roles role))).foldl
    (fun (b : Option ImgHdr) h => match b with
      | none => some h
      | some x => if x.ctrVal < h.ctrVal then some h else some x) none

/-- Whether the boot ROM fetches images itself now (R95): from xSPI flash, or from the PCIe host once the link is up and
the host has rung mailbox 0. -/
def Block.fetches (s : Block) : Bool :=
  let src := s.fl R.SYS_BOOT_STAT 4 2
  s.bootStage == 2 && !s.isHub && (src == 0 || (src == 1 && s.bt R.PCIE_STAT 0 && s.mbxSt 0 == 2))

/-- IMAGE_FETCH_DONE (R92, R95, R486): the images that the source holds, in their order; none where it does not
respond. A missing SAFETY or FIRMWARE image fails with code 0x01. -/
def opImageFetchDone (l : List ImgHdr) (s : Block) : Block :=
  if !s.fetches && !(l.isEmpty && s.bootStage == 2 && !s.isHub) then s
  else
    match bestImage s.role 3 l, bestImage s.role 1 l with
    | some sf, some fw =>
      ({ s with sec := { s.sec with cand := [sf, fw] ++ (bestImage s.role 2 l).toList } } : Block).setStage 3
    | _, _ => s.bootFail 0x01

/-- Entry to firmware (R92, R101). -/
def Block.enterFirmware (s : Block) (fw : ImgHdr) : Block :=
  let s := s.setStage 4
  { s with disp := { s.disp with corePc := sset (fun _ => 0) s.disp.corePc 0 fw.entry } }

/-- Verification of the images taken, one after the other, up to the first that fails (R485). -/
def verifyAll (role uid : Nat) (n : Nv) : List ImgHdr → Option Nat
  | [] => none
  | h :: t => match verifyImage role uid n h with
    | some c => some c
    | none => verifyAll role uid n t

/-- IMAGE_VERIFY of the SAFETY and FIRMWARE images (R485, R96): firmware is entered, or the boot stops. -/
def opImageVerify (s : Block) (n : Nv) : Block × Nv :=
  if s.held || s.bootStage != 3 then (s, n)
  else
    match s.sec.cand with
    | sf :: fw :: rest =>
      match verifyAll s.role n.uid n [sf, fw] with
      | some c => (s.bootFail c, n)
      | none =>
        let s := (s.recordImage sf).recordImage fw
        (({ s with sec := { s.sec with cand := rest } } : Block).enterFirmware fw, n)
    | _ => (s.bootFail 0x01, n)

/-! ### The configuration image (R8, R14, R96) -/

/-- The status of a carrel that the image configures (R239, R241). -/
def Block.carStatus (s : Block) (img : Image) (c : Nat) : Block :=
  let s := (s.setB (R.CAR_STAT c) 1 (imgLocal img c)).setB (R.CAR_STAT c) 2 (imgFed img c)
  s.setB (R.LE_STAT c) 8 true

/-- The period of a PWM channel as the image gives it: a cycle-locked channel's is fixed at 3125 × k (R50, R246). -/
def Block.pwmPeriod (s : Block) (img : Image) (p : Nat) : Block :=
  let n := if imgLock img p then 3125 * imgK img p else imgF img (R.PWM_CH_PERIOD p) 0 16
  (s.initReg (R.PWM_CH_PERIOD p) (BitVec.ofNat 32 n)).initReg (R.PWM_CH_PERIOD_ACT p) (BitVec.ofNat 32 n)

/-- Before the first pass every machine reports STOP1 and the margin −CAP (R314). -/
def ssmFirst (m : SsmCfg) : Word := BitVec.ofNat 32 (3 + lowBits 16 (-(m.cap : Int)) * 2 ^ 16)

/-- What a register holds before any image: the strap's value (R80), else its table's reset value. -/
def Block.bareVal (s : Block) (a : Nat) : Word :=
  match (strapInits (s.rdN R.SYS_STRAP)).find? (fun e => e.1 == a) with
  | some e => BitVec.ofNat 32 e.2
  | none => regDefault a

/-- What an earlier image gave the registers falls away: an image gives every Image field (R8). -/
def Block.dropImage (s : Block) : Block := forL s.cfg.regs (fun e s => s.initReg e.1 (s.bareVal e.1)) s

/-- The address is that of a folio's shift word, 52 to 64, whose reserved bits read 0 (R231). -/
def shiftWord (a : Nat) : Bool :=
  (match pageOf a with | some p => p.code == 0x15 | none => false)
    && (let o := a % 0x200; decide (0xD0 ≤ o) && decide (o ≤ 0x100) && decide (0x400 ≤ a % 0x1000) && decide (a % 0x1000 < 0x800))

/-- The application side takes an accepted configuration image over: every register whose Reset column reads Image,
the tables, the carrels' status (R8, R231, R363, R392, R393, R395, R314). The load of FBK_CFG.MODE is not the register write that
starts R283's 'since enable'. (log 77, DEDUCED; 57, DEDUCED) -/
def Block.acceptImage (s : Block) (h : ImgHdr) (img : Image) : Block :=
  let s := { (s.recordImage h).dropImage with cfg := { img with digest := h.digest % 2 ^ 64, fwset := h.fwset } }
  let strap := fun (a v : Nat) => if a = R.PWM_COM_CFG then v / 4 * 4 + s.fl R.PWM_COM_CFG 0 2
    else if shiftWord a then (BitVec.ofNat 32 v &&& 0x1F1F1F1F#32).toNat else v
  let s := forL img.regs (fun e s => s.initReg e.1 (BitVec.ofNat 32 (strap e.1 e.2))) s
  let s := forN 16 (fun p s => s.pwmPeriod img p) (forN 8 (fun j s => s.sdcSet j) s)
  let s := forL img.cars (fun c s => s.carStatus img c) s
  let s := s.modSzn (fun z => { z with cat := img.cat })
  let s := forN 8 (fun k s => s.initReg (R.SZN_CAT k) (match img.cat[k]? with
    | some e => BitVec.ofNat 32 (catWord e)
    | none => regDefault (R.SZN_CAT k))) s
  let s := (s.initReg R.FAB_DIGEST_LO (BitVec.ofNat 32 h.digest)).initReg R.FAB_DIGEST_HI (BitVec.ofNat 32 (h.digest / 2 ^ 32))
  let s := (s.initReg R.FAB_FWSET (BitVec.ofNat 32 (h.fwset % 2 ^ 24))).initReg R.FAB_NDEV (BitVec.ofNat 32 (img.devs.length % 4096))
  let s := if s.isCoord then
      let s := s.modFab (fun f => { f with rt := img.routes.foldl (fun m e => sset (fun _ => {}) m e.1 e.2) [] })
      let s := match img.devs.find? (fun d => d.role == s.role && d.seat == s.seat) with
        | some d => s.setF R.SZN_ID 0 12 d.endpoint
        | none => s
      let s := forL img.machs (fun m s =>
        let a := imgF img (R.SOLV_M_CFG m.1) 11 2
        (s.initReg (R.SOLV_M_CFG m.1) (BitVec.ofNat 32 (machWord m.2 a))).initReg (R.SOLV_M_SIG m.1) (BitVec.ofNat 32 (m.2.variants.getD a {}).sig)) s
      let m := img.safe.ssm
      let s : Block := { s with ssmA := {} }
      let s := (s.setB R.SSM_STAT 0 true).setB R.SSM_STAT 2 false
      let s := s.setF R.SSM_UNIT 8 8 ((m.units.map (fun u => 2 ^ u.1)).sum)
      let s := ((s.setF R.SSM_UNIT 0 8 0).initReg R.SSM_SCENE (BitVec.ofNat 32 (sceneWord m))).initReg R.SSM_NPAIR (BitVec.ofNat 32 (pairCount m % 2 ^ 16))
      forN 16 (fun k s => s.wr (R.SSM_M_DEM k) (ssmFirst m)) s
    else s
  (s.setB R.SYS_BOOT_STAT 6 true).adtUpdate

/-- The island with other safety parameters, and nothing held of what the old ones named. -/
def Island.newParams (i : Island) (c : SafeCfg) : Island :=
  { i with cfg := c, axes := [], mach := [], conns := [], sins := [], lateCopies := [], strayA := 0, strayB := 0 }

/-- The Safety Island takes the safety parameters of an accepted image (R14, R321, R314, R327); what it holds of axes,
machines and connections starts afresh where they differ, with every output off, and channel B's monitor in any case. (log 78, DEDUCED) -/
def Island.acceptSafe (i : Island) (role : Nat) (c : SafeCfg) : Island :=
  if i.held then i
  else
    let i := if i.cfg = c then i
      else islL (List.range 24) (fun j i => i.showAx j) (i.allOff.newParams c)
    let i := { i with role := role, ssmB := {} }
    let i := islL (List.range 16) (fun k i => i.wr (R.SAFE_SSMB_DEM k) (ssmFirst c.ssm)) i
    i.both (fun ch i => ((i.setB (R.SAFE_CH_STATE ch) 4 i.isDecider).setB (R.SAFE_CH_STATE ch) 5 (!c.axes.isEmpty)).wrN (R.SAFE_CH_PSIG ch) c.psig)

/-- The records that the image loader places in Solver SRAM, where the image is accepted on a Coordinator or Reserve
(R196, R216): their bytes are the image's, which no rule lays out. (log 16, PRESUMED) -/
def placeRecords (h : ImgHdr) (img : Image) (n : Nv) (b : Block) : List MemOp :=
  if b.isCoord && !b.anyCarrelEn && h.typ == 2 && (verifyImage b.role n.uid n h).isNone && timelineOk b.role b.seat (b.fl R.SZN_ID 0 12) img
      && imageOk b.role b.seat (b.fl R.SZN_ID 0 12) img then
    [.store 0x20000000 (img.recs.take 0x50000)]
  else []

/-- Verification and acceptance, or refusal, of a configuration image (R96, R485, R46, R398). -/
def configImage (h : ImgHdr) (img : Image) (n : Nv) (b : Block) (i : Island) : Block × Island :=
  if b.isCoord && b.anyCarrelEn then (b, i)
  else if h.typ ≠ 2 then (b.bootErr 0x02, i)
  else match verifyImage b.role n.uid n h with
    | some c => (b.bootErr c, i)
    | none =>
      if !timelineOk b.role b.seat (b.fl R.SZN_ID 0 12) img then (b.flag R.TB_ERR 6 0x40300000 6, i)
      else if !imageOk b.role b.seat (b.fl R.SZN_ID 0 12) img then (b, i)
      else (b.acceptImage h (oneRamp img), i.acceptSafe b.role (oneRamp img).safe)

/-- CONFIG_IMAGE_ACCEPT (R96): after entry to firmware. (log 77, DEDUCED) -/
def opConfigImage (h : ImgHdr) (img : Image) (n : Nv) (b : Block) (i : Island) : Block × Island :=
  if b.off || b.bootStage != 4 then (b, i) else configImage h img n b i

/-- Every chunk of a loaded image is held, and it is not too early or too late to verify it (R92, R96, R396). -/
def Block.loadReady (b : Block) (k chunks : Nat) (h : ImgHdr) : Bool :=
  let full := decide (0 < chunks) && (List.range chunks).all (fun c => b.fab.held.any (fun x => x.1 == k && x.2.1 == c))
  let early := decide (b.bootStage < 2) || b.bootStage == 0xF || (h.typ == 2 && b.bootStage != 4) || (h.typ == 1 && b.bootStage == 2)
  !b.off && full && b.fl R.SYS_BOOT_STAT 4 2 == 2 && !early

/-- The bytes of loaded image k: its `chunks` chunks, one after the other (R396). -/
def heldBytes (held : List (Nat × Nat × List Byte)) (k chunks : Nat) : List Byte :=
  (List.range chunks).flatMap (fun c => ((held.find? (fun x => x.1 == k && x.2.1 == c)).map (fun x => x.2.2)).getD [])

/-- A SAFETY image that came over Synzon is placed in the safety SRAM of both channels (R321). -/
def Island.storeSafety (i : Island) (held : List (Nat × Nat × List Byte)) (k chunks : Nat) : Island :=
  let bytes := (heldBytes held k chunks).take 0x80000
  if i.held then i else { i with sram := mstore (mstore i.sram 0 bytes) 0x80000 bytes }

/-- LOADED_IMAGE_VERIFY (R394, R396, R96): an image of `chunks` chunks, all of them held, is verified, and LOAD_STAT
goes to the time master. A configuration image waits for the entry to firmware, a firmware image for its fetch to have
ended (STAGE 3, R92), and none is verified before the memories are initialised or once the boot has stopped (R96). -/
def opLoadedImage (k chunks : Nat) (h : ImgHdr) (img : Image) (n : Nv) (b : Block) (i : Island) : Block × Island :=
  if !b.loadReady k chunks h then (b, i)
  else
    let code := verifyImage b.role n.uid n h
    let r : Block × Island :=
      if h.typ = 2 then configImage h img n b i
      else match code with
        | some c => (if b.bootStage = 4 then b.bootErr c else b.bootFail c, i)
        | none =>
          let b := b.recordImage h
          (if h.typ = 1 ∧ b.bootStage ≠ 4 ∧ b.bootStage ≠ 0xF then b.enterFirmware h else b, i)
    let ok := if h.typ = 2 then r.1.sec.imgs.length != b.sec.imgs.length || (b.sec.imgs.length == 8 && r.1.bt R.SYS_BOOT_STAT 6)
      else code.isNone
    let b := r.1.modFab (fun f => { f with held := if ok then f.held else f.held.filter (fun x => x.1 != k) })
    let b := if ok && h.typ == 2 then b.setB R.FAB_STAT 2 false else b
    let m : SvcMsg := { typ := 0x11, dst := b.fl R.SZN_TM 0 12, body := [k, if ok then 0 else 1, b.fl R.SYS_BOOT_STAT 8 8] }
    (b.svcPut m, if ok && h.typ == 3 then r.2.storeSafety b.fab.held k chunks else r.2)

/-- HELD_CARREL_DISABLE (R398): at the boundary a held device disables every enabled carrel. -/
def Block.heldDisable (s : Block) : Block :=
  if s.fab.holdPend then
    forL s.enCars (fun c s => (s.setB (R.CAR_CTRL c) 0 false).disableCar c) (s.modFab (fun f => { f with holdPend := false }))
  else s

/-! ### The meanings -/

/-- A meaning that also changes what no reset touches. -/
def onNv (f : Block → Nv → Block × Nv) (s : State) : Out :=
  .next { s with blk := (f s.blk s.nv).1, nv := (f s.blk s.nv).2 }

/-- The volatile memories after a power-on reset or a brownout are undefined (R34): nothing of them stays listed. -/
def ramLost (m : Mem) : Mem := m.filter (fun c => decide (0x30000000 ≤ c.1) && decide (c.1 < 0x40000000))

/-- A meaning that may start a system reset, which the Safety Island sees (R86). -/
def onReset (f : Block → Block) (s : State) : Out :=
  .next { s with
    blk := f s.blk
    isl := if (f s.blk).held && !s.blk.held then s.isl.sysReset else s.isl
    mem := if 2 ≤ (f s.blk).rstSt ∧ (f s.blk).rstSt ≠ s.blk.rstSt then ramLost s.mem else s.mem }

/-- An access that the application side makes; nothing while it is held in reset. -/
def live (f : Block → Block) (b : Block) : Block := if b.held then b else f b

def execPowerOnReset (s : State) (also : List RstSrc := []) : Out :=
  onReset (fun b => b.resetBy .powerOn also) s
def execPornRelease (straps : Fin 8192) (s : State) : Out := onBlk (opPornRelease straps.val) s
def execBrownoutDetect (s : State) (also : List RstSrc := []) : Out :=
  onReset (fun b => b.resetBy .brownout also) s
def execBrownoutRelease (straps : Fin 8192) (s : State) : Out := onBlk (opBrownoutRelease straps.val) s
def execExternalReset (s : State) (also : List RstSrc := []) : Out :=
  onReset (fun b => b.resetBy .external also) s
def execWatchdogExpire (s : State) (also : List RstSrc := []) : Out := onReset (opWdtExpire also) s
def execWatchdogKick (snd : Sender) (v : Word) (s : State) : Out := onApp (busWrite snd R.SYS_WDT_KICK v (opWdtKick snd v)) s
def execWatchdogEnable (snd : Sender) (v : Word) (s : State) : Out := onApp (busWrite snd R.SYS_WDT_CTRL v (opWdtCtrl snd v)) s
def execSoftwareReset (snd : Sender) (v : Word) (s : State) (also : List RstSrc := []) : Out :=
  onReset (live (busWrite snd R.SYS_RST_CTRL v (opSoftReset v also))) s
def execSafetyIslandResetRequest (s : State) (also : List RstSrc := []) : Out :=
  if s.isl.held then .next s else onReset (fun b => b.resetBy .island also) s
def execDebugSystemReset (snd : Sender) (v : Word) (s : State) (also : List RstSrc := []) : Out :=
  onReset (live (busWrite snd R.DBG_SYSRST v (opDebugReset snd v also))) s
def execApplicationRelease (s : State) : Out := onBlk opApplicationRelease s
def execAlwaysOnPowerUp (writing : Bool) (s : State) : Out := onNv (opAlwaysOn writing) s
def execOtpReadDone (s : State) : Out := onNv opOtpReadDone s
def execMemoryInitDone (s : State) : Out := onMem opMemoryInitDone s
def execHubServiceTickStart (s : State) : Out := ifRun (onApp opHubServiceTick) s
def execImageFetchDone (images : List ImgHdr) (s : State) : Out := ifRun (onApp (opImageFetchDone images)) s
def execImageVerify (s : State) : Out := onNv opImageVerify s
def execConfigImageAccept (h : ImgHdr) (img : Image) (s : State) : Out :=
  onAll (fun b i _ => (opConfigImage h img s.nv b i, if b.off || b.bootStage != 4 then [] else placeRecords h img s.nv b)) s
def execLoadedImageVerify (k : Fin 8) (chunks : Nat) (h : ImgHdr) (img : Image) (s : State) : Out :=
  onAll (fun b i _ => (opLoadedImage k.val chunks h img s.nv b i,
    if b.loadReady k.val chunks h && h.typ == 2 then placeRecords h img s.nv b else [])) s
def execHeldCarrelDisable (s : State) : Out := ifRun (onApp Block.heldDisable) s

end Sys2Proof.Machine
end

