-- ==== Sys2Proof/Machine/Security.lean ====
section
/-! DEFINITION. Security, identity and field records (22_security_and_records.md): keys, rollback counters, lifecycle,
secret area, debug authorisation, colophon, attestation, and the Event Archive's writer. -/

namespace Sys2Proof.Machine

def secPage : Nat := 0x40002000

/-- Set a flag of SEC_ERR: IRQ_RAW bits 8 to 13 follow its bits. -/
def Block.secFlag (s : Block) (i : Nat) : Block := s.flag R.SEC_ERR i secPage (8 + i)
/-- Change the hidden state of the SEC and DBG pages. -/
def Block.modSec (s : Block) (f : Sec → Sec) : Block := { s with sec := f s.sec }
/-- SEC_STAT.BUSY. -/
def Block.secBusy (s : Block) : Bool := s.bt R.SEC_STAT 12

/-- Eight 32-bit registers as one number. -/
def Block.rd256 (s : Block) (a : Nat → Nat) : Nat := ofBytes ((List.range 8).flatMap (fun j => bytesOf 4 (s.rdN (a j))))
/-- Write a 256-bit number into eight registers. -/
def Block.wr256 (s : Block) (a : Nat → Nat) (n : Nat) : Block := forN 8 (fun j s => s.wrN (a j) (n / 2 ^ (32 * j))) s

/-! ### Keys, counters and the secret area (R487 to R489, R493) -/

/-- An OTP command starts: BUSY is 1 until it ends. -/
def Block.otpStart (s : Block) (op : OtpOp) : Block := (s.modSec (fun x => { x with otp := some op })).setB R.SEC_STAT 12 true

/-- KEY_PROGRAM (R488). (log 80, DEDUCED) -/
def opKeyProgram (snd : Sender) (n : Nv) (s : Block) : Block :=
  let k := s.fl R.SEC_KEY_SEL 0 3
  if 2 ≤ n.lc then s.refuse true R.SEC_KEY_CMD snd .lifecycle
  else if s.secBusy || decide (3 < k) || n.prov.contains k || n.bad.contains k then s.refuse true R.SEC_KEY_CMD snd .state
  else s.otpStart (.prog k (s.rd256 R.SEC_KEY_HASH))

/-- KEY_REVOKE (R488): slots 4 and 5 of SEC_KEY_SEL are the Crifeska keys. -/
def opKeyRevoke (snd : Sender) (n : Nv) (s : Block) : Block :=
  let k := s.fl R.SEC_KEY_SEL 0 3
  let left := n.prov.any (fun j => j != k && !n.rev.contains j)
  if s.secBusy || (decide (k < 4) && (n.lc == 0 || !left)) || (k == 4 && n.rev.contains 5) || (k == 5 && n.rev.contains 4) then
    s.refuse true R.SEC_KEY_CMD snd .state
  else s.otpStart (.revoke k)

/-- OTP_COMMAND_DONE (R487, R488): every programmed bit is verified; a mismatch sets OTP_FAIL, and a slot whose hash
does not verify stays unprovisioned and unusable. (log 80, DEDUCED) -/
def opOtpDone (ok : Bool) (s : Block) (n : Nv) : Block × Nv :=
  let fin := fun (n : Nv) =>
    let s := (s.modSec (fun x => { x with otp := none })).setB R.SEC_STAT 12 false
    let s := if ok then s else s.secFlag 0
    (s.raise secPage 0 |>.showOtp n, n)
  if s.held then (s, n)
  else match s.sec.otp with
    | some (.prog k h) =>
      fin (if ok then { n with keyHash := sset (fun _ => 0) n.keyHash k h, prov := n.prov ++ [k] } else { n with bad := n.bad ++ [k] })
    | some (.revoke k) => fin (if ok && !n.rev.contains k then { n with rev := n.rev ++ [k] } else n)
    | _ => (s, n)

/-- COUNTER_ADVANCE (R489): fuses are blown until the counter reaches the target; a target below the present value or
above 255 is refused. (log 80, DEDUCED) -/
def opCounterAdvance (snd : Sender) (v : Word) (n : Nv) (s : Block) : Block × List MemOp :=
  let k := s.fl R.SEC_CTR_SEL 0 6
  let t := v.toNat
  if s.secBusy then (s.refuse true R.SEC_CTR_ADV snd .state, [])
  else if t < sget (fun _ => 0) n.ctr k ∨ 255 < t then (s.refuse true R.SEC_CTR_ADV snd .range, [])
  else
    let ops := [MemOp.counter k t]
    ((s.showOtp (napply n ops)).raise secPage 0, ops)

/-- SECRET_PROGRAM (R493): fuses that are blown stay blown. (log 80, DEDUCED) -/
def opSecretProgram (snd : Sender) (v : Word) (n : Nv) (s : Block) : Block × List MemOp :=
  let i := fld v 0 6
  if 2 ≤ n.lc then (s.refuse true R.SEC_SECRET_PROG snd .lifecycle, [])
  else if s.secBusy then (s.refuse true R.SEC_SECRET_PROG snd .state, [])
  else (s, [.secret i (s.rd (R.SEC_KEY_HASH 0))])

/-- SECRET_LOCK (R493). -/
def opSecretLock (v : Word) (s : Block) : Block :=
  if v.getLsbD 0 then (s.setB R.SEC_SECRET_LOCK 0 true).setB R.SEC_STAT 13 true else s

/-- What SEC_SECRETi reads as (R493, R491). -/
def secretWord (s : Block) (n : Nv) (i : Nat) : Word :=
  if s.bt R.SEC_STAT 13 then 0#32 else if n.lc = 3 then 0xFFFFFFFF#32 else sget (fun _ => 0#32) n.secret i

/-! ### Lifecycle (R490 to R492) -/

/-- A token for RETURNED: of its type, accepted by R485, bound to this UID, with the return challenge in its body. (log 81, DEDUCED) -/
def tokenOk (s : Block) (n : Nv) (typ : Nat) (h : ImgHdr) : Bool :=
  h.typ == typ && (verifyImage s.role n.uid n h).isNone && h.bind == n.uid && s.sec.retChal == some h.chal

/-- LIFECYCLE_ADVANCE (R490, R492, R502): `rel` and `ret` are the tokens at SEC_RET_ADDR0 and SEC_RET_ADDR1. -/
def opLifecycleAdvance (snd : Sender) (v : Word) (rel ret : ImgHdr) (n : Nv) (s : Block) : Block :=
  let t := fld v 0 2
  let live := n.prov.any (fun _ => true)
  if fld v 16 16 ≠ 0x5EC1 then s.refuse true R.SEC_LC_ADV snd .range
  else if s.secBusy then s.refuse true R.SEC_LC_ADV snd .state
  else if (n.lc = 0 ∧ t = 1 ∧ live = true) ∨ (n.lc = 1 ∧ t = 2) then s.otpStart (.life t)
  else if (n.lc = 1 ∨ n.lc = 2) ∧ t = 3 then
    if tokenOk s n 5 rel && tokenOk s n 6 ret then (s.modSec (fun x => { x with retChal := none })).otpStart (.life 3)
    else (s.secFlag 5).refuse true R.SEC_LC_ADV snd .lifecycle
  else s.refuse true R.SEC_LC_ADV snd .lifecycle

/-- What the verification of R485 reads of an image at an address: the header and body as R483 lays them out, the
signature block behind them. The outcomes of the signature and of the digests are constants that stay open
(assumption 4). (log 4, DESIGN CHOICE) -/
def imageAt (m : Mem) (a : Nat) : ImgHdr :=
  let h := fun (o n : Nat) => mrdN m (a + o) n
  let len := h 8 4
  let bytes := fun (o n : Nat) => (mrdBytes m (a + o) n).map BitVec.toNat
  let zero := fun (o n : Nat) => (bytes o n).all (· == 0)
  let fw := h 6 1 == 1
  { formOk := h 0 4 == 0x4F559640 && h 4 2 == 1 && len % 256 == 0 && decide (256 ≤ len ∧ len ≤ 2 ^ 26)
      && decide (h 13 1 < 16) && zero 19 1 && zero 30 2 && zero 92 164 && (fw || (zero 25 5 && zero 40 52))
    typ := h 6 1, slot := h 7 1, rev := h 12 1, roles := h 13 1 % 16, bind := h 32 8, ctr := h 14 1, ctrVal := h 15 1
    fwset := h 16 3, entry := h 25 5, keyHash := Config.digest (1 :: bytes (256 + len) 1793)
    sigOk := Config.sigValid (bytes 0 (256 + len)) (bytes (256 + len) 4096)
    digest := Config.digest (0 :: bytes 0 (256 + len)), chal := h 256 32, perm := h 288 2 }

/-- What a transition leaves in OTP (R490, R492). -/
def Nv.advance (n : Nv) (t : Nat) : Nv :=
  if t = 3 then
    { n with lc := 3, rev := n.rev.filter (fun k => decide (3 < k)) ++ [0, 1, 2, 3],
             secret := (List.range 64).map (fun i => (i, 0xFFFFFFFF#32)) }
  else { n with lc := t }

/-- LIFECYCLE_TRANSITION_DONE (R490): the fuses are blown, and a system reset of cause SOFT follows. -/
def opLifecycleDone (s : Block) (n : Nv) : Block × Nv :=
  if s.held then (s, n)
  else match s.sec.otp with
    | some (.life t) => (s.sysReset 4 1, n.advance t)
    | _ => (s, n)

/-- RETURN_CHALLENGE (R492). -/
def opReturnChallenge (v : Word) (s : Block) : Block :=
  if !v.getLsbD 0 then s
  else
    let c := Config.random s.free % 2 ^ 256
    ((s.useFree.modSec (fun x => { x with retChal := some c })).wr256 R.SEC_RET_CHAL c)

/-! ### Debug authorisation (R494, R495) -/

/-- A grant: GRANTED, and the permissions of its word (R495). -/
def Block.grant (s : Block) (perm : Nat) : Block := s.setF R.DBG_AUTH_STAT 0 6 (1 + perm % 32 * 2)

/-- The grant ends. -/
def Block.ungrant (s : Block) : Block := s.setF R.DBG_AUTH_STAT 0 6 0

/-- DEBUG_AUTH_REQUEST (R494, R495). -/
def opDebugAuth (snd : Sender) (v : Word) (n : Nv) (s : Block) : Block :=
  if !v.getLsbD 0 then s
  else if s.bt R.DBG_CTRL 0 || decide (16 ≤ s.sec.fails) then s.refuse true R.DBG_AUTH_REQ snd .state
  else if n.lc < 2 then s.grant 31
  else s.modSec (fun x => { x with checking := true })

/-- DEBUG_TOKEN_CHECK_DONE (R494): `tok` is the token that the buffer holds; one that fails sets TOKEN_FAIL (R502). (log 81,
DEDUCED) -/
def opDebugTokenDone (tok : ImgHdr) (s : Block) (n : Nv) : Block :=
  if !s.sec.checking then s
  else
    let s := s.modSec (fun x => { x with checking := false })
    let code : Option Nat :=
      if s.sec.tok.isEmpty then some Config.tokenCode.toNat
      else match verifyImage s.role n.uid n tok with
        | some c => some c
        | none => if tok.typ = 4 ∧ s.sec.chal = some tok.chal ∧ tok.perm ≠ 0 then none else some Config.tokenCode.toNat
    match code with
    | none => s.grant tok.perm
    | some c =>
      let f := s.sec.fails + 1
      let s := (s.modSec (fun x => { x with fails := f })).secFlag 5
      ((s.setF R.DBG_AUTH_STAT 8 8 (min f 255)).setF R.DBG_AUTH_STAT 16 8 c).setB R.DBG_AUTH_STAT 7 (decide (16 ≤ f))

/-- DEBUG_CHALLENGE_READ (R494): a read of DBG_CHAL0. -/
def opDebugChallenge (s : Block) : Block :=
  let c := Config.random s.free % 2 ^ 256
  let s := (s.useFree.modSec (fun x => { x with chal := some c, tok := [], checking := false })).wr256 R.DBG_CHAL c
  s.reply (c % 2 ^ 32)

/-- DEBUG_TOKEN_WRITE (R494, R503): words above the 4608-byte buffer are not held. (log 81, DEDUCED) -/
def opDebugToken (v : Word) (s : Block) : Block :=
  let i := s.fl R.DBG_TOK_ADDR 2 11
  let s := if i < 1152 then s.modSec (fun x => { x with tok := sset (fun _ => 0) x.tok i v.toNat }) else s
  s.setF R.DBG_TOK_ADDR 2 11 (i + 1)

/-- DEBUG_LOCK (R495, R503): writable by cores only. -/
def opDebugLock (snd : Sender) (v : Word) (s : Block) : Block :=
  if 7 < snd.agent.val then s.refuse true R.DBG_CTRL snd .agent
  else if v.getLsbD 0 then (s.setB R.DBG_CTRL 0 true).ungrant.modSec (fun x => { x with checking := false })
  else s

/-! ### Colophon and attestation (R496, R497) -/

/-- A word of the colophon (R496): the words that the rules fix, the others as Crifeska wrote them. -/
def colWord (s : Block) (n : Nv) (i : Nat) : Nat :=
  let c := (Config.colophon i).toNat
  if i = 0 then n.uid % 2 ^ 32 else if i = 1 then n.uid / 2 ^ 32 % 2 ^ 32 else if i = 2 then s.rdN R.SYS_ID
  else if i = 3 then c % 2 else if i = 456 then c % 256 else if 457 ≤ i ∧ i < 512 then 0 else if 832 ≤ i then 0 else c

/-- COLOPHON_READ (R496, R502): the read increments the index. -/
def opColophonRead (n : Nv) (s : Block) : Block :=
  let i := s.fl R.SEC_COL_ADDR 2 10
  (s.setF R.SEC_COL_ADDR 2 10 (i + 1)).reply (colWord s n i)

/-- An image record of the report, 32 bytes (R497). -/
def imgRecord (h : Option ImgHdr) : List Byte :=
  match h with
  | none => bytesOf 32 0
  | some h => bytesOf 1 h.typ ++ bytesOf 1 h.slot ++ bytesOf 1 h.ctr ++ bytesOf 1 h.ctrVal ++ bytesOf 3 h.fwset ++ bytesOf 1 1 ++ bytesOf 24 h.digest

/-- Bytes 0 to 511 of an attestation report, every value as of GO (R497). -/
def attBytes (s : Block) (n : Nv) (nonce : List Byte) : List Byte :=
  let mask := fun (l : List Nat) m => (((List.range m).filter (fun k => l.contains k)).map (fun k => 2 ^ k)).sum
  nonce ++ bytesOf 8 n.uid ++ bytesOf 4 (s.rdN R.SYS_ID) ++ bytesOf 1 n.lc ++ bytesOf 1 (mask n.prov 4) ++ bytesOf 1 (mask n.rev 6)
    ++ bytesOf 1 (s.rdN R.DBG_AUTH_STAT) ++ (List.range 64).map (fun k => BitVec.ofNat 8 (sget (fun _ => 0) n.ctr k))
    ++ bytesOf 8 s.tb.dt ++ bytesOf 4 n.poh ++ bytesOf 4 (s.rdN R.SYS_RST_CAUSE)
    ++ (List.range 8).flatMap (fun k => imgRecord s.sec.imgs[k]?)
    ++ bytesOf 4 (s.rdN (R.SAFE_CH_PSIG 0)) ++ bytesOf 4 (s.rdN (R.SAFE_CH_PSIG 1)) ++ bytesOf 120 0

/-- ATTESTATION_GO (R497). A buffer outside shared and wing SRAM ends the attempt with ATT_FAIL. (log 81, DEDUCED) -/
def opAttGo (snd : Sender) (v : Word) (n : Nv) (s : Block) (m : Mem) : Block × List MemOp :=
  let a := s.rdN R.SEC_ATT_ADDR_LO + 2 ^ 32 * s.fl R.SEC_ATT_ADDR_HI 0 8
  if !v.getLsbD 0 then (s, [])
  else if s.fl R.SEC_ATT_STAT 0 2 = 1 then (s.refuse true R.SEC_ATT_CMD snd .state, [])
  else if !(s.dmaOk a 1792 && decide (a < 0x20000000)) then (((s.setF R.SEC_ATT_STAT 0 2 3).secFlag 3).raise secPage 1, [])
  else
    let rep := attBytes s n (mrdBytes m a 32)
    ((s.modSec (fun x => { x with att := rep, attAddr := a })).setF R.SEC_ATT_STAT 0 2 1, [])

/-- ATTESTATION_DONE (R497): `rngOk` is false where the random source failed. (log 81, DEDUCED) -/
def opAttDone (rngOk : Bool) (s : Block) (_ : Mem) : Block × List MemOp :=
  if s.fl R.SEC_ATT_STAT 0 2 ≠ 1 then (s, [])
  else if !rngOk then (((s.setF R.SEC_ATT_STAT 0 2 3).secFlag 2).raise secPage 1, [])
  else
    let rep := s.sec.att
    let sig := (List.range 1280).map (fun k => BitVec.ofNat 8 (Config.digest (k :: rep.map (fun b => b.toNat))))
    ((s.setF R.SEC_ATT_STAT 0 2 2).raise secPage 1, [.store s.sec.attAddr (rep ++ sig)])

/-! ### Event Archive (R498 to R500) -/

/-- EVENT_ARCHIVE_POST (R499): a firmware record; refused while the queue is full. -/
def opEaPost (snd : Sender) (v : Word) (s : Block) : Block :=
  if !v.getLsbD 0 then s
  else if 8 ≤ s.eaq.length then s.refuse true R.SEC_EA_POST snd .state
  else
    let args := (List.range 4).map (fun j => s.rdN (R.SEC_EA_ARG j))
    s.useFree.offerRec
      { source := 0xF0, index := 0, code := s.fl R.SEC_EA_POST_CODE 0 8, cls := s.fl R.SEC_EA_POST_CODE 8 8, dt := s.tb.dt,
        poh := s.rdN R.SEC_POH, w5 := s.eaWord5, err := 0, info := 0, addr := 0, args := args, safe := false }

/-- EVENT_ARCHIVE_WRITE (R499): the record at the head of the queue goes over the slot with the lowest SEQ. -/
def opEaWrite (s : Block) (n : Nv) : Block × Nv :=
  match s.eaq with
  | [] => (s, n)
  | r :: rest =>
    let slot : EaSlot := { seq := n.nextSeq, body := r }
    let old := if n.archive.length < 256 then n.archive else n.archive.take 255
    let n := { n with archive := slot :: old, nextSeq := n.nextSeq + 1 }
    let s := { s with eaq := rest }
    (if s.held || s.bootStage = 0 then s else s.showOtp n, n)

/-- POWERED_HOUR (R500). -/
def opPoweredHour (s : Block) (n : Nv) : Block × Nv :=
  let n := { n with poh := n.poh + 1 }
  (if s.held || s.bootStage = 0 then s else s.showOtp n, n)

/-- The words of a record (R498). -/
def eaWords (x : EaSlot) : List Nat :=
  let r := x.body
  let body := [x.seq % 2 ^ 32, r.source % 256 + r.index % 256 * 2 ^ 8 + r.code % 256 * 2 ^ 16 + r.cls % 256 * 2 ^ 24,
    r.dt % 2 ^ 32, r.dt / 2 ^ 32 % 2 ^ 32, r.poh % 2 ^ 32, r.w5 % 2 ^ 32, r.err % 2 ^ 32, r.info % 2 ^ 32, r.addr % 2 ^ 32, r.addr / 2 ^ 32]
    ++ (List.range 4).map (fun j => r.args.getD j 0) ++ List.replicate 49 0
  body ++ [crc32c (body.flatMap (fun w => bytesOf 4 w))]

/-- SEC_EA_DATAi: word i of the record selected in SEC_EA_SEL, 0 the newest valid one (R502). -/
def eaData (s : Block) (n : Nv) (i : Nat) : Nat :=
  match (n.archive.filter (fun e => e.crcOk))[s.fl R.SEC_EA_SEL 0 8]? with
  | some x => (eaWords x).getD i 0
  | none => 0

/-! ### The meanings -/

/-- A meaning of the SEC page that may blow fuses. -/
def onFuse (f : Block → Block × List MemOp) (s : State) : Out :=
  if s.blk.held then .next s else .next { s with blk := (f s.blk).1, nv := napply s.nv (f s.blk).2 }

/-- An access of the DBG authorisation registers: by the debug transport's AUTH, which R75 does not refuse (R494), or
on the interconnect. -/
def dbgAuth (snd : Option Sender) (addr : Nat) (v : Word) (act : Sender → Block → Block) (s : Block) : Block :=
  match snd with
  | none => act { agent := 12 } { s with answer := {} }
  | some a => busWrite a addr v (act a) s

def execKeyProgram (snd : Sender) (s : State) : Out := onApp (busWrite snd R.SEC_KEY_CMD 1#32 (opKeyProgram snd s.nv)) s
def execKeyRevoke (snd : Sender) (s : State) : Out := onApp (busWrite snd R.SEC_KEY_CMD 2#32 (opKeyRevoke snd s.nv)) s
def execOtpCommandDone (ok : Bool) (s : State) : Out := onNv (opOtpDone ok) s
def execCounterAdvance (snd : Sender) (v : Word) (s : State) : Out := onFuse (fun b => busWriteM snd R.SEC_CTR_ADV v (fun b _ => opCounterAdvance snd v s.nv b) b s.mem) s
def execLifecycleAdvance (snd : Sender) (v : Word) (rel ret : ImgHdr) (s : State) : Out :=
  onApp (busWrite snd R.SEC_LC_ADV v (opLifecycleAdvance snd v rel ret s.nv)) s
def execLifecycleTransitionDone (s : State) : Out :=
  .next { s with
    blk := (opLifecycleDone s.blk s.nv).1
    nv := (opLifecycleDone s.blk s.nv).2
    isl := if (opLifecycleDone s.blk s.nv).1.held && !s.blk.held then s.isl.sysReset else s.isl }
def execReturnChallenge (snd : Sender) (v : Word) (s : State) : Out := onApp (busWrite snd R.SEC_RET_CMD v (opReturnChallenge v)) s
def execSecretProgram (snd : Sender) (v : Word) (s : State) : Out := onFuse (fun b => busWriteM snd R.SEC_SECRET_PROG v (fun b _ => opSecretProgram snd v s.nv b) b s.mem) s
def execSecretLock (snd : Sender) (v : Word) (s : State) : Out := onApp (busWrite snd R.SEC_SECRET_LOCK v (opSecretLock v)) s
def execAttestationGo (snd : Sender) (v : Word) (s : State) : Out := onMem (busWriteM snd R.SEC_ATT_CMD v (opAttGo snd v s.nv)) s
def execAttestationDone (rngOk : Bool) (s : State) : Out := ifRun (onMem (opAttDone rngOk)) s
def execEventArchivePost (snd : Sender) (v : Word) (s : State) : Out := onApp (busWrite snd R.SEC_EA_POST v (opEaPost snd v)) s
def execEventArchiveWrite (s : State) : Out := onNv opEaWrite s
def execPoweredHour (s : State) : Out := onNv opPoweredHour s
def execDebugAuthRequest (snd : Option Sender) (v : Word) (s : State) : Out :=
  onApp (dbgAuth snd R.DBG_AUTH_REQ v (fun a => opDebugAuth a v s.nv)) s
def execDebugTokenCheckDone (tok : ImgHdr) (s : State) : Out := ifRun (onApp (fun b => opDebugTokenDone tok b s.nv)) s
def execDebugChallengeRead (snd : Option Sender) (s : State) : Out :=
  onApp (fun b => match snd with
    | none => opDebugChallenge b
    | some a => busRead a (R.DBG_CHAL 0) opDebugChallenge b) s
def execDebugTokenWrite (snd : Option Sender) (v : Word) (s : State) : Out :=
  onApp (dbgAuth snd R.DBG_TOK_DATA v (fun _ => opDebugToken v)) s
def execDebugLock (snd : Sender) (v : Word) (s : State) : Out := onApp (busWrite snd R.DBG_CTRL v (opDebugLock snd v)) s
def execColophonRead (snd : Sender) (s : State) : Out := onApp (busRead snd R.SEC_COL_DATA (opColophonRead s.nv)) s

end Sys2Proof.Machine
end

