-- ==== Sys2Proof/Machine/View.lean ====
section
/-! DEFINITION. What a register reads as (R7, R24, R27): the value of its home domain, among them the values that stand
in hidden state, the common header (R65 to R73) and the halves of 64-bit pairs (R74). -/

namespace Sys2Proof.Machine

/-! ### 64-bit pairs (R74) -/

/-- Offsets of the LO halves of the 64-bit pairs of a page. -/
def pairLos (p : PageDef) : List Nat :=
  if p.code = 0x01 then [0x44, 0x4C]
  else if p.code = 0x02 then [0x60, 0x68, 0x70]
  else if p.code = 0x03 then [0x80]
  else if p.code = 0x05 then
    if p.index = 0 then [0x5C] else if p.index ≤ 8 then [0x48, 0x50, 0x60] else if p.index = 9 then [0x4C] else []
  else if p.code = 0x07 then [0x240, 0x248]
  else if p.code = 0x11 then [0x40]
  else if p.code = 0x12 then [0x10C, 0x18C, 0x20C, 0x28C]
  else if p.code = 0x15 then [0x110, 0x118, 0x15C, 0x164]
  else if p.code = 0x21 then [0x138, 0x178, 0x1B8, 0x1F8, 0x238, 0x278, 0x2B8, 0x2C4, 0x460]
  else if p.code = 0x22 then [0x5C]
  else if p.code = 0x30 then [0x48, 0x50, 0x64]
  else if p.code = 0x33 then [0xA4]
  else if p.code = 0x40 then [0x70]
  else if p.code = 0x42 then [0x4C, 0x64]
  else if p.code = 0x43 then [0x70, 0x88]
  else if p.code = 0x51 then [0x4C, 0x54]
  else if p.code = 0x52 then [0x60]
  else if p.code = 0x53 then [0x84]
  else if p.code = 0x55 then
    if p.index = 0 then [0x40, 0x48, 0x50] else if p.index = 1 then (List.range 16).map (fun n => 0x48 + 0x10 * n) else []
  else []

/-- The LO half of a pair. -/
def isLo (a : Nat) : Bool :=
  match pageOf a with
  | some p => (pairLos p).contains (a % 0x1000)
  | none => false

/-- The HI half of a pair. -/
def isHi (a : Nat) : Bool := decide (4 ≤ a % 0x1000) && isLo (a - 4)

/-- The bits of a register that a write sets (RW and RWL). -/
def RegDef.sets (r : RegDef) : Nat := r.rw ||| r.rwl

/-- The HI latch of a pair (R74). -/
def Block.latched (s : Block) (lo : Nat) : Word := sget (fun _ => 0#32) s.hiLatch lo

/-! ### The header -/

/-- PAGE_STAT.ACTIVE of a page (R69): what the block keeps in the register, or the condition of its chapter. -/
def Block.pageActive (s : Block) (page : Nat) : Bool :=
  match pageOf page with
  | none => false
  | some p =>
    if p.code = 0x20 then
      s.enCars.any (fun c => s.psMode c == 3) || s.cfg.ta.acts.any (fun a => (actCarrels a).any s.carEn)
    else if p.code = 0x22 then s.bt R.SYS_BOOT_STAT 6
    else if p.code = 0x33 then
      s.fl (R.FBK_CFG p.index) 0 3 != 0 && (match s.carOfFb p.index with
        | some c => s.carEn c
        | none => false)
    else if p.code = 0x41 then s.portHasSlot p.index
    else if p.code = 0x43 then s.bt (R.PAGE_STAT page) 2 || (s.isNode && s.anyCarrelEn)
    else s.bt (R.PAGE_STAT page) 2

/-- What a read of PAGE_STAT returns (R69): WPEND is always 0 on FAB-home pages. -/
def Block.pageStat (s : Block) (page : Nat) : Nat :=
  let fab := match pageOf page with
    | none => true
    | some p => p.home == .fab
  let wp := !fab && !(s.queue page).isEmpty
  let on := s.domOn page
  (if wp then 1 else 0) + (if on && s.bt (R.PAGE_STAT page) 1 then 2 else 0) + (if on && s.pageActive page then 4 else 0)
    + (if on then 8 else 0)

/-- What a read of PAGE_LOCK returns (R72). -/
def Block.lockWord (s : Block) (page : Nat) : Nat :=
  let l := s.lockOf page
  if l.isOpen then 1 + l.owner * 16 + l.remain * 256 else 0

/-! ### Registers whose value stands in hidden state -/

/-- The slot that SZN_SLOT_SEL names (R383). -/
def Block.selSlot (s : Block) : Option Slot := (s.catEntry (s.fl R.SZN_SLOT_SEL 0 3)).slots[s.fl R.SZN_SLOT_SEL 3 6]?

/-- SZN_SLOT_A, B and C by number (R383). -/
def Block.slotWord (s : Block) (k : Nat) : Nat :=
  match s.selSlot with
  | none => 0
  | some x =>
    slotRegs x k

/-- FAB_DEV_STAT (R401). On the time master an admitted device reads MEMBER (R97); one marked HELD stays so. (log 90, DEDUCED) -/
def Block.devWord (s : Block) : Nat :=
  let d := s.fl R.FAB_DEV_SEL 0 12
  let x := s.devSt d
  match s.devAt d with
  | none => 0
  | some e =>
    let st := if s.bt R.SZN_STAT 3 && x.st != 6 && (s.members s.entry).contains e.endpoint && s.memberIn e.endpoint then 5 else x.st
    st + x.why * 8 + e.endpoint % 4096 * 128 + (if e.third then 2 ^ 19 else 0) + e.path.length % 16 * 2 ^ 20

/-- SEC_IMG_INFO of a record (R486, R502). -/
def imgInfo (h : Option ImgHdr) : Nat :=
  match h with
  | none => 0
  | some h => h.typ % 256 + h.slot % 256 * 2 ^ 8 + h.ctr % 64 * 2 ^ 16 + h.ctrVal % 256 * 2 ^ 22 + 2 ^ 31

/-- The value of a wing's or the Dispatch Unit's register that stands in hidden state, none elsewhere. -/
def Block.viewDisp (s : Block) (q off : Nat) : Option Nat :=
  if q = 0 then (if off = 0x44 then some s.dispStatWord else none)
  else if q ≤ 8 then
    let h := q - 1
    if off = 0x44 then some (s.runWord h)
    else if off = 0x48 ∨ off = 0x4C then
      let t := match s.runningOn h with
        | some t => (s.thd t).token
        | none => 0
      some (if off = 0x48 then t else t / 2 ^ 32)
    else none
  else if q = 9 then
    let x := s.thd s.thSel
    if off = 0x44 then some (x.level + x.aff * 32)
    else if off = 0x48 then some s.thStateWord
    else if off = 0x4C then some x.token
    else if off = 0x50 then some (x.token / 2 ^ 32) else none
  else if q = 10 then
    let c := s.ctr (s.fl R.DISP_DC_SEL 0 9)
    if off = 0x44 then some s.dcCfgWord
    else if off = 0x48 then some (c.count + c.reload * 65536)
    else if off = 0x4C then some s.dcStatWord else none
  else none

/-- The value of a carrel's register that stands in hidden state (R161, R186). -/
def Block.viewCar (s : Block) (c off : Nat) : Option Nat :=
  let x := s.prf c
  let pair := fun (lo n : Nat) => if off = lo then some n else some (n / 2 ^ 32)
  if off = 0x110 ∨ off = 0x114 then pair 0x110 (lowBits 64 x.p)
  else if off = 0x118 ∨ off = 0x11C then pair 0x118 (lowBits 64 (shr x.v 16))
  else if off = 0x15C ∨ off = 0x160 then pair 0x15C (dist (s.stopRamp c) x.vt.natAbs)
  else if off = 0x164 ∨ off = 0x168 then pair 0x164 (lowBits 64 x.o)
  else none

/-- SYS_BOOT_STAT: READY follows its conditions at every instant (R97). -/
def Block.bootStatWord (s : Block) : Nat := (setBit (s.rd R.SYS_BOOT_STAT) 7 s.readyNow).toNat

/-- The value of a time-base register (R55). -/
def Block.viewTb (s : Block) (off : Nat) : Option Nat :=
  if off = 0x48 then some s.tb.dt
  else if off = 0x4C then some (s.tb.dt / 2 ^ 32)
  else if off = 0x50 then some s.cycle
  else if off = 0x54 then some (s.cycle / 2 ^ 32)
  else if off = 0x58 then some s.tick
  else none

/-- SOLV_STAT (R212, R217): the lanes are busy while the VMF's update or fit runs too, and a firmware job is on them only
while neither does. -/
def Block.solvStatWord (s : Block) : Nat :=
  let vmf := s.vmf.busy.isSome || s.vmf.fitBusy
  (setBit (setBit (s.rd R.SOLV_STAT) 3 (vmf || s.solv.job.isSome)) 4 (!vmf && s.solv.job.isSome)).toNat

/-- The value of a FAB register that stands in hidden state (R401). -/
def Block.viewFab (s : Block) (off : Nat) : Option Nat :=
  let e := sget (fun _ => ({} : RtEntry)) s.fab.rt (s.fl R.FAB_RT_SEL 0 12)
  let uid := (s.devSt (s.fl R.FAB_DEV_SEL 0 12)).uid
  if off = 0x60 then some s.devWord
  else if off = 0x64 then some uid
  else if off = 0x68 then some (uid / 2 ^ 32)
  else if off = 0x70 then some (rtWordA e)
  else if off = 0x74 then some (e.delta % 2 ^ 20)
  else none

/-- The value of a SEC register that stands in the fuses, the archive or the image records (R502). -/
def Block.viewSec (s : Block) (n : Nv) (off : Nat) : Option Nat :=
  let img := s.sec.imgs[s.fl R.SEC_IMG_SEL 0 3]?
  if off = 0x78 then some (sget (fun _ => 0) n.ctr (s.fl R.SEC_CTR_SEL 0 6))
  else if off = 0x94 then some (imgInfo img)
  else if 0x98 ≤ off ∧ off < 0xB8 then some (match img with
    | some h => h.digest / 2 ^ (8 * (off - 0x98))
    | none => 0)
  else if 0x100 ≤ off ∧ off < 0x200 then some (eaData s n ((off - 0x100) / 4))
  else if 0x200 ≤ off ∧ off < 0x300 then some (secretWord s n ((off - 0x200) / 4)).toNat
  else none

/-- A value that stands in hidden state, by page and offset. -/
def Block.viewHidden (s : Block) (n : Nv) (p : PageDef) (off : Nat) : Option Nat :=
  if p.code = 0x03 then s.viewSec n off
  else if p.code = 0x05 then s.viewDisp p.index off
  else if p.code = 0x12 ∧ (off % 0x80 = 0x0C ∨ off % 0x80 = 0x10) ∧ 0x100 ≤ off ∧ off < 0x300 then
    let q := s.pth (4 * p.wing + (off - 0x100) / 0x80)
    let x := lowBits 64 (popSegs q.segs q.s 0).2.1
    some (if off % 0x80 = 0x0C then x else x / 2 ^ 32)
  else if p.code = 0x15 then s.viewCar (48 * p.wing + (p.index - 16)) off
  else if p.code = 0x20 then (if off = 0x44 then some s.solvStatWord else none)
  else if p.code = 0x30 then s.viewTb off
  else if p.code = 0x31 then (if off = 0x4C then some (s.pw1 p.index).cnt else none)
  else if p.code = 0x40 then
    (if off = 0xC4 then some (s.slotWord 0) else if off = 0xC8 then some (s.slotWord 1)
      else if off = 0xCC then some (s.slotWord 2) else none)
  else if p.code = 0x42 then s.viewFab off
  else if p.code = 0x54 then
    (if off = 0x200 ∨ off = 0x240 then some (setBit (s.rd (R.SPI_CFG ((off - 0x200) / 0x40))) 18 (s.spiVmf ((off - 0x200) / 0x40))).toNat
      else none)
  else if p.code = 0x01 then (if off = 0x6C then some s.bootStatWord else none)
  else if p.code = 0x55 ∧ p.index = 2 ∧ off = 0x84 then
    some (((List.range 16).filter (fun k => s.cmpLevel k)).map (2 ^ ·)).sum
  else none

/-- The value of a register in its home domain (R27): a WO register reads 0 (R7), as does one that reads 0 because its
writes only trigger. -/
def Block.view (s : Block) (n : Nv) (a : Nat) : Nat :=
  match pageOf a with
  | none => 0
  | some p =>
    let off := a % 0x1000
    let page := a - off
    if off = 0x0C then s.pageStat page
    else if off = 0x18 then 0
    else if off = 0x1C then s.rdN (R.IRQ_RAW page)
    else if off = 0x20 then s.lockWord page
    else match s.viewHidden n p off with
      | some v => v % 2 ^ 32
      | none => s.rdN a

/-- What a read returns (R27, R74): the HI half of a pair as of the last read of its LO half, else the home domain's
value. -/
def Block.readView (s : Block) (n : Nv) (a : Nat) : Nat := if isHi a then (s.latched (a - 4)).toNat else s.view n a

/-- The read of a LO half also latches HI (R74). (log 83, DEDUCED) -/
def Block.latchHi (s : Block) (n : Nv) (lo : Nat) : Block :=
  { s with hiLatch := sset (fun _ => 0#32) s.hiLatch lo (BitVec.ofNat 32 (s.view n (lo + 4))) }

/-- PAIR_LO_READ (R74). -/
def opPairLoRead (lo : Nat) (n : Nv) (s : Block) : Block :=
  if isLo lo then (s.latchHi n lo).reply (s.view n lo) else s.reply (s.readView n lo)

end Sys2Proof.Machine
end

