-- ==== Sys2Proof/Machine/Pages.lean ====
section
/-! DEFINITION. What every page can do (R65 to R74): soft reset, disable and enable, the interrupt bits, the page lock,
the record of decode errors, and the queue of posted writes (R23). -/

namespace Sys2Proof.Machine

/-- Page n of the register space (R61). -/
def pageNo (n : Nat) : Nat := 0x40000000 + n * 0x1000

/-- The block code of a page, 0 where there is none. -/
def pageCode (page : Nat) : Nat :=
  match pageOf page with
  | none => 0
  | some p => p.code

/-! ### Interrupt bits (R71) -/

/-- The page's interrupt output after a change of its registers, with its gateway and the vectors that name it. -/
def Block.irqFrom (s s0 : Block) (page : Nat) : Block := (s0.noteRise s page).plicSense page

/-- IRQ_FORCE. -/
def opIrqForce (page : Nat) (v : Word) (s : Block) : Block :=
  (s.wr (R.IRQ_RAW page) (s.rd (R.IRQ_RAW page) ||| v)).irqFrom s page

/-- IRQ_CLEAR: bit 31 also clears PAGE_ERR (R73). -/
def opIrqClear (page : Nat) (v : Word) (s : Block) : Block :=
  let s := s.wr (R.IRQ_RAW page) (s.rd (R.IRQ_RAW page) &&& ~~~v)
  if v.getLsbD 31 then s.wrN (R.PAGE_ERR page) 0 else s

/-- IRQ_CLEAR in the clock in which events set the bits `hw`: they stay set (R29, R71). -/
def opIrqClearWith (page : Nat) (v hw : Word) (s : Block) : Block :=
  let t := opIrqClear page v s
  if hw = 0#32 then t else (t.wr (R.IRQ_RAW page) (t.rd (R.IRQ_RAW page) ||| hw)).irqFrom s page

/-- A write of IRQ_EN. -/
def opIrqEn (page : Nat) (v : Word) (s : Block) : Block := (s.wr (R.IRQ_EN page) v).irqFrom s page

/-! ### The page lock (R72) -/

/-- PAGE_LOCK_KEY: the page opens to the writer for 256 FAB clocks. -/
def opLockKey (page : Nat) (snd : Sender) (s : Block) : Block :=
  { s with locks := sset (fun _ => {}) s.locks page { isOpen := true, owner := snd.agent.val, ep := snd.ep.val, remain := 256 } }

/-- PAGE_LOCK_CLOSE and LOCK_WINDOW_EXPIRE. -/
def opLockClose (page : Nat) (s : Block) : Block := { s with locks := sset (fun _ => {}) s.locks page {} }

/-- A write of PAGE_LOCK: the key opens, any other value closes. -/
def opPageLock (page : Nat) (snd : Sender) (v : Word) (s : Block) : Block :=
  if v = 0xC0DE5EA1#32 then opLockKey page snd s else opLockClose page s

/-! ### Soft reset (R30, R68) -/

/-- Registers that a soft reset leaves: PAGE_ID, PAGE_VER, PAGE_LOCK and PAGE_ERR (R68), and those of which a rule says
what alone clears them: the reset causes (R89), the released cores (R101), the loans (R134), the locks of R493 and R495.
(log 79, DEDUCED) -/
def softKeeps (a : Nat) : Bool :=
  let off := a % 0x1000
  off = 0x00 || off = 0x04 || off = 0x20 || off = 0x24
    || [R.SYS_RST_CAUSE, R.DISP_CORE_REL, R.SEC_SECRET_LOCK, R.DBG_CTRL, R.LOAN_HELD_LO, R.LOAN_HELD_HI].contains a
    || (decide (R.LOAN_PEEK 0 ≤ a) && decide (a < R.LOAN_PEEK 64))

/-- Status fields that show what lies outside their page, as they read once the soft reset has finished: how far the boot
is (R92), the power states (R475), the channels that run (R252, R256), a grant in force (R495); fuses, archive and powered
hours come back with `showOtp`. `s0` is the state before. (log 79, DEDUCED) -/
def Block.showLive (s0 s : Block) (page : Nat) (n : Nv) : Block :=
  let code := pageCode page
  if code = 0x01 then s.setF R.SYS_BOOT_STAT 0 8 (s0.fl R.SYS_BOOT_STAT 0 8)
  else if code = 0x02 then s.setF R.PWR_STAT 0 15 (s0.fl R.PWR_STAT 0 15)
  else if code = 0x30 then s.setF R.PWM_COM_STAT 0 18 (s0.fl R.PWM_COM_STAT 0 18)
  else if code = 0x03 ∨ code = 0x04 then (s.setF R.DBG_AUTH_STAT 0 6 (s0.fl R.DBG_AUTH_STAT 0 6)).showOtp n
  else s

/-- What a page of a wing holds beside its registers. -/
def Block.softWing (s : Block) (code w k : Nat) : Block :=
  let c := 48 * w + k
  if code = 0x10 then s.setDia w { led := (s.dia w).led, lost := (s.dia w).lost }
  else if code = 0x12 then { s with path := skeep s.path (fun m => m / 4 != w) }
  else if code = 0x13 then { s with dsp := skeep s.dsp (· != w) }
  else if code = 0x15 then
    { s with
      prof := skeep s.prof (· != c), loop := skeep s.loop (· != c), stepOut := skeep s.stepOut (· != c)
      carReq := s.carReq.filter (· != c) }
  else s

/-- What a page of the Dispatch Unit, of mailbox i or of the Solver, VMF and monitor holds beside its registers. -/
def Block.softUnit (s : Block) (code i : Nat) : Block :=
  if code = 0x05 then
    if i = 0 then { s with disp := { s.disp with evq := [], held := [] } }
    else if i = 9 then { s with disp := { s.disp with th := [], rdy := [], asg := [] } }
    else if i = 10 then { s with disp := { s.disp with dc := [] } }
    else if i = 14 then { s with disp := { s.disp with plicSvc := [] } } else s
  else if code = 0x06 then { s with ackMemory := skeep s.ackMemory (· != i) }
  else if code = 0x20 then { s with solv := {} }
  else if code = 0x21 then { s with vmf := {} }
  else if code = 0x22 then { s with ssmA := {} }
  else if code = 0x30 then { s.setDeck 0 with tb := { ticks := s.tb.ticks, svcRun := s.tb.svcRun } }
  else if code = 0x31 then { s with pwm := skeep s.pwm (· != i) }
  else if code = 0x33 then { s with fb := skeep s.fb (· != i) }
  else s

/-- What a page of the link, the network and the host interfaces holds beside its registers. -/
def Block.softLink (s : Block) (code i : Nat) : Block :=
  if code = 0x40 then { s with szn := { cat := s.szn.cat, delays := s.szn.delays, bad := s.szn.bad, good := s.szn.good } }
  else if code = 0x41 then s.modSzn (fun z => { z with delays := skeep z.delays (· != i) })
  else if code = 0x42 then
    { s with fab := { rt := if s.isCoord then s.cfg.routes.foldl (fun m e => sset (fun _ => {}) m e.1 e.2) [] else [] } }
  else if code = 0x43 then { s with red := {} }
  else if code = 0x50 then { s with can := skeep s.can (· != i) }
  else if code = 0x51 then s.modHost (fun h => { h with eth := skeep h.eth (· != i) })
  else if code = 0x52 then s.modHost (fun h => { h with obRd := [], obTx := [], rises := [] })
  else if code = 0x53 then s.modHost (fun h => { h with scrub := 0 })
  else if code = 0x54 then s.modHost (fun h => { h with xbuf := [], xop := 0, xaddr := 0, spi := [], smb := [] })
  else if code = 0x55 ∧ i = 2 then { s with pins := { s.pins with pulse := [] } }
  else if code = 0x02 then
    (s.setB R.PWR_STAT 15 false).modPw (fun p => { p with reqState := 0, reqMask := 0 })
  else if code = 0x03 then s.modSec (fun x => { x with att := [], attAddr := 0, retChal := none })
  else if code = 0x04 then s.modSec (fun x => { x with chal := none, tok := [], checking := false })
  else s

/-- The block state that a page controls returns to its reset. (log 79, DEDUCED) -/
def Block.softState (s : Block) (page : Nat) : Block :=
  match pageOf page with
  | none => s
  | some p => ((s.softWing p.code p.wing (p.index - 16)).softUnit p.code p.index).softLink p.code p.index

/-- PAGE_SOFT_RESET: refused while ACTIVE; else the page's registers and its block's state return to reset, pending
time-outs convert where that changes the time mode (R117), and the page stays SRST_BUSY until PAGE_SOFT_RESET_DONE
(R68). (log 79, DEDUCED) -/
def opSoftResetPage (page : Nat) (snd : Sender) (n : Nv) (s : Block) : Block :=
  if s.pageActive page then s.refuse true (R.PAGE_CTRL page) snd .state
  else
    let t := s.keepMode (fun t => (t.softState page).resetRegs (fun a => pageBase a == page && !softKeeps a))
    let t := s.showLive t page n
    let t := if pageCode page = 0x21 then t.frameStops (s.rd R.VMF_STAT) else t
    t.setB (R.PAGE_STAT page) 1 true

/-! ### Enable and disable (R70) -/

/-- The pages that always run. -/
def alwaysRuns (code : Nat) : Bool :=
  [0x01, 0x02, 0x03, 0x04, 0x05, 0x06, 0x07, 0x52, 0x54, 0x53, 0x30, 0x40, 0x42, 0x43, 0x60].contains code

/-- Whether a write of EN = 0 is refused. -/
def Block.noDisable (s : Block) (page : Nat) : Bool :=
  let code := pageCode page
  alwaysRuns code || (code == 0x21 && s.vmfSt != 0) || s.pageActive page

/-- PAGE_DISABLE: a write of EN = 0; a compare pulse that runs ends (its line holds the low level of R99). -/
def opPageDisable (page : Nat) (snd : Sender) (s : Block) : Block :=
  if s.noDisable page then s.refuse true (R.PAGE_CTRL page) snd .state
  else
    let s := s.setB (R.PAGE_CTRL page) 0 false
    if page = 0x40552000 then { s with pins := { s.pins with pulse := [] } } else s

/-- PAGE_ENABLE: a write of EN = 1; the page's interrupt output follows its bits again, and an enable of a carrel that
the page held back acts at the next cycle boundary. -/
def opPageEnable (page : Nat) (s : Block) : Block :=
  let s1 := s.setB (R.PAGE_CTRL page) 0 true
  let s1 := match pageOf page with
    | some p => if p.code = 0x15 && !s.pageEn page then { s1 with carReq := s1.carReq ++ [48 * p.wing + (p.index - 16)] } else s1
    | none => s1
  s1.irqFrom s page

/-- A write of PAGE_CTRL (R67). With SRST = 1 and EN = 0 it is first judged as a write of EN = 0, and refused as a whole
where R70 refuses that; the reset itself leaves EN at 1. (log 96, DEDUCED) -/
def opPageCtrl (page : Nat) (snd : Sender) (v : Word) (n : Nv) (s : Block) : Block :=
  if v.getLsbD 1 then
    if v.getLsbD 0 = false ∧ s.noDisable page = true then s.refuse true (R.PAGE_CTRL page) snd .state
    else opSoftResetPage page snd n s
  else if v.getLsbD 0 then opPageEnable page s else opPageDisable page snd s

/-! ### Decode errors (R60, R77) -/

/-- DECODE_ERROR_CLEAR: writing 1 to VALID clears the pair. -/
def opDecodeErrorClear (v : Word) (s : Block) : Block :=
  if v.getLsbD 13 then (s.wrN R.SYS_DECERR_LO 0).wrN R.SYS_DECERR_HI 0 else s

/-! ### The meanings -/

def execDecodeErrorClear (snd : Sender) (v : Word) (s : State) : Out :=
  onApp (busWrite snd R.SYS_DECERR_HI v (opDecodeErrorClear v)) s
def execPageSoftReset (p : Fin 4096) (snd : Sender) (s : State) : Out :=
  onApp (busWrite snd (R.PAGE_CTRL (pageNo p.val)) 3#32 (opSoftResetPage (pageNo p.val) snd s.nv)) s
def execPageDisable (p : Fin 4096) (snd : Sender) (s : State) : Out :=
  onApp (busWrite snd (R.PAGE_CTRL (pageNo p.val)) 0#32 (opPageDisable (pageNo p.val) snd)) s
def execPageEnable (p : Fin 4096) (snd : Sender) (s : State) : Out :=
  onApp (busWrite snd (R.PAGE_CTRL (pageNo p.val)) 1#32 (opPageEnable (pageNo p.val))) s
def execIrqForce (p : Fin 4096) (snd : Sender) (v : Word) (s : State) : Out :=
  onApp (busWrite snd (R.IRQ_FORCE (pageNo p.val)) v (opIrqForce (pageNo p.val) v)) s
def execIrqClear (p : Fin 4096) (snd : Sender) (v : Word) (s : State) (hw : Word := 0#32) : Out :=
  onApp (busWrite snd (R.IRQ_CLR (pageNo p.val)) v (opIrqClearWith (pageNo p.val) v hw)) s
def execPageLockKey (p : Fin 4096) (snd : Sender) (s : State) : Out :=
  onApp (busWrite snd (R.PAGE_LOCK (pageNo p.val)) 0xC0DE5EA1#32 (opLockKey (pageNo p.val) snd)) s
def execPageLockClose (p : Fin 4096) (snd : Sender) (s : State) : Out :=
  onApp (busWrite snd (R.PAGE_LOCK (pageNo p.val)) 0#32 (opLockClose (pageNo p.val))) s
def execLockWindowExpire (p : Fin 4096) (s : State) : Out := ifRun (onApp (opLockClose (pageNo p.val))) s

end Sys2Proof.Machine
end

