-- ==== Sys2Proof/Machine/Writes.lean ====
section
/-! DEFINITION. A register write in the home domain (R7, R23, R28): the access code of the register's bits, the values
and states in which it is refused (R73), the commits of 64-bit pairs (R74), and for a register with a command of its
own that command's meaning. -/

namespace Sys2Proof.Machine

/-! ### Access codes (R7) -/

/-- A write under the access codes of the register's bits. -/
def Block.plain (s : Block) (a : Nat) (v : Word) : Block :=
  match regDef a with
  | none => s
  | some r =>
    let set := BitVec.ofNat 32 r.sets
    let x := ((s.rd a &&& ~~~set) ||| (v &&& set)) &&& ~~~(v &&& BitVec.ofNat 32 r.w1c)
    s.wr a (x ||| (v &&& BitVec.ofNat 32 r.w1s))

/-- A write of a LO half goes to the staging register (R74). (log 83, DEDUCED) -/
def Block.stageLo (s : Block) (lo : Nat) (v : Word) : Block := { s with stage := sset (fun _ => 0#32) s.stage lo v }

/-- A write of a HI half commits the staged LO and the written HI to the pair (R74). (log 83, DEDUCED) -/
def Block.commit (s : Block) (lo : Nat) (v : Word) : Block := (s.plain lo (s.stagedLo lo)).plain (lo + 4) v

/-- A plain write, with a value or a state in which the register refuses it. -/
def Block.checked (s : Block) (a : Nat) (snd : Sender) (v : Word) (bad : Option Reason) : Block :=
  match bad with
  | some r => s.refuse true a snd r
  | none => s.plain a v

/-- Refused with reason RANGE where the condition holds. (log 84, DEDUCED) -/
def rangeIf (b : Bool) : Option Reason := if b then some .range else none

/-- Refused with reason STATE where the first condition holds, with reason RANGE where the second does. -/
def stateRange (st rg : Bool) : Option Reason := if st then some .state else rangeIf rg

/-- A number outside lo to hi. (log 84, DEDUCED) -/
def outside (lo hi n : Nat) : Bool := decide (n < lo) || decide (hi < n)

/-! ### Wing windows -/

/-- The carrel page of carrel c (R186, R239, R240). -/
def wCar (c : Nat) (a off : Nat) (snd : Sender) (v : Word) (s : Block) : Block :=
  let ck := s.checked a snd v
  if off = 0x40 then (if v.getLsbD 0 then opCarrelEnable c snd s else opCarrelDisable c s)
  else if off = 0x100 then
    let m := fld v 0 3
    if 5 ≤ m ∨ fld v 3 2 = 3 then s.refuse true a snd .range
    else ck (stateRange (s.psSt c != 0 || (m == 3 && (s.chainOf c).isNone)) ((s.plain a v).badStep c))
  else if off = 0x104 then
    let s := if v.getLsbD 0 then opProfileGo c snd s else s
    let s := if v.getLsbD 1 then opProfileStop c s else s
    if v.getLsbD 2 then opProfileHome c snd s else s
  else if off = 0x120 then
    ck (rangeIf (s.bt (R.PS_CFG c) 6 && (decide (v.toInt < s.rdI (R.PS_SOFT_MIN c)) || decide (s.rdI (R.PS_SOFT_MAX c) < v.toInt))))
  else if (0x124 ≤ off ∧ off ≤ 0x138) ∨ off = 0x184 ∨ off = 0x188 then
    let t := s.plain a v
    if (s.moving c && off ≤ 0x138 && t.badMoveOf c) || t.badStep c then s.refuse true a snd .range else t
  else if off = 0x180 then ck (rangeIf (outside 1 8 (fld v 0 4) || fld v 10 6 == 0))
  else if off = 0x194 then ck (rangeIf (fld v 0 16 == 0))
  else if off = 0x1A0 then ck (rangeIf (fld v 8 8 == 0 || (s.plain a v).badStep c))
  else if off = 0x1A4 then ck (rangeIf (outside 2 12 (fld v 4 4)))
  else if off = 0x1A8 then ck (rangeIf (decide (32767 < fld v 0 16)))
  else if off = 0x200 then ck (stateRange (s.carEn c || (v.getLsbD 8 && !s.carLocal c)) false)
  else if off = 0x20C then opFolioSwapRequest c v s
  else if off = 0x210 then ck (rangeIf (v.toNat == 0))
  else if off = 0x214 ∨ off = 0x218 then ck (rangeIf (outside 1 0x7FFFFFFF v.toNat))
  else if off = 0x21C then ck (rangeIf (outside 1 0x24F34E8B v.toNat))
  else if 0x400 ≤ off ∧ off < 0x600 then ck (stateRange (s.bt (R.LE_STAT c) 7) false)
  else s.plain a v

/-- The tuning page of wing w (R234 to R237, R243). -/
def wWing (w : Nat) (a off : Nat) (snd : Sender) (v : Word) (s : Block) : Block :=
  let st := s.diaSt w
  let busy := st == 1 || st == 2
  let ck := s.checked a snd v
  if off = 0x40 then ck (stateRange busy (fld v 0 2 == 3))
  else if off = 0x44 then
    let s := if v.getLsbD 0 then (if s.fl (R.WING_DIAG_MODE w) 0 2 = 1 then opTraceArm w snd s else opInjectStart w snd s) else s
    let s := if v.getLsbD 1 then opDiagTrigger w s else s
    if v.getLsbD 2 then opDiagAbort w s else s
  else
    ck (stateRange (busy && decide (0x4C ≤ off ∧ off ≤ 0xB8))
      (if off = 0x4C then fld v 0 8 == 0
       else if 0x60 ≤ off ∧ off < 0xA0 then decide (47 < fld v 0 6)
       else if off = 0xA0 then decide (47 < fld v 0 6) || decide (4 < fld v 8 3) || fld v 12 2 == 3
       else if off = 0xB4 then outside 1 8192 (fld v 0 14)
       else if off = 0xB8 then fld v 0 15 == 0 || fld v 16 8 == 0
       else false))

/-- The path channels of wing w (R175, R192). -/
def wPath (w : Nat) (a off : Nat) (snd : Sender) (v : Word) (s : Block) : Block :=
  let m := 4 * w + (off - 0x100) / 0x80 % 4
  if off < 0x100 then s.plain a v
  else if off % 0x80 = 0 then
    let s := if v.getLsbD 0 then opPathGo m snd s else s
    let s := if v.getLsbD 1 then opPathStop m s else s
    if v.getLsbD 2 then opPathFlush m snd s else s
  else if off % 0x80 = 0x58 then (if v.getLsbD 0 then opPathSegmentPush m snd s else s)
  else s.plain a v

/-- The Spectral Processor of wing w (R430 to R437). -/
def wDsp (w : Nat) (a off : Nat) (snd : Sender) (v : Word) (s : Block) (mem : Mem) : Block × List MemOp :=
  if off = 0x4C then opDspSubmit w snd v s mem
  else if off = 0x50 then
    let act := if v.getLsbD 0 then opDspSuspend w snd else if v.getLsbD 1 then opDspResume w snd
      else if v.getLsbD 2 then opDspRunNext w snd else if v.getLsbD 3 then opDspAbort w (s.dspAt w).done snd
      else fun s _ => (s, [])
    dspCmd w snd v act s mem
  else (s.plain a v, [])

/-! ### Solver, VMF and monitor -/

/-- The Solver (R211, R217). -/
def wSolv (a off : Nat) (snd : Sender) (v : Word) (s : Block) (mem : Mem) : Block × List MemOp :=
  let no := fun (s : Block) => (s, ([] : List MemOp))
  if off = 0x40 then
    let follow := s.enCars.any (fun c => s.psMode c == 3 && s.psSt c != 0)
    let alloc := s.cfg.ta.acts.any (fun x => (actCarrels x).any (fun c => s.carEn c && s.psSt c != 0))
    no (s.checked a snd v (stateRange ((!v.getLsbD 0 && follow) || (!v.getLsbD 1 && alloc)) false))
  else if off = 0x64 then no (s.checked a snd v (rangeIf (outside 1 52 (fld v 0 6))))
  else if off = 0x68 then opDpJobSubmit snd v s mem
  else if 0x100 ≤ off ∧ off < 0x200 ∧ off % 16 = 4 then no (opVariantRequest ((off - 0x100) / 16) snd v s)
  else if off = 0x218 then no (if v.getLsbD 0 then opTaCommit s else s)
  else no (s.plain a v)

/-- The VMF (R141, R150, R153, R155). -/
def wVmf (a off : Nat) (snd : Sender) (v : Word) (s : Block) : Block :=
  let ck := s.checked a snd v
  if off = 0x40 then opVmfCtrlWrite snd v s
  else if off = 0x50 then ck (rangeIf (outside 100 60000 (fld v 0 16)))
  else if 0xC0 ≤ off ∧ off < 0x100 then opMachineFrameRequest ((off - 0xC0) / 4) snd v s
  else if off = 0x2C0 then ck (rangeIf (fld v 0 3 == 2 || fld v 0 3 == 3))
  else if off = 0x2C8 then opPredictionQuery snd v s
  else if off = 0x464 then opNavRecordCommit v s
  else if off = 0x44C then ck (rangeIf (decide (843314856 < v.toInt.natAbs)))
  else s.plain a v

/-! ### Time base, power stage and feedback -/

/-- The PWM common page with the time base (R37, R38, R55, R56, R270). -/
def wCommon (a off : Nat) (snd : Sender) (v : Word) (s : Block) : Block :=
  let ck := s.checked a snd v
  let adj := fun (s : Block) => { s with tb := { s.tb with adjPend := true } }
  if off = 0x40 then
    if (fld v 0 2 = 3) ≠ (s.role % 2 = 0) then s.refuse true a snd .range
    else { s.plain a v with tb := { s.tb with ptpSet := s.tb.ptpSet || v.getLsbD 2 } }.masterState
  else if off = 0x5C then adj (s.plain a v)
  else if off = 0x60 then (if outside 1 100 (fld v 0 7) then s.refuse true a snd .range else adj (s.plain a v))
  else if off = 0x68 then
    let s := s.commit (a - 4) v
    { s with tb := { s.tb with stepPend := some (sx 64 (s.rd64 R.TB_STEP_LO)) } }
  else if off = 0x100 then opDeadTimeModeWrite (v.getLsbD 2) s
  else if off = 0x108 then ck (rangeIf (decide (800 < fld v 0 10)))
  else if off = 0x10C then ck (rangeIf (outside 128 1280 (fld v 0 11) || decide (8 < fld v 16 4)))
  else if off = 0x110 then ck (rangeIf (decide (fld v 16 10 < fld v 0 10) || decide (800 < fld v 16 10)))
  else s.plain a v

/-- PWM channel p (R253 to R260, R263, R272). -/
def wPwm (p : Nat) (a off : Nat) (snd : Sender) (v : Word) (s : Block) : Block :=
  if off = 0x44 then
    (if v.getLsbD 0 then opPwmChannelEnable p snd (v.getLsbD 1) s else opPwmChannelDisable p snd (v.getLsbD 1) s)
  else if off = 0x50 then opPwmPeriodWrite p snd v s
  else if off = 0x58 ∨ off = 0x5C then s.checked a snd v (stateRange (s.chSrc p != 0) false)
  else if off = 0x60 then opPwmCompareWrite p snd v s
  else if off = 0x70 then
    s.checked a snd v (stateRange (s.running p) (s.chLock p && decide (fld v 0 16 < 3125 * s.fl (R.PWM_CH_CFG p) 1 3)))
  else s.plain a v

/-- The sigma-delta inputs and their clocks (R261 to R266, R273). -/
def wSdm (a off : Nat) (snd : Sender) (v : Word) (s : Block) : Block :=
  if 0x40 ≤ off ∧ off < 0x60 then opSdmClockWrite ((off - 0x40) / 4) snd v s
  else if 0x80 ≤ off then
    let i := (off - 0x80) / 0x20
    let k := off % 0x20
    let run := (s.channelsOf i).any s.running
    s.checked a snd v (stateRange (run && (k == 0 || k == 0xC || k == 0x10))
      ((k == 0 && outside 32 256 (fld v 8 9)) || (k == 0x10 && v.getLsbD 24 && outside 4 32 (fld v 0 6))))
  else s.plain a v

/-- A write of FBK_CFG that sets MODE to QUAD, HALL or SSI starts the interface afresh (R278, R283). (log 57, DEDUCED) -/
def Block.fbStart (s : Block) (i : Nat) : Block :=
  let x := s.fbi i
  let m := s.fl (R.FBK_CFG i) 0 3
  if 1 ≤ m ∧ m ≤ 3 then
    (s.setB (R.FBK_STAT i) 2 false).setFbi i { x with t1 := s.now, any := false, cyc := { x.cyc with any := false }, se := { x.se with any := false }, ssi := none }
  else s

/-- Feedback interface i (R275 to R291). (log 57, DEDUCED) -/
def wFbk (i : Nat) (a off : Nat) (snd : Sender) (v : Word) (s : Block) : Block :=
  let ck := s.checked a snd v
  if off = 0x40 then
    if s.pageActive (fbkPage i) then s.refuse true a snd .state
    else if 4 < fld v 0 3 ∨ fld v 8 2 = 3 then s.refuse true a snd .range
    else (s.plain a v).fbStart i
  else if off = 0x44 then
    if v.getLsbD 1 && !s.ssiIdle i then s.refuse true a snd .state
    else
      let s := if v.getLsbD 0 then opIndexArm i s else s
      let s := if v.getLsbD 1 then (s.ssiStart i (Config.freeBool s.free)).useFree else s
      if v.getLsbD 2 then opCompareRestart i s else s
  else if off = 0x64 then ck (rangeIf (decide (3124 < fld v 0 12)))
  else if off = 0x6C then ck (rangeIf (decide (v.toInt < s.rdI (R.FBK_SAT_MIN i))))
  else if off = 0x70 then (if fld v 0 24 = 0 then s.refuse true a snd .range else (s.plain a v).spdSet i)
  else if off = 0x8C then ck (rangeIf (decide (23 < fld v 0 5) || fld v 5 2 == 3))
  else if off = 0x90 then
    ck (rangeIf (outside 1 32 (fld v 0 6) || outside 10 200 (fld v 12 8) || fld v 20 8 == 0))
  else if off = 0xAC then
    if 32 < fld v 0 6 then s.refuse true a snd .range
    else if v.getLsbD 7 then (s.plain a v).cmpReset i else s.plain a v
  else if 0x100 ≤ off ∧ off < 0x200 ∧ off % 8 = 4 then ck (rangeIf (fld v 4 2 == 3))
  else s.plain a v

/-- The GPIO, CAP and CMP pages (R288, R289, R294 to R297). -/
def wPins (q : Nat) (a off : Nat) (snd : Sender) (v : Word) (s : Block) : Block :=
  if q = 0 ∧ (off = 0x44 ∨ off = 0x4C) then (s.commit (a - 4) v).gpioWritten s
  else
  s.checked a snd v (rangeIf (
    (q == 1 && decide (0x40 ≤ off ∧ off < 0x140) && off % 16 == 0 && decide (23 < fld v 0 5))
      || (q == 2 && decide (0x40 ≤ off ∧ off < 0x80) && fld v 0 8 == 0)))

/-! ### Link, fabric and redundancy -/

/-- The Synzon common page (R362, R370, R378, R383). -/
def wSzn (a off : Nat) (snd : Sender) (v : Word) (s : Block) : Block :=
  if off = 0x40 then (if v.getLsbD 0 then opSynzonEnable snd v s else opSynzonDisable snd v s)
  else if off = 0x50 then s.checked a snd v (rangeIf (fld v 0 8 == 0))
  else if off = 0x54 then opCatalogueSwitchRequest snd v s
  else if off = 0x78 then opRemoteAccessGo snd v s
  else if snd.agent = 11 ∧ s.isHub = true ∧ 0xA0 ≤ off ∧ off < 0xD0 then s.loadSlot a v
  else s.plain a v

/-- Synzon port k (R385). -/
def wPort (k : Nat) (a off : Nat) (snd : Sender) (v : Word) (s : Block) : Block :=
  if off = 0x40 then opPortEnable k snd v s
  else if off = 0x60 then (if v.getLsbD 0 then opSendWake k snd s else s)
  else s.plain a v

/-- FAB_DIGEST and FAB_FWSET: only the loader writes them, on a Hub before SEALED (R401). -/
def Block.digestOpen (s : Block) (snd : Sender) : Bool := s.isHub && s.phase != 2 && snd.agent.val == 11

/-- The FAB page (R391 to R401). -/
def wFab (a off : Nat) (snd : Sender) (v : Word) (s : Block) : Block :=
  if off = 0x40 then
    let s := opImageLoadEnable v s
    let s := if v.getLsbD 0 then opDiscoveryWalkStart snd s else s
    if v.getLsbD 2 then opRediscovery snd s else s
  else if off = 0x4C ∨ off = 0x50 ∨ off = 0x54 then
    if !s.digestOpen snd then s.refuse true a snd .state
    else if off = 0x4C then s.stageLo a v else if off = 0x50 then s.commit (a - 4) v else s.plain a v
  else if off = 0x70 then
    if s.phase = 2 then s.refuse true a snd .state else s.modFab (fun f => { f with rtStage := fld v 0 17 })
  else if off = 0x74 then opRouteCommit snd v s
  else s.plain a v

/-- The RED page (R414 to R421). (log 92, DEDUCED) -/
def wRed (a off : Nat) (snd : Sender) (v : Word) (s : Block) : Block :=
  if off = 0x40 then
    if s.isNode then s.refuse true a snd .state
    else
      let s := opYield snd v s
      let s := if v.getLsbD 0 then opCoordinatorSwap snd s else s
      if v.getLsbD 1 then opResyncCommand snd s else s
  else if off = 0x50 ∨ off = 0x5C then s.checked a snd v (rangeIf (fld v 0 4 == 0))
  else if off = 0x64 then (s.plain a v).modRed (fun r => { r with discLast := fld v 0 16 })
  else if off = 0x7C then (if v.getLsbD 0 then opTwinWriteGo snd s else s)
  else if off = 0x90 then s.checked a snd v (rangeIf (fld v 0 16 == 0))
  else s.plain a v

/-! ### CAN, Ethernet, PCIe and memories -/

/-- CAN_NBT or CAN_DBT holds a bit time that R439 refuses: fewer than `lo` clocks a bit, or SJW above TSEG2. -/
def badTiming (dbt : Bool) (v : Word) : Bool :=
  let p := if dbt then (fld v 0 5, fld v 5 5, fld v 10 4, fld v 14 4, 10) else (fld v 0 5, fld v 5 8, fld v 13 7, fld v 20 7, 80)
  let seg1 := p.2.1 + 1
  let seg2 := p.2.2.1 + 1
  let sjw := p.2.2.2.1 + 1
  decide ((p.1 + 1) * (1 + seg1 + seg2) < p.2.2.2.2) || decide (seg2 < sjw)
    || (!dbt && (decide (seg1 < 2) || decide (seg2 < 2)))

/-- CAN controller i (R439 to R450). (log 66, DEDUCED; 88, DESIGN CHOICE) -/
def wCan (i : Nat) (a off : Nat) (snd : Sender) (v : Word) (s : Block) : Block :=
  let ck := s.checked a snd v
  if off = 0x40 then opCanMode i (fld v 0 2) (s.canAt i).onBus.isSome snd v s
  else if off = 0x4C ∨ off = 0x50 then ck (stateRange (s.canMode i != 0) (badTiming (off == 0x50) v))
  else if off = 0x58 then ck (rangeIf (fld v 0 8 == 0))
  else if off = 0x64 then ck (rangeIf (outside 1 64 (fld v 0 7)))
  else if off = 0x68 then opCanTxcmd i v s
  else if off = 0x148 then opCanTxfPush i snd v s
  else if off = 0x1C8 then opCanTxdSend i snd v s
  else if off = 0x24C then opCanRxfPop i snd v s
  else if 0x400 ≤ off then
    let n := (off - 0x400) / 16
    let cfg := off % 16 == 8
    ck (stateRange (s.bt (R.CAN_FLT_CFG i n) 0 && !(cfg && !v.getLsbD 0)) (cfg && fld v 3 2 == 3))
  else s.plain a v

/-- Ethernet MAC i (R458 to R463). -/
def wEth (i : Nat) (a off : Nat) (snd : Sender) (v : Word) (s : Block) : Block :=
  let en := s.bt (R.ETH_CTRL i) 0
  if off = 0x40 then (s.checked a snd v (stateRange (en && fld v 1 2 != s.fl (R.ETH_CTRL i) 1 2) false)).ethPick i
  else if 0xA0 ≤ off ∧ off < 0xD0 then
    let k := off % 16
    if k = 0xC then opEthTail i ((off - 0xA0) / 16) v s
    else s.checked a snd v (stateRange (en && k == 0) (k == 4 && outside 16 1024 (fld v 0 11)))
  else s.plain a v

/-- The xSPI, SPI and SMBus page (R470 to R473). -/
def wXspi (a off : Nat) (snd : Sender) (v : Word) (s : Block) : Block :=
  let k := off / 0x40 % 4
  let o := off % 0x40
  if off = 0x4C then
    (if fld v 0 2 = 1 then opXspiProgram snd s else if fld v 0 2 = 2 then opXspiErase snd s else s)
  else if 0x200 ≤ off ∧ off < 0x280 then
    if o = 0 then s.checked a snd v (rangeIf (fld v 8 8 < 4))
    else if o = 4 then opSpiGo k snd v s
    else if o = 0xC then (if s.spiVmf k then s.refuse true a snd .state else s.spiPush k (BitVec.ofNat 8 v.toNat))
    else s.plain a v
  else if 0x300 ≤ off ∧ off < 0x380 then
    if o = 4 then opSmbGo k snd v s
    else if o = 0x10 then s.smbPush k (BitVec.ofNat 8 v.toNat)
    else s.plain a v
  else s.plain a v

/-! ### Core pages -/

/-- The pages of the Dispatch Unit and the PLIC (R103 to R125). -/
def wDisp (q : Nat) (a off : Nat) (snd : Sender) (v : Word) (s : Block) : Block :=
  let op := fld v 0 4
  if q = 0 then
    if off = 0x40 then opDispCtrlWrite snd v s
    else if off = 0x4C then opEventPostSoftware snd v s
    else if off = 0x58 then opCoreRelease v s else s.plain a v
  else if q ≤ 8 then
    let h := q - 1
    if off = 0x58 then opDispCmd h snd v s
    else if off = 0x5C then opMachineSoftware h v s
    else if off = 0x64 then opMachineTimer h (s.commit (a - 4) v) else s.plain a v
  else if q = 9 then
    if off = 0x44 then opThCfgWrite snd v s
    else if off = 0x50 then
      s.setThd s.thSel { s.thd s.thSel with token := (s.stagedLo (a - 4)).toNat + 2 ^ 32 * v.toNat }
    else if off = 0x54 then
      (if op = 1 then opThreadCreate snd s else if op = 2 then opThreadResume snd s else if op = 3 then opThreadSuspend snd s
        else if op = 4 then opThreadWake snd s else if op = 5 then opThreadDelete snd s else s.refuse true a snd .range)
    else s.plain a v
  else if q = 10 then
    if off = 0x44 then opDcCfgWrite snd v s else if off = 0x48 then opDispCounterWrite v s
    else if off = 0x4C then opDcStatWrite v s else s.plain a v
  else if q = 13 ∧ 0x40 ≤ off then opPlicEnable a v s
  else if q = 14 ∧ off % 8 = 4 ∧ 0x40 ≤ off then opPlicComplete ((off - 0x40) / 8) v s
  else s.plain a v

/-- Mailbox m (R126 to R133). -/
def wMbx (m : Nat) (a off : Nat) (snd : Sender) (v : Word) (s : Block) : Block :=
  if off = 0x40 then s.checked a snd v (stateRange (s.mbxSt m != 0) (decide (10 < fld v 0 4)))
  else if off = 0x4C then s.checked a snd v (rangeIf (v.getLsbD 15 && outside 0x180 0x1FF (fld v 0 10)))
  else if off = 0x58 then opMailboxPost m snd v s
  else if off = 0x5C then opMailboxAck m snd v s
  else if off = 0x68 then opMailboxCtrl m snd v s
  else if 0x80 ≤ off ∧ off < 0xC0 then opMailboxData m ((off - 0x80) / 4) snd v s
  else s.plain a v

/-- The SEC page (R488 to R502): the commands that read or blow fuses, lifecycle and attestation among them. The tokens
of a transition stand in memory at the addresses of SEC_RET_ADDR0 and SEC_RET_ADDR1. (log 83, DEDUCED) -/
def wSec (a off : Nat) (snd : Sender) (v : Word) (n : Nv) (s : Block) (mem : Mem) : Block × List MemOp :=
  if off = 0x44 then
    (opLifecycleAdvance snd v (imageAt mem (s.rdN R.SEC_RET_ADDR0 * 256)) (imageAt mem (s.rdN R.SEC_RET_ADDR1 * 256)) n s, [])
  else if off = 0x4C then (s.checked a snd v (rangeIf (decide (5 < fld v 0 3))), [])
  else if off = 0x70 then
    let s := if v.getLsbD 0 then opKeyProgram snd n s else s
    (if v.getLsbD 1 then opKeyRevoke snd n s else s, [])
  else if off = 0x7C then opCounterAdvance snd v n s
  else if off = 0x88 then opAttGo snd v n s mem
  else if off = 0xCC then (opEaPost snd v s, [])
  else if off = 0xEC then opSecretProgram snd v n s
  else if off = 0xF0 then (opSecretLock v s, [])
  else if off = 0xF4 then (opReturnChallenge v s, [])
  else (s.plain a v, [])

/-- The SYS, PWR, DBG and LOAN pages. -/
def wSystem (code a off : Nat) (snd : Sender) (v : Word) (n : Nv) (s : Block) : Block :=
  if code = 0x01 then
    if off = 0x50 then opDecodeErrorClear v s else if off = 0x5C then opSoftReset v [] s
    else if off = 0x60 then opWdtCtrl snd v s else if off = 0x64 then opWdtKick snd v s else s.plain a v
  else if code = 0x02 then (if off = 0x40 then opPowerStateRequest snd v s else s.plain a v)
  else if code = 0x04 then
    if off = 0x44 then opDebugLock snd v s else if off = 0x48 then opDebugReset snd v [] s
    else if off = 0x4C then opDebugAuth snd v n s
    else if off = 0x54 then opDebugToken v s else s.plain a v
  else if code = 0x07 then
    if off = 0x24C then opLoanForce v s
    else if 0x40 ≤ off ∧ off < 0x140 then opLoanRelease ((off - 0x40) / 4) snd v s else s.plain a v
  else s.plain a v

/-! ### Any register -/

/-- A write of a common-header register (R65). -/
def wHeader (page off : Nat) (snd : Sender) (v : Word) (n : Nv) (s : Block) : Block :=
  if off = 0x08 then opPageCtrl page snd v n s
  else if off = 0x14 then opIrqEn page v s
  else if off = 0x18 then opIrqForce page v s
  else if off = 0x1C then opIrqClear page v s
  else if off = 0x20 then opPageLock page snd v s
  else s

/-- Registers of a carrel page that are read between profile ticks: a write of one acts at the next (R177). The others act at
their own moments (R229, R232) or are read at the profile tick alone. -/
def atTick (off : Nat) : Bool :=
  [0x100, 0x180, 0x18C, 0x198, 0x1A0, 0x1A4, 0x1A8, 0x200, 0x210, 0x214, 0x218, 0x21C, 0x220, 0x228, 0x22C].contains off

/-- The value of register a before a write stays in force until the next profile tick (R177). -/
def Block.keepOld (s old : Block) (a : Nat) : Block :=
  if s.rd a = old.rd a ∨ s.oldCar.any (fun e => e.1 == a) = true then s else { s with oldCar := sinsert a (old.rd a) s.oldCar }

/-- Pages whose writes neither read nor store in the addressed memories. (log 83, DEDUCED; 88, DESIGN CHOICE) -/
def wBlock (p : PageDef) (a off : Nat) (snd : Sender) (v : Word) (n : Nv) (s : Block) : Block :=
  if p.code = 0x05 then wDisp p.index a off snd v s
  else if p.code = 0x06 then wMbx p.index a off snd v s
  else if p.code = 0x10 then wWing p.wing a off snd v s
  else if p.code = 0x11 then (if off = 0x44 then opGroupSwapRequest p.wing snd v s else s.plain a v)
  else if p.code = 0x12 then wPath p.wing a off snd v s
  else if p.code = 0x15 then
    (let t := wCar (48 * p.wing + (p.index - 16)) a off snd v s
     if atTick off then t.keepOld s a else t)
  else if p.code = 0x21 then wVmf a off snd v s
  else if p.code = 0x30 then wCommon a off snd v s
  else if p.code = 0x31 then wPwm p.index a off snd v s
  else if p.code = 0x32 then wSdm a off snd v s
  else if p.code = 0x33 then wFbk p.index a off snd v s
  else if p.code = 0x40 then wSzn a off snd v s
  else if p.code = 0x41 then wPort p.index a off snd v s
  else if p.code = 0x42 then wFab a off snd v s
  else if p.code = 0x43 then wRed a off snd v s
  else if p.code = 0x50 then wCan p.index a off snd v s
  else if p.code = 0x51 then wEth p.index a off snd v s
  else if p.code = 0x52 then
    (if off = 0x68 then s.checked a snd v (rangeIf (fld v 0 8 == 0))
      else if off = 0x6C then opMsixFire false v s else if off = 0x70 then opMsixFire true v s else s.plain a v)
  else if p.code = 0x53 then
    s.checked a snd v (stateRange (s.bt R.SDC_STAT 0 && decide (0x4C ≤ off ∧ off < 0x80)) false)
  else if p.code = 0x54 then wXspi a off snd v s
  else if p.code = 0x55 then wPins p.index a off snd v s
  else wSystem p.code a off snd v n s

/-- Pairs whose HI write does something of its own. -/
def ownPair (p : PageDef) (off : Nat) : Bool :=
  (p.code = 0x21 || p.code = 0x30 || p.code = 0x11 || p.code = 0x07 || p.code = 0x42 || (p.code = 0x05 && (p.index == 9 || off == 0x64))
    || (p.code = 0x55 && p.index == 0 && decide (off < 0x50)))

/-- A write of any register, in its home domain. (log 84, DEDUCED; 88, DESIGN CHOICE) -/
def writeReg (snd : Sender) (a : Nat) (v : Word) (n : Nv) (s : Block) (mem : Mem) : Block × List MemOp :=
  match pageOf a with
  | none => (s, [])
  | some p =>
    let off := a % 0x1000
    if off < 0x40 then (wHeader (a - off) off snd v n s, [])
    else if p.code = 0x03 && !isLo a && !isHi a then wSec a off snd v n s mem
    else if p.code = 0x13 then wDsp p.wing a off snd v s mem
    else if p.code = 0x20 then wSolv a off snd v s mem
    else if isLo a && p.code != 0x42 then (s.stageLo a v, [])
    else if isHi a && !ownPair p off && p.code != 0x01 then (s.commit (a - 4) v, [])
    else if p.code = 0x21 then (wBlock p a off snd v n s).dpStart
    else (wBlock p a off snd v n s, [])

/-- A write that reaches its home domain, where the role does not hold the block off (R17). -/
def applyWrite (snd : Sender) (a : Nat) (v : Word) (n : Nv) (s : Block) (mem : Mem) : Block × List MemOp :=
  if s.blockOff a then (s, []) else writeReg snd a v n s mem

end Sys2Proof.Machine
end

