-- ==== Sys2Proof/Machine/Access.lean ====
section
/-! DEFINITION. Accesses from outside the cores: a register access with the checks of R60, R63, R64, R73 and R75, its
posting (R23 to R31), and an access anywhere in the physical map of R59. -/

namespace Sys2Proof.Machine

/-- A write as the block answers it: the addressed memories take its stores and the fuses what it blows, and the Safety
Island sees a system reset that it causes (R83). Nothing acts while the application side is held in reset. -/
def onWrite (f : Block → Mem → Block × List MemOp) (s : State) : Out :=
  if s.blk.held then .next s
  else .next { s with
    blk := (f s.blk s.mem).1
    mem := mapply s.mem (f s.blk s.mem).2
    nv := napply s.nv (f s.blk s.mem).2
    isl := if (f s.blk s.mem).1.held then s.isl.sysReset else s.isl }

/-! ### Posted writes (R23 to R30) -/

/-- The oldest write posted to a page is applied; a domain off in the meantime discards it (R31). (log 86, DEDUCED) -/
def completeOne (page : Nat) (n : Nv) (s : Block) (mem : Mem) : Block × List MemOp :=
  match s.queue page with
  | [] => (s, [])
  | w :: rest =>
    let s := s.setQueue page rest
    if s.domOn page then applyWrite w.snd w.addr w.val n s mem else (s.refuse true w.addr w.snd .domainOff, [])

/-- The register whose bits a write of the one at `a` clears: IRQ_CLR stands for IRQ_RAW (R65). -/
def clearsOf (a : Nat) : Nat := if a % 0x1000 = 0x1C then a - 0xC else a

/-- The bits of the register that writing 1 clears. -/
def clearBits (a : Nat) : Word :=
  if a % 0x1000 = 0x1C then 0xFFFFFFFF#32
  else match regDef a with
    | some r => BitVec.ofNat 32 r.w1c
    | none => 0#32

/-- What the block's own hardware does to the register of the oldest queued write, in the clock in which that completes:
it comes first (R29). -/
def hwFirst (h : HwUpd) (a : Nat) (s : Block) : Block :=
  let a := clearsOf a
  s.wr a (((s.rd a &&& ~~~h.mask) ||| (h.val &&& h.mask)) ||| h.sets)

/-- A W1C bit that the hardware sets in the clock of a write of 1 stays set (R29, R71). -/
def hwLast (h : HwUpd) (a : Nat) (s : Block) : Block :=
  if h.sets &&& clearBits a = 0#32 then s
  else (s.wr (clearsOf a) (s.rd (clearsOf a) ||| (h.sets &&& clearBits a))).irqFrom s (pageBase a)

/-- POSTED_WRITE_COMPLETE: not while a soft reset of the page runs (R30), and in the clock of a cycle boundary only after
its work (R28); `hw` is what the block's own hardware does to the written register in the same clock (R29).
(log 95, DEDUCED) -/
def opPostedComplete (page : Nat) (hw : HwUpd) (n : Nv) (s : Block) (mem : Mem) : Block × List MemOp :=
  match s.queue page with
  | [] => (s, [])
  | w :: _ =>
    if s.homeBusy page then (s, [])
    else
      let r := completeOne page n (hwFirst hw w.addr s) mem
      (hwLast hw w.addr r.1, r.2)

/-- Apply the writes of a page's queue, at most k of them. (log 85, DESIGN CHOICE) -/
def drain (page : Nat) (n : Nv) : Nat → Block → Mem → Block × List MemOp
  | 0, s, _ => (s, [])
  | k + 1, s, mem =>
    if (s.queue page).isEmpty || s.homeBusy page then (s, [])
    else
      let r := completeOne page n s mem
      let q := drain page (napply n r.2) k r.1 (mapply mem r.2)
      (q.1, r.2 ++ q.2)

/-- PAGE_SOFT_RESET_DONE: the writes queued behind the reset are applied (R30, R68). -/
def opSoftResetDone (page : Nat) (n : Nv) (s : Block) (mem : Mem) : Block × List MemOp :=
  if s.bt (R.PAGE_STAT page) 1 then drain page n 4 (s.setB (R.PAGE_STAT page) 1 false) mem else (s, [])

/-! ### Register accesses -/

/-- An accepted write: posted, or applied at once on a FAB-home page; PAGE_LOCK acts at once (R23, R72). With `wait` a
full queue first completes its oldest write (R26), without it the write stalls. -/
def takeWrite (wait : Bool) (snd : Sender) (a : Nat) (v : Word) (n : Nv) (s : Block) (mem : Mem) : Block × List MemOp :=
  let page := pageBase a
  if a % 0x1000 = 0x20 ∨ s.postsTo page = false then applyWrite snd a v n s mem
  else if wait && decide (4 ≤ (s.queue page).length) && !s.homeBusy page then
    let r := completeOne page n s mem
    (r.1.post snd a v, r.2)
  else (s.post snd a v, [])

/-- A write that the interconnect has admitted. (log 85, DESIGN CHOICE) -/
def acceptWrite (wait : Bool) (snd : Sender) (a : Nat) (v : Word) (n : Nv) (s : Block) (mem : Mem) : Block × List MemOp :=
  takeWrite wait snd a v n (s.noteDirect a) mem

/-- A write of an aligned 32-bit word, from its arrival at the interconnect on. -/
def wordWrite (wait disc : Bool) (snd : Sender) (a : Nat) (v : Word) (n : Nv) (s : Block) (mem : Mem) : Block × List MemOp :=
  let s := { s with answer := {} }
  if s.agentHeld snd.agent.val then (s.waits, [])
  else if (pageOf a).isNone then (s.decodeError true a snd, [])
  else if a % 4 ≠ 0 then (s.badWidth true a 4 snd, [])
  else match s.admitAs disc snd a true with
    | some r => (s.refuse true a snd r, [])
    | none => acceptWrite wait snd a v n s mem

/-- Bytes of an access. -/
def widthBytes : Width → Nat
  | .byte => 1 | .half => 2 | .word => 4 | .dword => 8

/-- The answer to a 64-bit access: the two words, and what either half met. -/
def Answer.join (x y : Answer) : Answer :=
  { data := x.data + 2 ^ 32 * y.data, error := x.error || y.error, stalled := x.stalled || y.stalled
    why := if x.why ≠ 0 then x.why else y.why }

/-- A 64-bit write whose two halves do not both find a place in the page's queue: it stalls whole (R26, R64). -/
def Block.noRoom (s : Block) (wait disc : Bool) (snd : Sender) (a : Nat) : Bool :=
  let page := pageBase a
  let taken := ((s.admitAs disc snd a true).isNone).toNat + ((s.admitAs disc snd (a + 4) true).isNone).toNat
  s.postsTo page && decide (4 < (s.queue page).length + taken) && !(wait && !s.homeBusy page)

/-- A register write of any width (R64): an aligned 64-bit one is split, the lower address first, with no other access
to the page between the halves (R74); any other width or alignment is refused with reason WIDTH. -/
def regWrite (wait disc : Bool) (snd : Sender) (w : Width) (a : Nat) (v hi : Word) (n : Nv) (s : Block) (mem : Mem) :
    Block × List MemOp :=
  if w = .word then wordWrite wait disc snd a v n s mem
  else if (pageOf a).isNone then (Block.decodeError { s with answer := {} } true a snd, [])
  else if w = .dword ∧ a % 8 = 0 then
    let r := wordWrite wait disc snd a v n s mem
    if r.1.answer.stalled then r
    else if s.noRoom wait disc snd a then (s.waits, [])
    else
      let q := wordWrite wait disc snd (a + 4) hi (napply n r.2) r.1 (mapply mem r.2)
      ({ q.1 with answer := r.1.answer.join q.1.answer }, r.2 ++ q.2)
  else (Block.badWidth { s with answer := {} } true a (widthBytes w) snd, [])

/-- A register read, in the home domain, with what the reading itself does; `e` is what the ECC of the memory behind the
register finds: a mailbox's payload, the Catalogue, the routing table (R33). (log 89, DESIGN CHOICE) -/
def readReg (snd : Sender) (a : Nat) (e : Ecc) (n : Nv) (s : Block) : Block :=
  match pageOf a with
  | none => s
  | some p =>
    let off := a % 0x1000
    if p.code = 0x05 ∧ 1 ≤ p.index ∧ p.index ≤ 8 ∧ off = 0x40 then opDispNextRead (p.index - 1) snd s
    else if p.code = 0x05 ∧ p.index = 14 ∧ 0x40 ≤ off ∧ off % 8 = 4 then opPlicClaim ((off - 0x40) / 8) snd s
    else if p.code = 0x06 ∧ 0x80 ≤ off ∧ off < 0xC0 then opMailboxRead p.index ((off - 0x80) / 4) snd e s
    else if p.code = 0x40 ∧ 0xC4 ≤ off ∧ off < 0xD0 then opPairLoRead a n (s.sznEcc e)
    else if p.code = 0x42 ∧ 0x70 ≤ off ∧ off < 0x78 then opPairLoRead a n (s.fabEcc e)
    else if p.code = 0x07 ∧ 0x40 ≤ off ∧ off < 0x140 then opLoanAcquire ((off - 0x40) / 4) snd s
    else if p.code = 0x14 ∧ off = 0x44 then opLedgerDataRead p.wing snd s
    else if a = R.SEC_COL_DATA then opColophonRead n s
    else if a = R.DBG_CHAL 0 then opDebugChallenge s
    else if p.code = 0x50 ∧ a = R.CAN_HP_ID p.index then opCanHpRead p.index s
    else if p.code = 0x54 ∧ (a = R.SPI_DATA 0 ∨ a = R.SPI_DATA 1) then s.spiPop ((off - 0x200) / 0x40)
    else if p.code = 0x54 ∧ (a = R.SMB_DATA 0 ∨ a = R.SMB_DATA 1) then s.smbPop ((off - 0x300) / 0x40)
    else opPairLoRead a n s

/-- A read of an aligned 32-bit word, from its arrival at the interconnect on. -/
def wordRead (disc : Bool) (snd : Sender) (a : Nat) (e : Ecc) (n : Nv) (s : Block) : Block :=
  let s := { s with answer := {} }
  if s.agentHeld snd.agent.val then s.waits
  else if (pageOf a).isNone then s.decodeError false a snd
  else if a % 4 ≠ 0 then s.badWidth false a 4 snd
  else match s.admitAs disc snd a false with
    | some r => s.refuse false a snd r
    | none =>
      if s.blockOff a then s.reply (regDefault a).toNat
      else if s.readBusy a then s.reply (s.resetVal a).toNat
      else readReg snd a e n s

/-- A register read of any width (R64, R74), as `regWrite`. -/
def regRead (disc : Bool) (snd : Sender) (w : Width) (a : Nat) (e : Ecc) (n : Nv) (s : Block) : Block :=
  if w = .word then wordRead disc snd a e n s
  else if (pageOf a).isNone then Block.decodeError { s with answer := {} } false a snd
  else if w = .dword ∧ a % 8 = 0 then
    let t := wordRead disc snd a e n s
    if t.answer.stalled then t
    else
      let u := wordRead disc snd (a + 4) .none n t
      { u with answer := t.answer.join u.answer }
  else Block.badWidth { s with answer := {} } false a (widthBytes w) snd

/-! ### The physical map (R59, R60) -/

/-- The 64-bit word of an SDRAM address is uncorrectable (R466). -/
def Block.isUe (s : Block) (a : Nat) : Bool := s.host.ue.contains (a / 8)

/-- An SDRAM address that the zero-fill has not passed (R465). (log 70, DEDUCED) -/
def Block.unfilled (s : Block) (a : Nat) : Bool := decide (s.rdN R.SDC_FILL_PTR * 256 ≤ a)

/-- A read of an aligned 32-bit word anywhere; an SRAM that nothing has initialised since a power-on reset reads as a value
that stays open (R34). (log 89, DESIGN CHOICE; 97, DEDUCED) -/
def anyRead (disc : Bool) (snd : Sender) (a : Nat) (n : Nv) (s : Block) (mem : Mem) : Block :=
  match s.region a with
  | .regs => wordRead disc snd a .none n s
  | .rom => s.reply (mrdN mem a 4)
  | .ram => if s.raw then (s.reply (Config.freeNat s.free % 2 ^ 32)).useFree else s.reply (mrdN mem a 4)
  | .flash => if s.bt R.XSPI_STAT 0 then s.waits else s.reply (mrdN mem a 4)
  | .sdram =>
    if s.unfilled a then s.waits else if s.isUe a then (s.sdcUe a).errorResp else s.reply (mrdN mem a 4)
  | .outbound => opOutbound snd (a - 0x800000000) none s
  | .unmapped => s.decodeError false a snd

/-- The four bytes of an xSPI window write enter the page buffer (R470). (log 71, DEDUCED) -/
def Block.flashWrite (s : Block) (a : Nat) (v : Word) : Block :=
  ((List.range 4).zip (bytesOf 4 v.toNat)).foldl (fun s e => s.xspiCollect (a + e.1) e.2) s

/-- A write of an aligned 32-bit word anywhere; the boot ROM takes none. (log 86, DEDUCED) -/
def anyWrite (wait disc : Bool) (snd : Sender) (a : Nat) (v : Word) (n : Nv) (s : Block) (mem : Mem) : Block × List MemOp :=
  let ok := { s with answer := {} }
  match s.region a with
  | .regs => wordWrite wait disc snd a v n s mem
  | .rom => (ok, [])
  | .ram => if s.solverOwns a 4 then (ok.errorResp, []) else (ok, [.store a (bytesOf 4 v.toNat)])
  | .flash =>
    (if s.bt R.XSPI_STAT 0 then s.waits
     else if !s.bt R.XSPI_CTRL 0 then s.refuse true R.XSPI_CMD snd .state else ok.flashWrite a v, [])
  | .sdram =>
    if s.unfilled a then (s.waits, []) else if s.isUe a then ((s.sdcUe a).errorResp, [])
    else (ok, [.store a (bytesOf 4 v.toNat)])
  | .outbound => (opOutbound snd (a - 0x800000000) (some v) s, [])
  | .unmapped => (s.decodeError true a snd, [])

/-! ### The cores' caches (R10, R33, R100, R102) -/

/-- A core reaches these regions through its caches (R59). -/
def Region.cacheable : Region → Bool
  | .rom | .ram | .flash | .sdram => true
  | _ => false

/-- The held line of an address, and the lines without it. -/
def Block.lineOf (s : Block) (a : Nat) : Option CacheLine := s.cache.find? (fun l => l.line == a / 64)
def Block.setLine (s : Block) (l : CacheLine) : Block :=
  { s with cache := l :: s.cache.filter (fun x => x.line != l.line) }
def Block.dropLine (s : Block) (a : Nat) : Block := { s with cache := s.cache.filter (fun x => x.line != a / 64) }

/-- Add a holder to a list of holders. -/
def holder (l : List Nat) (x : Nat) : List Nat := if l.contains x then l else x :: l

/-- Core h, of wing h / 2, holds a line after a load or a fetch. -/
def CacheLine.heldBy (l : CacheLine) (h : Nat) (fetch : Bool) : CacheLine :=
  { l with
    l1i := if fetch then holder l.l1i h else l.l1i
    l1d := if fetch then l.l1d else holder l.l1d h
    l2 := holder l.l2 (h / 2) }

/-- An uncorrectable ECC error on a load or fetch: an access fault of the core, which the error response is, recorded with
its address (R100). -/
def Block.coreFault (s : Block) (h a : Nat) : Block := (s.archive 0x10 (h / 2) 17 2 0 0 a).errorResp

/-- A word of the cached bytes. -/
def CacheLine.word (l : CacheLine) (a : Nat) : Nat := ofBytes ((l.data.drop (a % 64)).take 4)

/-- A core's load or fetch of a word through its caches: a line held by any of them answers, with the bytes that the
coherent caches share (R102); else the line is fetched from memory. An L1 instruction parity error refetches the line, so
the answer is the same (R100). Which line gives way to a new one the spec does not say: none does here.
(log 120, DESIGN CHOICE) -/
def coreRead (h : Nat) (fetch : Bool) (e : Ecc) (snd : Sender) (a : Nat) (n : Nv) (s : Block) (mem : Mem) : Block :=
  let parity := fetch && match s.lineOf a with | some l => l.l1i.contains h | none => false
  if e = .uncorr ∧ parity = false then s.coreFault h a
  else match s.lineOf a with
    | some l => (s.setLine (l.heldBy h fetch)).reply (l.word a)
    | none =>
      let t := anyRead false snd a n s mem
      if t.answer.stalled || t.answer.error || (s.region a == .ram && s.raw) then t
      else t.setLine (({ line := a / 64, data := mrdBytes mem (a / 64 * 64) 64 } : CacheLine).heldBy h fetch)

/-- Bytes in place of those from an offset up. -/
def putBytes (l : List Byte) (off : Nat) (bs : List Byte) : List Byte := l.take off ++ bs ++ l.drop (off + bs.length)

/-- A core's store of bytes: into the line, which only this core's data cache and its wing's L2 then hold (R102). The boot
ROM, the flash window and Solver SRAM that no access writes take no store of a line. (log 120, DESIGN CHOICE) -/
def coreWrite (h : Nat) (snd : Sender) (a : Nat) (v : Word) (n : Nv) (s : Block) (mem : Mem) : Block × List MemOp :=
  if s.region a == .rom || s.region a == .flash || s.solverOwns a 4 then anyWrite false false snd a v n s mem
  else
    let t := match s.lineOf a with
      | some l => s.setLine l
      | none => coreRead h false .none snd a n s mem
    match t.lineOf a with
    | none => (t, [])
    | some l => ((t.setLine { l with data := putBytes l.data (a % 64) (bytesOf 4 v.toNat), dirty := true, l1i := [], l1d := [h], l2 := [h / 2] }).fresh, [])

/-- A line is written back to memory where it is dirty (cbo.clean). -/
def Block.cleanLine (s : Block) (a : Nat) : Block × List MemOp :=
  match s.lineOf a with
  | none => (s, [])
  | some l => if l.dirty then (s.setLine { l with dirty := false }, [.store (a / 64 * 64) l.data]) else (s, [])

/-- A core's request to a cacheable address, a word at a time (R100, R102). -/
def coreReq (q : BusReq) (h a : Nat) (n : Nv) (s : Block) (mem : Mem) : Block × List MemOp :=
  match q.op with
  | .clean => (s.fresh.cleanLine a)
  | .inval => (s.fresh.dropLine a, [])
  | .flush => let r := s.fresh.cleanLine a; (r.1.dropLine a, r.2)
  | .fetch => (coreRead h true q.ecc q.snd a n s.fresh mem, [])
  | .data => if q.wr then coreWrite h q.snd a q.val n s.fresh mem else (coreRead h false q.ecc q.snd a n s.fresh mem, [])

/-! ### Requests of one clock (R15) -/

/-- A request to a physical address: a core's through its caches, another agent's past them (R102). A request of less than
a word stands in its word; one of 64 bits is two of words, the lower address first; a core's misaligned one is an
exception of the core's and comes to no memory (R100). -/
def memReq (q : BusReq) (a : Nat) (n : Nv) (s : Block) (mem : Mem) : Block × List MemOp :=
  let bytes := widthBytes q.width
  let sub := min bytes 4
  let sh := 8 * (a % 4)
  let mask := (2 ^ (8 * sub) - 1) * 2 ^ sh
  let w := a / 4 * 4
  let one := fun (x : Nat) (v : Word) (n : Nv) (s : Block) (mem : Mem) =>
    if s.agentHeld q.snd.agent.val then (s.waits, ([] : List MemOp))
    else if q.snd.agent.val < 8 ∧ (s.region x).cacheable = true then coreReq { q with val := v } q.snd.agent.val x n s mem
    else if q.wr then anyWrite false s.discOpen q.snd x v n s mem
    else (anyRead s.discOpen q.snd x n s mem, [])
  if a % bytes ≠ 0 then (s.errorResp, [])
  else if bytes = 8 then
    let r := one a q.val n s mem
    if r.1.answer.stalled then r
    else
      let t := one (a + 4) q.hi (napply n r.2) r.1 (mapply mem r.2)
      ({ t.1 with answer := r.1.answer.join t.1.answer }, r.2 ++ t.2)
  else if bytes = 4 then one a q.val n s mem
  else
    let old := match s.lineOf a with
      | some l => if q.snd.agent.val < 8 then l.word w else mrdN mem w 4
      | none => mrdN mem w 4
    let v := BitVec.ofNat 32 ((old &&& (2 ^ 32 - 1 - mask)) ||| (q.val.toNat * 2 ^ sh &&& mask))
    let r := one w v n s mem
    if q.wr || r.1.answer.stalled || r.1.answer.error then r
    else ({ r.1 with answer := { r.1.answer with data := (r.1.answer.data &&& mask) / 2 ^ sh } }, r.2)

/-- One request of a clock: a read or a write of a register, or of memory. -/
def actReq (q : BusReq) (n : Nv) (s : Block) (mem : Mem) : Block × List MemOp :=
  let a := match q.mem with
    | some m => m.val
    | none => 0x40000000 + q.addr.val
  if s.region a != .regs then memReq q a n s mem
  else if q.wr then regWrite false s.discOpen q.snd q.width a q.val q.hi n s mem
  else (regRead s.discOpen q.snd q.width a q.ecc n s, [])

/-- The requests of one clock, granted one after the other, with their answers. -/
def grantReqs (n : Nv) : List BusReq → Block → Mem → Block × List MemOp
  | [], s, _ => (s, [])
  | q :: l, s, mem =>
    let r := actReq q n s mem
    let t := grantReqs (napply n r.2) l (r.1.noteAnswer q.snd) (mapply mem r.2)
    (t.1, r.2 ++ t.2)

/-- A request with those that other agents present in the same FAB clock, in the order of R15. -/
def sameClock (q : BusReq) (also : List BusReq) (n : Nv) (s : Block) (mem : Mem) : Block × List MemOp :=
  if also.isEmpty then actReq q n s mem
  else
    let r := grantReqs n (grantOrder BusReq.snd (q :: also)) { s with answers := [] } mem
    (r.1.answerTo q.snd, r.2)

/-- An access with a meaning of its own by `snd`, with the requests that other agents present in the same FAB clock: those
that R15 puts before it, the access, the others. -/
def amongReqs (snd : Sender) (also : List BusReq) (act : Nv → Block → Mem → Block × List MemOp) (n : Nv) (s : Block) (mem : Mem) :
    Block × List MemOp :=
  if also.isEmpty then act n s mem
  else
    let first := fun (q : BusReq) => decide (grantRank q.snd.agent.val < grantRank snd.agent.val)
    let r := grantReqs n (grantOrder BusReq.snd (also.filter first)) { s with answers := [] } mem
    let q := act (napply n r.2) r.1 (mapply mem r.2)
    let t := grantReqs (napply (napply n r.2) q.2) (grantOrder BusReq.snd (also.filter (fun x => !first x)))
      (q.1.noteAnswer snd) (mapply (mapply mem r.2) q.2)
    (t.1.answerTo snd, r.2 ++ q.2 ++ t.2)

/-! ### The meanings -/

/-- The address of a register by its place in the register space. -/
def regAddr (a : Fin 16777216) : Nat := 0x40000000 + a.val

/-- PAIR_HI_WRITE: where `a` is no HI half nothing is committed. -/
def opPairHiWrite (snd : Sender) (a : Nat) (v : Word) (n : Nv) (s : Block) (mem : Mem) : Block × List MemOp :=
  if a % 4 ≠ 0 then wordWrite false s.discOpen snd a v n s mem
  else busWriteM snd a v (fun b m => if isHi a then writeReg snd a v n b m else (b, [])) s mem

def execRegisterWrite (a : Fin 16777216) (snd : Sender) (v : Word) (s : State) (w : Width := .word) (hi : Word := 0#32)
    (also : List BusReq := []) : Out :=
  onWrite (sameClock { snd := snd, addr := a, wr := true, width := w, val := v, hi := hi } also s.nv) s
def execPairLoRead (a : Fin 16777216) (snd : Sender) (s : State) (w : Width := .word) (ecc : Ecc := .none)
    (also : List BusReq := []) : Out :=
  if also.isEmpty then onApp (fun b => regRead b.discOpen snd w (regAddr a) ecc s.nv b) s
  else onWrite (sameClock { snd := snd, addr := a, wr := false, width := w, ecc := ecc } also s.nv) s
def execPlicClaim (x : Fin 16) (snd : Sender) (s : State) (also : List BusReq := []) : Out :=
  if also.isEmpty then onApp (busRead snd (R.PLIC_CLAIM x.val) (opPlicClaim x.val snd)) s
  else onWrite (amongReqs snd also (fun _ b _ => (busRead snd (R.PLIC_CLAIM x.val) (opPlicClaim x.val snd) b, [])) s.nv) s
def execCanHpRead (i : CanIx) (snd : Sender) (s : State) (also : List BusReq := []) : Out :=
  if also.isEmpty then onApp (busRead snd (R.CAN_HP_ID i.val) (opCanHpRead i.val)) s
  else onWrite (amongReqs snd also (fun _ b _ => (busRead snd (R.CAN_HP_ID i.val) (opCanHpRead i.val) b, [])) s.nv) s
def execPairHiWrite (a : Fin 16777216) (snd : Sender) (v : Word) (s : State) : Out :=
  onWrite (opPairHiWrite snd (regAddr a) v s.nv) s
def execPostedWriteComplete (p : Fin 4096) (s : State) (hw : HwUpd := {}) : Out :=
  onWrite (opPostedComplete (pageNo p.val) hw s.nv) s
def execPageSoftResetDone (p : Fin 4096) (s : State) : Out := onWrite (opSoftResetDone (pageNo p.val) s.nv) s
def execLoanAcquire (n : Fin 64) (snd : Sender) (s : State) (also : List Sender := []) : Out :=
  onApp (granted id (fun x => busRead x (R.LOAN n.val) (opLoanAcquire n.val x)) snd also) s
def execMailboxPost (m : MbxIx) (snd : Sender) (v : Word) (s : State) (also : List (Sender × Word) := []) : Out :=
  onApp (granted Prod.fst (fun x => busWrite x.1 (R.MBX_POST m.val) x.2 (opMailboxPost m.val x.1 x.2)) (snd, v) also) s

end Sys2Proof.Machine
end

