-- ==== Sys2Proof/Machine/Slots.lean ====
section
/-! DEFINITION. Sending (15_synzon_link.md): the frame of an own slot with its items, acknowledgement and service message
(R357 to R361, R364, R369), JOIN frames (R376, R378), the safety payload (R332), the TWIN frame (R413), LOAD (R394),
and the CYCLE_START frame of the time master (R366). -/

namespace Sys2Proof.Machine

/-! ### Items -/

/-- HOME of a feedback item's status (R358): 0 idle, 1 running, 2 done, 3 failed. -/
def Block.homeCode (s : Block) (c : Nat) : Nat :=
  if s.psSt c = 7 ∨ (s.prf c).home = true then 1
  else if s.bt (R.PS_STAT c) 5 then 2 else if s.bt (R.PS_ERR c) 5 then 3 else 0

/-- The feedback item of a LOCAL carrel (R358, R369): position, v_fb, status, and AGE one higher for each repetition of a
latch. The position of a step carrel is the integer part of its P, which is never stale. (log 51, DEDUCED) -/
def Block.fbItemOf (s : Block) (i : Island) (c : Nat) : FbItem :=
  let f := s.fbOf c
  let p := s.fl (R.CAR_BIND c) 2 4
  let x := s.nodeCmd c
  let b := fun (v : Bool) k => if v then 2 ^ k else 0
  let off := i.axIds.any (fun j => (i.axc j).carrel == c && !nbit i.stoOn (i.axc j).group)
  let step := s.psOut c == 1
  { pos := if step then sx 32 (lowBits 32 (intPart (s.prf c).p)) else s.rdI (R.FBK_LC_POS f)
    vfb := s.rdI (R.FBK_LC_VEL f)
    status := b (s.carEn c) 0 + s.fbStatus f + b (s.bt (R.PWM_CH_ERR p) 2) 5 + b (s.bt (R.PWM_CH_ERR p) 6) 6
      + b (s.bt (R.LE_ERR c) 1) 7 + b x.late 8 + s.homeCode c * 2 ^ 9 + b (s.bt (R.PS_STAT c) 5) 11 + b off 12
    age := if !step && x.sent == (s.fbi f).cyc.at_ + 1 then satAdd x.age 1 255 else 0 }

/-- Note that the item of a carrel was sent: the latch it carried and its AGE; a repetition counts (R369). -/
def Block.fbSent (s : Block) (c : Nat) (it : FbItem) : Block :=
  let s := if it.age = 0 then s else s.incSat R.SZN_TX_REPEAT 0 16
  s.setNodeCmd c { s.nodeCmd c with sent := (s.fbi (s.fbOf c)).cyc.at_ + 1, age := it.age }

/-- The carrels that a slot's item map binds. (log 36, DEDUCED) -/
def slotCarrels (x : Slot) : List Nat := x.items.filterMap (fun r => match r with
  | .carrel c => some c
  | _ => none)

/-! ### The safety payload (R332) -/

/-- The command items of a decider for the supervisors of a slot's DST (R329, R332): the demand of each axis's machine and
the lowest limit of its SLS demands, and for the outputs of each device HOLD or RUN with the groups and contactors
released (assumption 21). (log 21, DEDUCED; 39, DEDUCED) -/
def Island.cmdItems (i : Island) (dst : Nat) : List SafeItem :=
  (i.cfg.conns.filter (fun c => c.2.kind == 3 && (dst == 0xFFF || c.2.src == dst))).flatMap (fun c =>
    c.2.axes.map (fun a =>
      let m := i.mc a.2.1
      let lims := ((sget (fun _ => ({} : SMachCfg)) i.cfg.machs a.2.1).cars.find? (fun p => p.1 == a.2.2)).map Prod.snd
      SafeItem.command c.2.src a.1 (demFunc m.dem) (limOf (lims.getD []) m.lim))
    ++ [SafeItem.command c.2.src 0xFF (if i.st = 2 then 1 else 0) (i.released + i.kOn * 2 ^ 8)])

/-- The status items of a supervisor (R332): SOS is reported as SS2, the function whose end it is. (log 39, DEDUCED; 64, DEDUCED) -/
def Island.statusItems (i : Island) : List SafeItem :=
  i.axIds.map (fun j =>
    let x := i.ax j
    SafeItem.status j (if x.func = 5 then 2 else x.func)
      ((if x.atRest then 1 else 0) + (if x.viol then 2 else 0) + (if x.measDis then 4 else 0)) 0 (x.vel / 65536) (lowBits 32 x.cntA))
  ++ [SafeItem.status 0xFF i.st (i.fl R.SAFE_STO_FB 0 8 &&& i.fl R.SAFE_STO_FB 8 8) (i.fl R.SAFE_KOUT 8 4)
        (i.fl R.SAFE_SIN_STATE 0 16 ^^^ 0xFFFF) 0]

/-- The kinds of payload that the island sends toward `dst`: a decider in HOLD or RUN commands, but for a device that it does
not command while it supervises axes itself; a supervisor that has left START its status. (log 39, DEDUCED) -/
def Island.kinds (i : Island) (dst : Nat) : List Nat :=
  if i.held || i.st == 0 then []
  else
    (if i.isDecider && i.alive && (i.cfg.axes.isEmpty || !(i.cmdItems dst).isEmpty) then [2] else [])
      ++ (if i.cfg.axes.isEmpty then [] else [3])

/-- The safe sequence of cycle n: raised by 1 in each cycle in which the island sends (R332). -/
def Island.seqOf (i : Island) (n : Nat) : Nat := if i.seqCyc = n + 1 then i.seq else (i.seq + 1) % 65536

/-- The payload with its safety check. -/
def sealPay (p : SafePayload) : SafePayload := { p with check := some (payCrc p) }

/-- The payload of cycle n in the SAFETY slot toward `dst` that `nth` others precede, if there is one: where both kinds go
there, they take turns. (log 39, DEDUCED) -/
def Island.payload (i : Island) (ep dst nth n : Nat) : Option SafePayload :=
  let l := i.kinds dst
  match l[nth % l.length]? with
  | none => none
  | some k => some (sealPay
      { src := ep, kind := k, seq := i.seqOf n, items := if k = 2 then i.cmdItems dst else i.statusItems })

/-! ### Service messages (R361) -/

/-- The length in bytes of a message's body (R361, R396, R420). -/
def svcLen (m : SvcMsg) : Nat :=
  if m.typ = 0x01 then 12 + 4 * (m.body.length - 4)
  else if m.typ = 0x02 then 4 + 4 * (m.body.length - 3)
  else if m.typ = 0x03 ∨ m.typ = 0x04 then 3
  else if m.typ = 0x05 then 1
  else if m.typ = 0x10 then 13
  else if m.typ = 0x11 ∨ m.typ = 0x21 then 3
  else if m.typ = 0x22 then 4
  else 0

/-- Whether a message may go in a frame to `dst` with room for `room` bytes of service block. -/
def svcFits (m : SvcMsg) (dst room : Nat) : Bool :=
  decide (4 + svcLen m ≤ room) && (m.dst == dst || m.dst == 0xFFF || dst == 0xFFF)

/-- A list without its first element that satisfies a condition. -/
def dropFirst {α : Type} (p : α → Bool) : List α → List α
  | [] => []
  | x :: xs => if p x then xs else x :: dropFirst p xs

/-- Take the oldest message that fits off the queue. -/
def Block.takeSvc (s : Block) (dst room : Nat) : Block × Option SvcMsg :=
  match s.szn.svcq.find? (fun m => svcFits m dst room) with
  | none => (s, none)
  | some m => (s.modSzn (fun z => { z with svcq := dropFirst (fun m => svcFits m dst room) z.svcq }), some m)

/-! ### Where a frame goes (R364) -/

/-- The ports of an own frame to `dst`: by the routing table on a Coordinator or Reserve, on every UP port for 0xFFF, else
the uplink pair. -/
def Block.slotPorts (s : Block) (dst : Nat) : List Nat :=
  let l := if s.isCoord then
      if dst = 0xFFF then s.upPorts
      else
        let r := sget (fun _ => {}) s.fab.rt dst
        (if r.xv then [r.xport] else []) ++ (if r.yv then [r.yport + 32] else [])
    else [s.szn.uplink, s.szn.uplink + 32]
  l.filter (fun p => s.portUp p)

/-- The channels on which the device sends in slots: MEMBER or HOLD and not cut off (R364, R376). -/
def Block.onChannel (s : Block) (p : Nat) : Bool := if p < 32 then s.bt R.SZN_STAT 8 else s.bt R.SZN_STAT 9

/-- The device sends in its slots (R38, R364, R370, R379, R398). -/
def Block.mayUseSlots (s : Block) : Bool :=
  (s.sznSt == 4 || s.sznSt == 5) && s.bt R.TB_STAT 1 && !s.tb.part && !s.bt R.FAB_STAT 3 && !s.szn.missedGo
    && decide (s.szn.sendFrom ≤ s.cyc)

/-- Send a frame of an own slot with the acknowledgement and a service message. -/
def Block.sendSlot (s : Block) (ports : List Nat) (dst room claim : Nat) (body : FrameBody) : Block :=
  if ports = [] then { s with tx := [] }
  else
    let r := s.takeSvc dst room
    r.1.sendOn ports { port := 0, src := s.ownEp, dst := dst, cycle := s.cyc % 2 ^ 32, claim := claim, ack := s.szn.ackOut,
                       body := body, svc := r.2 }

/-! ### The frame of a slot (R355) -/

/-- The TWIN body of this cycle (R413, R414, R416, R418): up to eight writes, the records of the snapshot, HANDOVER. -/
def Block.twinBody (s : Block) : TwinBody × Block :=
  let w := if s.redSt = 1 then s.red.twq.take 8 else []
  let l := if s.redSt = 1 then s.red.rsSnap else []
  let b : TwinBody := { health := !s.bt R.RED_CTRL 2, handover := s.red.hoTx, rs := s.red.rsOn, writes := w, records := l }
  let ended := l.any (fun r => r.kind == 7)
  let s := s.modRed (fun r => { r with
    twq := r.twq.drop w.length, twSent := w, hoTx := false, hoWait := if r.hoTx then 2 else r.hoWait,
    rsOn := r.rsOn && !ended, peerSt := if ended then 2 else r.peerSt })
  (b, s.setF R.RED_TW_STAT 0 5 s.red.twq.length)

/-- The LOAD frame to send (R394): the chunk after the one sent last, then chunk 0 of the next image. The data, and which image
comes next, are the command's, as nothing of the device holds the set. (log 41, DESIGN CHOICE) -/
def Block.nextLoad (s : Block) (ld : LoadBody) : LoadBody :=
  match s.fab.loadPos with
  | some (img, c, len) => if (c + 1) * 960 < len then { ld with img := img, chunk := c + 1, length := len } else { ld with chunk := 0 }
  | none => { ld with chunk := 0 }

/-- Own SAFETY slots of the entry toward the destination of `x` that start before it. -/
def Block.safetyBefore (s : Block) (x : Slot) : Nat :=
  (s.slots.filter (fun y => y.kind == 4 && y.sender == x.sender && y.dst == x.dst && decide (y.start < x.start))).length

/-- What goes in the slot `x`, if anything, and what sending it changes. -/
def Block.slotBody (s : Block) (i : Island) (x : Slot) (imus : List ImuItem) (tgts : List TgtItem) (ld : LoadBody) :
    Option (FrameBody × Block) :=
  if x.kind = 2 then
    let cs := slotCarrels x
    let l := cs.map (fun c => s.fbItemOf i c)
    some (.feedback l, forL (cs.zip l) (fun p s => s.fbSent p.1 p.2) s)
  else if x.kind = 3 then
    if s.isCoord && s.redSt != 3 && s.redSt != 4 then
      some (.command ((slotCarrels x).map (fun c => sget (fun _ => {}) s.red.out c)) (s.rdN R.FAB_DIGEST_LO), s)
    else none
  else if x.kind = 4 then (i.payload s.ownEp x.dst (s.safetyBefore x) s.cyc).map (fun p => (FrameBody.safety p, s))
  else if x.kind = 5 then
    some (if x.items.any (fun r => match r with
        | .target _ => true
        | _ => false) then .dataTgt tgts else .dataImu imus, s)
  else if x.kind = 7 then
    if s.bt R.SZN_STAT 3 && s.bt R.FAB_CTRL 1 then
      let l := s.nextLoad ld
      some (.load l, s.modFab (fun f => { f with loadPos := some (l.img, l.chunk, l.length) }))
    else none
  else if x.kind = 8 then
    let b := s.twinBody
    some (.twin b.1, b.2)
  else none

/-- The frame of the own slot j of the entry in use at its START (R364). (log 40, DEDUCED) -/
def islSlotSend (j : Nat) (imus : List ImuItem) (tgts : List TgtItem) (ld : LoadBody) (b : Block) (i : Island) : Block × Island :=
  if b.off then (b, i)
  else match b.slots[j]? with
    | none => (b, i)
    | some x =>
      let mine := if x.kind = 8 then b.isCoord && b.redSt == 1 else x.sender == b.ownEp
      let b := if mine && decide (b.tick ≤ x.start) then b.advanceToTick x.start else b
      if !mine || b.tick != x.start || !b.mayUseSlots then (b, i)
      else
        let dst := if x.kind = 8 then b.peerEp else x.dst
        let ports := (if x.kind = 8 then b.upPorts.filter b.twinPort else b.slotPorts dst).filter b.onChannel
        if ports = [] then (b, i)
        else match b.slotBody i x imus tgts ld with
          | none => (b, i)
          | some r =>
            let claim := if x.kind = 3 then b.ownClaim else 0
            (r.2.sendSlot ports dst (if x.kind = 8 then 0 else 4 * x.allow) claim r.1,
             if x.kind = 4 then { i with seq := i.seqOf b.cyc, seqCyc := b.cyc + 1 } else i)

/-! ### JOIN frames (R376 to R378) -/

/-- The ports of a JOIN frame: the pair on which the time master's frame of this cycle came, once a member the uplink; by
the routing table on a Coordinator or Reserve. (log 91, DEDUCED) -/
def Block.joinPorts (s : Block) (dst : Nat) : List Nat :=
  if s.isCoord || s.sznSt == 4 || s.sznSt == 5 then s.slotPorts dst
  else match s.szn.csSeen with
    | some (_, _, k) => [k % 32, k % 32 + 32].filter (fun p => s.portUp p)
    | none => []

/-- A JOIN frame in the device's own join window with the oldest service message that fits: 96 bytes at most (R377). (log 41, DESIGN CHOICE; 91, DEDUCED) -/
def Block.sendJoin (s : Block) : Block :=
  let st := s.sznSt
  if st = 0 ∨ st = 6 then s
  else
    let s := s.advanceToTick (s.catEntry s.entry).joinStart
    match s.szn.svcq.find? (fun m => decide (4 + svcLen m ≤ 76)) with
    | none => s
    | some m =>
      let ports := s.joinPorts m.dst
      if s.tick < (s.catEntry s.entry).joinStart ∨ ports = [] then s else s.sendSlot ports m.dst 76 0 .join

/-! ### CYCLE_START of the time master (R357, R366, R370, R378) -/

/-- The body of the CYCLE_START frame of cycle n. -/
def Block.csBody (s : Block) (n : Nat) : CsBody :=
  let w := s.szn.sw
  { deckTime := n * 15625
    entry := s.entry
    go := match w with | some w => w.go && w.count == 1 | none => false
    abort := match w with | some w => w.abort && w.count == 1 | none => false
    swTarget := match w with | some w => w.target | none => 0
    swId := match w with | some w => w.id | none => 0
    swCount := match w with | some w => w.count | none => 0
    seat := s.seat
    digest := s.rd64 R.FAB_DIGEST_LO
    rev := s.fl R.SYS_ID 0 8
    fwset := s.fl R.FAB_FWSET 0 24
    cold := s.szn.coldFlag }

/-- The time master sends CYCLE_START on every UP port at tick 0, and none in a part-cycle (R38, R366). -/
def Block.sendCs (s : Block) (n : Nat) : Block :=
  if !s.bt R.SZN_STAT 3 || s.sznSt == 0 || s.sznSt == 6 then s
  else
    let s := if s.sznSt = 2 then s.modSzn (fun z => { z with coldSent := z.coldSent + 1 }) else s
    let s := s.wrN R.TB_OFFSET 0
    let s := (s.setF R.SZN_TM 0 12 s.ownEp).setF R.SZN_TM 12 16 s.ownClaim
    s.sendOn s.upPorts { port := 0, src := s.ownEp, dst := 0xFFF, cycle := n % 2 ^ 32, claim := s.ownClaim, ack := s.szn.ackOut,
                         body := .cycleStart (s.csBody n) }

/-! ### The meanings -/

def execSlotFrameSend (j : Fin 65) (imus : List ImuItem) (tgts : List TgtItem) (ld : LoadBody) (s : State) : Out :=
  onIsl (fun b i => if j.val = 64 then (if b.off then b else b.sendJoin, i) else islSlotSend j.val imus tgts ld b i) s

end Sys2Proof.Machine
end

