-- ==== Sys2Proof/Machine/Cycle.lean ====
section
/-! DEFINITION. The cycle (02_cycle_and_time_base.md): the deadlines of R42 and R43 with what falls at them, the phase
step of Deck Time (R38) and the Service Tick (R54). The deadlines act while a cycle exists (TB_STAT.CYCLE_RUN) and not in
a part-cycle. -/

namespace Sys2Proof.Machine

/-- FBD and APD in ticks (R42, R43). -/
def Block.fbd (s : Block) : Nat := s.fl R.TB_FB_DEADLINE 0 12
def Block.apd (s : Block) : Nat := s.fl R.TB_APP_DEADLINE 0 12

/-! ### The phase step (R38) -/

/-- The pending phase step at a cycle boundary: refused while a carrel is enabled; a step that is no multiple of a cycle
begins a part-cycle, after any other the cycle of the new number is still to start. -/
def Block.deckStep (s : Block) : Block :=
  match s.tb.stepPend with
  | none => s
  | some d =>
    let s := { s with tb := { s.tb with stepPend := none } }
    if s.anyCarrelEn then s.tbFlag 3
    else
      let k : Int := 5 * (d / 5)
      let s := s.setDeck (lowBits 64 (s.tb.dt + k))
      if k % 15625 = 0 then { s with tb := { s.tb with cycDone := s.cycle } } else { s with tb := { s.tb with part := true } }

/-- A part-cycle ends at the next cycle boundary. -/
def Block.endPart (s : Block) : Block := { s with tb := { s.tb with part := false } }

/-- DECK_TIME_STEP_COMMIT: a write of TB_STEP_HI commits the pair (R38, R74). -/
def opDeckTimeStepCommit (snd : Sender) (v : Word) (s : Block) : Block := wCommon R.TB_STEP_HI 0x68 snd v s

/-! ### Tick 0 -/

/-- Counts of cycles at a local cycle start, and what missed its deadline comes up for the next (R44): frames of the time master missed (R39), the listen count (R370), HOLD (R370),
waiting messages and remote accesses (R361, R362), reports (R398, R407, R416), the COLD arbitration (R371), a rejoining
channel (R376), a switch on its way (R378). (log 32, DEDUCED) -/
def Block.countCycle (s : Block) : Block :=
  let s := { s with tb := { s.tb with lost := s.tb.lost + 1 } }
  let s := if s.sznSt = 1 then s.setF R.SZN_STAT 10 7 (s.fl R.SZN_STAT 10 7 - 1) else s
  let max := s.fl R.SZN_HOLD_MAX 0 8
  let hold := s.sznSt == 5
  let busy := s.fl R.SZN_RA_STAT 0 2 == 1
  let s := forL s.szn.imuNext (fun x s => s.imuSample x.1 x.2.1 x.2.2) s
  let s := forL s.szn.tgtNext (fun x s => s.targetItem x.1 x.2) s
  let s := s.modSzn (fun z => { z with
    holdCnt := if hold then z.holdCnt + 1 else z.holdCnt
    raWait := if busy then z.raWait + 1 else z.raWait
    svcq := z.svcq.map (fun m => { m with waited := m.waited + 1 })
    coldAbsent := z.coldAbsent + 1
    fbLate := z.fbNext, fbNext := [], imuNext := [], tgtNext := []
    cmdLate := z.cmdNext, cmdNext := []
    coldWinX := if max ≤ z.coldAbsent + 1 then none else z.coldWinX
    coldWinY := if max ≤ z.coldAbsent + 1 then none else z.coldWinY })
  let s := s.modFab (fun f => { f with misCnt := f.misCnt + 1, waitCnt := f.waitCnt + 1 })
  let s := s.modRed (fun r => { r with reqCnt := r.reqCnt + 1, discCnt := r.discCnt + 1, rsSnap := [], hoTest := r.hoTest.map (· + 1) })
  let s := if s.szn.rejoinX = 1 then (s.setB R.SZN_STAT 8 true).modSzn (fun z => { z with cutX := false }) else s
  let s := if s.szn.rejoinY = 1 then (s.setB R.SZN_STAT 9 true).modSzn (fun z => { z with cutY := false }) else s
  let s := s.modSzn (fun z => { z with rejoinX := z.rejoinX - 1, rejoinY := z.rejoinY - 1 })
  s.countLost.guardCycle.switchCycle

/-- Twin writes of an ACTIVE coordinator that sent no TWIN frame for want of a slot or a link go without one (R414). (log 40, DEDUCED) -/
def Block.twinAlone (s : Block) : Block :=
  if s.redSt ≠ 1 ∨ s.red.twSent ≠ [] ∨ (s.slots.any (fun x => x.kind == 8) && s.upPorts.any s.twinPort) = true then s
  else
    let s := s.modRed (fun r => { r with twSent := r.twq.take 8, twq := r.twq.drop 8 })
    s.setF R.RED_TW_STAT 0 5 s.red.twq.length

/-- FREQUENCY_TRIM_FORM: the trim in force is formed afresh at the boundary after a write (R37). -/
def Block.formTrim (s : Block) : Block :=
  if !s.tb.adjPend then s
  else
    let s := { s with tb := { s.tb with adjPend := false } }
    if !s.bt R.SZN_STAT 3 then s
    else
      let lim : Int := (s.fl R.TB_SLEW_MAX 0 7 : Nat) * 1024000
      let v := s.rdI R.TB_FREQ_ADJ
      let y := clamp v (-lim) lim
      let s := { s with tb := { s.tb with trim := y } }
      if y ≠ v then s.tbFlag 4 else s

/-- A cycle boundary's phase step (R38); where it begins a part-cycle, the boundary's tick 0 does not come, and the trim is
formed there (R37). -/
def Block.boundaryStep (s : Block) : Block :=
  let s := s.advanceToNext.endPart.deckStep
  if s.tb.part then s.formTrim else s

/-- DECK_TIME_STEP: time moves on to the boundary at which the step acts. -/
def opDeckTimeStep (s : Block) : Block := if s.tb.stepPend.isSome then s.boundaryStep else s

/-- STEP_VELOCITY_SET at the tick 0 after APD (R182): V := (P_c − P_n) / 3125 of each step carrel with a new item. -/
def Block.stepVelocity (s : Block) : Block :=
  if !s.isNode then s
  else forL s.enCars (fun c s =>
    let x := s.nodeCmd c
    if x.item.step && x.item.en && s.psOut c == 1 && s.psSt c != 7 then
      let s := s.setNodeCmd c { x with item := { x.item with step := false } }
      let v := tdiv (x.item.value - (s.prf c).p) 3125 * 65536
      s.setVel c v (v - (s.prf c).v)
    else s) s

/-- The application side at tick 0 of cycle n, before the island's part and the CYCLE_START frame. -/
def Block.cycleApp (s : Block) (n : Nat) : Block × List MemOp :=
  let s := { s with tb := { s.tb with cycDone := n + 1, part := false } }
  let s := s.countCycle.twinAlone.twinCycle
  let r := s.adoptRecs n
  let s := r.1.handoverCycle.formTrim.carrelCycle.stepVelocity
  (if s.bt R.TB_STAT 1 then s.postEv 0x0E0 else s, r.2)

/-- CYCLE_START_TICK (R42, R43): tick 0 of the next cycle. `diff` says that the island's channels differ, and `off` in which
outputs one alone demands off (R323), `e` what the ECC of the Catalogue finds as the entry in use is read for the cycle (R382). (log 32, DEDUCED) -/
def opCycleStartTick (diff : Bool) (off : Nat) (e : Ecc) (b : Block) (i : Island) : (Block × Island) × List MemOp :=
  if b.off then ((b, i), [])
  else
    let b := b.boundaryStep
    if b.tb.part then ((b, i), [])
    else
      let n := b.cycle
      let r := (b.sznEcc e).cycleApp n
      let q := if r.1.bt R.TB_STAT 1 then islTick0 n diff off r.1 i else (r.1, i)
      ((q.1.sendCs n, q.2), r.2)

/-! ### FBD (R42) -/

/-- A REMOTE carrel takes its newest item, else keeps the previous one with AGE one higher (R44, R45). (log 34, DEDUCED) -/
def Block.takeItem (s : Block) (c : Nat) : Block :=
  let new := sget (fun _ => none) s.szn.fbNew c
  let late := sget (fun _ => none) s.szn.fbLate c
  match (match new with
    | some it => some it
    | none => late) with
  | some it => s.setLp c { s.lp c with pfb := counts it.pos, vfb := it.vfb, status := it.status, age := it.age }
  | none => (s.setLp c { s.lp c with age := satAdd (s.lp c).age 1 255 }).tbFlag 0

/-- The result of a REMOTE carrel's homing in the status of its items (R181): done sets P to the node's position; `seen`
guards against the result of an earlier homing. (log 37, DEDUCED) -/
def Block.remoteHome (s : Block) (c : Nat) : Block :=
  let x := s.prf c
  if s.carLocal c || s.psSt c != 7 || x.ref then s
  else
    let h := (s.lp c).status / 2 ^ 9 % 4
    let seen := x.sw || decide (4 ≤ x.dwell)
    if h = 1 then s.setPrf c { x with sw := true }
    else if h = 2 ∧ seen = true then
      let s := s.presetP c (counts (intPart (s.lp c).pfb))
      s.setPrf c { s.prf c with ref := true }
    else if h = 3 ∧ seen = true then s.homeFail c
    else s.setPrf c { x with dwell := x.dwell + 1 }

/-- A LOCAL carrel takes the newest sigma-delta values of its channel at FBD (R42); its current loop runs on those of SE. -/
def Block.takeSdm (s : Block) (c : Nat) : Block :=
  let p := s.fl (R.CAR_BIND c) 2 4
  let b := s.fl (R.PWM_CH_SDM p) 0 6
  if s.bt (R.CAR_BIND c) 1 = false ∧ s.sdmEn p = true then s.setLp c { s.lp c with ia := s.rdI (R.SDM_IN_VAL b), ib := s.rdI (R.SDM_IN_VAL (b + 1)) }
  else s

/-- FEEDBACK_LATCH at FBD of a Coordinator or Reserve (R42): interfaces, carrels, safety items, scene, samples. -/
def islFeedbackLatch (spi : List (Nat × List Byte)) (b : Block) (i : Island) : Block × Island :=
  if b.off || !b.isCoord || !b.deadline b.fbd then (b, i)
  else
    let b := b.advanceToTick b.fbd
    let n := b.cycle
    let b := forN 24 (fun f s => if s.fbMode f = 0 then s.offLatch f else s.cycleLatch f) b
    let b := forL b.cfg.cars (fun c s => if s.carLocal c then (s.takeLatch c).takeSdm c else (s.takeItem c).remoteHome c) b
    let b := b.modSzn (fun z => { z with fbNew := [], fbLate := [] })
    let r := (List.range 24).foldl (fun r f => islLatchFb f r.1 r.2) (b, i)
    let r := islLatchItems r.1 r.2
    let r := if i.isDecider then (r.1, (islCombine 0 r.1 r.2).2) else r
    let b := ((r.1.spiImus n spi).fkStart n).vmfStart n
    islPassStart n b r.2

/-! ### The profile tick and the loop pass (R42) -/

/-- A stop of rows 1 to 4 of R166 at this profile tick ends an injection into its carrel (R237). -/
def Block.injStops (s : Block) : Block :=
  forL s.enCars (fun c s => if 1 ≤ (s.prf c).row ∧ (s.prf c).row ≤ 4 then s.injEnd c true else s) s

/-- PROFILE_TICK at FBD + 4 (R42, R47, R166, R329). A Node's sequencer serves homing and step outputs (R17). (log 50, DEDUCED) -/
def islProfileTick (b : Block) (i : Island) (mem : Mem) : (Block × Island) × List MemOp :=
  if b.off || b.isHub || !b.deadline (b.fbd + 4) then ((b, i), [])
  else
    let b := b.advanceToTick (b.fbd + 4)
    let n := b.cycle
    let b := islProfile i b.takeWrites
    let b := ((b.vmfOverrun n).solveHandover n).taHandover n
    let b := b.profTick.injStops
    let r := ((b.ikStart mem n).taStart n).dpStart
    ((r.1, i), r.2)

/-- LOOP_PASS_START at FBD + 20 (R42, R222). -/
def opLoopPassStart (s : Block) : Block :=
  if s.deadline (s.fbd + 20) then
    let s := s.advanceToTick (s.fbd + 20)
    s.loopPass s.cycle
  else s

/-- LOOP_PASS_DONE at FBD + 620 (R42, R228, R235, R416). A step item carries P_c, one cycle after the profile tick: 2509
ticks from here (R182). -/
def opLoopPassDone (s : Block) (mem : Mem) : Block × List MemOp :=
  if s.deadline (s.fbd + 620) then
    let s := s.advanceToTick (s.fbd + 620)
    let n := s.cycle
    ((forN 4 (fun w s => s.passDone w n 2509) s).rsSnapshot mem n, [])
  else (s, [])

/-! ### APD of a Node (R43, R400, R404 to R406) -/

/-- A node carrel acts on EN = 0 as R229 states for a disabled LOCAL carrel (R359). (log 33, DEDUCED) -/
def Block.nodeOff (s : Block) (c : Nat) : Block :=
  if !s.carEn c || (s.lp c).idle then s
  else
    let s := (s.injEnd c true).profDisable c
    s.setLp c { s.lp c with idle := true, zero := s.curFed c, iref := 0, qref := 0 }

/-- A node carrel acts on an item with EN = 1: the loops start afresh after EN = 0. (log 33, DEDUCED) -/
def Block.nodeOn (s : Block) (c : Nat) : Block :=
  if (s.lp c).idle then s.setLp c { s.lp c with idle := false, id := 0, iq := 0, zero := false } else s

/-- Method 8 on a node: the count and P take the item's value (R179, R181). (log 49, DEDUCED) -/
def Block.nodeHomeSet (s : Block) (c : Nat) (v : Int) : Block :=
  let f := s.fbOf c
  let s := s.presetP c (counts v)
  let s := (s.setPrf c { s.prf c with v := 0, inc := 0, vt := 0, home := false }).setB (R.PS_STAT c) 3 false
  let s := if s.psOut c = 1 then s
    else s.presetCount f v 0
  s.homeDone c

/-- Apply a command item to a node carrel (R359, R400, R405); true where it was applied. (log 49, DEDUCED) -/
def Block.applyItem (s : Block) (c : Nat) (it : CmdItem) : Block × Bool :=
  let x := s.nodeCmd c
  let k := seqClass x.last s.red.fresh it.seq
  if k.1 = 2 then (s.fabFlag 5, false)
  else
    let s := s.setNodeCmd c { x with item := it, last := some it.seq, late := false }
    if !s.carEn c then (s, true)
    else if !it.en then (s.nodeOff c, true)
    else
      let s := s.nodeOn c
      let s := if it.homeSet then (if k.2 then s.nodeHomeSet c it.value else s)
        else if it.home then (if k.2 then s.setPrf c { s.prf c with home := true } else s)
        else s
      let lim : Int := (s.curLim c : Nat)
      (if it.step || it.homeSet then s else s.setLp c { s.lp c with qref := clamp it.value (-lim) lim }, true)

/-- The carrels of the command slots toward this node. -/
def Block.mappedCars (s : Block) : List Nat :=
  ((s.slots.filter (fun x => x.kind == 3 && x.dst == s.ownEp)).flatMap slotCarrels).dedup

/-- A carrel that got no item holds its previous set-point (R45). (log 34, DEDUCED) -/
def Block.holdItem (s : Block) (c : Nat) : Block :=
  ((s.setNodeCmd c { s.nodeCmd c with late := true }).incSat R.TB_CMD_LATE_CNT 0 16).tbFlag 1

/-- ORPHAN (R406): once the count of APDs without a valid claim reaches MAX. -/
def Block.orphan (s : Block) (was : Nat) : Block :=
  let n := s.fl R.RED_ORPHAN 8 4
  let max := s.fl R.RED_ORPHAN 0 4
  if n < max then s
  else
    let s := forL s.enCars (fun c s => s.nodeOff c) s
    if was < max then s.redFlag 1 else s

/-- The command latch of a Node's application side (R404 to R407). -/
def Block.commandLatch (s : Block) : Block :=
  let was := s.fl R.RED_ORPHAN 8 4
  let r := s.discrepancy.claimGate
  let q : Block × List Nat := match r.2 with
    | none => (r.1, [])
    | some (src, _, items) =>
      let map := match r.1.slotOf src 3 r.1.ownEp with
        | some x => slotCarrels x
        | none => []
      (map.zip items).foldl (fun (a : Block × List Nat) p =>
        let t := a.1.applyItem p.1 p.2
        (t.1, if t.2 then p.1 :: a.2 else a.2)) (r.1, [])
  let s := q.1.modRed (fun x => { x with fresh := x.fresh && r.2.isNone })
  let s := forL (s.mappedCars.filter (fun c => !q.2.contains c)) (fun c s => s.holdItem c) s
  (s.orphan was).modSzn (fun z => { z with cmdNew := [], cmdLate := [] })

/-- COMMAND_LATCH at APD of a Node (R43, R330, R404). -/
def islCommandLatch (kfb : Nat) (b : Block) (i : Island) : Block × Island :=
  if b.off || !b.isNode || !b.deadline b.apd then (b, i)
  else
    let b := b.advanceToTick b.apd
    let r := islLatchItems b.commandLatch i
    islCombine kfb r.1 r.2

/-! ### The Service Tick (R54, R76, R116) -/

/-- SERVICE_TICK: the delay lists, the event and the count while SVC_EN is 1, and the SAFE mirror while no cycle exists. -/
def islServiceTick (b : Block) (i : Island) : Block × Island :=
  if b.off || !b.tb.svcRun then (b, i)
  else
    let b := if b.bt R.TB_CTRL 3 then (b.wrN R.TB_SVC_CNT (b.rdN R.TB_SVC_CNT + 1)).postEv 0x150 else b
    let b := b.svcTmo
    (if b.bt R.TB_STAT 1 || i.held then b else mirror (b.rdN R.TB_SVC_CNT) i b, i)

/-! ### The meanings -/

def execCycleStartTick (diff : Bool) (s : State) (ecc : Ecc := .none) (off : Fin 4096 := 0) : Out :=
  onAll (fun b i _ => opCycleStartTick diff off.val ecc b i) s
def execFeedbackLatch (spi : List (Nat × List Byte)) (s : State) : Out := onIsl (islFeedbackLatch spi) s
def execProfileTick (s : State) : Out := onAll islProfileTick s
def execLoopPassStart (s : State) : Out := ifRun (onApp opLoopPassStart) s
def execLoopPassDone (s : State) : Out := ifRun (onMem opLoopPassDone) s
def execCommandLatch (s : State) (kfb : Fin 16 := 15) : Out := onIsl (islCommandLatch kfb.val) s
def execServiceTick (s : State) : Out := onIsl islServiceTick s
def execDeckTimeStepCommit (snd : Sender) (v : Word) (s : State) : Out :=
  onApp (busWrite snd R.TB_STEP_HI v (opDeckTimeStepCommit snd v)) s
def execDeckTimeStep (s : State) : Out := ifRun (onApp opDeckTimeStep) s
def execStallEventAdmit (s : State) : Out := ifRun (onApp Block.admitHeld) s

end Sys2Proof.Machine
end

