-- ==== Sys2Proof/Machine/Remote.lean ====
section
/-! DEFINITION. Accesses that other devices and the host bring: remote register access (R362, R400), the loader's READ and
WRITE (R390, R392), the PCIe windows (R452, R453), and the twin writes of the Active (R414). -/

namespace Sys2Proof.Machine

/-! ### Accesses of several words -/

/-- What a remote access has come to: the block, what is stored, the words read, RESULT and REASON (R361, R388), and whether
an access would wait. -/
structure Remote where
  blk : Block
  ops : List MemOp := []
  words : List Nat := []
  result : Nat := 0
  reason : Nat := 0
  waits : Bool := false

/-- RESULT and REASON of the last access: 1 refused with its reason, 2 an error response. -/
def Remote.close (r : Remote) : Remote :=
  if r.blk.answer.why ≠ 0 then { r with result := 1, reason := r.blk.answer.why }
  else if r.blk.answer.error then { r with result := 2 } else r

/-- One word read: through the outbound window the host's completion gives the word, a free value. (log 69, DEDUCED) -/
def Remote.readWord (snd : Sender) (disc : Bool) (n : Nv) (mem : Mem) (r : Remote) (a : Nat) : Remote :=
  if r.result ≠ 0 || r.waits then r
  else
    let s := anyRead disc snd a n r.blk mem
    if s.answer.stalled then
      if s.region a = .outbound then
        let s := (s.modHost (fun h => { h with obRd := h.obRd.dropLast })).reply (Config.freeNat s.free % 2 ^ 32)
        { r with blk := s.useFree, words := r.words ++ [s.answer.data] }
      else { r with waits := true }
    else { r with blk := s, words := r.words ++ [s.answer.data] }.close

/-- One word written. (log 85, DESIGN CHOICE) -/
def Remote.writeWord (snd : Sender) (disc : Bool) (n : Nv) (mem : Mem) (r : Remote) (p : Nat × Nat) : Remote :=
  if r.result ≠ 0 || r.waits then r
  else
    let q := anyWrite true disc snd p.1 (BitVec.ofNat 32 p.2) (napply n r.ops) r.blk (mapply mem r.ops)
    if q.1.answer.stalled then { r with waits := true } else { r with blk := q.1, ops := r.ops ++ q.2 }.close

/-- N words read at ascending addresses, up to the first that fails. -/
def Block.readWords (s : Block) (snd : Sender) (disc : Bool) (a cnt : Nat) (n : Nv) (mem : Mem) : Remote :=
  ((List.range cnt).map (fun i => a + 4 * i)).foldl (fun r x => r.readWord snd disc n mem x) { blk := s }

/-- Words written at ascending addresses, up to the first that fails. (log 86, DEDUCED) -/
def Block.writeWords (s : Block) (snd : Sender) (disc : Bool) (a : Nat) (ws : List Nat) (n : Nv) (mem : Mem) : Remote :=
  (((List.range ws.length).map (fun i => a + 4 * i)).zip ws).foldl (fun r x => r.writeWord snd disc n mem x) { blk := s }

/-! ### ACCESS_REQ (R362, R400) -/

/-- The agent of a frame (R75, R128): code 11 with the frame's SRC. -/
def remoteAgent (src : Fin 4096) : Sender := { agent := 11, ep := src }

/-- ACCESS_REQ: a request repeated with the SRC and TAG of the last one returns the stored response. An access that would
wait leaves the request where it is. -/
def opAccessReq (src : Fin 4096) (tag cnt : Nat) (wr : Bool) (a : Nat) (ws : List Word) (n : Nv) (s : Block) (mem : Mem) :
    Block × List MemOp :=
  let last := sget (fun _ => ((0, []) : Nat × List Nat)) s.szn.raLast src.val
  let answer := fun (s : Block) (body : List Nat) => s.svcPut { typ := 0x02, body := body, dst := src.val }
  if last.1 = tag + 1 then (answer s last.2, [])
  else
    let r := if cnt = 0 then { blk := s, result := 1, reason := Reason.range.code }
      else if wr then s.writeWords (remoteAgent src) false a ((ws.take cnt).map BitVec.toNat) n mem
      else s.readWords (remoteAgent src) false a cnt n mem
    if r.waits then (s.waits, [])
    else
      let body := [tag, r.result, r.reason] ++ (if wr || r.result != 0 then [] else r.words)
      let s := r.blk.modSzn (fun z => { z with raLast := sset (fun _ => (0, [])) z.raLast src.val (tag + 1, body) })
      (answer s body, r.ops)

/-! ### The loader (R390, R392) -/

/-- READ: always, through the loader. Its operand is the address and N, as many words as a reply holds (R388). (log 89, DESIGN CHOICE) -/
def opRead (k : Nat) (src : Fin 4096) (b : DiscBody) (n : Nv) (s : Block) (mem : Mem) : Block × List MemOp :=
  let r := s.readWords (remoteAgent src) true (b.operand.getD 0 0) (b.operand.getD 1 0) n mem
  let first := (sget (fun _ => (0, ({ op := 0 } : DiscBody))) s.fab.opLast src.val).1 != b.tag + 1
  if first && (b.operand.getD 1 0 == 0 || decide (13 < b.operand.getD 1 0)) then (s.discReply k src.val b 1 Reason.range.code [], [])
  else if first && r.waits then (s.waits, [])
  else (s.discOnce k src.val b (fun _ => r.blk.discReply k src.val b r.result r.reason (if r.result = 0 then r.words else [])), [])

/-- WRITE: in phase OPEN, one to eleven words; after SEAL RESULT 3 and nothing changes. -/
def opWrite (k : Nat) (src : Fin 4096) (b : DiscBody) (n : Nv) (s : Block) (mem : Mem) : Block × List MemOp :=
  let cnt := b.operand.getD 1 0
  let r := s.writeWords (remoteAgent src) true (b.operand.getD 0 0) ((b.operand.drop 2).take cnt) n mem
  let first := (sget (fun _ => (0, ({ op := 0 } : DiscBody))) s.fab.opLast src.val).1 != b.tag + 1
  if !first then (s.discOnce k src.val b id, [])
  else if s.phase = 2 then (s.discReply k src.val b 3 0 [], [])
  else if cnt = 0 ∨ 11 < cnt then (s.discReply k src.val b 1 Reason.range.code [], [])
  else if r.waits then (s.waits, [])
  else (r.blk.discReply k src.val b r.result r.reason [], r.ops)

/-! ### The host (R452, R453, R456) -/

/-- The PCIe host as a sender (R75). -/
def hostAgent : Sender := { agent := 10 }

/-- An access of the host within a window: nothing while the link is down. -/
def opTlpWindow (w off : Nat) (wr : Bool) (val : Word) (poisoned : Bool) (n : Nv) (s : Block) (mem : Mem) :
    Block × List MemOp :=
  let a := s.fl (R.PCIE_IB_BASE w) 0 16 * 2 ^ 24 + off
  if wr && poisoned then (({ s with answer := {} } : Block).pcieFlag 4, [])
  else if wr && !s.bt (R.PCIE_IB_CFG w) 0 then (({ s with answer := {} } : Block).pcieFlag 0, [])
  else if wr then anyWrite true s.discOpen hostAgent a val n s mem
  else (anyRead s.discOpen hostAgent a n s mem, [])

/-- An access of BAR4: the table at 0x000, the pending bits at 0x800; elsewhere nothing is kept. -/
def opTlpMsix (off : Nat) (wr : Bool) (val : Word) (poisoned : Bool) (s : Block) : Block :=
  let s : Block := { s with answer := {} }
  if wr && poisoned then s.pcieFlag 4
  else if wr then (if off < 0x400 then s.msixWrite (off / 4) val.toNat else s)
  else if off < 0x400 then s.reply (s.msixWord (off / 4))
  else if off / 4 = 0x200 then s.reply ((s.host.pba.filter (fun v => decide (v < 32))).map (fun v => 2 ^ v)).sum
  else if off / 4 = 0x201 then s.reply ((s.host.pba.filter (fun v => decide (32 ≤ v))).map (fun v => 2 ^ (v - 32))).sum
  else s

/-- PCIE_INBOUND_TLP. -/
def opInboundTlp (t : PcieTlp) (n : Nv) (s : Block) (mem : Mem) : Block × List MemOp :=
  if !s.bt R.PCIE_STAT 0 then (s, [])
  else match t with
    | .window w off wr val poisoned => opTlpWindow w.val off.val wr val poisoned n s mem
    | .msix off wr val poisoned => (opTlpMsix off.val wr val poisoned s, [])
    | .control bm fmask => ((s.setB R.PCIE_STAT 6 bm).msixFunc fmask, [])

/-! ### Twin writes (R414) -/

/-- What still refuses a twin write, for which every RWL target is open and R75 has been answered by GO. (log 87, DEDUCED) -/
def Block.twinRefusal (s : Block) (a : Nat) : Option Reason :=
  match regDef a with
  | none => some .reserved
  | some r =>
    if !s.domOn (pageBase a) then some .domainOff
    else if r.wo != 0 && decide (0x40 ≤ a % 0x1000) && !s.pageEn (pageBase a) then some .state
    else none

/-- One twin write as an access accepted in this tick: the Active makes it as the writer's agent and the other
coordinator as agent 11. (log 87, DEDUCED) -/
def applyTwin (n : Nv) (mem : Mem) (p : Block × List MemOp) (w : TwinWrite) : Block × List MemOp :=
  let snd : Sender := if p.1.redSt = 1 then { agent := Fin.ofNat 14 w.agent } else { agent := 11, ep := Fin.ofNat 4096 p.1.peerEp }
  let s : Block := { p.1 with answer := {} }
  match s.twinRefusal w.addr with
  | some r => (s.refuse true w.addr snd r, p.2)
  | none =>
    let q := takeWrite true snd w.addr w.val (napply n p.2) s (mapply mem p.2)
    (q.1, p.2 ++ q.2)

/-- TWIN_WRITE_APPLY at tick 100: the writes of the previous frame, in frame order. -/
def opTwinWriteApply (n : Nv) (s : Block) (mem : Mem) : Block × List MemOp :=
  let s := s.advanceToTick 100
  s.red.twNow.foldl (applyTwin n mem) (s.modRed (fun r => { r with twNow := [] }), [])

/-! ### The meanings -/

def execAccessReq (src : Fin 4096) (tag : Nat) (cnt : Fin 9) (wr : Bool) (a : Fin (2 ^ 40)) (ws : List Word) (s : State)
    (also : List BusReq := []) : Out :=
  ifRun (onWrite (amongReqs (remoteAgent src) also (fun n b m => opAccessReq src tag cnt.val wr a.val ws n b m) s.nv)) s
def execWrite (k : PortIx) (src : Fin 4096) (b : DiscBody) (s : State) : Out :=
  ifRun (onWrite (opWrite k.val src b s.nv)) s
def execRead (k : PortIx) (src : Fin 4096) (b : DiscBody) (s : State) : Out :=
  ifRun (onWrite (fun x m => opRead k.val src b s.nv x m)) s
def execPcieInboundTlp (t : PcieTlp) (s : State) (also : List BusReq := []) : Out :=
  ifRun (onWrite (amongReqs hostAgent also (fun n b m => opInboundTlp t n b m) s.nv)) s
def execTwinWriteApply (s : State) : Out := ifRun (onWrite (opTwinWriteApply s.nv)) s

end Sys2Proof.Machine
end

