-- ==== Sys2Proof/Machine/Dispatch.lean ====
section
/-! DEFINITION. The meaning of every command, one arm each. -/

namespace Sys2Proof.Machine

/-- The effect of a command on everything but the queue. -/
def exec (i : Instr) (s : State) : Host.Outcome State Fault Refusal :=
  match i with
  | .powerOnReset also => Sys2Proof.Machine.execPowerOnReset s also
  | .pornRelease straps => Sys2Proof.Machine.execPornRelease straps s
  | .brownoutDetect also => Sys2Proof.Machine.execBrownoutDetect s also
  | .brownoutRelease straps => Sys2Proof.Machine.execBrownoutRelease straps s
  | .externalReset also => Sys2Proof.Machine.execExternalReset s also
  | .watchdogExpire also => Sys2Proof.Machine.execWatchdogExpire s also
  | .watchdogKick snd v => Sys2Proof.Machine.execWatchdogKick snd v s
  | .watchdogEnable snd v => Sys2Proof.Machine.execWatchdogEnable snd v s
  | .softwareReset snd v also => Sys2Proof.Machine.execSoftwareReset snd v s also
  | .safetyIslandResetRequest also => Sys2Proof.Machine.execSafetyIslandResetRequest s also
  | .debugSystemReset snd v also => Sys2Proof.Machine.execDebugSystemReset snd v s also
  | .applicationRelease => Sys2Proof.Machine.execApplicationRelease s
  | .otpReadDone => Sys2Proof.Machine.execOtpReadDone s
  | .memoryInitDone => Sys2Proof.Machine.execMemoryInitDone s
  | .imageFetchDone images => Sys2Proof.Machine.execImageFetchDone images s
  | .imageVerify => Sys2Proof.Machine.execImageVerify s
  | .configImageAccept h img => Sys2Proof.Machine.execConfigImageAccept h img s
  | .safetyPowerOnReset => Sys2Proof.Machine.execSafetyPowerOnReset s
  | .alwaysOnPowerUp writing => Sys2Proof.Machine.execAlwaysOnPowerUp writing s
  | .registerWrite a snd v w hi also => Sys2Proof.Machine.execRegisterWrite a snd v s w hi also
  | .decodeErrorClear snd v => Sys2Proof.Machine.execDecodeErrorClear snd v s
  | .postedWriteComplete p hw => Sys2Proof.Machine.execPostedWriteComplete p s hw
  | .pairLoRead a snd w ecc also => Sys2Proof.Machine.execPairLoRead a snd s w ecc also
  | .pairHiWrite a snd v => Sys2Proof.Machine.execPairHiWrite a snd v s
  | .pageSoftReset p snd => Sys2Proof.Machine.execPageSoftReset p snd s
  | .pageSoftResetDone p => Sys2Proof.Machine.execPageSoftResetDone p s
  | .pageDisable p snd => Sys2Proof.Machine.execPageDisable p snd s
  | .pageEnable p snd => Sys2Proof.Machine.execPageEnable p snd s
  | .irqForce p snd v => Sys2Proof.Machine.execIrqForce p snd v s
  | .irqClear p snd v hw => Sys2Proof.Machine.execIrqClear p snd v s hw
  | .pageLockKey p snd => Sys2Proof.Machine.execPageLockKey p snd s
  | .pageLockClose p snd => Sys2Proof.Machine.execPageLockClose p snd s
  | .lockWindowExpire p => Sys2Proof.Machine.execLockWindowExpire p s
  | .cycleStartTick diff ecc off => Sys2Proof.Machine.execCycleStartTick diff s ecc off
  | .feedbackLatch spi => Sys2Proof.Machine.execFeedbackLatch spi s
  | .profileTick => Sys2Proof.Machine.execProfileTick s
  | .targetReached c => Sys2Proof.Machine.execTargetReached c s
  | .loopPassStart => Sys2Proof.Machine.execLoopPassStart s
  | .loopPassDone => Sys2Proof.Machine.execLoopPassDone s
  | .commandLatch kfb => Sys2Proof.Machine.execCommandLatch s kfb
  | .sampleWindowEnd p u v w => Sys2Proof.Machine.execSampleWindowEnd p u v w s
  | .currentLoopDone p wait => Sys2Proof.Machine.execCurrentLoopDone p wait s
  | .pwmReload p => Sys2Proof.Machine.execPwmReload p s
  | .serviceTick => Sys2Proof.Machine.execServiceTick s
  | .deckTimeStepCommit snd v => Sys2Proof.Machine.execDeckTimeStepCommit snd v s
  | .deckTimeStep => Sys2Proof.Machine.execDeckTimeStep s
  | .cycleStartTimeout => Sys2Proof.Machine.execCycleStartTimeout s
  | .acquiringTimeout => Sys2Proof.Machine.execAcquiringTimeout s
  | .threadCreate snd => Sys2Proof.Machine.execThreadCreate snd s
  | .threadResume snd => Sys2Proof.Machine.execThreadResume snd s
  | .threadSuspend snd => Sys2Proof.Machine.execThreadSuspend snd s
  | .threadWake snd => Sys2Proof.Machine.execThreadWake snd s
  | .threadDelete snd => Sys2Proof.Machine.execThreadDelete snd s
  | .dispNextRead h snd => Sys2Proof.Machine.execDispNextRead h snd s
  | .threadYield h snd => Sys2Proof.Machine.execThreadYield h snd s
  | .threadWait h snd v => Sys2Proof.Machine.execThreadWait h snd v s
  | .threadExit h snd => Sys2Proof.Machine.execThreadExit h snd s
  | .dispatchAssign => Sys2Proof.Machine.execDispatchAssign s
  | .eventDeliver => Sys2Proof.Machine.execEventDeliver s
  | .stallEventAdmit => Sys2Proof.Machine.execStallEventAdmit s
  | .coalesceEnqueue => Sys2Proof.Machine.execCoalesceEnqueue s
  | .eventPostSoftware snd v => Sys2Proof.Machine.execEventPostSoftware snd v s
  | .waitTimeout t => Sys2Proof.Machine.execWaitTimeout t s
  | .coreRelease snd v => Sys2Proof.Machine.execCoreRelease snd v s
  | .dispCounterWrite snd v => Sys2Proof.Machine.execDispCounterWrite snd v s
  | .machineTimerInterrupt h => Sys2Proof.Machine.execMachineTimerInterrupt h s
  | .plicClaim x snd also => Sys2Proof.Machine.execPlicClaim x snd s also
  | .plicComplete x snd v => Sys2Proof.Machine.execPlicComplete x snd v s
  | .dispatchEccError kind idx uncorr => Sys2Proof.Machine.execDispatchEccError kind idx uncorr s
  | .mailboxDataWrite m ix snd v => Sys2Proof.Machine.execMailboxDataWrite m ix snd v s
  | .mailboxPost m snd v also => Sys2Proof.Machine.execMailboxPost m snd v s also
  | .mailboxAck m snd v => Sys2Proof.Machine.execMailboxAck m snd v s
  | .mailboxCancel m snd => Sys2Proof.Machine.execMailboxCancel m snd s
  | .mailboxStageTimeout m => Sys2Proof.Machine.execMailboxStageTimeout m s
  | .loanAcquire n snd also => Sys2Proof.Machine.execLoanAcquire n snd s also
  | .loanRelease n snd v => Sys2Proof.Machine.execLoanRelease n snd v s
  | .loanForce snd v => Sys2Proof.Machine.execLoanForce snd v s
  | .vmfUpdateDone => Sys2Proof.Machine.execVmfUpdateDone s
  | .navRecordCommit snd hi => Sys2Proof.Machine.execNavRecordCommit snd hi s
  | .vmfRunEnable snd v => Sys2Proof.Machine.execVmfRunEnable snd v s
  | .vmfRunDisable snd v => Sys2Proof.Machine.execVmfRunDisable snd v s
  | .vmfRealign snd v => Sys2Proof.Machine.execVmfRealign snd v s
  | .waveFftSubmit => Sys2Proof.Machine.execWaveFftSubmit s
  | .waveFitDone => Sys2Proof.Machine.execWaveFitDone s
  | .predictionQuery snd hi => Sys2Proof.Machine.execPredictionQuery snd hi s
  | .predictionQueryDone => Sys2Proof.Machine.execPredictionQueryDone s
  | .machineFrameRequest m snd v => Sys2Proof.Machine.execMachineFrameRequest m snd v s
  | .profileGo c snd => Sys2Proof.Machine.execProfileGo c snd s
  | .profileStop c snd => Sys2Proof.Machine.execProfileStop c snd s
  | .profileHome c snd => Sys2Proof.Machine.execProfileHome c snd s
  | .homingTimeout c => Sys2Proof.Machine.execHomingTimeout c s
  | .carrelEnable c snd => Sys2Proof.Machine.execCarrelEnable c snd s
  | .carrelDisable c snd => Sys2Proof.Machine.execCarrelDisable c snd s
  | .pathGo m snd => Sys2Proof.Machine.execPathGo m snd s
  | .pathStop m snd => Sys2Proof.Machine.execPathStop m snd s
  | .pathFlush m snd => Sys2Proof.Machine.execPathFlush m snd s
  | .pathSegmentPush m snd => Sys2Proof.Machine.execPathSegmentPush m snd s
  | .solverFkDone clk => Sys2Proof.Machine.execSolverFkDone s clk
  | .ikBatchDone clk => Sys2Proof.Machine.execIkBatchDone clk s
  | .thrustAllocationDone clk => Sys2Proof.Machine.execThrustAllocationDone clk s
  | .taCommit snd v => Sys2Proof.Machine.execTaCommit snd v s
  | .variantRequest m snd v => Sys2Proof.Machine.execVariantRequest m snd v s
  | .dpJobSubmit snd v => Sys2Proof.Machine.execDpJobSubmit snd v s
  | .dpJobDone reason its pivot out => Sys2Proof.Machine.execDpJobDone reason its pivot out s
  | .solverEccError kind m uncorr => Sys2Proof.Machine.execSolverEccError kind m uncorr s
  | .folioSwapRequest c snd v => Sys2Proof.Machine.execFolioSwapRequest c snd v s
  | .folioSwap c => Sys2Proof.Machine.execFolioSwap c s
  | .groupSwapRequest w snd v => Sys2Proof.Machine.execGroupSwapRequest w snd v s
  | .traceArm w snd => Sys2Proof.Machine.execTraceArm w snd s
  | .diagTrigger w snd => Sys2Proof.Machine.execDiagTrigger w snd s
  | .injectStart w snd => Sys2Proof.Machine.execInjectStart w snd s
  | .diagAbort w snd => Sys2Proof.Machine.execDiagAbort w snd s
  | .ledgerDataRead w snd => Sys2Proof.Machine.execLedgerDataRead w snd s
  | .loopEngineEccError c shadow uncorr => Sys2Proof.Machine.execLoopEngineEccError c shadow uncorr s
  | .pwmChannelEnable p snd paired => Sys2Proof.Machine.execPwmChannelEnable p snd paired s
  | .pwmChannelDisable p snd paired => Sys2Proof.Machine.execPwmChannelDisable p snd paired s
  | .pwmCompareWrite p snd v => Sys2Proof.Machine.execPwmCompareWrite p snd v s
  | .pwmPeriodWrite p snd v => Sys2Proof.Machine.execPwmPeriodWrite p snd v s
  | .deadTimeModeWrite snd adaptive => Sys2Proof.Machine.execDeadTimeModeWrite snd adaptive s
  | .switchNodeEdge p l high sn => Sys2Proof.Machine.execSwitchNodeEdge p l high sn s
  | .debugHaltStart core => Sys2Proof.Machine.execDebugHaltStart s core
  | .debugHaltEnd core => Sys2Proof.Machine.execDebugHaltEnd s core
  | .overcurrentTrip ix ones => Sys2Proof.Machine.execOvercurrentTrip ix ones s
  | .sdmClockWrite j snd v => Sys2Proof.Machine.execSdmClockWrite j snd v s
  | .quadTransition ix a b held => Sys2Proof.Machine.execQuadTransition ix a b s held
  | .hallStateChange ix h held => Sys2Proof.Machine.execHallStateChange ix h s held
  | .ssiReadStart ix high => Sys2Proof.Machine.execSsiReadStart ix high s
  | .ssiReadCommand ix snd high => Sys2Proof.Machine.execSsiReadCommand ix snd high s
  | .ssiReadDone ix raw trail line => Sys2Proof.Machine.execSsiReadDone ix raw trail s line
  | .indexEdge ix level held => Sys2Proof.Machine.execIndexEdge ix s level held
  | .indexArm ix snd => Sys2Proof.Machine.execIndexArm ix snd s
  | .switchEdge ix l level held => Sys2Proof.Machine.execSwitchEdge ix l level s held
  | .captureEdge n level held => Sys2Proof.Machine.execCaptureEdge n level s held
  | .compareRestart ix snd => Sys2Proof.Machine.execCompareRestart ix snd s
  | .comparePulseEnd n => Sys2Proof.Machine.execComparePulseEnd n s
  | .nodeFeedbackLatch f => Sys2Proof.Machine.execNodeFeedbackLatch f s
  | .speedTimeout ix => Sys2Proof.Machine.execSpeedTimeout ix s
  | .gpioEdgeEvent line level held => Sys2Proof.Machine.execGpioEdgeEvent line level s held
  | .ssmPassDoneA clk ecc => Sys2Proof.Machine.execSsmPassDoneA clk ecc s
  | .ssmPassDoneB clk ecc => Sys2Proof.Machine.execSsmPassDoneB clk ecc s
  | .perceptionUnitLost u => Sys2Proof.Machine.execPerceptionUnitLost u s
  | .safeStartTestsDone passed => Sys2Proof.Machine.execSafeStartTestsDone passed s
  | .deliberateReset skew lo hi fault => Sys2Proof.Machine.execDeliberateReset skew lo hi fault s
  | .internalFault code => Sys2Proof.Machine.execInternalFault code s
  | .safeInputChange n chB level => Sys2Proof.Machine.execSafeInputChange n chB level s
  | .safeInputDiscrepancy n => Sys2Proof.Machine.execSafeInputDiscrepancy n s
  | .safetyConnectionLost k => Sys2Proof.Machine.execSafetyConnectionLost k s
  | .safeRelease outcome kfb => Sys2Proof.Machine.execSafeRelease outcome kfb s
  | .safeStopRequest outcome => Sys2Proof.Machine.execSafeStopRequest outcome s
  | .safeSlsSet outcome => Sys2Proof.Machine.execSafeSlsSet outcome s
  | .safeSlsClear outcome => Sys2Proof.Machine.execSafeSlsClear outcome s
  | .safeClearEvents outcome => Sys2Proof.Machine.execSafeClearEvents outcome s
  | .offPulseTest g ch passed => Sys2Proof.Machine.execOffPulseTest g ch passed s
  | .stoReadbackMismatch g ch => Sys2Proof.Machine.execStoReadbackMismatch g ch s
  | .contactorFeedbackTimeout n => Sys2Proof.Machine.execContactorFeedbackTimeout n s
  | .portEnable k snd v => Sys2Proof.Machine.execPortEnable k snd v s
  | .linkSyncAcquired k => Sys2Proof.Machine.execLinkSyncAcquired k s
  | .linkSyncLost k => Sys2Proof.Machine.execLinkSyncLost k s
  | .delayRequestSend k => Sys2Proof.Machine.execDelayRequestSend k s
  | .delayRequestRx k clash => Sys2Proof.Machine.execDelayRequestRx k clash s
  | .delayResponseRx k rtt => Sys2Proof.Machine.execDelayResponseRx k rtt s
  | .delayResponseTimeout k => Sys2Proof.Machine.execDelayResponseTimeout k s
  | .cycleStartFrameRx k h b => Sys2Proof.Machine.execCycleStartFrameRx k h b s
  | .feedbackFrameRx k h items => Sys2Proof.Machine.execFeedbackFrameRx k h items s
  | .commandFrameRx k h items cfgTag => Sys2Proof.Machine.execCommandFrameRx k h items cfgTag s
  | .safetyFrameRx k h p => Sys2Proof.Machine.execSafetyFrameRx k h p s
  | .dataFrameRx k h imus tgts => Sys2Proof.Machine.execDataFrameRx k h imus tgts s
  | .joinFrameRx k h f short => Sys2Proof.Machine.execJoinFrameRx k h f short s
  | .twinFrameRx k h b => Sys2Proof.Machine.execTwinFrameRx k h b s
  | .discoveryFrameRx k h b inside => Sys2Proof.Machine.execDiscoveryFrameRx k h b inside s
  | .frameForward k h f resid lower ecc => Sys2Proof.Machine.execFrameForward k h f resid lower s ecc
  | .joinQueueForward => Sys2Proof.Machine.execJoinQueueForward s
  | .slotFrameSend j imus tgts ld => Sys2Proof.Machine.execSlotFrameSend j imus tgts ld s
  | .accessReq src tag cnt wr a ws also => Sys2Proof.Machine.execAccessReq src tag cnt wr a ws s also
  | .accessRsp tag result reason words => Sys2Proof.Machine.execAccessRsp tag result reason words s
  | .accede k ep chan => Sys2Proof.Machine.execAccede k ep chan s
  | .cutoff ep chan => Sys2Proof.Machine.execCutoff ep chan s
  | .conflict seat => Sys2Proof.Machine.execConflict seat s
  | .mismatch src why => Sys2Proof.Machine.execMismatch src why s
  | .loadStat src result => Sys2Proof.Machine.execLoadStat src result s
  | .resyncReq src => Sys2Proof.Machine.execResyncReq src s
  | .discReport src count => Sys2Proof.Machine.execDiscReport src count s
  | .claimAck src => Sys2Proof.Machine.execClaimAck src s
  | .serviceMessageDrop => Sys2Proof.Machine.execServiceMessageDrop s
  | .synzonEnable snd v => Sys2Proof.Machine.execSynzonEnable snd v s
  | .synzonDisable snd v => Sys2Proof.Machine.execSynzonDisable snd v s
  | .listenExpire => Sys2Proof.Machine.execListenExpire s
  | .coldStartComplete => Sys2Proof.Machine.execColdStartComplete s
  | .holdTimeout => Sys2Proof.Machine.execHoldTimeout s
  | .catalogueSwitchRequest snd v => Sys2Proof.Machine.execCatalogueSwitchRequest snd v s
  | .catalogueSwitchDecide => Sys2Proof.Machine.execCatalogueSwitchDecide s
  | .catalogueSwitchApply => Sys2Proof.Machine.execCatalogueSwitchApply s
  | .remoteAccessGo snd v => Sys2Proof.Machine.execRemoteAccessGo snd v s
  | .remoteAccessTimeout => Sys2Proof.Machine.execRemoteAccessTimeout s
  | .sendWake k snd => Sys2Proof.Machine.execSendWake k snd s
  | .wakeReceived => Sys2Proof.Machine.execWakeReceived s
  | .discoveryWalkStart snd => Sys2Proof.Machine.execDiscoveryWalkStart snd s
  | .rediscovery snd => Sys2Proof.Machine.execRediscovery snd s
  | .imageLoadEnable snd v => Sys2Proof.Machine.execImageLoadEnable snd v s
  | .identify k src b => Sys2Proof.Machine.execIdentify k src b s
  | .assign k src b => Sys2Proof.Machine.execAssign k src b s
  | .write k src b => Sys2Proof.Machine.execWrite k src b s
  | .read k src b => Sys2Proof.Machine.execRead k src b s
  | .seal k src b => Sys2Proof.Machine.execSeal k src b s
  | .load b => Sys2Proof.Machine.execLoad b s
  | .discoveryReplyTimeout => Sys2Proof.Machine.execDiscoveryReplyTimeout s
  | .loadedImageVerify k chunks h img => Sys2Proof.Machine.execLoadedImageVerify k chunks h img s
  | .mismatchReportSend => Sys2Proof.Machine.execMismatchReportSend s
  | .routeCommit snd v => Sys2Proof.Machine.execRouteCommit snd v s
  | .heldCarrelDisable => Sys2Proof.Machine.execHeldCarrelDisable s
  | .discReportSend => Sys2Proof.Machine.execDiscReportSend s
  | .missedCycleCheck => Sys2Proof.Machine.execMissedCycleCheck s
  | .twinWriteGo snd => Sys2Proof.Machine.execTwinWriteGo snd s
  | .twinWriteApply => Sys2Proof.Machine.execTwinWriteApply s
  | .coordinatorSwap snd => Sys2Proof.Machine.execCoordinatorSwap snd s
  | .resyncCommand snd => Sys2Proof.Machine.execResyncCommand snd s
  | .yield snd v => Sys2Proof.Machine.execYield snd v s
  | .resyncReqRepeat => Sys2Proof.Machine.execResyncReqRepeat s
  | .handoverAckTimeout => Sys2Proof.Machine.execHandoverAckTimeout s
  | .proofTestDue => Sys2Proof.Machine.execProofTestDue s
  | .dspSubmit w snd v => Sys2Proof.Machine.execDspSubmit w snd v s
  | .dspJobStart w => Sys2Proof.Machine.execDspJobStart w s
  | .dspJobDone w clk ecc => Sys2Proof.Machine.execDspJobDone w clk ecc s
  | .dspSuspend w snd v => Sys2Proof.Machine.execDspSuspend w snd v s
  | .dspSuspended w n => Sys2Proof.Machine.execDspSuspended w n s
  | .dspResume w snd v => Sys2Proof.Machine.execDspResume w snd v s
  | .dspRunNext w snd v => Sys2Proof.Machine.execDspRunNext w snd v s
  | .dspAbort w snd v n => Sys2Proof.Machine.execDspAbort w snd v n s
  | .canFrameRx ix f ago => Sys2Proof.Machine.execCanFrameRx ix f ago s
  | .canRxfPop ix snd v => Sys2Proof.Machine.execCanRxfPop ix snd v s
  | .canHpRead ix snd also => Sys2Proof.Machine.execCanHpRead ix snd s also
  | .canTxfPush ix snd v => Sys2Proof.Machine.execCanTxfPush ix snd v s
  | .canTxdSend ix snd v => Sys2Proof.Machine.execCanTxdSend ix snd v s
  | .canTxDecision ix => Sys2Proof.Machine.execCanTxDecision ix s
  | .canTxAttemptEnd ix outcome tecUp delay => Sys2Proof.Machine.execCanTxAttemptEnd ix outcome tecUp delay s
  | .canTxfAbort ix snd v => Sys2Proof.Machine.execCanTxfAbort ix snd v s
  | .canTxdAbort ix snd v => Sys2Proof.Machine.execCanTxdAbort ix snd v s
  | .canModeInit ix busy snd v => Sys2Proof.Machine.execCanModeInit ix busy snd v s
  | .canModeNormal ix snd v => Sys2Proof.Machine.execCanModeNormal ix snd v s
  | .canModeListen ix snd v => Sys2Proof.Machine.execCanModeListen ix snd v s
  | .canModeRestricted ix snd v => Sys2Proof.Machine.execCanModeRestricted ix snd v s
  | .canBusOffRecoveryDone ix => Sys2Proof.Machine.execCanBusOffRecoveryDone ix s
  | .pcieInboundTlp t also => Sys2Proof.Machine.execPcieInboundTlp t s also
  | .msixSourceRise v => Sys2Proof.Machine.execMsixSourceRise v s
  | .msixFire snd hi v => Sys2Proof.Machine.execMsixFire snd hi v s
  | .msixUnmask v => Sys2Proof.Machine.execMsixUnmask v s
  | .pcieOutboundAccess snd off wr => Sys2Proof.Machine.execPcieOutboundAccess snd off wr s
  | .pcieOutboundTimeout => Sys2Proof.Machine.execPcieOutboundTimeout s
  | .pcieReset => Sys2Proof.Machine.execPcieReset s
  | .ethFrameRx ix f => Sys2Proof.Machine.execEthFrameRx ix f s
  | .ethTailWrite snd ix q v => Sys2Proof.Machine.execEthTailWrite snd ix q v s
  | .ethTxDone ix => Sys2Proof.Machine.execEthTxDone ix s
  | .sdramTrainingDone ok => Sys2Proof.Machine.execSdramTrainingDone ok s
  | .sdramFillDone => Sys2Proof.Machine.execSdramFillDone s
  | .sdramScrub ce => Sys2Proof.Machine.execSdramScrub ce s
  | .sdramEccError addr ue => Sys2Proof.Machine.execSdramEccError addr ue s
  | .xspiProgram snd => Sys2Proof.Machine.execXspiProgram snd s
  | .xspiErase snd => Sys2Proof.Machine.execXspiErase snd s
  | .xspiOpDone ok => Sys2Proof.Machine.execXspiOpDone ok s
  | .spiTransferGo snd k v => Sys2Proof.Machine.execSpiTransferGo snd k v s
  | .spiTransferDone k rx => Sys2Proof.Machine.execSpiTransferDone k rx s
  | .smbTransactionGo snd c v => Sys2Proof.Machine.execSmbTransactionGo snd c v s
  | .smbTransactionDone c err rx => Sys2Proof.Machine.execSmbTransactionDone c err rx s
  | .smbClockTimeout c => Sys2Proof.Machine.execSmbClockTimeout c s
  | .powerStateRequest snd v => Sys2Proof.Machine.execPowerStateRequest snd v s
  | .powerStateEntry => Sys2Proof.Machine.execPowerStateEntry s
  | .gpioWake line falling => Sys2Proof.Machine.execGpioWake line falling s
  | .rtcWake => Sys2Proof.Machine.execRtcWake s
  | .powerStateExitDone d slept => Sys2Proof.Machine.execPowerStateExitDone d slept s
  | .keyProgram snd => Sys2Proof.Machine.execKeyProgram snd s
  | .keyRevoke snd => Sys2Proof.Machine.execKeyRevoke snd s
  | .otpCommandDone ok => Sys2Proof.Machine.execOtpCommandDone ok s
  | .counterAdvance snd v => Sys2Proof.Machine.execCounterAdvance snd v s
  | .lifecycleAdvance snd v rel ret => Sys2Proof.Machine.execLifecycleAdvance snd v rel ret s
  | .lifecycleTransitionDone => Sys2Proof.Machine.execLifecycleTransitionDone s
  | .returnChallenge snd v => Sys2Proof.Machine.execReturnChallenge snd v s
  | .secretProgram snd v => Sys2Proof.Machine.execSecretProgram snd v s
  | .secretLock snd v => Sys2Proof.Machine.execSecretLock snd v s
  | .attestationGo snd v => Sys2Proof.Machine.execAttestationGo snd v s
  | .attestationDone rngOk => Sys2Proof.Machine.execAttestationDone rngOk s
  | .eventArchivePost snd v => Sys2Proof.Machine.execEventArchivePost snd v s
  | .eventArchiveWrite => Sys2Proof.Machine.execEventArchiveWrite s
  | .poweredHour => Sys2Proof.Machine.execPoweredHour s
  | .debugAuthRequest snd v => Sys2Proof.Machine.execDebugAuthRequest snd v s
  | .debugTokenCheckDone tok => Sys2Proof.Machine.execDebugTokenCheckDone tok s
  | .debugChallengeRead snd => Sys2Proof.Machine.execDebugChallengeRead snd s
  | .debugTokenWrite snd v => Sys2Proof.Machine.execDebugTokenWrite snd v s
  | .debugLock snd v => Sys2Proof.Machine.execDebugLock snd v s
  | .colophonRead snd => Sys2Proof.Machine.execColophonRead snd s
  | .spornRelease => Sys2Proof.Machine.execSpornRelease s
  | .pcieLinkUp width gen => Sys2Proof.Machine.execPcieLinkUp width gen s
  | .pcieOutboundCompletion ok data => Sys2Proof.Machine.execPcieOutboundCompletion ok data s
  | .ethLinkChange ix up speed => Sys2Proof.Machine.execEthLinkChange ix up speed s
  | .canBusError ix kind at_ heavy => Sys2Proof.Machine.execCanBusError ix kind at_ heavy s
  | .smbTargetAccess c addr wr n => Sys2Proof.Machine.execSmbTargetAccess c addr wr n s
  | .stepPulse c => Sys2Proof.Machine.execStepPulse c s
  | .hubServiceTickStart => Sys2Proof.Machine.execHubServiceTickStart s

end Sys2Proof.Machine
end

