-- ==== Sys2Proof/Safety.lean ====
section
/-! DEFINITION. What counts as a safe state of the block, and the terms in which statements say when a command is
taken and what it leaves alone. -/

namespace Sys2Proof.Machine

/-- Outside RUN every STO group and every contactor is off (R324). -/
abbrev Island.outputsSafe (i : Island) : Prop := i.st ≠ 2 → i.stoOn = 0 ∧ i.kOn = 0

/-- A safe state: the addressed memories are in canonical form and the island's outputs are as R324 says. -/
abbrev State.safe (s : State) : Prop := Mem.wf s.mem ∧ s.isl.outputsSafe

/-- The application side runs, and no store of the agent waits for its event to be queued (R114). -/
abbrev State.hears (s : State) (snd : Sender) : Prop := s.blk.held = false ∧ s.blk.agentHeld snd.agent.val = false

/-- The block takes a write of `snd` to the register at `a`: it hears the agent, the interconnect admits the access (R31,
R63, R72, R75), nothing that was posted to the page or is done there first waits before it (R25, R28, R30), and the
device's role holds the register's block (R17). -/
abbrev State.takesWrite (s : State) (snd : Sender) (a : Nat) : Prop :=
  s.hears snd ∧ s.blk.denial snd a true = none ∧ s.blk.behind a = false ∧ s.blk.blockOff a = false

/-- The block takes a read of `snd` from the register at `a`: no soft reset of its page answers in its place (R68). -/
abbrev State.takesRead (s : State) (snd : Sender) (a : Nat) : Prop :=
  s.hears snd ∧ s.blk.denial snd a false = none ∧ s.blk.blockOff a = false ∧ s.blk.readBusy a = false

/-- The tick at which the cycle's items are latched: APD on a Node, else FBD (R42 to R44). -/
abbrev Block.itemsDue (b : Block) : Nat := if b.isNode then b.apd else b.fbd

/-- Deck Time n ticks on: in its 64 bits, where any tick passes (R35). -/
def State.deckAfter (s : State) (n : Nat) : Nat := if n = 0 then s.blk.tb.dt else (s.blk.tb.dt + 5 * n) % 2 ^ 64

/-- Nothing outside the application side differs: the Safety Island, the fuses and the Event Archive, the addressed
memories and the queue of commands are the same. -/
abbrev State.sameRest (s t : State) : Prop := t.isl = s.isl ∧ t.nv = s.nv ∧ t.mem = s.mem ∧ t.pending = s.pending

/-- The address is none of the PLIC's pending words (R105). -/
abbrev notPend (a : Nat) : Prop := a < R.PLIC_PEND 0 ∨ R.PLIC_PEND 16 ≤ a

/-- Every register reads as before but those of `A` and the PLIC's pending words, which follow the page interrupts
(R105). -/
def Block.keeps (b c : Block) (A : List Nat) : Prop := ∀ a, a ∉ A → notPend a → c.rd a = b.rd a

/-- Nothing beside registers differs: no queue, context, latch or counter of the application side, but the answer to
the access and the rises noted for MSI-X (R454). -/
abbrev Block.sameHidden (b c : Block) : Prop :=
  c = { b with regs := c.regs, answer := c.answer, host := { b.host with rises := c.host.rises } }

/-- Beside the registers of `A`, only what `sameHidden` names differs on the application side, and nothing outside it. -/
abbrev State.onlyRegs (s t : State) (A : List Nat) : Prop :=
  s.sameRest t ∧ s.blk.sameHidden t.blk ∧ s.blk.keeps t.blk A

/-- The registers of the RTC domain that a system reset writes: it wakes every domain, abandons a request that waits, and
ends a soft reset of the page (R68, R478, R479). -/
def wakeRegs : List Nat := [R.SYS_RST_CAUSE, R.PWR_STAT, R.PWR_ERR, R.IRQ_RAW pwrPage, R.PAGE_STAT pwrPage]

/-- A system reset by the sources `src`, which act in one clock (R83 to R86): the application side is held with every
register at its reset state but those of the RTC domain, the pages that the Safety Island writes and what the straps set;
the causes are recorded and the causes recorded before stay; the reset is held by the widest of the sources and of the one
in force; the gates are at high impedance while that is a power-on or brownout reset, and the volatile memories are lost as
it becomes one;
an island in RUN switches every STO group and every contactor off; nothing else changes. -/
def State.systemReset (s t : State) (src : List RstSrc) : Prop :=
  t.blk.held = true ∧
  (∀ j, j < 32 → t.blk.bt R.SYS_RST_CAUSE j = (src.any (fun x => rstBit x == j) || s.blk.bt R.SYS_RST_CAUSE j)) ∧
  (∀ a, sysKeeps a = true → a ∉ wakeRegs → t.blk.rd a = s.blk.rd a) ∧
  (∀ a, sysKeeps a = false → notPend a → (∀ e ∈ strapInits (s.blk.rdN R.SYS_STRAP), a ≠ e.1) → t.blk.rd a = regDefault a) ∧
  t.blk.fl R.SYS_STRAP 0 13 = s.blk.fl R.SYS_STRAP 0 13 ∧ t.blk.enCars = [] ∧ t.blk.eaq = s.blk.eaq ∧
  t.blk.rdN R.PWR_STAT = (if s.blk.isHub then 0x924 else 0) ∧
  t.blk.rstSt = (if s.blk.rstSt = 2 ∨ RstSrc.powerOn ∈ src then 2 else if s.blk.rstSt = 3 ∨ RstSrc.brownout ∈ src then 3 else 1) ∧
  t.blk.pins.hiZ = decide (2 ≤ t.blk.rstSt) ∧ 
  t.mem = (if 2 ≤ t.blk.rstSt ∧ t.blk.rstSt ≠ s.blk.rstSt then ramLost s.mem else s.mem) ∧
  (s.blk.held = false → s.isl.held = false → s.isl.st = 2 → t.isl.st = 1 ∧ t.isl.stoOn = 0 ∧ t.isl.kOn = 0) ∧
  (s.blk.held = true ∨ s.isl.held = true ∨ s.isl.st ≠ 2 → t.isl = s.isl) ∧ t.nv = s.nv ∧ t.pending = s.pending

/-- The straps are sampled as v (R79, R80, R84): SYS_STRAP holds them, and role, seat, boot source, dead-time choice,
Synzon state, CAN retries and a Hub's power states follow; the gates take the idle level; the registers of the RTC domain
and the pages that the Safety Island writes stay, every other register goes to its reset state. -/
def State.strapsSampled (s t : State) (v : Nat) : Prop :=
  s.sameRest t ∧ t.blk.rdN R.SYS_STRAP = v ∧ t.blk.role = v % 4 ∧ t.blk.seat = v / 4 % 32 ∧
  t.blk.fl R.SYS_BOOT_STAT 4 2 = v / 128 % 4 ∧ t.blk.rdN R.PWM_COM_CFG = v / 1024 % 4 ∧
  t.blk.fl R.SZN_ID 12 5 = v / 4 % 32 ∧ t.blk.fl R.SZN_ID 17 2 = v % 4 ∧
  t.blk.rdN R.SZN_CTRL = (if v % 4 = 2 then 1 else if v % 2 = 1 then 2 else 0) ∧
  t.blk.rdN R.PWR_STAT = (if v % 4 = 2 then 0x924 else 0) ∧
  (∀ i, i < 4 → t.blk.rdN (R.CAN_RETRY i) = (if v / 4096 % 2 = 1 then 0x40 else 0x10)) ∧
  (v % 4 = 2 → ∀ k, k < 64 → t.blk.rdN (R.SZP_CFG k) = 3) ∧
  t.blk.pins.hiZ = false ∧ t.blk.rstSt = 1 ∧ t.blk.held = s.blk.held ∧
  (∀ a, sysKeeps a = true → a ∉ wakeRegs → t.blk.rd a = s.blk.rd a) ∧
  (∀ a, sysKeeps a = false → notPend a → (∀ e ∈ strapInits v, a ≠ e.1) → t.blk.rd a = regDefault a)

/-- A DISCOVERY operation from `src` on port k is answered (R388 to R390): the reply repeats the operation and its TAG with a
RESULT and an operand, leaves on the port of arrival where that port's page is enabled, and is kept for a repetition. -/
def Block.replied (b c : Block) (k src : Nat) (d : DiscBody) (result reason : Nat) (operand : List Nat) : Prop :=
  let r := { d with reply := true, fail := result != 0, result := result, reason := reason, operand := operand }
  sget (fun _ => (0, { op := 0 })) c.fab.opLast src = (d.tag + 1, r) ∧
  c.tx.map (fun f => (f.port, f.body)) = (if b.pageEn (szpPage k) then [(k, .discovery r)] else [])

/-- Word i of a list stands at address a + 4i of the memory, least significant byte first. -/
def wordsAt (m : Mem) (a : Nat) (ws : List Nat) : Prop :=
  ∀ i w, ws[i]? = some w → ∀ j, j < 4 → mrd m (a + 4 * i + j) = BitVec.ofNat 8 (w / 256 ^ j)

/-- The whole range lies in the shared SRAM (R59). -/
abbrev inSram (a len : Nat) : Prop := 0x10000000 ≤ a ∧ a + len ≤ 0x10800000

/-- The double-precision job at `off` takes the lanes (R212, R213): it leaves the queue for `rest`, its STATUS reads running,
and no other byte of memory differs. -/
def State.jobStarts (s t : State) (off : Nat) (rest : List Nat) : Prop :=
  t.blk.solv = { s.blk.solv with job := some off, jobs := rest } ∧ wordsAt t.mem (dpAddr off + 4) [1] ∧
  t.blk.bt R.SOLV_STAT 4 = true ∧ t.blk.fl R.SOLV_STAT 5 5 = rest.length % 32 ∧
  ∀ x, x < dpAddr off + 4 ∨ dpAddr off + 8 ≤ x → mrd t.mem x = mrd s.mem x

/-- Beside the application side's own change, the head of the job queue takes the lanes where the VMF leaves them to it
(R212); no memory and nothing of the Solver differs otherwise. -/
def State.handsLanes (s t : State) : Prop :=
  t.isl = s.isl ∧ t.nv = s.nv ∧ t.pending = s.pending ∧
  (∀ off rest, s.blk.solv.job = none ∧ s.blk.pageEn solvPage = true ∧ s.blk.lanesTaken = true ∧ t.blk.lanesTaken = false →
    s.blk.solv.jobs = off :: rest → s.jobStarts t off rest) ∧
  (s.blk.solv.jobs = [] ∨ s.blk.solv.job ≠ none ∨ s.blk.pageEn solvPage = false ∨ s.blk.lanesTaken = false ∨
      t.blk.lanesTaken = true →
    t.mem = s.mem ∧ t.blk.solv = s.blk.solv ∧ ∀ r ∈ [R.SOLV_STAT, R.SOLV_DPJ_STAT], t.blk.rd r = s.blk.rd r)

/-- What a direct write of a page that the coordinators keep alike may count (R414). -/
def directOf (a : Nat) : List Nat :=
  if twinnedPage a then [R.RED_DIRECT_CNT, R.RED_ERR, R.IRQ_RAW 0x40420000] else []

/-- An access to the register at `a` is refused with a reason (R71, R73): nothing differs but the record of its page, the
page's interrupt bit 31, the answer and the registers of `more`. -/
def State.refused (s t : State) (a : Nat) (r : Reason) (more : List Nat) : Prop :=
  s.onlyRegs t (R.PAGE_ERR (pageBase a) :: R.IRQ_RAW (pageBase a) :: more) ∧
  t.blk.fl (R.PAGE_ERR (pageBase a)) 16 4 = r.code ∧ t.blk.answer = { why := r.code }

/-- The registers that an offer to a full queue of the Event Archive's writer changes (R498). -/
def archiveRegs : List Nat := [R.SEC_EA_STAT, R.SEC_ERR, R.IRQ_RAW 0x40002000]

/-- A hardware record is offered to the writer of the Event Archive (R498): while fewer than eight wait it joins the end
of its queue; with eight waiting the queue stays as it is. -/
def Block.offers (b c : Block) (source index cls err info addr : Nat) : Prop :=
  (8 ≤ b.eaq.length → c.eaq = b.eaq) ∧
  (b.eaq.length < 8 → ∃ r, c.eaq = b.eaq ++ [r] ∧ r.source = source ∧ r.index = index ∧ r.cls = cls ∧ r.err = err ∧
    r.info = info ∧ r.addr = addr ∧ r.dt = b.tb.dt ∧ r.safe = false)

/-- Of the application side only registers of `A` and the Dispatch Unit differ, and nothing outside it. -/
def State.onlyDisp (s t : State) (A : List Nat) : Prop :=
  s.sameRest t ∧ s.blk.keeps t.blk A ∧ s.blk.sameHidden { t.blk with disp := s.blk.disp }

/-- Thread u is x and every other thread is as before; beside the threads the Dispatch Unit is d. -/
def Block.threadIs (b c : Block) (u : Nat) (x : Thread) (d : Disp) : Prop :=
  c.thd u = x ∧ (∀ v, v ≠ u → c.thd v = b.thd v) ∧ c.disp = { d with th := c.disp.th }

/-- The acknowledge event of mailbox m (R129, R114), which an agent's store posts: with MBX_ACK_EV.EN it enters the event
queue, or is held with 960 entries or behind a held one; without EN nothing is posted. -/
def Block.ackPosted (b c : Block) (m agent : Nat) : Prop :=
  c.disp = (if b.bt (R.MBX_ACK_EV m) 15 = false then b.disp
    else if b.disp.evq.length < 960 ∧ b.disp.held = [] then
      { b.disp with evq := b.disp.evq ++ [b.fl (R.MBX_ACK_EV m) 0 10] }
    else { b.disp with held := b.disp.held ++ [.ack agent m (b.fl (R.MBX_ACK_EV m) 0 10)] })

/-- The registers that the doorbells of domain d, whose events wait for its exit, may change (R130, R115). -/
def Block.bellRegs (b : Block) (d : Nat) : List Nat :=
  [R.DISP_COAL_CNT, R.DISP_ERR, R.IRQ_RAW 0x40010000] ++
    (b.pw.bells.filter (fun e => e.1 == d)).map (fun e => R.DISP_PEND ((0x100 + e.2) / 32))

/-- A wake of the domains of a mask by source bit k (R478, R479): the bit is set; a pending request that names one of
them is abandoned; each that is not in Run starts its exit, DEV with any of them, but for a Hub's wings (R17); no domain's
state differs yet, and
nothing but the ladder's registers and those of `more`. -/
def State.woken (s t : State) (mask k : Nat) (more : List Nat) : Prop :=
  s.sameRest t ∧ s.blk.keeps t.blk ([R.PWR_WAKE_SRC, R.PWR_STAT, R.PWR_ERR, R.IRQ_RAW pwrPage] ++ more) ∧
  s.blk.sameHidden { t.blk with pw := s.blk.pw } ∧
  (∀ j, j < 32 → t.blk.bt R.PWR_WAKE_SRC j = (j == k || s.blk.bt R.PWR_WAKE_SRC j)) ∧
  (∀ d, d < 5 → t.blk.domState d = s.blk.domState d ∧
    sget (fun _ => 0) t.blk.pw.exiting d =
      if s.blk.domState d ≠ 0 ∧ sget (fun _ => 0) s.blk.pw.exiting d = 0 ∧
        (nbit mask d = true ∨ (d = 4 ∧ mask ≠ 0)) ∧ (s.blk.isHub = false ∨ d = 4) then s.blk.domState d
      else sget (fun _ => 0) s.blk.pw.exiting d) ∧
  t.blk.bt R.PWR_STAT 15 = (s.blk.bt R.PWR_STAT 15 && (s.blk.pw.reqMask &&& mask) == 0)

/-- The registers that posting coalesced event ev may change (R115). -/
def eventRegs (ev : Nat) : List Nat := [R.DISP_PEND (ev / 32), R.DISP_COAL_CNT, R.DISP_ERR, R.IRQ_RAW 0x40010000]

/-- Event ev is pending (R115). -/
abbrev Block.evPending (b : Block) (ev : Nat) : Prop := b.bt (R.DISP_PEND (ev / 32)) (ev % 32) = true

/-- Of the application side only registers of `A` and the profile channel of carrel c, now x, differ, and nothing outside
it. -/
def State.onlyProf (s t : State) (c : Nat) (x : Prof) (A : List Nat) : Prop :=
  s.sameRest t ∧ s.blk.keeps t.blk A ∧ s.blk.sameHidden { t.blk with prof := s.blk.prof } ∧
  t.blk.prf c = x ∧ ∀ k, k ≠ c → t.blk.prf k = s.blk.prf k

/-- Of the application side only registers of `A` and path channel m, now x, differ, and nothing outside it. -/
def State.onlyPath (s t : State) (m : Nat) (x : Path) (A : List Nat) : Prop :=
  s.sameRest t ∧ s.blk.keeps t.blk A ∧ s.blk.sameHidden { t.blk with path := s.blk.path } ∧
  t.blk.pth m = x ∧ ∀ k, k ≠ m → t.blk.pth k = s.blk.pth k

/-- Of the application side only registers of `A` and the tuning help of wing w, now x, differ, and nothing outside it. -/
def State.onlyDiag (s t : State) (w : Nat) (x : Diag) (A : List Nat) : Prop :=
  s.sameRest t ∧ s.blk.keeps t.blk A ∧ s.blk.sameHidden { t.blk with diag := s.blk.diag } ∧
  t.blk.dia w = x ∧ ∀ k, k ≠ w → t.blk.dia k = s.blk.dia k

/-- Of the application side only registers of `A` and feedback interface i, now x, differ, and nothing outside it. -/
def State.onlyFb (s t : State) (i : Nat) (x : Fb) (A : List Nat) : Prop :=
  s.sameRest t ∧ s.blk.keeps t.blk A ∧ s.blk.sameHidden { t.blk with fb := s.blk.fb } ∧
  t.blk.fbi i = x ∧ ∀ k, k ≠ i → t.blk.fbi k = s.blk.fbi k

/-- The registers that a counted change or an error of interface i may change (R276, R280, R281, R287, R288). -/
def countRegs (i : Nat) : List Nat :=
  [R.FBK_COUNT i, R.FBK_STAT i, R.FBK_ERR i, R.FBK_ERRCNT i, R.IRQ_RAW (fbkPage i), R.CMP_OVERLAP] ++
    eventRegs (0x130 + i)

/-- Interface i counts by d, against its direction bit, within the saturation limits (R276, R280, R281). -/
def Block.counted (b c : Block) (i : Nat) (d : Int) : Prop :=
  c.rd (R.FBK_COUNT i) =
    BitVec.ofInt 32 (b.satCount i (b.rdI (R.FBK_COUNT i) + (if b.bt (R.FBK_CFG i) 3 = true then -d else d))).1 ∧
  (c.fbi i).cu = (b.fbi i).cu + (if b.bt (R.FBK_CFG i) 3 = true then -d else d) ∧
  c.bt (R.FBK_STAT i) 2 = false ∧ (c.fbi i).any = true

/-- Interface i notes an illegal transition and counts nothing (R276, R277). -/
def Block.miscounted (b c : Block) (i : Nat) : Prop :=
  c.rd (R.FBK_COUNT i) = b.rd (R.FBK_COUNT i) ∧ c.bt (R.FBK_ERR i) 1 = true ∧ c.bt (R.FBK_STAT i) 1 = true ∧
  c.fl (R.FBK_ERRCNT i) 0 16 = satAdd (b.fl (R.FBK_ERRCNT i) 0 16) 1 0xFFFF

/-- Of the Safety Island only registers of `A` differ, and nothing outside it. -/
def State.onlyIsl (s t : State) (A : List Nat) : Prop :=
  t = { s with isl := { s.isl with regs := t.isl.regs } } ∧ ∀ a, a ∉ A → t.isl.rd a = s.isl.rd a

/-- The counters of channel B that read interface i see its lines change (R336): of those axes alone, and of them only the
count and the levels of the lines, anything differs, and nothing while the island is held. -/
def State.seenB (s t : State) (i : Nat) : Prop :=
  t.nv = s.nv ∧ t.mem = s.mem ∧ t.pending = s.pending ∧ (s.isl.held = true → t.isl = s.isl) ∧
  t.isl = { s.isl with axes := t.isl.axes } ∧
  ∀ j, t.isl.ax j = if j ∈ s.isl.axIds ∧ (s.isl.axc j).fbB = i then { s.isl.ax j with
      cu := (t.isl.ax j).cu, linA := (t.isl.ax j).linA, linB := (t.isl.ax j).linB, hall := (t.isl.ax j).hall }
    else s.isl.ax j

/-- Axis j of the island counts on interface i, and a level of `held` TB ticks passes its filter of SAFE clocks (R336). -/
abbrev Island.countsOn (x : Island) (j i held : Nat) : Prop :=
  x.held = false ∧ j ∈ x.axIds ∧ (x.axc j).fbB = i ∧ (x.axc j).bFilt < held * 3 / 2

/-- An island's register of channel A's page and of channel B's page (R347). -/
def bothOf (r : Nat → Nat) : List Nat := [r 0, r 1]

/-- A record of the Safety Island is offered to the writer of the Event Archive ahead of all others (R345, R498), with the
code of its fault; nothing else of the application side differs. -/
def Block.safeOffered (b c : Block) (source cls err : Nat) : Prop :=
  b.keeps c archiveRegs ∧ b.sameHidden { c with eaq := b.eaq, free := b.free } ∧
  (8 ≤ b.eaq.length → c.eaq = b.eaq) ∧
  (b.eaq.length < 8 → ∃ r, c.eaq = b.eaq.filter (fun x => x.safe) ++ [r] ++ b.eaq.filter (fun x => !x.safe) ∧
    r.source = source ∧ r.cls = cls ∧ r.err = err ∧ r.dt = b.tb.dt ∧ r.safe = true)

/-- The island has gone to LOCKOUT by the internal fault of a code (R324, R345): every STO group and contactor is off, no
group is released, every axis is in STO, both channels show the code as LAST_FAULT. -/
def Island.lockedOut (i : Island) (code : Nat) : Prop :=
  i.st = 3 ∧ i.stoOn = 0 ∧ i.kOn = 0 ∧ i.released = 0 ∧ (∀ ch, ch < 2 → i.fl (R.SAFE_CH_STATE ch) 8 8 = code) ∧
  ∀ j ∈ i.axIds, (i.ax j).func = 4

/-- The receiver's acknowledgement of mailbox m, by an agent, with a return code (R126, R129, R131, R132): the mailbox is EMPTY with the
stamp and code it had last, ACKED is raised with the acknowledge event, and the acknowledgement memory holds the message in
place of the entry of the same sender or the oldest of four. -/
def Block.acked (b c : Block) (m agent rc : Nat) : Prop :=
  let st := b.rd (R.MBX_STAMP m)
  let same := fun (x : AckEnt) => x.agent == fld st 0 4 && x.ep == fld st 4 12
  b.keeps c [R.MBX_STAT m, R.MBX_STAMP m, R.PAGE_STAT (mbxPage m), R.MBX_LAST_RC m, R.MBX_LAST_STAMP m,
    R.IRQ_RAW (mbxPage m), R.DISP_QHWM] ∧
  b.sameHidden { c with disp := b.disp, ackMemory := b.ackMemory } ∧
  c.rdN (R.MBX_STAT m) = 0 ∧ c.rdN (R.MBX_STAMP m) = 0 ∧ c.bt (R.PAGE_STAT (mbxPage m)) 2 = false ∧
  c.rdN (R.MBX_LAST_RC m) = rc + 2 ^ 17 ∧ c.rd (R.MBX_LAST_STAMP m) = b.rd (R.MBX_STAMP m) ∧
  c.bt (R.IRQ_RAW (mbxPage m)) 1 = true ∧ b.ackPosted c m agent ∧ (∀ k, k ≠ m → c.ackMem k = b.ackMem k) ∧
  c.ackMem m =
    (if (b.ackMem m).any same then (b.ackMem m).filter (fun x => !same x)
     else if 4 ≤ (b.ackMem m).length then (b.ackMem m).tail else b.ackMem m) ++
      [{ agent := fld st 0 4, ep := fld st 4 12, seq := fld st 16 16, rc := rc }]

/-- The registers of wing w's Spectral Processor that a job may change (R436). -/
def dspRegs (w : Nat) : List Nat :=
  [R.DSP_STAT w, R.DSP_JOB w, R.DSP_DONE_CNT w, R.DSP_CLK w, R.DSP_ERR w, R.IRQ_RAW (dspPage w), R.PAGE_STAT (dspPage w),
    R.DISP_QHWM]

/-- Beside registers of `A` and the Spectral Processor of wing w nothing of the application side differs (R430). -/
def Block.onlyDsp (b c : Block) (w : Nat) (A : List Nat) : Prop :=
  b.keeps c A ∧ b.sameHidden { c with dsp := b.dsp } ∧ ∀ v, v ≠ w → c.dspAt v = b.dspAt v

/-- A firmware job of wing w has ended (R431): it is counted, JOB is invalid, DONE is raised, and its event enters the event
queue, which leaves the processor IDLE or, with a suspension that waited, SUSPENDED; with 960 entries or behind a held
event the completion is held. -/
def Block.dspEnded (b c : Block) (w : Nat) : Prop :=
  c.rd (R.DSP_JOB w) = 0#32 ∧ c.rd (R.DSP_DONE_CNT w) = b.rd (R.DSP_DONE_CNT w) + 1#32 ∧
  c.bt (R.IRQ_RAW (dspPage w)) 0 = true ∧
  (b.disp.evq.length < 960 → b.disp.held = [] → c.disp = { b.disp with evq := b.disp.evq ++ [0x0D0 + w] } ∧
    c.dspSt w = (if (b.dspAt w).susp = true then 3 else 0) ∧ (c.dspAt w).susp = false) ∧
  (960 ≤ b.disp.evq.length ∨ b.disp.held ≠ [] → c.disp = { b.disp with held := b.disp.held ++ [.dsp w] } ∧
    c.dspSt w = 2 ∧ (c.dspAt w).susp = (b.dspAt w).susp)

/-- Memory differs at most in the ranges of a list, each an address and a length. -/
def memKeeps (m n : Mem) (L : List (Nat × Nat)) : Prop :=
  ∀ x, (∀ r ∈ L, x < r.1 ∨ r.1 + r.2 ≤ x) → mrd n x = mrd m x

/-- The registers of CAN controller i that its own actions may change (R442, R445, R449, R450). -/
def canRegs (i : Nat) : List Nat :=
  [R.CAN_STAT i, R.CAN_ERR i, R.CAN_LOST_CNT i, R.CAN_ECNT i, R.IRQ_RAW (canPage i), R.CAN_RXF_ID i, R.CAN_RXF_CTL i,
    R.CAN_RXF_TS i, R.DISP_QHWM] ++ (List.range 16).map (R.CAN_RXF_DATA i)

/-- Beside registers of `A`, CAN controller i and the event queue nothing of the machine differs. -/
def State.onlyCan (s t : State) (i : Nat) (A : List Nat) : Prop :=
  s.sameRest t ∧ s.blk.keeps t.blk A ∧ s.blk.sameHidden { t.blk with can := s.blk.can, disp := s.blk.disp } ∧
  ∀ k, k ≠ i → t.blk.canAt k = s.blk.canAt k

/-- Event n of CAN controller i enters the event queue, or its source holds it with 960 entries or behind a held event;
one that is held already is merged (R114, R448). -/
def Block.canPosted (b c : Block) (i n : Nat) : Prop :=
  c.disp = (if StallSrc.can i n ∈ b.disp.held then b.disp
    else if b.disp.evq.length < 960 ∧ b.disp.held = [] then
      { b.disp with evq := b.disp.evq ++ [0x120 + 4 * i + n] }
    else { b.disp with held := b.disp.held ++ [.can i n] })

/-- The filter that decides over a frame is filter n, or none (R441): the lowest enabled one that matches. -/
def Block.canChosen (b : Block) (i : Nat) (f : CanFrame) : Option Nat → Prop
  | some n => n < 64 ∧ b.canMatch i n f = true ∧ ∀ m, m < n → b.canMatch i m f = false
  | none => ∀ m, m < 64 → b.canMatch i m f = false

/-- Beside registers of `A` and the host interfaces nothing of the machine differs. -/
def State.onlyHost (s t : State) (A : List Nat) : Prop :=
  s.sameRest t ∧ s.blk.keeps t.blk A ∧ s.blk.sameHidden { t.blk with host := s.blk.host }

/-- The registers of the SEC and DBG pages that show the fuses, the Event Archive and the failed requests (R502, R503). -/
def otpRegs : List Nat := [R.SEC_STAT, R.SEC_CTR, R.SEC_EA_STAT, R.SEC_POH, R.DBG_AUTH_STAT]

/-- The registers whose fields show what no reset of their page takes away (R68): the boot's stage and source, the sampled
straps' dead-time choice, what the power domains do, the fuses and the Event Archive. -/
def shownRegs : List Nat := [R.SYS_BOOT_STAT, R.PWR_STAT, R.PWM_COM_STAT] ++ otpRegs

/-- The registers that record a change of the time-outs' mode, which a soft reset of a page of the Dispatch Unit or of the PWM
common page may bring (R117). -/
def modeRegs (page : Nat) : List Nat :=
  if pageCode page = 0x05 ∨ pageCode page = 0x30 then [R.DISP_ERR, R.IRQ_RAW 0x40010000] else []

/-- Beside registers of `A` and the hidden state of the SEC and DBG pages nothing of the application side differs. -/
def Block.onlySec (b c : Block) (A : List Nat) : Prop :=
  b.keeps c A ∧ b.sameHidden { c with sec := b.sec, free := b.free }

/-- The debug transport's AUTH reaches the register at a, or the interconnect takes a write of it (R494). -/
def State.authTakes (s : State) (snd : Option Sender) (a : Nat) : Prop :=
  (snd = none ∧ s.blk.held = false) ∨ ∃ x, snd = some x ∧ s.takesWrite x a

/-! ### Which commands reach what -/

/-- The commands that may act while the application side is held in reset: the Safety Island's own, the resets and
releases, and what concerns fuses and the RTC domain (R84). -/
def actsInReset : Instr → Bool
  | .powerOnReset .. | .pornRelease .. | .brownoutDetect .. | .brownoutRelease .. | .externalReset .. | .watchdogExpire ..
  | .softwareReset .. | .safetyIslandResetRequest .. | .debugSystemReset .. | .applicationRelease | .alwaysOnPowerUp ..
  | .otpReadDone | .imageVerify | .configImageAccept .. | .loadedImageVerify .. | .cycleStartTick ..
  | .feedbackLatch .. | .profileTick | .commandLatch .. | .serviceTick | .safeStartTestsDone .. | .deliberateReset ..
  | .quadTransition .. | .hallStateChange .. | .internalFault .. | .safeInputChange .. | .safeInputDiscrepancy .. | .safetyConnectionLost .. | .safeRelease ..
  | .safeStopRequest .. | .safeSlsSet .. | .safeSlsClear .. | .safeClearEvents .. | .offPulseTest ..
  | .stoReadbackMismatch .. | .contactorFeedbackTimeout .. | .spornRelease | .safetyPowerOnReset
  | .loopEngineEccError .. | .ssmPassDoneB .. | .perceptionUnitLost .. | .nodeFeedbackLatch .. | .powerStateEntry
  | .gpioWake .. | .rtcWake | .wakeReceived | .otpCommandDone .. | .counterAdvance .. | .lifecycleTransitionDone
  | .secretProgram .. | .eventArchiveWrite | .poweredHour | .slotFrameSend .. | .safetyFrameRx .. => true
  | _ => false

/-- The events of the application side, of which none comes while it stands still: held in reset (R84), or DEV in a power
state whose clocks are gated or off (R475). (log 117) -/
def eventOfApp : Instr → Bool
  | .imageFetchDone .. | .lockWindowExpire .. | .targetReached .. | .loopPassStart | .loopPassDone
  | .sampleWindowEnd .. | .currentLoopDone .. | .pwmReload .. | .deckTimeStep | .cycleStartTimeout
  | .acquiringTimeout | .dispatchAssign | .eventDeliver | .stallEventAdmit | .coalesceEnqueue | .waitTimeout ..
  | .machineTimerInterrupt .. | .dispatchEccError .. | .mailboxStageTimeout .. | .vmfUpdateDone | .waveFftSubmit
  | .waveFitDone | .predictionQueryDone | .homingTimeout .. | .solverFkDone .. | .ikBatchDone ..
  | .thrustAllocationDone .. | .dpJobDone .. | .solverEccError .. | .folioSwap .. | .switchNodeEdge ..
  | .debugHaltStart .. | .debugHaltEnd .. | .overcurrentTrip ..
  | .ssiReadStart .. | .ssiReadDone .. | .indexEdge .. | .switchEdge .. | .captureEdge .. | .comparePulseEnd ..
  | .speedTimeout .. | .gpioEdgeEvent .. | .ssmPassDoneA .. | .linkSyncAcquired .. | .linkSyncLost ..
  | .delayRequestSend .. | .delayRequestRx .. | .delayResponseRx .. | .delayResponseTimeout ..
  | .cycleStartFrameRx .. | .feedbackFrameRx .. | .commandFrameRx .. | .dataFrameRx .. | .joinFrameRx ..
  | .twinFrameRx .. | .discoveryFrameRx .. | .frameForward .. | .joinQueueForward | .accessReq .. | .accessRsp ..
  | .accede .. | .cutoff .. | .conflict .. | .mismatch .. | .loadStat .. | .resyncReq .. | .discReport ..
  | .claimAck .. | .serviceMessageDrop | .listenExpire | .coldStartComplete | .holdTimeout | .catalogueSwitchDecide
  | .catalogueSwitchApply | .remoteAccessTimeout | .identify .. | .assign .. | .write .. | .read .. | .seal ..
  | .load .. | .discoveryReplyTimeout | .mismatchReportSend | .heldCarrelDisable | .discReportSend
  | .missedCycleCheck | .twinWriteApply | .resyncReqRepeat | .handoverAckTimeout | .proofTestDue | .dspJobStart ..
  | .dspJobDone .. | .dspSuspended .. | .canFrameRx .. | .canTxDecision .. | .canTxAttemptEnd ..
  | .canBusOffRecoveryDone .. | .pcieInboundTlp .. | .msixSourceRise .. | .msixUnmask .. | .pcieOutboundTimeout
  | .ethFrameRx .. | .ethTxDone .. | .sdramTrainingDone .. | .sdramFillDone | .sdramScrub .. | .sdramEccError ..
  | .xspiOpDone .. | .spiTransferDone .. | .smbTransactionDone .. | .smbClockTimeout .. | .attestationDone ..
  | .debugTokenCheckDone .. | .pcieLinkUp .. | .pcieOutboundCompletion .. | .ethLinkChange .. | .canBusError ..
  | .smbTargetAccess .. | .stepPulse .. | .hubServiceTickStart => true
  | _ => false

/-- The commands that may change the Safety Island: its own, and those that may start a system reset. -/
def reachesIsland : Instr → Bool
  | .registerWrite .. | .pairHiWrite .. | .postedWriteComplete .. | .pageSoftResetDone .. | .powerOnReset ..
  | .brownoutDetect .. | .externalReset .. | .watchdogExpire .. | .softwareReset .. | .safetyIslandResetRequest ..
  | .debugSystemReset .. | .configImageAccept .. | .loadedImageVerify .. | .cycleStartTick .. | .feedbackLatch ..
  | .profileTick | .commandLatch .. | .serviceTick | .safeStartTestsDone .. | .deliberateReset .. | .internalFault ..
  | .quadTransition .. | .hallStateChange .. | .sampleWindowEnd .. | .overcurrentTrip .. | .pairLoRead ..
  | .plicClaim .. | .canHpRead .. | .safeInputChange .. | .safeInputDiscrepancy .. | .safetyConnectionLost .. | .safeRelease .. | .safeStopRequest ..
  | .safeSlsSet .. | .safeSlsClear .. | .safeClearEvents .. | .offPulseTest .. | .stoReadbackMismatch ..
  | .contactorFeedbackTimeout .. | .spornRelease | .safetyPowerOnReset | .loopEngineEccError .. | .ssmPassDoneB ..
  | .perceptionUnitLost .. | .nodeFeedbackLatch .. | .accessReq .. | .write .. | .read .. | .pcieInboundTlp ..
  | .twinWriteApply | .lifecycleTransitionDone | .slotFrameSend .. | .safetyFrameRx .. => true
  | _ => false

/-- The commands that may store in the addressed memories, or lose them. -/
def storesMemory : Instr → Bool
  | .powerOnReset .. | .brownoutDetect .. | .externalReset .. | .watchdogExpire .. | .softwareReset ..
  | .safetyIslandResetRequest .. | .debugSystemReset .. | .waveFftSubmit
  | .registerWrite .. | .pairHiWrite .. | .postedWriteComplete .. | .pageSoftResetDone .. | .memoryInitDone
  | .cycleStartTick .. | .loopPassDone | .dspSubmit .. | .dspJobStart .. | .dspJobDone .. | .dspSuspend ..
  | .dspSuspended .. | .dspResume .. | .dspRunNext .. | .dspAbort .. | .ethFrameRx .. | .ethTxDone ..
  | .sdramFillDone | .xspiOpDone .. | .powerStateExitDone .. | .accessReq .. | .write .. | .read ..
  | .pcieInboundTlp .. | .twinWriteApply | .attestationGo .. | .attestationDone .. | .ikBatchDone ..
  | .dpJobSubmit .. | .dpJobDone .. | .pairLoRead .. | .plicClaim .. | .canHpRead .. | .configImageAccept ..
  | .loadedImageVerify .. | .profileTick | .vmfUpdateDone | .waveFitDone | .vmfRunEnable .. | .vmfRunDisable ..
  | .vmfRealign .. | .solverFkDone .. => true
  | _ => false

/-- The commands that may change the fuses or the Event Archive: their own, and those by which a write may reach the
registers of the SEC page. -/
def reachesNv : Instr → Bool
  | .registerWrite .. | .pairHiWrite .. | .postedWriteComplete .. | .pageSoftResetDone .. | .accessReq .. | .write ..
  | .pairLoRead .. | .plicClaim .. | .canHpRead ..
  | .read .. | .twinWriteApply | .pcieInboundTlp .. | .alwaysOnPowerUp .. | .otpCommandDone .. | .counterAdvance .. | .lifecycleTransitionDone | .secretProgram ..
  | .eventArchiveWrite | .poweredHour => true
  | _ => false

/-- The access of an aligned word that a command is, where no other agent makes one in its clock: who makes it, to which
register, and whether it writes. -/
def accessOf : Instr → Option (Sender × Nat × Bool)
  | .pairHiWrite a snd _ => if regAddr a % 4 = 0 then some (snd, (regAddr a), true) else none
  | .watchdogKick snd _ => some (snd, R.SYS_WDT_KICK, true)
  | .watchdogEnable snd _ => some (snd, R.SYS_WDT_CTRL, true)
  | .softwareReset snd _ _ => some (snd, R.SYS_RST_CTRL, true)
  | .debugSystemReset snd _ _ => some (snd, R.DBG_SYSRST, true)
  | .canRxfPop i snd _ => some (snd, (R.CAN_RXF_POP i.val), true)
  | .canHpRead i snd [] => some (snd, (R.CAN_HP_ID i.val), false)
  | .canTxfPush i snd _ => some (snd, (R.CAN_TXF_PUSH i.val), true)
  | .canTxdSend i snd _ => some (snd, (R.CAN_TXD_SEND i.val), true)
  | .canTxfAbort i snd _ => some (snd, (R.CAN_TXCMD i.val), true)
  | .canTxdAbort i snd _ => some (snd, (R.CAN_TXCMD i.val), true)
  | .canModeInit i _ snd _ => some (snd, (R.CAN_CTRL i.val), true)
  | .canModeNormal i snd _ => some (snd, (R.CAN_CTRL i.val), true)
  | .canModeListen i snd _ => some (snd, (R.CAN_CTRL i.val), true)
  | .canModeRestricted i snd _ => some (snd, (R.CAN_CTRL i.val), true)
  | .deckTimeStepCommit snd _ => some (snd, R.TB_STEP_HI, true)
  | .dspSubmit w snd _ => some (snd, (R.DSP_SUBMIT w.val), true)
  | .dspSuspend w snd _ => some (snd, (R.DSP_CMD w.val), true)
  | .dspResume w snd _ => some (snd, (R.DSP_CMD w.val), true)
  | .dspRunNext w snd _ => some (snd, (R.DSP_CMD w.val), true)
  | .dspAbort w snd _ _ => some (snd, (R.DSP_CMD w.val), true)
  | .discoveryWalkStart snd => some (snd, R.FAB_CTRL, true)
  | .rediscovery snd => some (snd, R.FAB_CTRL, true)
  | .imageLoadEnable snd _ => some (snd, R.FAB_CTRL, true)
  | .routeCommit snd _ => some (snd, R.FAB_RT_B, true)
  | .ssiReadCommand i snd _ => some (snd, (R.FBK_CMD i.val), true)
  | .indexArm i snd => some (snd, (R.FBK_CMD i.val), true)
  | .compareRestart i snd => some (snd, (R.FBK_CMD i.val), true)
  | .msixFire snd hi _ => some (snd, (if hi then R.PCIE_MSIX_FIRE_HI else R.PCIE_MSIX_FIRE_LO), true)
  | .ethTailWrite snd i q _ => some (snd, (R.ETH_RING_TAIL i.val q.val), true)
  | .xspiProgram snd => some (snd, R.XSPI_CMD, true)
  | .xspiErase snd => some (snd, R.XSPI_CMD, true)
  | .spiTransferGo snd k _ => some (snd, (R.SPI_CMD k.val), true)
  | .smbTransactionGo snd c _ => some (snd, (R.SMB_CMD c.val), true)
  | .folioSwapRequest c snd _ => some (snd, (R.LE_SWAP c.val), true)
  | .groupSwapRequest w snd _ => some (snd, (R.LE_GSWAP_HI w.val), true)
  | .traceArm w snd => some (snd, (R.WING_DIAG_CMD w.val), true)
  | .diagTrigger w snd => some (snd, (R.WING_DIAG_CMD w.val), true)
  | .injectStart w snd => some (snd, (R.WING_DIAG_CMD w.val), true)
  | .diagAbort w snd => some (snd, (R.WING_DIAG_CMD w.val), true)
  | .ledgerDataRead w snd => some (snd, (R.LEDGER_DATA w.val), false)
  | .mailboxDataWrite m i snd _ => some (snd, (R.MBX_DATA m.val i.val), true)
  | .mailboxPost m snd _ [] => some (snd, (R.MBX_POST m.val), true)
  | .mailboxAck m snd _ => some (snd, (R.MBX_ACK m.val), true)
  | .mailboxCancel m snd => some (snd, (R.MBX_CTRL m.val), true)
  | .loanAcquire n snd [] => some (snd, (R.LOAN n.val), false)
  | .loanRelease n snd _ => some (snd, (R.LOAN n.val), true)
  | .loanForce snd _ => some (snd, R.LOAN_FORCE_HI, true)
  | .decodeErrorClear snd _ => some (snd, R.SYS_DECERR_HI, true)
  | .pairLoRead a snd .word _ [] => if a.val % 4 = 0 then some (snd, (0x40000000 + a.val), false) else none
  | .pageSoftReset p snd => some (snd, (R.PAGE_CTRL (pageNo p.val)), true)
  | .pageDisable p snd => some (snd, (R.PAGE_CTRL (pageNo p.val)), true)
  | .pageEnable p snd => some (snd, (R.PAGE_CTRL (pageNo p.val)), true)
  | .irqForce p snd _ => some (snd, (R.IRQ_FORCE (pageNo p.val)), true)
  | .irqClear p snd _ _ => some (snd, (R.IRQ_CLR (pageNo p.val)), true)
  | .pageLockKey p snd => some (snd, (R.PAGE_LOCK (pageNo p.val)), true)
  | .pageLockClose p snd => some (snd, (R.PAGE_LOCK (pageNo p.val)), true)
  | .powerStateRequest snd _ => some (snd, R.PWR_REQ, true)
  | .carrelEnable c snd => some (snd, (R.CAR_CTRL c.val), true)
  | .carrelDisable c snd => some (snd, (R.CAR_CTRL c.val), true)
  | .profileGo c snd => some (snd, (R.PS_CMD c.val), true)
  | .profileStop c snd => some (snd, (R.PS_CMD c.val), true)
  | .profileHome c snd => some (snd, (R.PS_CMD c.val), true)
  | .pathGo m snd => some (snd, (R.PATH_CMD (m.val / 4) (m.val % 4)), true)
  | .pathStop m snd => some (snd, (R.PATH_CMD (m.val / 4) (m.val % 4)), true)
  | .pathFlush m snd => some (snd, (R.PATH_CMD (m.val / 4) (m.val % 4)), true)
  | .pathSegmentPush m snd => some (snd, (R.PATH_SEG_PUSH (m.val / 4) (m.val % 4)), true)
  | .pwmChannelEnable p snd _ => some (snd, (R.PWM_CH_CTRL p.val), true)
  | .pwmChannelDisable p snd _ => some (snd, (R.PWM_CH_CTRL p.val), true)
  | .pwmCompareWrite p snd _ => some (snd, (R.PWM_CH_CMP_W p.val), true)
  | .pwmPeriodWrite p snd _ => some (snd, (R.PWM_CH_PERIOD p.val), true)
  | .deadTimeModeWrite snd _ => some (snd, R.PWM_COM_CFG, true)
  | .sdmClockWrite j snd _ => some (snd, (R.SDM_CLK j.val), true)
  | .coordinatorSwap snd => some (snd, R.RED_CTRL, true)
  | .resyncCommand snd => some (snd, R.RED_CTRL, true)
  | .yield snd _ => some (snd, R.RED_CTRL, true)
  | .twinWriteGo snd => some (snd, R.RED_TW_GO, true)
  | .keyProgram snd => some (snd, R.SEC_KEY_CMD, true)
  | .keyRevoke snd => some (snd, R.SEC_KEY_CMD, true)
  | .counterAdvance snd _ => some (snd, R.SEC_CTR_ADV, true)
  | .lifecycleAdvance snd _ _ _ => some (snd, R.SEC_LC_ADV, true)
  | .returnChallenge snd _ => some (snd, R.SEC_RET_CMD, true)
  | .secretProgram snd _ => some (snd, R.SEC_SECRET_PROG, true)
  | .secretLock snd _ => some (snd, R.SEC_SECRET_LOCK, true)
  | .attestationGo snd _ => some (snd, R.SEC_ATT_CMD, true)
  | .eventArchivePost snd _ => some (snd, R.SEC_EA_POST, true)
  | .debugLock snd _ => some (snd, R.DBG_CTRL, true)
  | .colophonRead snd => some (snd, R.SEC_COL_DATA, false)
  | .taCommit snd _ => some (snd, R.TA_COMMIT, true)
  | .variantRequest m snd _ => some (snd, (R.SOLV_M_VAR m.val), true)
  | .dpJobSubmit snd _ => some (snd, R.SOLV_DPJ_SUBMIT, true)
  | .portEnable k snd _ => some (snd, (R.SZP_CFG k.val), true)
  | .synzonEnable snd _ => some (snd, R.SZN_CTRL, true)
  | .synzonDisable snd _ => some (snd, R.SZN_CTRL, true)
  | .remoteAccessGo snd _ => some (snd, R.SZN_RA_CMD, true)
  | .catalogueSwitchRequest snd _ => some (snd, R.SZN_CAT_REQ, true)
  | .sendWake k snd => some (snd, (R.SZP_CMD k.val), true)
  | .threadCreate snd => some (snd, R.DISP_TH_CMD, true)
  | .threadResume snd => some (snd, R.DISP_TH_CMD, true)
  | .threadSuspend snd => some (snd, R.DISP_TH_CMD, true)
  | .threadWake snd => some (snd, R.DISP_TH_CMD, true)
  | .threadDelete snd => some (snd, R.DISP_TH_CMD, true)
  | .dispNextRead h snd => some (snd, (R.DISP_NEXT h.val), false)
  | .threadYield h snd => some (snd, (R.DISP_CMD h.val), true)
  | .threadWait h snd _ => some (snd, (R.DISP_CMD h.val), true)
  | .threadExit h snd => some (snd, (R.DISP_CMD h.val), true)
  | .eventPostSoftware snd _ => some (snd, R.DISP_EV_POST, true)
  | .coreRelease snd _ => some (snd, R.DISP_CORE_REL, true)
  | .dispCounterWrite snd _ => some (snd, R.DISP_DC_COUNT, true)
  | .plicClaim x snd [] => some (snd, (R.PLIC_CLAIM x.val), false)
  | .plicComplete x snd _ => some (snd, (R.PLIC_CLAIM x.val), true)
  | .navRecordCommit snd _ => some (snd, R.VMF_NAV_T_HI, true)
  | .vmfRunEnable snd _ => some (snd, R.VMF_CTRL, true)
  | .vmfRunDisable snd _ => some (snd, R.VMF_CTRL, true)
  | .vmfRealign snd _ => some (snd, R.VMF_CTRL, true)
  | .predictionQuery snd _ => some (snd, R.VMF_PRED_T_HI, true)
  | .machineFrameRequest m snd _ => some (snd, (R.VMF_MFRAME m.val), true)
  | _ => none

end Sys2Proof.Machine
end

