-- ==== Sys2Proof/Certificates/Slice0/Obligations.lean ====
section
/-! DEFINITION. The statements for the provers: what the commands of every chapter do, their frames, and the
invariant that every step keeps. The vocabulary (who may write, what stays the same) is in Safety.lean. -/

open Sys2Proof Sys2Proof.Machine

/-- A step takes the command at the front of the queue and runs it on the state with the queue's rest. -/
def Obligations.StepRunsFront : Prop :=
  ∀ (c : Instr) (s : State), step { s with pending := c :: s.pending } = exec c s

/-- With no command waiting one tick of Deck Time passes (log 29, the model's choice): Deck Time, a count of 64 bits, goes up
by 5 units and the tick count by 1, and nothing outside the application side changes.
With DEV in Pause Deck Time counts and no register changes; with DEV in Stored or deeper, and while the application side is
held in reset, nothing changes at all (R475; log 117). -/
def Obligations.EmptyQueueTicks : Prop :=
  ∀ s : State, s.pending = [] →
    (s.blk.held = true → step s = .next s) ∧
    (s.blk.held = false → s.blk.domState 4 = 1 → step s = .next { s with blk := { s.blk with tb := s.blk.tb.pass 1 } }) ∧
    (s.blk.held = false → 2 ≤ s.blk.domState 4 → step s = .next s) ∧
    (s.blk.held = false → s.blk.domState 4 = 0 → ∃ t, step s = .next t ∧ s.sameRest t ∧ t.blk.regs = s.blk.idle.regs ∧
      t.blk.tb = { s.blk.tb with
        dt := (s.blk.tb.dt + 5) % 2 ^ 64, ticks := s.blk.tb.ticks + 1,
        cycDone := if s.blk.tb.dt + 5 < 2 ^ 64 then s.blk.tb.cycDone else 0 })

/-- Every step from a safe state leads to a safe state: the addressed memories keep their canonical form, and outside
RUN every STO group and every contactor of the Safety Island is off (R324). -/
def Obligations.SafeKept : Prop :=
  ∀ s t : State, s.safe → step s = .next t → t.safe

/-- What reset leaves: every register reads its table's reset value, but for those that straps and the reset's cause
set (all straps 0 is the model's choice, log 1): SYS_RST_CAUSE shows the power-on reset, TB_CTRL and SZN_ID what a Node at
seat 0 gets; Deck Time is 0, no memory is written, no command waits, the Safety Island is in START.
The state after reset is safe. -/
def Obligations.ResetState : Prop :=
  ((∀ a, a ≠ R.SYS_RST_CAUSE → a ≠ R.TB_CTRL → a ≠ R.SZN_ID → State.reset.blk.rd a = regDefault a) ∧
  State.reset.blk.rd R.SYS_RST_CAUSE = 0x01#32 ∧ State.reset.blk.rd R.TB_CTRL = 0x0B#32 ∧
  State.reset.blk.rd R.SZN_ID = 0xFFF#32 ∧ State.reset.blk.held = false ∧ State.reset.blk.tb.dt = 0 ∧
  State.reset.blk.role = 0 ∧ State.reset.blk.bootStage = 0 ∧ State.reset.blk.enCars = [] ∧
  State.reset.isl.st = 0 ∧ State.reset.isl.stoOn = 0 ∧ State.reset.isl.kOn = 0 ∧
  (∀ a, mrd State.reset.mem a = memDefault a) ∧ State.reset.pending = []) ∧
  (State.reset.safe)

/-- Every command completes: it answers a next state, never a fault or a refusal, and no command touches the queue of
commands that wait.
What a command reaches: the addressed memories change by the commands that store in them alone, the Safety Island by
its own commands and by those that may start a system reset, the fuses and the Event Archive by their own. -/
def Obligations.CommandReach : Prop :=
  (∀ (c : Instr) (s : State), ∃ t, exec c s = .next t ∧ t.pending = s.pending) ∧
  (∀ (c : Instr) (s t : State), exec c s = .next t →
    (storesMemory c = false → ∀ a, mrd t.mem a = mrd s.mem a) ∧
    (reachesIsland c = false → t.isl = s.isl) ∧
    (reachesNv c = false → t.nv = s.nv) ∧ t.pending = s.pending)

/-- While the application side is held in reset, only the commands of the Safety Island, the resets and releases and
those of the fuses and the RTC domain act (R84; log 31): every other command leaves the machine as it is.
With DEV in a power state whose clocks are gated or off no event of the application side comes (R475; log 117). -/
def Obligations.HeldSideInert : Prop :=
  (∀ (c : Instr) (s : State), s.blk.held = true → actsInReset c = false → exec c s = .next s) ∧
  (∀ (c : Instr) (s : State), s.blk.domState 4 ≠ 0 → eventOfApp c = true → exec c s = .next s)

/-- An access command that the interconnect refuses has no effect of its own: the refusal is recorded in PAGE_ERR and the
interrupt of its page, the access answers the reason, and everything else stays as it is (R73). -/
def Obligations.RefusedAccess : Prop :=
  ∀ (c : Instr) (snd : Sender) (a : Nat) (wr : Bool) (r : Reason) (s : State), accessOf c = some (snd, a, wr) →
    s.hears snd → (pageOf a).isSome = true → s.blk.denial snd a wr = some r →
    ∃ t, exec c s = .next t ∧ s.onlyRegs t [R.PAGE_ERR (pageBase a), R.IRQ_RAW (pageBase a)] ∧
      t.blk.fl (R.PAGE_ERR (pageBase a)) 16 4 = r.code ∧
      t.blk.bt (R.PAGE_ERR (pageBase a)) 0 = wr ∧
      t.blk.fl (R.PAGE_ERR (pageBase a)) 12 4 = snd.agent.val ∧
      t.blk.fl (R.PAGE_ERR (pageBase a)) 2 10 = a % 0x1000 / 4 ∧
      (s.blk.fl (R.PAGE_ERR (pageBase a)) 16 4 ≠ 0 → t.blk.bt (R.PAGE_ERR (pageBase a)) 1 = true) ∧
      t.blk.bt (R.IRQ_RAW (pageBase a)) 31 = true ∧
      t.blk.answer = { data := 0, error := false, why := r.code }

/-- Every source of a system reset (R83 to R86) resets the application side, records its cause and leaves the other
causes: a power-on, a brownout and an external reset always, the watchdog where it runs and is not paused, a software
reset by a write of 1, the Safety Island's request unless the island is itself held, a debug reset under a grant with
permission RESET; further sources in the same clock record their causes too, and the widest scope applies (R85).
The watchdog (R90, R91): a kick with 0x0000_A5C3 loads TIMEOUT into the count and any other value is refused with
reason RANGE; a write of SYS_WDT_CTRL sets it and, with EN, loads the count, is refused with reason STATE once EN is 1
and with reason RANGE where TIMEOUT is 0; the count resets nothing before its last millisecond, while EN is 0, or while
the watchdog pauses, which with DBG_PAUSE it does in a system halt and while debug holds a core halted. -/
def Obligations.SystemResets : Prop :=
  (∀ (s : State) (also : List RstSrc), ∃ t, exec (.powerOnReset also) s = .next t ∧ s.systemReset t (.powerOn :: also)) ∧
  (∀ (s : State) (also : List RstSrc),
    ∃ t, exec (.brownoutDetect also) s = .next t ∧ s.systemReset t (.brownout :: also)) ∧
  (∀ (s : State) (also : List RstSrc),
    ∃ t, exec (.externalReset also) s = .next t ∧ s.systemReset t (.external :: also)) ∧
  (∀ (s : State) (also : List RstSrc), s.blk.off = false → s.blk.bt R.SYS_WDT_CTRL 0 = true →
    (s.blk.bt R.SYS_WDT_CTRL 1 = false ∨ (s.blk.bt R.PWM_COM_STAT 17 = false ∧ s.blk.sec.halted = [])) →
    s.blk.rdN R.SYS_WDT_CNT ≤ 1 →
    ∃ t, exec (.watchdogExpire also) s = .next t ∧ s.systemReset t (.watchdog :: also)) ∧
  (∀ (s : State) (snd : Sender) (v : Word) (also : List RstSrc), s.takesWrite snd R.SYS_RST_CTRL → v.getLsbD 0 = true →
    ∃ t, exec (.softwareReset snd v also) s = .next t ∧ s.systemReset t (.software :: also)) ∧
  (∀ (s : State) (also : List RstSrc), s.isl.held = false →
    ∃ t, exec (.safetyIslandResetRequest also) s = .next t ∧ s.systemReset t (.island :: also)) ∧
  (∀ (s : State) (snd : Sender) (v : Word) (also : List RstSrc), s.takesWrite snd R.DBG_SYSRST → v.getLsbD 0 = true →
    s.blk.bt R.DBG_AUTH_STAT 0 = true → s.blk.bt R.DBG_AUTH_STAT 4 = true →
    ∃ t, exec (.debugSystemReset snd v also) s = .next t ∧ s.systemReset t (.debug :: also)) ∧
  (∀ (s : State) (snd : Sender), s.takesWrite snd R.SYS_WDT_KICK →
    ∃ t, exec (.watchdogKick snd 0x0000A5C3#32) s = .next t ∧ s.sameRest t ∧ t.blk.wdtDiv = 0 ∧
      s.blk.sameHidden { t.blk with wdtDiv := s.blk.wdtDiv } ∧ s.blk.keeps t.blk [R.SYS_WDT_CNT] ∧
      t.blk.rdN R.SYS_WDT_CNT = s.blk.fl R.SYS_WDT_CTRL 16 16 ∧ t.blk.answer = {}) ∧
  (∀ (s : State) (snd : Sender) (v : Word), s.takesWrite snd R.SYS_WDT_KICK → v ≠ 0x0000A5C3#32 →
    ∃ t, exec (.watchdogKick snd v) s = .next t ∧ s.onlyRegs t [R.PAGE_ERR 0x40000000, R.IRQ_RAW 0x40000000] ∧
      t.blk.answer = { data := 0, error := false, why := Reason.range.code }) ∧
  (∀ (s : State) (snd : Sender) (v : Word), s.takesWrite snd R.SYS_WDT_CTRL → s.blk.bt R.SYS_WDT_CTRL 0 = false →
    fld v 16 16 ≠ 0 →
    ∃ t, exec (.watchdogEnable snd v) s = .next t ∧ s.sameRest t ∧
      t.blk.wdtDiv = (if v.getLsbD 0 = true then 0 else s.blk.wdtDiv) ∧
      s.blk.sameHidden { t.blk with wdtDiv := s.blk.wdtDiv } ∧ s.blk.keeps t.blk [R.SYS_WDT_CTRL, R.SYS_WDT_CNT] ∧
      t.blk.rd R.SYS_WDT_CTRL = v &&& 0xFFFF0003#32 ∧
      t.blk.rdN R.SYS_WDT_CNT = (if v.getLsbD 0 = true then fld v 16 16 else s.blk.rdN R.SYS_WDT_CNT)) ∧
  (∀ (s : State) (snd : Sender) (v : Word), s.takesWrite snd R.SYS_WDT_CTRL →
    s.blk.bt R.SYS_WDT_CTRL 0 = true ∨ fld v 16 16 = 0 →
    ∃ t, exec (.watchdogEnable snd v) s = .next t ∧ s.onlyRegs t [R.PAGE_ERR 0x40000000, R.IRQ_RAW 0x40000000] ∧
      t.blk.answer.why = if s.blk.bt R.SYS_WDT_CTRL 0 = true then Reason.state.code else Reason.range.code) ∧
  (∀ (s : State) (also : List RstSrc), s.blk.held = true ∨ s.blk.bt R.SYS_WDT_CTRL 0 = false ∨
      (s.blk.bt R.SYS_WDT_CTRL 1 = true ∧ (s.blk.bt R.PWM_COM_STAT 17 = true ∨ s.blk.sec.halted ≠ [])) ∨
      1 < s.blk.rdN R.SYS_WDT_CNT →
    exec (.watchdogExpire also) s = .next s)

/-- The end of a power-on and of a brownout reset samples the straps (R79, R83, R84), and neither acts where its own reset
does not wait; the application side is released after the hold alone, with Deck Time 0 and STAGE 0 and nothing else
changed where the Synzon block is off (R84, R35).
The always-on power-up (R83, R89, R499): every cause bit is cleared, the power states are Run again, a Hub's wings Archived (R482),
the queue of records is lost, and a record that was being written leaves the newest slot with a wrong CRC; no register
outside the PWR page changes but the cause, nor do the Safety Island, the memories and the other fuses. -/
def Obligations.ResetReleases : Prop :=
  (∀ (s : State) (v : Fin 8192), s.blk.rstSt = 2 →
    ∃ t, exec (.pornRelease v) s = .next t ∧ s.strapsSampled t v.val) ∧
  (∀ (s : State) (v : Fin 8192), s.blk.rstSt ≠ 2 → exec (.pornRelease v) s = .next s) ∧
  (∀ (s : State) (v : Fin 8192), s.blk.rstSt = 3 →
    ∃ t, exec (.brownoutRelease v) s = .next t ∧ s.strapsSampled t v.val) ∧
  (∀ (s : State) (v : Fin 8192), s.blk.rstSt ≠ 3 → exec (.brownoutRelease v) s = .next s) ∧
  (∀ s : State, s.blk.held = true → s.blk.rstSt = 1 →
    ∃ t, exec .applicationRelease s = .next t ∧ s.sameRest t ∧ t.blk.held = false ∧ t.blk.rstSt = 0 ∧ t.blk.tb = {} ∧
      t.blk.bootStage = 0 ∧ s.blk.keeps t.blk [R.SYS_BOOT_STAT, R.SZN_STAT, R.PAGE_STAT sznPage] ∧
      t.blk = { s.blk with regs := t.blk.regs, held := false, rstSt := 0, tb := {} } ∧
      (s.blk.bt R.SZN_CTRL 0 = true → t.blk.sznSt = 1) ∧
      (s.blk.bt R.SZN_CTRL 0 = false → s.blk.keeps t.blk [R.SYS_BOOT_STAT])) ∧
  (∀ s : State, s.blk.held = false ∨ s.blk.rstSt ≠ 1 → exec .applicationRelease s = .next s) ∧
  (∀ (s : State) (writing : Bool),
    ∃ t, exec (.alwaysOnPowerUp writing) s = .next t ∧ t.isl = s.isl ∧ t.mem = s.mem ∧ t.pending = s.pending ∧
      t.blk.rd R.SYS_RST_CAUSE = 0#32 ∧ t.blk.rdN R.PWR_STAT = (if s.blk.isHub then 0x924 else 0) ∧
      t.blk.eaq = [] ∧ t.blk.pw = {} ∧
      (∀ a, pageBase a ≠ pwrPage → a ≠ R.SYS_RST_CAUSE → t.blk.rd a = s.blk.rd a) ∧
      ((writing && !s.blk.eaq.isEmpty) = false → t.nv = s.nv) ∧
      ((writing && !s.blk.eaq.isEmpty) = true → t.nv.nextSeq = s.nv.nextSeq + 1 ∧
        (t.nv.archive.head?.map (fun e => e.crcOk)) = some false ∧
        t.nv = { s.nv with archive := t.nv.archive, nextSeq := t.nv.nextSeq }))

/-- The stages of the boot (R92, R95, R96, R54, R101): the end of the OTP read shows the fuses and enters stage 1 (0xF where
BOOT = 0b11 holds the boot, which starts the Service Tick; a Hub's boot ROM does not run); the end of the memory
initialisation clears every ECC memory, enters stage 2 and starts the Service Tick; on a Hub the Service Tick starts by
its own count; a source that holds a SAFETY and a FIRMWARE image leads to stage 3, any other stops the boot with ERR = 1, and images come
from flash, or from a PCIe host that has rung mailbox 0, alone;
over Synzon the firmware's fetch may have ended before the initialisation, which then enters stage 3;
images that verify lead to the firmware's entry in stage 4, the first that fails stops the boot with its code.
Images after the entry to firmware (R96, R8, R14, R394, R396, R398): a configuration image that verifies and passes its
checks is accepted: CFG_OK is set, the device holds its digest and the island, unless held, its safety parameters; one
that fails verification leaves CFG_OK and STAGE and writes the failure's code to ERR; the image's Solver records are placed in Solver SRAM (R196);
a loaded image all of whose chunks
are held is verified, a SAFETY image that verifies is placed in the safety SRAM of both channels (R321), and its result goes to the time master as LOAD_STAT, and a firmware image that verifies in stage 3 is
entered; at a boundary a held device disables every
enabled carrel. -/
def Obligations.BootAndImages : Prop :=
  (∀ s : State, s.blk.held = false → s.blk.bootStage = 0 →
    ∃ t, exec .otpReadDone s = .next t ∧ s.sameRest t ∧
      t.blk.rdN R.SYS_UID_LO = s.nv.uid % 2 ^ 32 ∧ t.blk.rdN R.SYS_UID_HI = s.nv.uid / 2 ^ 32 % 2 ^ 32 ∧
      t.blk.rdN R.PCIE_ID = s.nv.pcieId % 2 ^ 32 ∧ t.blk.fl R.SEC_STAT 0 12 = s.nv.secStat % 2 ^ 12 ∧
      t.blk.bt R.TB_STAT 0 = true ∧
      t.blk.bootStage = (if s.blk.isHub = false ∧ s.blk.fl R.SYS_BOOT_STAT 4 2 = 3 then 0xF else 1) ∧
      (s.blk.isHub = false → s.blk.fl R.SYS_BOOT_STAT 4 2 = 3 → t.blk.tb.svcRun = true) ∧
      (s.blk.isHub = true ∨ s.blk.fl R.SYS_BOOT_STAT 4 2 < 2 →
        t.blk.tb = s.blk.tb ∧ s.blk.keeps t.blk [R.SYS_UID_LO, R.SYS_UID_HI, R.PCIE_ID, R.SEC_STAT, R.SEC_CTR,
          R.SEC_EA_STAT, R.SEC_POH, R.DBG_AUTH_STAT, R.TB_STAT, R.SYS_BOOT_STAT]) ∧
      (s.blk.isHub = false → s.blk.fl R.SYS_BOOT_STAT 4 2 = 2 →
        t.blk.sznSt = 1 ∧ ∀ k, k < 64 → t.blk.bt (R.SZP_CFG k) 0 = true)) ∧
  (∀ s : State, s.blk.held = false → s.blk.bootStage = 1 → s.blk.isHub = false →
    ∃ t, exec .memoryInitDone s = .next t ∧ t.isl = s.isl ∧ t.nv = s.nv ∧ t.pending = s.pending ∧
      t.blk.bootStage = (if s.blk.fl R.SYS_BOOT_STAT 4 2 = 2 ∧ s.blk.fwFetched = true then 3 else 2) ∧
      t.blk = { s.blk with regs := t.blk.regs, raw := false, tb := { s.blk.tb with svcRun := true } } ∧
      s.blk.keeps t.blk [R.SYS_BOOT_STAT] ∧
      ∀ a, mrd t.mem a = (if (0x10000000 ≤ a ∧ a ≤ 0x107FFFFF) ∨ (0x18000000 ≤ a ∧ a ≤ 0x187FFFFF) ∨
        (0x20000000 ≤ a ∧ a ≤ 0x200FFFFF) then 0#8 else mrd s.mem a)) ∧
  (∀ s : State, s.blk.off = false → s.blk.isHub = true →
    exec .hubServiceTickStart s = .next { s with blk := { s.blk with tb := { s.blk.tb with svcRun := true } } }) ∧
  (∀ (s : State) (l : List ImgHdr) (sf fw : ImgHdr), s.blk.off = false → s.blk.fetches = true →
    bestImage s.blk.role 3 l = some sf → bestImage s.blk.role 1 l = some fw →
    ∃ t, exec (.imageFetchDone l) s = .next t ∧ s.sameRest t ∧ t.blk.bootStage = 3 ∧
      t.blk.sec.cand = sf :: fw :: (bestImage s.blk.role 2 l).toList ∧
      t.blk = { s.blk with regs := t.blk.regs, sec := { s.blk.sec with cand := t.blk.sec.cand } } ∧
      s.blk.keeps t.blk [R.SYS_BOOT_STAT]) ∧
  (∀ (s : State) (l : List ImgHdr), s.blk.off = false → s.blk.bootStage = 2 → s.blk.isHub = false →
    s.blk.fetches = true ∨ l = [] → bestImage s.blk.role 3 l = none ∨ bestImage s.blk.role 1 l = none →
    ∃ t, exec (.imageFetchDone l) s = .next t ∧ s.sameRest t ∧ t.blk.bootStage = 0xF ∧
      t.blk.fl R.SYS_BOOT_STAT 8 8 = 1) ∧
  (∀ (s : State) (l : List ImgHdr), s.blk.fetches = false → l ≠ [] → exec (.imageFetchDone l) s = .next s) ∧
  (∀ (s : State) (sf fw : ImgHdr) (rest : List ImgHdr), s.blk.held = false → s.blk.bootStage = 3 →
    s.blk.sec.cand = sf :: fw :: rest → verifyAll s.blk.role s.nv.uid s.nv [sf, fw] = none →
    ∃ t, exec .imageVerify s = .next t ∧ s.sameRest t ∧ t.blk.bootStage = 4 ∧
      sget (fun _ => 0) t.blk.disp.corePc 0 = fw.entry ∧ s.blk.keeps t.blk [R.SYS_BOOT_STAT] ∧
      t.blk = { s.blk with regs := t.blk.regs, sec := t.blk.sec, disp := { s.blk.disp with corePc := t.blk.disp.corePc } }) ∧
  (∀ (s : State) (sf fw : ImgHdr) (rest : List ImgHdr) (c : Nat), s.blk.held = false → s.blk.bootStage = 3 →
    s.blk.sec.cand = sf :: fw :: rest → verifyAll s.blk.role s.nv.uid s.nv [sf, fw] = some c →
    ∃ t, exec .imageVerify s = .next t ∧ s.sameRest t ∧ t.blk.bootStage = 0xF ∧
      t.blk.fl R.SYS_BOOT_STAT 8 8 = c % 256 ∧ t.blk.disp = s.blk.disp) ∧
  (∀ (s : State) (h : ImgHdr) (img : Image), s.blk.off = false → s.blk.bootStage = 4 → h.typ = 2 →
    (s.blk.isCoord && s.blk.anyCarrelEn) = false → verifyImage s.blk.role s.nv.uid s.nv h = none →
    timelineOk s.blk.role s.blk.seat (s.blk.fl R.SZN_ID 0 12) img = true →
    imageOk s.blk.role s.blk.seat (s.blk.fl R.SZN_ID 0 12) img = true →
    ∃ t, exec (.configImageAccept h img) s = .next t ∧ t.nv = s.nv ∧ t.pending = s.pending ∧
      (∀ a, mrd t.mem a = if s.blk.isCoord = true ∧ 0x20000000 ≤ a then
        ((img.recs.take 0x50000)[a - 0x20000000]?).getD (mrd s.mem a) else mrd s.mem a) ∧
      t.blk.bt R.SYS_BOOT_STAT 6 = true ∧ t.blk.cfg = { oneRamp img with digest := h.digest % 2 ^ 64, fwset := h.fwset } ∧
      (s.isl.held = false → t.isl.cfg = (oneRamp img).safe) ∧ (s.isl.held = true → t.isl = s.isl)) ∧
  (∀ (s : State) (h : ImgHdr) (img : Image) (c : Nat), s.blk.off = false → s.blk.bootStage = 4 → h.typ = 2 →
    (s.blk.isCoord && s.blk.anyCarrelEn) = false → verifyImage s.blk.role s.nv.uid s.nv h = some c →
    ∃ t, exec (.configImageAccept h img) s = .next t ∧ s.sameRest t ∧ t.blk.fl R.SYS_BOOT_STAT 8 8 = c % 256 ∧
      t.blk.bootStage = 4 ∧ t.blk.bt R.SYS_BOOT_STAT 6 = s.blk.bt R.SYS_BOOT_STAT 6 ∧ t.blk.cfg = s.blk.cfg) ∧
  (∀ (s : State) (k : Fin 8) (n : Nat) (h : ImgHdr) (img : Image), s.blk.off = false → s.blk.fl R.SYS_BOOT_STAT 4 2 = 2 →
    0 < n → (∀ c, c < n → ∃ x ∈ s.blk.fab.held, x.1 = k.val ∧ x.2.1 = c) → h.typ = 3 → 2 ≤ s.blk.bootStage →
    s.blk.bootStage ≠ 0xF → verifyImage s.blk.role s.nv.uid s.nv h = none →
    ∃ t, exec (.loadedImageVerify k n h img) s = .next t ∧ t.nv = s.nv ∧ t.mem = s.mem ∧ t.pending = s.pending ∧
      (s.isl.held = true → t.isl = s.isl) ∧
      (s.isl.held = false → t.isl = { s.isl with sram := t.isl.sram } ∧
        ∀ i b, ((heldBytes s.blk.fab.held k.val n).take 0x80000)[i]? = some b →
          mrd t.isl.sram i = b ∧ mrd t.isl.sram (0x80000 + i) = b) ∧ t.blk.fab = s.blk.fab ∧
      t.blk.sec.imgs = (s.blk.recordImage h).sec.imgs ∧
      s.blk.keeps t.blk [] ∧
      (s.blk.szn.svcq.length < 8 → ∃ m, t.blk.szn.svcq = s.blk.szn.svcq ++ [m] ∧ m.typ = 0x11 ∧
        m.dst = s.blk.fl R.SZN_TM 0 12 ∧ m.body = [k.val, 0, s.blk.fl R.SYS_BOOT_STAT 8 8])) ∧
  (∀ (s : State) (k : Fin 8) (n : Nat) (h : ImgHdr) (img : Image), s.blk.off = false → s.blk.fl R.SYS_BOOT_STAT 4 2 = 2 →
    0 < n → (∀ c, c < n → ∃ x ∈ s.blk.fab.held, x.1 = k.val ∧ x.2.1 = c) → h.typ = 1 → s.blk.bootStage = 3 →
    verifyImage s.blk.role s.nv.uid s.nv h = none →
    ∃ t, exec (.loadedImageVerify k n h img) s = .next t ∧ s.sameRest t ∧ t.blk.bootStage = 4 ∧
      sget (fun _ => 0) t.blk.disp.corePc 0 = h.entry) ∧
  (∀ s : State, s.blk.off = false → s.blk.fab.holdPend = true →
    ∃ t, exec .heldCarrelDisable s = .next t ∧ s.sameRest t ∧ t.blk.fab.holdPend = false ∧
      ∀ c ∈ s.blk.enCars, t.blk.bt (R.CAR_CTRL c) 0 = false) ∧
  (∀ s : State, s.blk.off = false → s.blk.fab.holdPend = false → exec .heldCarrelDisable s = .next s)

/-- A register write from outside (R15, R23, R26, R60, R64): to a page whose home is not FAB it enters the page's posting
queue, the fifth stalls and takes nothing; an aligned one of 64 bits enters it as two words, the lower address first; of two
agents' writes of one clock the one that R15 grants first goes first; on a FAB-home page a write acts at once, as that
register's own command does; outside every page it is a decode error, recorded in SYS_DECERR; one of 8 or 16 bits, or
misaligned, is refused with reason WIDTH, recorded where its bytes fall in one page, and an error response; an agent whose
last store waits for its event does nothing (R114).
Posted writes in the home domain (R23, R28 to R31): the oldest write of a queue is taken off and applied with the sender
and the value it was posted with, on what the block's own hardware writes in that clock, and a bit that the hardware sets
as the write clears it stays set; or the write is refused with reason DOMAIN_OFF where the domain is off; none is applied
from an empty queue, while a soft reset of the page runs or in the clock of a cycle boundary not yet performed; the end of
the soft reset clears SRST_BUSY.
64-bit pairs (R74): reading LO returns it and copies HI to the latch; reading HI returns the latch, the copied one where
another agent's read of LO in the same clock is granted before (R15); a 64-bit read returns
both halves of one instant; writing HI commits the staged LO and the written HI to a pair of registers that no command of
its own commits. -/
def Obligations.RegisterWrites : Prop :=
  (∀ (s : State) (a : Fin 16777216) (snd : Sender) (v hi : Word) (p : PageDef), s.hears snd →
    pageOf (regAddr a) = some p → regAddr a % 4 = 0 → s.blk.denial snd (regAddr a) true = none → p.home ≠ .fab →
    regAddr a % 0x1000 ≠ 0x20 → twinnedPage (regAddr a) = false →
    exec (.registerWrite a snd v .word hi []) s = .next { s with blk :=
      if 4 ≤ (s.blk.queue (pageBase (regAddr a))).length then { s.blk with answer := { stalled := true } }
      else { s.blk.setQueue (pageBase (regAddr a)) (s.blk.queue (pageBase (regAddr a)) ++ [⟨snd, regAddr a, v⟩]) with
        answer := {} } }) ∧
  (∀ (s : State) (a : Fin 16777216) (snd : Sender) (v hi : Word) (p : PageDef), s.hears snd →
    pageOf (regAddr a) = some p → regAddr a % 8 = 0 → s.blk.denial snd (regAddr a) true = none →
    s.blk.denial snd (regAddr a + 4) true = none → p.home ≠ .fab → regAddr a % 0x1000 ≠ 0x20 →
    twinnedPage (regAddr a) = false → (s.blk.queue (pageBase (regAddr a))).length < 3 →
    ∃ t, exec (.registerWrite a snd v .dword hi []) s = .next t ∧ s.sameRest t ∧ s.blk.keeps t.blk [] ∧
      t.blk.queue (pageBase (regAddr a)) =
        s.blk.queue (pageBase (regAddr a)) ++ [⟨snd, regAddr a, v⟩, ⟨snd, regAddr a + 4, hi⟩] ∧
      s.blk.sameHidden { t.blk with posted := s.blk.posted } ∧ t.blk.answer = {}) ∧
  (∀ (s : State) (a b : Fin 16777216) (snd snd' : Sender) (v v' hi hi' : Word) (p : PageDef), s.hears snd → s.hears snd' →
    pageOf (regAddr a) = some p → pageBase (regAddr b) = pageBase (regAddr a) → regAddr a % 4 = 0 → regAddr b % 4 = 0 →
    s.blk.denial snd (regAddr a) true = none → s.blk.denial snd' (regAddr b) true = none → p.home ≠ .fab →
    regAddr a % 0x1000 ≠ 0x20 → regAddr b % 0x1000 ≠ 0x20 → twinnedPage (regAddr a) = false →
    (s.blk.queue (pageBase (regAddr a))).length < 3 →
    ∃ t, exec (.registerWrite a snd v .word hi [{ snd := snd', addr := b, wr := true, val := v', hi := hi' }]) s = .next t ∧
      s.sameRest t ∧ s.blk.keeps t.blk [] ∧
      t.blk.queue (pageBase (regAddr a)) = s.blk.queue (pageBase (regAddr a)) ++
        (if grantRank snd'.agent.val < grantRank snd.agent.val then [⟨snd', regAddr b, v'⟩, ⟨snd, regAddr a, v⟩]
         else [⟨snd, regAddr a, v⟩, ⟨snd', regAddr b, v'⟩]) ∧
      s.blk.sameHidden { t.blk with posted := s.blk.posted, answers := s.blk.answers }) ∧
  (∀ (s : State) (a : Fin 16777216) (snd : Sender) (v hi : Word), s.blk.bt (R.PAGE_STAT 0x40000000) 1 = false →
    (regAddr a = R.SYS_WDT_KICK → exec (.registerWrite a snd v .word hi []) s = exec (.watchdogKick snd v) s) ∧
    (regAddr a = R.SYS_WDT_CTRL → exec (.registerWrite a snd v .word hi []) s = exec (.watchdogEnable snd v) s) ∧
    (regAddr a = R.SYS_RST_CTRL → exec (.registerWrite a snd v .word hi []) s = exec (.softwareReset snd v []) s)) ∧
  (∀ (s : State) (a : Fin 16777216) (snd : Sender) (v hi : Word), s.blk.held = false →
    s.blk.agentHeld snd.agent.val = true →
    exec (.registerWrite a snd v .word hi []) s = .next { s with blk := s.blk.waits }) ∧
  (∀ (s : State) (a : Fin 16777216) (snd : Sender) (w : Width) (v hi : Word), s.hears snd → pageOf (regAddr a) = none →
    ∃ t, exec (.registerWrite a snd v w hi []) s = .next t ∧ s.onlyRegs t [R.SYS_DECERR_LO, R.SYS_DECERR_HI] ∧
      t.blk.rdN R.SYS_DECERR_LO = regAddr a ∧ t.blk.bt R.SYS_DECERR_HI 13 = true ∧
      t.blk.bt R.SYS_DECERR_HI 12 = true ∧ t.blk.fl R.SYS_DECERR_HI 8 4 = snd.agent.val ∧ t.blk.answer.error = true) ∧
  (∀ (s : State) (a : Fin 16777216) (snd : Sender) (w : Width) (v hi : Word) (p : PageDef), s.hears snd →
    pageOf (regAddr a) = some p → (w = .byte ∨ w = .half ∨ (w = .word ∧ regAddr a % 4 ≠ 0) ∨
      (w = .dword ∧ regAddr a % 8 ≠ 0)) →
    ∃ t, exec (.registerWrite a snd v w hi []) s = .next t ∧
      s.onlyRegs t [R.PAGE_ERR (pageBase (regAddr a)), R.IRQ_RAW (pageBase (regAddr a))] ∧ t.blk.answer.error = true ∧
      (pageBase (regAddr a + widthBytes w - 1) = pageBase (regAddr a) →
        t.blk.fl (R.PAGE_ERR (pageBase (regAddr a))) 16 4 = Reason.width.code) ∧
      (pageBase (regAddr a + widthBytes w - 1) ≠ pageBase (regAddr a) → t.blk.regs = s.blk.regs)) ∧
  (∀ (s : State) (p : Fin 4096) (hw : HwUpd) (w : Posted) (rest : List Posted), s.blk.held = false →
    s.blk.queue (pageNo p.val) = w :: rest → s.blk.homeBusy (pageNo p.val) = false →
    (hwFirst hw w.addr s.blk).domOn (pageNo p.val) = true → hw.sets &&& clearBits w.addr = 0#32 →
    ∃ t, exec (.postedWriteComplete p hw) s = .next t ∧ t.pending = s.pending ∧
      t.blk = (applyWrite w.snd w.addr w.val s.nv ((hwFirst hw w.addr s.blk).setQueue (pageNo p.val) rest) s.mem).1 ∧
      t.mem = mapply s.mem
        (applyWrite w.snd w.addr w.val s.nv ((hwFirst hw w.addr s.blk).setQueue (pageNo p.val) rest) s.mem).2 ∧
      t.nv = napply s.nv
        (applyWrite w.snd w.addr w.val s.nv ((hwFirst hw w.addr s.blk).setQueue (pageNo p.val) rest) s.mem).2 ∧
      (t.blk.held = false → t.isl = s.isl)) ∧
  (∀ (s : State) (p : Fin 4096) (hw : HwUpd) (w : Posted) (rest : List Posted) (i : Nat), s.blk.held = false →
    s.blk.queue (pageNo p.val) = w :: rest → s.blk.homeBusy (pageNo p.val) = false → i < 32 →
    (hw.sets &&& clearBits w.addr).getLsbD i = true →
    ∃ t, exec (.postedWriteComplete p hw) s = .next t ∧ t.blk.bt (clearsOf w.addr) i = true) ∧
  (∀ (s : State) (p : Fin 4096) (hw : HwUpd) (w : Posted) (rest : List Posted), s.blk.held = false →
    s.blk.queue (pageNo p.val) = w :: rest → s.blk.homeBusy (pageNo p.val) = false →
    (hwFirst hw w.addr s.blk).domOn (pageNo p.val) = false →
    ∃ t, exec (.postedWriteComplete p hw) s = .next t ∧ s.sameRest t ∧ t.blk.queue (pageNo p.val) = rest ∧
      s.blk.keeps t.blk [R.PAGE_ERR (pageBase w.addr), R.IRQ_RAW (pageBase w.addr), clearsOf w.addr] ∧
      t.blk.fl (R.PAGE_ERR (pageBase w.addr)) 16 4 = Reason.domainOff.code ∧
      s.blk.sameHidden { t.blk with posted := s.blk.posted }) ∧
  (∀ (s : State) (p : Fin 4096) (hw : HwUpd), s.blk.held = false →
    s.blk.queue (pageNo p.val) = [] ∨ s.blk.homeBusy (pageNo p.val) = true →
    exec (.postedWriteComplete p hw) s = .next s) ∧
  (∀ (s : State) (page : Nat), s.blk.homeBusy page = true ↔
    (s.blk.bt (R.PAGE_STAT page) 1 = true ∨ (s.blk.tb.dt % 15625 = 0 ∧ s.blk.tb.cycDone ≤ s.blk.tb.dt / 15625 ∧
      ∃ p, pageOf page = some p ∧ (p.home = .wing ∨ p.home = .tb ∨ p.home = .dp ∨ p.home = .sz)))) ∧
  (∀ (s : State) (p : Fin 4096), s.blk.held = false → s.blk.bt (R.PAGE_STAT (pageNo p.val)) 1 = true →
    s.blk.queue (pageNo p.val) = [] →
    ∃ t, exec (.pageSoftResetDone p) s = .next t ∧ s.onlyRegs t [R.PAGE_STAT (pageNo p.val)] ∧
      t.blk.bt (R.PAGE_STAT (pageNo p.val)) 1 = false ∧
      (∀ j, j < 32 → j ≠ 1 → t.blk.bt (R.PAGE_STAT (pageNo p.val)) j = s.blk.bt (R.PAGE_STAT (pageNo p.val)) j)) ∧
  (∀ (s : State) (p : Fin 4096), s.blk.held = false → s.blk.bt (R.PAGE_STAT (pageNo p.val)) 1 = false →
    exec (.pageSoftResetDone p) s = .next s) ∧
  (∀ (s : State) (a : Fin 16777216) (snd : Sender), s.takesRead snd (0x40000000 + a.val) →
    isLo (0x40000000 + a.val) = true →
    exec (.pairLoRead a snd .word .none) s = .next { s with blk := { s.blk with
      hiLatch := sset (fun _ => 0#32) s.blk.hiLatch (0x40000000 + a.val)
        (BitVec.ofNat 32 (s.blk.view s.nv (0x40000000 + a.val + 4)))
      answer := { data := s.blk.view s.nv (0x40000000 + a.val) } } }) ∧
  (∀ (s : State) (a : Fin 16777216) (snd : Sender), s.takesRead snd (0x40000000 + a.val) →
    isLo (0x40000000 + a.val) = false → isHi (0x40000000 + a.val) = true →
    exec (.pairLoRead a snd .word .none) s = .next { s with blk := { s.blk with
      answer := { data := (s.blk.latched (0x40000000 + a.val - 4)).toNat } } }) ∧
  (∀ (s : State) (a b : Fin 16777216) (snd snd' : Sender), b.val = a.val + 4 → snd' ≠ snd → s.takesRead snd (regAddr a) →
    s.takesRead snd' (regAddr b) → isLo (regAddr a) = true → isHi (regAddr a) = false → isHi (regAddr b) = true →
    isLo (regAddr b) = false →
    let lo := s.blk.view s.nv (regAddr a)
    ∃ t, exec (.pairLoRead a snd .word .none [{ snd := snd', addr := b, wr := false }]) s = .next t ∧ s.sameRest t ∧
      t.blk.regs = s.blk.regs ∧ t.blk.answer = { data := lo } ∧
      t.blk.answers = (if grantRank snd'.agent.val < grantRank snd.agent.val
        then [(snd', { data := (s.blk.latched (regAddr a)).toNat }), (snd, { data := lo })]
        else [(snd, { data := lo }), (snd', { data := s.blk.view s.nv (regAddr b) % 2 ^ 32 })])) ∧
  (∀ (s : State) (a : Fin 16777216) (snd : Sender), s.takesRead snd (0x40000000 + a.val) →
    s.takesRead snd (0x40000000 + a.val + 4) → isLo (0x40000000 + a.val) = true → a.val % 8 = 0 →
    ∃ t, exec (.pairLoRead a snd .dword .none) s = .next t ∧ s.sameRest t ∧ t.blk.regs = s.blk.regs ∧
      t.blk.answer = { data := s.blk.view s.nv (0x40000000 + a.val) +
        2 ^ 32 * (s.blk.view s.nv (0x40000000 + a.val + 4) % 2 ^ 32) } ∧
      s.blk.sameHidden { t.blk with hiLatch := s.blk.hiLatch }) ∧
  (∀ (s : State) (a : Fin 16777216) (snd : Sender) (v : Word) (p : PageDef) (lo hi : RegDef),
    s.takesWrite snd (regAddr a) → isHi (regAddr a) = true → isLo (regAddr a) = false → pageOf (regAddr a) = some p →
    ownPair p (regAddr a % 0x1000) = false → p.code ≠ 0x01 → p.code ≠ 0x03 → p.code ≠ 0x13 → p.code ≠ 0x20 →
    twinnedPage (regAddr a) = false → 0x40 ≤ regAddr a % 0x1000 →
    regDef (regAddr a - 4) = some lo → regDef (regAddr a) = some hi →
    lo.sets = 0xFFFFFFFF → hi.sets = 0xFFFFFFFF → lo.w1c = 0 → lo.w1s = 0 → hi.w1c = 0 → hi.w1s = 0 →
    ∃ t, exec (.pairHiWrite a snd v) s = .next t ∧ s.onlyRegs t [regAddr a - 4, regAddr a] ∧
      t.blk.rd (regAddr a - 4) = s.blk.stagedLo (regAddr a - 4) ∧ t.blk.rd (regAddr a) = v)

/-- The page control commands (R67, R68, R70): a soft reset of a page that is not active sets SRST_BUSY and returns the page's
registers to their reset values, but for those that show what lies outside it and, where the time-outs' mode changes, the
record of that (R117); EN = 0 is written where the page may stop, EN = 1 always; a soft reset or a disable of an
active page, and a disable of one that always runs, is refused with reason STATE. Outside the page only what a direct write
of a twinned page counts may change (R414), on a soft reset of the VMF page (R147) the carrels it stops beside it.
The page lock (R72): the key opens the page to the agent that wrote it, a fabric sender together with its endpoint, for
256 FAB clocks, whoever held it before; any other value, or the end of the window, closes it; no page's lock but this one's
changes, and no register but what a direct write of a twinned page counts.
The interrupt bits of a page (R71): IRQ_FORCE sets the written bits of IRQ_RAW, IRQ_CLR clears them, but those that an event
sets in the same clock, and, with bit 31, the record of refusals (R73); writing 1 to VALID clears the record of decode errors (R77); nothing else changes but the PLIC's
pending words. -/
def Obligations.PageControl : Prop :=
  (∀ (s : State) (p : Fin 4096) (snd : Sender), s.takesWrite snd (R.PAGE_CTRL (pageNo p.val)) →
    s.blk.pageActive (pageNo p.val) = false → pageCode (pageNo p.val) ≠ 0x21 →
    ∃ t, exec (.pageSoftReset p snd) s = .next t ∧ s.sameRest t ∧ t.blk.bt (R.PAGE_STAT (pageNo p.val)) 1 = true ∧
      (∀ a, pageBase a = pageNo p.val → softKeeps a = false → a ≠ R.PAGE_STAT (pageNo p.val) → a ∉ shownRegs →
        a ∉ modeRegs (pageNo p.val) → notPend a → (∀ e ∈ s.blk.rstv, e.1 ≠ a) → t.blk.rd a = regDefault a) ∧
      (∀ a, pageBase a ≠ pageNo p.val → a ∉ directOf (R.PAGE_CTRL (pageNo p.val)) → a ∉ shownRegs →
        a ∉ modeRegs (pageNo p.val) → notPend a → t.blk.rd a = s.blk.rd a) ∧
      t.blk.cfg = s.blk.cfg ∧ t.blk.enCars = s.blk.enCars ∧ t.blk.locks = s.blk.locks ∧ t.blk.posted = s.blk.posted) ∧
  (∀ (s : State) (p : Fin 4096) (snd : Sender), s.takesWrite snd (R.PAGE_CTRL (pageNo p.val)) →
    s.blk.pageActive (pageNo p.val) = false → pageCode (pageNo p.val) = 0x21 →
    ∃ t, exec (.pageSoftReset p snd) s = .next t ∧ s.sameRest t ∧ t.blk.bt (R.PAGE_STAT (pageNo p.val)) 1 = true ∧
      t.blk.vmf = {} ∧ t.blk.cfg = s.blk.cfg ∧ t.blk.enCars = s.blk.enCars) ∧
  (∀ (s : State) (p : Fin 4096) (snd : Sender), s.takesWrite snd (R.PAGE_CTRL (pageNo p.val)) →
    twinnedPage (pageNo p.val) = false → alwaysRuns (pageCode (pageNo p.val)) = true ∨ s.blk.pageActive (pageNo p.val) = true →
    ∃ t, exec (.pageDisable p snd) s = .next t ∧
      s.onlyRegs t [R.PAGE_ERR (pageNo p.val), R.IRQ_RAW (pageNo p.val)] ∧ t.blk.answer.why = Reason.state.code) ∧
  (∀ (s : State) (p : Fin 4096) (snd : Sender), s.takesWrite snd (R.PAGE_CTRL (pageNo p.val)) →
    twinnedPage (pageNo p.val) = false → s.blk.pageActive (pageNo p.val) = true →
    ∃ t, exec (.pageSoftReset p snd) s = .next t ∧
      s.onlyRegs t [R.PAGE_ERR (pageNo p.val), R.IRQ_RAW (pageNo p.val)] ∧ t.blk.answer.why = Reason.state.code) ∧
  (∀ (s : State) (p : Fin 4096) (snd : Sender), s.takesWrite snd (R.PAGE_CTRL (pageNo p.val)) →
    alwaysRuns (pageCode (pageNo p.val)) = false → (pageCode (pageNo p.val) = 0x21 → s.blk.vmfSt = 0) →
    s.blk.pageActive (pageNo p.val) = false →
    ∃ t, exec (.pageDisable p snd) s = .next t ∧ s.sameRest t ∧ t.blk.pageEn (pageNo p.val) = false ∧
      s.blk.keeps t.blk (R.PAGE_CTRL (pageNo p.val) :: directOf (R.PAGE_CTRL (pageNo p.val))) ∧
      (pageNo p.val ≠ 0x40552000 → s.blk.sameHidden t.blk) ∧
      (pageNo p.val = 0x40552000 → t.blk.pins.pulse = [] ∧
        s.blk.sameHidden { t.blk with pins := { t.blk.pins with pulse := s.blk.pins.pulse } })) ∧
  (∀ (s : State) (p : Fin 4096) (snd : Sender), s.takesWrite snd (R.PAGE_CTRL (pageNo p.val)) →
    ∃ t, exec (.pageEnable p snd) s = .next t ∧ s.sameRest t ∧ t.blk.pageEn (pageNo p.val) = true ∧
      s.blk.keeps t.blk (R.PAGE_CTRL (pageNo p.val) :: directOf (R.PAGE_CTRL (pageNo p.val))) ∧
      s.blk.sameHidden { t.blk with carReq := s.blk.carReq }) ∧
  (∀ (s : State) (p : Fin 4096) (snd : Sender), s.takesWrite snd (R.PAGE_LOCK (pageNo p.val)) →
    ∃ t, exec (.pageLockKey p snd) s = .next t ∧ s.sameRest t ∧
      t.blk.lockOf (pageNo p.val) = { isOpen := true, owner := snd.agent.val, ep := snd.ep.val, remain := 256 } ∧
      t.blk.unlockedFor (pageNo p.val) snd = true ∧
      (∀ snd', t.blk.unlockedFor (pageNo p.val) snd' = true → snd'.agent = snd.agent) ∧
      (∀ q, q ≠ pageNo p.val → t.blk.lockOf q = s.blk.lockOf q) ∧
      s.blk.keeps t.blk (directOf (R.PAGE_LOCK (pageNo p.val))) ∧ s.blk.sameHidden { t.blk with locks := s.blk.locks }) ∧
  (∀ (s : State) (p : Fin 4096) (snd : Sender), s.takesWrite snd (R.PAGE_LOCK (pageNo p.val)) →
    ∃ t, exec (.pageLockClose p snd) s = .next t ∧ s.sameRest t ∧ t.blk.lockOf (pageNo p.val) = {} ∧
      (∀ snd', t.blk.unlockedFor (pageNo p.val) snd' = false) ∧
      (∀ q, q ≠ pageNo p.val → t.blk.lockOf q = s.blk.lockOf q) ∧
      s.blk.keeps t.blk (directOf (R.PAGE_LOCK (pageNo p.val))) ∧ s.blk.sameHidden { t.blk with locks := s.blk.locks }) ∧
  (∀ (s : State) (p : Fin 4096), s.blk.off = false →
    exec (.lockWindowExpire p) s =
      .next { s with blk := { s.blk with locks := sset (fun _ => {}) s.blk.locks (pageNo p.val) {} } }) ∧
  (∀ (s : State) (p : Fin 4096) (snd : Sender) (v : Word), s.takesWrite snd (R.IRQ_FORCE (pageNo p.val)) →
    ∃ t, exec (.irqForce p snd v) s = .next t ∧ s.onlyRegs t (R.IRQ_RAW (pageNo p.val) :: directOf (R.IRQ_FORCE (pageNo p.val))) ∧
      t.blk.rd (R.IRQ_RAW (pageNo p.val)) = s.blk.rd (R.IRQ_RAW (pageNo p.val)) ||| v) ∧
  (∀ (s : State) (p : Fin 4096) (snd : Sender) (v hw : Word), s.takesWrite snd (R.IRQ_CLR (pageNo p.val)) →
    ∃ t, exec (.irqClear p snd v hw) s = .next t ∧
      s.onlyRegs t (R.IRQ_RAW (pageNo p.val) :: R.PAGE_ERR (pageNo p.val) :: directOf (R.IRQ_CLR (pageNo p.val))) ∧
      t.blk.rd (R.IRQ_RAW (pageNo p.val)) = (s.blk.rd (R.IRQ_RAW (pageNo p.val)) &&& ~~~v) ||| hw ∧
      t.blk.rd (R.PAGE_ERR (pageNo p.val)) = (if v.getLsbD 31 = true then 0#32 else s.blk.rd (R.PAGE_ERR (pageNo p.val)))) ∧
  (∀ (s : State) (snd : Sender) (v : Word), s.takesWrite snd R.SYS_DECERR_HI → v.getLsbD 13 = true →
    ∃ t, exec (.decodeErrorClear snd v) s = .next t ∧ s.onlyRegs t [R.SYS_DECERR_LO, R.SYS_DECERR_HI] ∧
      t.blk.rd R.SYS_DECERR_LO = 0#32 ∧ t.blk.rd R.SYS_DECERR_HI = 0#32) ∧
  (∀ (s : State) (snd : Sender) (v : Word), s.takesWrite snd R.SYS_DECERR_HI → v.getLsbD 13 = false →
    exec (.decodeErrorClear snd v) s = .next { s with blk := s.blk.fresh })

/-- Remote accesses in the shared SRAM (R362, R390, R400, R452, R453): an ACCESS_REQ writes or reads its words and answers them,
and one repeated with its TAG returns the stored response alone; the loader's WRITE stores words before SEAL and answers
RESULT 3 and stores nothing after it, its READ answers the words (of memories that the boot has initialised, R34); a write of the host through a window whose WR_EN is 1
stores its four bytes, through one whose WR_EN is 0 none and sets IB_WR_BLOCK; with the link down nothing happens. Every
byte outside the stored words reads as before.
Twin writes (R414): at tick 100 a write of the previous frame enters the posting queue of its page, made by the writer's
agent on the Active and by agent 11 with the Active's endpoint on the other coordinator, and the writes of the frame are
done. -/
def Obligations.RemoteAccesses : Prop :=
  (∀ (s : State) (src : Fin 4096) (tag : Nat) (cnt : Fin 9) (a : Fin (2 ^ 40)) (ws : List Word), s.blk.off = false →
    (sget (fun _ => ((0, []) : Nat × List Nat)) s.blk.szn.raLast src.val).1 ≠ tag + 1 → 0 < cnt.val →
    ws.length = cnt.val → inSram a.val (4 * cnt.val) →
    ∃ t, exec (.accessReq src tag cnt true a ws) s = .next t ∧ t.isl = s.isl ∧ t.nv = s.nv ∧ t.pending = s.pending ∧
      wordsAt t.mem a.val (ws.map BitVec.toNat) ∧
      (∀ x, x < a.val ∨ a.val + 4 * cnt.val ≤ x → mrd t.mem x = mrd s.mem x) ∧
      sget (fun _ => (0, [])) t.blk.szn.raLast src.val = (tag + 1, [tag, 0, 0]) ∧
      t.blk = { s.blk with szn := t.blk.szn, answer := {} } ∧
      (s.blk.szn.svcq.length < 8 →
        t.blk.szn.svcq = s.blk.szn.svcq ++ [{ typ := 0x02, body := [tag, 0, 0], dst := src.val }])) ∧
  (∀ (s : State) (src : Fin 4096) (tag : Nat) (cnt : Fin 9) (a : Fin (2 ^ 40)) (ws : List Word), s.blk.off = false →
    (sget (fun _ => ((0, []) : Nat × List Nat)) s.blk.szn.raLast src.val).1 ≠ tag + 1 → 0 < cnt.val →
    inSram a.val (4 * cnt.val) → s.blk.raw = false →
    ∃ t, exec (.accessReq src tag cnt false a ws) s = .next t ∧ s.sameRest t ∧
      sget (fun _ => (0, [])) t.blk.szn.raLast src.val =
        (tag + 1, [tag, 0, 0] ++ (List.range cnt.val).map (fun i => mrdN s.mem (a.val + 4 * i) 4)) ∧
      t.blk = { s.blk with szn := t.blk.szn, answer := t.blk.answer }) ∧
  (∀ (s : State) (src : Fin 4096) (tag : Nat) (cnt : Fin 9) (wr : Bool) (a : Fin (2 ^ 40)) (ws : List Word) (body : List Nat),
    s.blk.off = false → sget (fun _ => ((0, []) : Nat × List Nat)) s.blk.szn.raLast src.val = (tag + 1, body) →
    exec (.accessReq src tag cnt wr a ws) s =
      .next { s with blk := s.blk.svcPut { typ := 0x02, body := body, dst := src.val } }) ∧
  (∀ (s : State) (k : PortIx) (src : Fin 4096) (b : DiscBody) (a : Nat) (ws : List Nat), s.blk.off = false →
    (sget (fun _ => (0, ({ op := 0 } : DiscBody))) s.blk.fab.opLast src.val).1 ≠ b.tag + 1 → s.blk.phase ≠ 2 →
    b.operand = [a, ws.length] ++ ws → 0 < ws.length → ws.length ≤ 11 → (∀ w ∈ ws, w < 2 ^ 32) → inSram a (4 * ws.length) →
    ∃ t, exec (.write k src b) s = .next t ∧ t.isl = s.isl ∧ t.nv = s.nv ∧ t.pending = s.pending ∧
      wordsAt t.mem a ws ∧ (∀ x, x < a ∨ a + 4 * ws.length ≤ x → mrd t.mem x = mrd s.mem x) ∧
      s.blk.replied t.blk k.val src.val b 0 0 [] ∧ s.blk.keeps t.blk [R.SZP_TX_CNT k.val]) ∧
  (∀ (s : State) (k : PortIx) (src : Fin 4096) (b : DiscBody), s.blk.off = false →
    (sget (fun _ => (0, ({ op := 0 } : DiscBody))) s.blk.fab.opLast src.val).1 ≠ b.tag + 1 → s.blk.phase = 2 →
    ∃ t, exec (.write k src b) s = .next t ∧ s.sameRest t ∧ s.blk.replied t.blk k.val src.val b 3 0 [] ∧
      s.blk.keeps t.blk [R.SZP_TX_CNT k.val] ∧ s.blk.sameHidden { t.blk with fab := s.blk.fab, tx := s.blk.tx }) ∧
  (∀ (s : State) (k : PortIx) (src : Fin 4096) (b : DiscBody) (a n : Nat), s.blk.off = false →
    (sget (fun _ => (0, ({ op := 0 } : DiscBody))) s.blk.fab.opLast src.val).1 ≠ b.tag + 1 →
    b.operand = [a, n] → 0 < n → n ≤ 13 → inSram a (4 * n) → s.blk.raw = false →
    ∃ t, exec (.read k src b) s = .next t ∧ s.sameRest t ∧
      s.blk.replied t.blk k.val src.val b 0 0 ((List.range n).map (fun i => mrdN s.mem (a + 4 * i) 4)) ∧
      s.blk.keeps t.blk [R.SZP_TX_CNT k.val]) ∧
  (∀ (s : State) (w : Fin 2) (off : Fin (2 ^ 24)) (v : Word), s.blk.off = false → s.blk.bt R.PCIE_STAT 0 = true →
    s.blk.bt (R.PCIE_IB_CFG w.val) 0 = true → inSram (s.blk.fl (R.PCIE_IB_BASE w.val) 0 16 * 2 ^ 24 + off.val) 4 →
    ∃ t, exec (.pcieInboundTlp (.window w off true v false)) s = .next t ∧ t.isl = s.isl ∧ t.nv = s.nv ∧
      t.pending = s.pending ∧ t.blk = { s.blk with answer := {} } ∧
      wordsAt t.mem (s.blk.fl (R.PCIE_IB_BASE w.val) 0 16 * 2 ^ 24 + off.val) [v.toNat] ∧
      ∀ x, x < s.blk.fl (R.PCIE_IB_BASE w.val) 0 16 * 2 ^ 24 + off.val ∨
        s.blk.fl (R.PCIE_IB_BASE w.val) 0 16 * 2 ^ 24 + off.val + 4 ≤ x → mrd t.mem x = mrd s.mem x) ∧
  (∀ (s : State) (w : Fin 2) (off : Fin (2 ^ 24)) (v : Word), s.blk.off = false → s.blk.bt R.PCIE_STAT 0 = true →
    s.blk.bt (R.PCIE_IB_CFG w.val) 0 = false →
    ∃ t, exec (.pcieInboundTlp (.window w off true v false)) s = .next t ∧ s.onlyRegs t [R.PCIE_ERR, R.IRQ_RAW pciePage] ∧
      t.blk.bt R.PCIE_ERR 0 = true) ∧
  (∀ (s : State) (tlp : PcieTlp), s.blk.off = false → s.blk.bt R.PCIE_STAT 0 = false →
    exec (.pcieInboundTlp tlp) s = .next s) ∧
  (∀ (s : State) (w : TwinWrite) (p : PageDef), s.blk.off = false → 100 ≤ s.blk.tick → s.blk.red.twNow = [w] →
    pageOf w.addr = some p → p.home ≠ .fab → w.addr % 0x1000 ≠ 0x20 → s.blk.twinRefusal w.addr = none →
    (s.blk.queue (pageBase w.addr)).length < 4 →
    exec .twinWriteApply s = .next { s with blk :=
      { (s.blk.modRed (fun r => { r with twNow := [] })).setQueue (pageBase w.addr) (s.blk.queue (pageBase w.addr) ++
          [⟨if s.blk.redSt = 1 then { agent := Fin.ofNat 14 w.agent } else { agent := 11, ep := Fin.ofNat 4096 s.blk.peerEp },
            w.addr, w.val⟩]) with
        answer := {} } })

/-- The walk (R391, R396, R398): DISC on the time master sends IDENTIFY to the first entry in depth and table order, REDISC to
the first of the selected entry's subtree; elsewhere or while WALKING both are refused with reason STATE; an entry that
does not answer IDENTIFY is ABSENT; one whose last write was answered or timed out is FOUND; a star passes an outbound
DISCOVERY frame on along its path; MISMATCH and LOAD_STAT messages mark their device on the time master alone.
The operations at their target and the fabric's registers (R390, R392, R394, R398, R401): IDENTIFY answers who the device
is; ASSIGN and SEAL act before SEAL and answer RESULT 3 after it; a repeated TAG is not executed again; LOAD stores a chunk not
yet held on a device that boots over Synzon, is in ACCEDE and has its endpoint, of an image whose header
admits its role, and with the whole of such a firmware image held stage 2 of the boot ends (R92); LOAD_EN follows its write; a routing entry is
committed unless the phase is SEALED; a held device reports itself to the time master. -/
def Obligations.FabricWalk : Prop :=
  (∀ (s : State) (snd : Sender) (d : Nat) (ds : List Nat), s.takesWrite snd R.FAB_CTRL → s.blk.bt R.SZN_STAT 3 = true →
    s.blk.phase ≠ 1 → walkOrder s.blk.devs (fun _ => true) = d :: ds →
    ∃ t, exec (.discoveryWalkStart snd) s = .next t ∧ s.sameRest t ∧ t.blk.phase = 1 ∧ t.blk.fab.wait = some (d, 0x01) ∧
      t.blk.fab.todo = ds ∧ t.blk.fab.toSeal = [] ∧ t.blk.fl R.FAB_STAT 8 12 = 0 ∧
      s.blk.keeps t.blk (R.FAB_STAT :: R.PAGE_STAT fabPage :: (List.range 64).map R.SZP_TX_CNT)) ∧
  (∀ (s : State) (snd : Sender) (e : DevEntry) (d : Nat) (ds : List Nat), s.takesWrite snd R.FAB_CTRL →
    s.blk.bt R.SZN_STAT 3 = true → s.blk.phase ≠ 1 → s.blk.devAt (s.blk.fl R.FAB_DEV_SEL 0 12) = some e →
    walkOrder s.blk.devs (fun x => x.path.take e.path.length == e.path) = d :: ds →
    ∃ t, exec (.rediscovery snd) s = .next t ∧ s.sameRest t ∧ t.blk.phase = 1 ∧ t.blk.fab.wait = some (d, 0x01) ∧
      t.blk.fab.todo = ds ∧ t.blk.fab.toSeal = [] ∧
      s.blk.keeps t.blk (R.FAB_STAT :: R.PAGE_STAT fabPage :: (List.range 64).map R.SZP_TX_CNT)) ∧
  (∀ (s : State) (snd : Sender), s.takesWrite snd R.FAB_CTRL → s.blk.bt R.SZN_STAT 3 = false ∨ s.blk.phase = 1 →
    ∀ c ∈ [Instr.discoveryWalkStart snd, .rediscovery snd],
    ∃ t, exec c s = .next t ∧ s.onlyRegs t [R.PAGE_ERR fabPage, R.IRQ_RAW fabPage] ∧ t.blk.answer.why = Reason.state.code) ∧
  (∀ (s : State) (d : Nat), s.blk.off = false → s.blk.fab.wait = some (d, 0x01) → 64 ≤ s.blk.fab.waitCnt →
    ∃ t, exec .discoveryReplyTimeout s = .next t ∧ s.sameRest t ∧ t.blk.devSt d = { s.blk.devSt d with st := 1, why := 0, uid := 0 } ∧
      t.blk.bt R.FAB_ERR 0 = true ∧ (∀ e, e ≠ d → t.blk.devSt e = s.blk.devSt e)) ∧
  (∀ (s : State) (d op : Nat), s.blk.off = false → s.blk.fab.wait = some (d, op) → op ≠ 0x01 → s.blk.fab.wrq = [] →
    64 ≤ s.blk.fab.waitCnt →
    ∃ t, exec .discoveryReplyTimeout s = .next t ∧ s.sameRest t ∧
      t.blk.devSt d = { s.blk.devSt d with st := 3, why := 0 } ∧
      (∀ e, e ≠ d → t.blk.devSt e = s.blk.devSt e)) ∧
  (∀ s : State, s.blk.off = false → s.blk.fab.wait = none ∨ s.blk.fab.waitCnt < 64 →
    exec .discoveryReplyTimeout s = .next s) ∧
  (∀ (s : State) (k : PortIx) (h : FrameHdr) (b : DiscBody), s.blk.off = false → (s.blk.frameCheck k.val h).2 = true →
    s.blk.sznSt ≠ 0 → b.reply = false → b.hop < b.hops → s.blk.isNode = false → s.blk.bt (R.SZP_CFG k.val) 1 = true →
    s.blk.portUp (b.path.getD b.hop 0 % 32 + (if k.val < 32 then 0 else 32)) = true → s.blk.szn.joinSeen = [] →
    s.blk.pageEn (szpPage (b.path.getD b.hop 0 % 32 + (if k.val < 32 then 0 else 32))) = true →
    ∃ t, exec (.discoveryFrameRx k h b true) s = .next t ∧ s.sameRest t ∧
      t.blk.tx = [⟨b.path.getD b.hop 0 % 32 + (if k.val < 32 then 0 else 32), h.src.val, h.dst.val, h.cycle, 0, none,
        .discovery { b with hop := b.hop + 1, ret := b.ret.set b.hop (k.val % 32) }, none⟩] ∧
      s.blk.keeps t.blk (R.SZP_RX_CNT k.val :: (List.range 64).map R.SZP_TX_CNT)) ∧
  (∀ (s : State) (src : Fin 4096) (why d : Nat), s.blk.off = false → s.blk.bt R.SZN_STAT 3 = true →
    s.blk.devOfEp src.val = some d →
    ∃ t, exec (.mismatch src why) s = .next t ∧ s.sameRest t ∧
      t.blk.devSt d = { s.blk.devSt d with st := 6, why := why } ∧ t.blk.bt R.FAB_ERR 3 = true ∧
      s.blk.keeps t.blk [R.FAB_ERR, R.IRQ_RAW fabPage] ∧ s.blk.sameHidden { t.blk with fab := s.blk.fab }) ∧
  (∀ (s : State) (src : Fin 4096) (d : Nat), s.blk.off = false → s.blk.bt R.SZN_STAT 3 = true →
    s.blk.devOfEp src.val = some d →
    exec (.loadStat src 0) s = .next { s with blk := s.blk.setDevSt d { s.blk.devSt d with st := 4 } }) ∧
  (∀ (s : State) (src : Fin 4096) (result : Nat), s.blk.off = false → s.blk.bt R.SZN_STAT 3 = true → result ≠ 0 →
    ∃ t, exec (.loadStat src result) s = .next t ∧ s.onlyRegs t [R.FAB_ERR, R.IRQ_RAW fabPage] ∧ t.blk.bt R.FAB_ERR 6 = true) ∧
  (∀ (s : State) (src : Fin 4096) (n : Nat), s.blk.off = false → s.blk.bt R.SZN_STAT 3 = false →
    exec (.mismatch src n) s = .next s ∧ exec (.loadStat src n) s = .next s) ∧
  (∀ (s : State) (k : PortIx) (src : Fin 4096) (b : DiscBody), s.blk.off = false →
    (sget (fun _ => (0, ({ op := 0 } : DiscBody))) s.blk.fab.opLast src.val).1 ≠ b.tag + 1 →
    ∃ t, exec (.identify k src b) s = .next t ∧ s.sameRest t ∧
      s.blk.replied t.blk k.val src.val b 0 0 [s.blk.rd64 R.SYS_UID_LO, s.blk.role, s.blk.seat, s.blk.fl R.SYS_ID 0 8,
        s.blk.fl R.FAB_FWSET 0 24, k.val, 0, 0] ∧
      s.blk.keeps t.blk [R.SZP_TX_CNT k.val] ∧ s.blk.sameHidden { t.blk with fab := s.blk.fab, tx := s.blk.tx }) ∧
  (∀ (s : State) (k : PortIx) (src : Fin 4096) (b : DiscBody), s.blk.off = false →
    (sget (fun _ => (0, ({ op := 0 } : DiscBody))) s.blk.fab.opLast src.val).1 ≠ b.tag + 1 → s.blk.phase ≠ 2 →
    ∃ t, exec (.assign k src b) s = .next t ∧ s.sameRest t ∧ s.blk.replied t.blk k.val src.val b 0 0 [] ∧
      t.blk.ownEp = b.operand.getD 0 0 % 2 ^ 12 ∧ s.blk.keeps t.blk [R.SZN_ID, R.SZP_TX_CNT k.val] ∧
      s.blk.sameHidden { t.blk with fab := s.blk.fab, tx := s.blk.tx }) ∧
  (∀ (s : State) (k : PortIx) (src : Fin 4096) (b : DiscBody), s.blk.off = false →
    (sget (fun _ => (0, ({ op := 0 } : DiscBody))) s.blk.fab.opLast src.val).1 ≠ b.tag + 1 → s.blk.phase ≠ 2 →
    ∃ t, exec (.seal k src b) s = .next t ∧ s.sameRest t ∧ s.blk.replied t.blk k.val src.val b 0 0 [] ∧ t.blk.phase = 2 ∧
      s.blk.keeps t.blk [R.FAB_STAT, R.PAGE_STAT fabPage, R.SZP_TX_CNT k.val] ∧
      s.blk.sameHidden { t.blk with fab := s.blk.fab, tx := s.blk.tx }) ∧
  (∀ (s : State) (k : PortIx) (src : Fin 4096) (b : DiscBody), s.blk.off = false →
    (sget (fun _ => (0, ({ op := 0 } : DiscBody))) s.blk.fab.opLast src.val).1 ≠ b.tag + 1 → s.blk.phase = 2 →
    ∀ c ∈ [Instr.assign k src b, .seal k src b],
    ∃ t, exec c s = .next t ∧ s.sameRest t ∧ s.blk.replied t.blk k.val src.val b 3 0 [] ∧
      s.blk.keeps t.blk [R.SZP_TX_CNT k.val] ∧ s.blk.sameHidden { t.blk with fab := s.blk.fab, tx := s.blk.tx }) ∧
  (∀ (s : State) (k : PortIx) (src : Fin 4096) (b r : DiscBody), s.blk.off = false →
    sget (fun _ => (0, ({ op := 0 } : DiscBody))) s.blk.fab.opLast src.val = (b.tag + 1, r) →
    ∀ c ∈ [Instr.identify k src b, .assign k src b, .seal k src b],
    ∃ t, exec c s = .next t ∧ s.sameRest t ∧ s.blk.keeps t.blk [R.SZP_TX_CNT k.val] ∧
      t.blk.tx.map (fun f => (f.port, f.body)) = (if s.blk.pageEn (szpPage k.val) then [(k.val, .discovery r)] else []) ∧
      s.blk.sameHidden { t.blk with tx := s.blk.tx }) ∧
  (∀ (s : State) (b : LoadBody), s.blk.off = false → s.blk.fl R.SYS_BOOT_STAT 4 2 = 2 → s.blk.sznSt = 3 →
    s.blk.ownEp ≠ 0xFFF → s.blk.isHub = false → (∀ x ∈ s.blk.fab.held, x.1 = b.img → x.2.1 ≠ b.chunk) →
    (b.chunk = 0 → s.blk.takesHdr b.data = true) →
    ∃ t, exec (.load b) s = .next t ∧ s.sameRest t ∧ t.blk.fab = { s.blk.fab with
        held := s.blk.fab.held ++ [(b.img, b.chunk, b.data)] } ∧ t.blk.bt R.FAB_STAT 2 = true ∧
      s.blk.keeps t.blk [R.FAB_STAT, R.SYS_BOOT_STAT] ∧ s.blk.sameHidden { t.blk with fab := s.blk.fab } ∧
      t.blk.bootStage = (if s.blk.bootStage = 2 ∧ t.blk.fwFetched = true then 3 else s.blk.bootStage)) ∧
  (∀ (s : State) (b : LoadBody), s.blk.off = false → s.blk.sznSt ≠ 3 ∨ s.blk.ownEp = 0xFFF ∨ s.blk.isHub = true ∨
    s.blk.fl R.SYS_BOOT_STAT 4 2 ≠ 2 ∨ (∃ x ∈ s.blk.fab.held, x.1 = b.img ∧ x.2.1 = b.chunk) ∨
    (b.chunk = 0 ∧ s.blk.takesHdr b.data = false) →
    exec (.load b) s = .next s) ∧
  (∀ (s : State) (snd : Sender) (v : Word), s.takesWrite snd R.FAB_CTRL →
    ∃ t, exec (.imageLoadEnable snd v) s = .next t ∧ s.onlyRegs t [R.FAB_CTRL, R.FAB_STAT] ∧
      t.blk.bt R.FAB_CTRL 1 = v.getLsbD 1 ∧ t.blk.bt R.FAB_STAT 2 = v.getLsbD 1 ∧ t.blk.phase = s.blk.phase) ∧
  (∀ (s : State) (snd : Sender) (v : Word), s.takesWrite snd R.FAB_RT_B → s.blk.phase ≠ 2 →
    exec (.routeCommit snd v) s = .next { s with blk := s.blk.fresh.modFab (fun f => { f with
      rt := sset (fun _ => {}) f.rt (s.blk.fl R.FAB_RT_SEL 0 12) (rtOfWords f.rtStage v.toNat) }) }) ∧
  (∀ (s : State) (snd : Sender) (v : Word), s.takesWrite snd R.FAB_RT_B → s.blk.phase = 2 →
    ∃ t, exec (.routeCommit snd v) s = .next t ∧ s.onlyRegs t [R.PAGE_ERR fabPage, R.IRQ_RAW fabPage] ∧
      t.blk.answer.why = Reason.state.code) ∧
  (∀ s : State, s.blk.off = false → s.blk.bt R.FAB_STAT 3 = true → 64 ≤ s.blk.fab.misCnt →
    ∃ t, exec .mismatchReportSend s = .next t ∧ s.sameRest t ∧ t.blk.fab = { s.blk.fab with misCnt := 0 } ∧
      t.blk.regs = s.blk.regs ∧ (s.blk.szn.svcq.length < 8 → ∃ m, t.blk.szn.svcq = s.blk.szn.svcq ++ [m] ∧ m.typ = 0x10 ∧
        m.dst = s.blk.fl R.SZN_TM 0 12 ∧
        m.body = [s.blk.fl R.FAB_STAT 4 4, s.blk.rd64 R.FAB_DIGEST_LO, s.blk.fl R.SYS_ID 0 8, s.blk.fl R.FAB_FWSET 0 24])) ∧
  (∀ s : State, s.blk.off = false → s.blk.bt R.FAB_STAT 3 = false ∨ s.blk.fab.misCnt < 64 →
    exec .mismatchReportSend s = .next s)

/-- The thread commands of the window (R107, R123): CREATE, RESUME, SUSPEND, WAKE and DELETE move the selected thread as the
table states and change no other thread; DELETE clears EN of the counters bound to it; in a state for which the table does
not list the command it is refused with reason STATE and sets BAD_CMD.
The commands of a running thread (R107, R110, R116, R122): YIELD, EXIT and WAIT act on the thread that runs on the core
that writes; a WAIT whose counter has fired consumes one FIRED and runs on, another blocks with its time-out, and a time-out
that has already come wakes the thread at once. Another agent's write is refused with reason AGENT, a command of an idle
core, a WAIT for a counter bound to another thread or with a Deck Time deadline outside DECK mode with reason STATE, and the
reserved TMO code with reason RANGE. -/
def Obligations.ThreadCommands : Prop :=
  (∀ (s : State) (snd : Sender), s.takesWrite snd R.DISP_TH_CMD → (s.blk.thd s.blk.thSel).st = .free →
    ∃ t, exec (.threadCreate snd) s = .next t ∧ s.onlyDisp t [] ∧
      s.blk.threadIs t.blk s.blk.thSel
        { s.blk.thd s.blk.thSel with st := .suspended, wake := 0, wakeDc := 0, tmo := .none } s.blk.disp) ∧
  (∀ (s : State) (snd : Sender), s.takesWrite snd R.DISP_TH_CMD → (s.blk.thd s.blk.thSel).st = .suspended →
    ∃ t, exec (.threadResume snd) s = .next t ∧ s.onlyDisp t [] ∧
      s.blk.threadIs t.blk s.blk.thSel { s.blk.thd s.blk.thSel with st := .ready }
        { s.blk.disp with rdy := s.blk.disp.rdy.filter (· != s.blk.thSel) ++ [s.blk.thSel] }) ∧
  (∀ (s : State) (snd : Sender), s.takesWrite snd R.DISP_TH_CMD →
    (s.blk.thd s.blk.thSel).st = .ready ∨ (s.blk.thd s.blk.thSel).st = .blocked →
    ∃ t, exec (.threadSuspend snd) s = .next t ∧ s.onlyDisp t [] ∧
      s.blk.threadIs t.blk s.blk.thSel { s.blk.thd s.blk.thSel with st := .suspended, tmo := .none }
        { s.blk.disp with rdy := s.blk.disp.rdy.filter (· != s.blk.thSel) }) ∧
  (∀ (s : State) (snd : Sender), s.takesWrite snd R.DISP_TH_CMD → (s.blk.thd s.blk.thSel).st = .blocked →
    ∃ t, exec (.threadWake snd) s = .next t ∧ s.onlyDisp t [] ∧
      s.blk.threadIs t.blk s.blk.thSel { s.blk.thd s.blk.thSel with st := .ready, wake := 3, wakeDc := 0, tmo := .none }
        { s.blk.disp with rdy := s.blk.disp.rdy.filter (· != s.blk.thSel) ++ [s.blk.thSel] }) ∧
  (∀ (s : State) (snd : Sender), s.takesWrite snd R.DISP_TH_CMD → (s.blk.thd s.blk.thSel).st = .suspended →
    ∃ t, exec (.threadDelete snd) s = .next t ∧ s.onlyDisp t [] ∧
      s.blk.threadIs t.blk s.blk.thSel { s.blk.thd s.blk.thSel with st := .free } { s.blk.disp with dc := t.blk.disp.dc } ∧
      (∀ d, d < 512 → t.blk.ctr d =
        if (s.blk.ctr d).tid = s.blk.thSel then { s.blk.ctr d with en := false } else s.blk.ctr d)) ∧
  (∀ (s : State) (snd : Sender), s.takesWrite snd R.DISP_TH_CMD →
    ∀ x ∈ [(Instr.threadCreate snd, [ThSt.free]), (.threadResume snd, [.suspended]),
      (.threadSuspend snd, [.ready, .blocked]), (.threadWake snd, [.blocked]), (.threadDelete snd, [.suspended])],
    (s.blk.thd s.blk.thSel).st ∉ x.2 →
    ∃ t, exec x.1 s = .next t ∧ s.refused t R.DISP_TH_CMD .state [R.DISP_ERR, R.IRQ_RAW 0x40010000] ∧
      t.blk.bt R.DISP_ERR 4 = true) ∧
  (∀ (s : State) (h : CoreIx) (snd : Sender) (u : Nat), s.takesWrite snd (R.DISP_CMD h.val) → snd.agent.val = h.val →
    s.blk.runningOn h.val = some u →
    ∃ t, exec (.threadYield h snd) s = .next t ∧ s.onlyDisp t [] ∧
      s.blk.threadIs t.blk u { s.blk.thd u with st := .ready }
        { s.blk.disp with rdy := s.blk.disp.rdy.filter (· != u) ++ [u] }) ∧
  (∀ (s : State) (h : CoreIx) (snd : Sender) (u : Nat), s.takesWrite snd (R.DISP_CMD h.val) → snd.agent.val = h.val →
    s.blk.runningOn h.val = some u →
    ∃ t, exec (.threadExit h snd) s = .next t ∧ s.onlyDisp t [] ∧
      s.blk.threadIs t.blk u { s.blk.thd u with st := .free, tmo := .none } s.blk.disp) ∧
  (∀ (s : State) (h : CoreIx) (snd : Sender) (v : Word) (u d : Nat), s.takesWrite snd (R.DISP_CMD h.val) →
    snd.agent.val = h.val → s.blk.runningOn h.val = some u → fld v 14 2 < 2 ∨ (fld v 14 2 = 2 ∧ s.blk.tact = true) →
    v.getLsbD 13 = true ∨ (s.blk.ctr (fld v 4 9)).tid = u → s.blk.firedFor u (fld v 4 9) (v.getLsbD 13) = some d →
    ∃ t, exec (.threadWait h snd v) s = .next t ∧ s.onlyDisp t [] ∧
      s.blk.threadIs t.blk u { s.blk.thd u with wake := 1, wakeDc := d } { s.blk.disp with dc := t.blk.disp.dc } ∧
      t.blk.ctr d = { s.blk.ctr d with fired := (s.blk.ctr d).fired - 1 } ∧
      (∀ d', d' ≠ d → t.blk.ctr d' = s.blk.ctr d')) ∧
  (∀ (s : State) (h : CoreIx) (snd : Sender) (v : Word) (u : Nat), s.takesWrite snd (R.DISP_CMD h.val) →
    snd.agent.val = h.val → s.blk.runningOn h.val = some u → v.getLsbD 13 = true ∨ (s.blk.ctr (fld v 4 9)).tid = u →
    s.blk.firedFor u (fld v 4 9) (v.getLsbD 13) = none →
    let n := s.blk.rd64 (R.DISP_WAIT_LO h.val)
    let tmo := if fld v 14 2 = 0 then Tmo.none
      else if s.blk.tact = true then .deck (if fld v 14 2 = 1 then s.blk.tb.dt + n else n)
      else .svc ((n + 999999) / 1000000 + 1)
    fld v 14 2 = 0 ∨ (fld v 14 2 = 1 ∧ (s.blk.tact = true → 0 < n)) ∨
      (fld v 14 2 = 2 ∧ s.blk.tact = true ∧ s.blk.tb.dt < n) →
    ∃ t, exec (.threadWait h snd v) s = .next t ∧ s.onlyDisp t [] ∧
      s.blk.threadIs t.blk u { s.blk.thd u with st := .blocked, waitAny := v.getLsbD 13, waitDc := fld v 4 9, tmo := tmo }
        s.blk.disp) ∧
  (∀ (s : State) (h : CoreIx) (snd : Sender) (v : Word) (u : Nat), s.takesWrite snd (R.DISP_CMD h.val) →
    snd.agent.val = h.val → s.blk.runningOn h.val = some u → v.getLsbD 13 = true ∨ (s.blk.ctr (fld v 4 9)).tid = u →
    s.blk.firedFor u (fld v 4 9) (v.getLsbD 13) = none → s.blk.tact = true →
    (fld v 14 2 = 1 ∧ s.blk.rd64 (R.DISP_WAIT_LO h.val) = 0) ∨
      (fld v 14 2 = 2 ∧ s.blk.rd64 (R.DISP_WAIT_LO h.val) ≤ s.blk.tb.dt) →
    ∃ t, exec (.threadWait h snd v) s = .next t ∧ s.onlyDisp t [] ∧
      s.blk.threadIs t.blk u { s.blk.thd u with
          st := .ready, waitAny := v.getLsbD 13, waitDc := fld v 4 9, wake := 2, wakeDc := 0, tmo := .none }
        { s.blk.disp with rdy := s.blk.disp.rdy.filter (· != u) ++ [u] }) ∧
  (∀ (s : State) (h : CoreIx) (snd : Sender) (v : Word) (u : Nat), s.takesWrite snd (R.DISP_CMD h.val) →
    snd.agent.val = h.val → s.blk.runningOn h.val = some u → fld v 14 2 ≠ 3 →
    (v.getLsbD 13 = false ∧ (s.blk.ctr (fld v 4 9)).tid ≠ u) ∨ (fld v 14 2 = 2 ∧ s.blk.tact = false) →
    ∃ t, exec (.threadWait h snd v) s = .next t ∧
      s.refused t (R.DISP_CMD h.val) .state [R.DISP_ERR, R.IRQ_RAW 0x40010000] ∧ t.blk.bt R.DISP_ERR 4 = true) ∧
  (∀ (s : State) (h : CoreIx) (snd : Sender) (v : Word), s.takesWrite snd (R.DISP_CMD h.val) →
    snd.agent.val = h.val → fld v 14 2 = 3 →
    ∃ t, exec (.threadWait h snd v) s = .next t ∧
      s.refused t (R.DISP_CMD h.val) .range [R.DISP_ERR, R.IRQ_RAW 0x40010000] ∧ t.blk.bt R.DISP_ERR 4 = true) ∧
  (∀ (s : State) (h : CoreIx) (snd : Sender) (v : Word), s.takesWrite snd (R.DISP_CMD h.val) →
    ∀ c ∈ [Instr.threadYield h snd, .threadExit h snd, .threadWait h snd v],
    (snd.agent.val ≠ h.val → ∃ t, exec c s = .next t ∧ s.refused t (R.DISP_CMD h.val) .agent []) ∧
    (snd.agent.val = h.val → s.blk.runningOn h.val = none → (c = .threadWait h snd v → fld v 14 2 ≠ 3) →
      ∃ t, exec c s = .next t ∧
      s.refused t (R.DISP_CMD h.val) .state [R.DISP_ERR, R.IRQ_RAW 0x40010000] ∧ t.blk.bt R.DISP_ERR 4 = true))

/-- One pass of assignment (R104, R109): a core's dispatch interrupt is 1 exactly where it has an assigned thread; no core
and no thread outside the ready lists is given, none outside the thread's affinity, none on a core that runs a thread of its
own or a higher level, none on a busy core without PREEMPT_EN; and an idle core of an unassigned thread's affinity was given
to a thread of at least that thread's level. Nothing else changes.
A core's read of DISP_NEXT (R107, R110, R122): it answers the assigned thread with its level and VALID, that thread runs
on the core and leaves the ready lists, the thread it displaces joins the head of its level, and the dispatch interrupt
falls; with no thread assigned it answers 0; another agent's read is refused with reason AGENT. -/
def Obligations.ThreadAssignment : Prop :=
  (∀ (s : State), s.blk.off = false →
    ∃ t, exec .dispatchAssign s = .next t ∧ s.onlyDisp t ((List.range 8).map R.DISP_IRQ_STAT) ∧
      t.blk.disp = { s.blk.disp with asg := t.blk.disp.asg } ∧
      (∀ h, h < 8 → t.blk.bt (R.DISP_IRQ_STAT h) 0 = (t.blk.assignedTo h).isSome ∧
        t.blk.bt (R.DISP_IRQ_STAT h) 1 = s.blk.bt (R.DISP_IRQ_STAT h) 1) ∧
      (t.blk.disp.asg.map Prod.fst).Nodup ∧
      (∀ p ∈ t.blk.disp.asg, p.1 < 8 ∧ p.2 ∈ s.blk.disp.rdy ∧ nbit (s.blk.thd p.2).aff p.1 = true ∧
        (∀ r, s.blk.runningOn p.1 = some r →
          s.blk.bt R.DISP_CTRL 2 = true ∧ (s.blk.thd r).level < (s.blk.thd p.2).level)) ∧
      (∀ u ∈ s.blk.disp.rdy, (s.blk.thd u).level < 32 → (∀ p ∈ t.blk.disp.asg, p.2 ≠ u) →
        ∀ h, h < 8 → nbit (s.blk.thd u).aff h = true → s.blk.runningOn h = none →
          ∃ p ∈ t.blk.disp.asg, p.1 = h ∧ (s.blk.thd u).level ≤ (s.blk.thd p.2).level)) ∧
  (∀ (s : State) (h : CoreIx) (snd : Sender) (u : Nat), s.takesRead snd (R.DISP_NEXT h.val) → snd.agent.val = h.val →
    (s.blk.assignment.find? (fun p => p.1 == h.val)).map Prod.snd = some u →
    ∃ t, exec (.dispNextRead h snd) s = .next t ∧ s.onlyDisp t [R.DISP_IRQ_STAT h.val] ∧
      t.blk.answer = { data := u + (s.blk.thd u).level * 2 ^ 8 + 2 ^ 16 } ∧
      t.blk.thd u = { s.blk.thd u with st := .running, core := h.val } ∧
      (∀ v, v ≠ u → t.blk.thd v =
        if s.blk.runningOn h.val = some v then { s.blk.thd v with st := .ready } else s.blk.thd v) ∧
      t.blk.disp.rdy = (match s.blk.runningOn h.val with
        | some r => (r :: s.blk.disp.rdy.filter (· != r)).filter (· != u)
        | none => s.blk.disp.rdy.filter (· != u)) ∧
      t.blk.disp = { s.blk.disp with
        th := t.blk.disp.th, rdy := t.blk.disp.rdy, asg := s.blk.assignment.filter (fun p => p.1 != h.val) } ∧
      t.blk.bt (R.DISP_IRQ_STAT h.val) 0 = false ∧
      t.blk.bt (R.DISP_IRQ_STAT h.val) 1 = s.blk.bt (R.DISP_IRQ_STAT h.val) 1) ∧
  (∀ (s : State) (h : CoreIx) (snd : Sender), s.takesRead snd (R.DISP_NEXT h.val) → snd.agent.val = h.val →
    s.blk.assignment.find? (fun p => p.1 == h.val) = none →
    exec (.dispNextRead h snd) s =
      .next { s with blk := { s.blk with disp := { s.blk.disp with asg := s.blk.assignment }, answer := {} } }) ∧
  (∀ (s : State) (h : CoreIx) (snd : Sender), s.takesRead snd (R.DISP_NEXT h.val) → snd.agent.val ≠ h.val →
    ∃ t, exec (.dispNextRead h snd) s = .next t ∧ s.refused t (R.DISP_NEXT h.val) .agent [])

/-- The delivery of an event (R112): the oldest leaves the queue; every enabled counter with a matching enabled subscription
counts down by one; the one that reaches 0 fires, reloads and, where a thread awaits it alone, wakes that thread, which
consumes the FIRED; one at 0 sets MISSED; no other counter changes. The threads made ready join in rising order behind
those that were. With an empty queue nothing happens.
The ways into the event queue (R113, R114, R115): the lowest pending coalesced event moves into the queue while it holds
fewer than 1024; a software event 0x180 to 0x1FF joins it while it holds fewer than 960 and nothing is held, otherwise its
core's store is held and does not complete; the oldest held completion joins once QFILL is below 960; any other event number is refused with
reason RANGE. QHWM keeps the highest fill. -/
def Obligations.EventDelivery : Prop :=
  (∀ (s : State), s.blk.off = false → s.blk.disp.evq = [] → exec .eventDeliver s = .next s) ∧
  (∀ (s : State) (ev : Nat) (q : List Nat), s.blk.off = false → s.blk.disp.evq = ev :: q →
    ∃ t, exec .eventDeliver s = .next t ∧ s.onlyDisp t [R.DISP_ERR, R.IRQ_RAW 0x40010000] ∧
      t.blk.disp = { s.blk.disp with evq := q, th := t.blk.disp.th, dc := t.blk.disp.dc, rdy := t.blk.disp.rdy } ∧
      ((∀ u ∈ s.blk.disp.rdy, (s.blk.thd u).st ≠ .blocked) →
        t.blk.disp.rdy.take s.blk.disp.rdy.length = s.blk.disp.rdy ∧
        (t.blk.disp.rdy.drop s.blk.disp.rdy.length).Pairwise (· ≤ ·)) ∧
      (∀ u, t.blk.thd u = s.blk.thd u ∨
        ((s.blk.thd u).st = .blocked ∧ u ∈ t.blk.disp.rdy ∧ ∃ d, d < 512 ∧ (s.blk.ctr d).tid = u ∧
          t.blk.thd u = { s.blk.thd u with st := .ready, wake := 1, wakeDc := d, tmo := .none })) ∧
      (∀ d, d < 512 →
        let c := s.blk.ctr d
        let hit := c.en && ((c.subAEn && c.subA == ev) || (c.subBEn && c.subB == ev))
        (hit = false → t.blk.ctr d = c) ∧
        (hit = true → c.count = 0 → t.blk.ctr d = { c with missed := true } ∧ t.blk.bt R.DISP_ERR 2 = true) ∧
        (hit = true → 1 < c.count → t.blk.ctr d = { c with count := c.count - 1 }) ∧
        (hit = true → c.count = 1 → awaits (s.blk.thd c.tid) c c.tid d = false → t.blk.ctr d = { c with
            count := c.reload
            fired := satAdd c.fired 1 255
            firedOvf := c.firedOvf || c.fired == 255 } ∧
          (c.fired = 255 → t.blk.bt R.DISP_ERR 1 = true)) ∧
        (hit = true → c.count = 1 → (s.blk.thd c.tid).st = .blocked → (s.blk.thd c.tid).waitAny = false →
          (s.blk.thd c.tid).waitDc = d →
          t.blk.ctr d = { c with
            count := c.reload
            fired := satAdd c.fired 1 255 - 1
            firedOvf := c.firedOvf || c.fired == 255 } ∧
          t.blk.thd c.tid = { s.blk.thd c.tid with st := .ready, wake := 1, wakeDc := d, tmo := .none }))) ∧
  (∀ (s : State), s.blk.off = false →
    1024 ≤ s.blk.disp.evq.length ∨ (∀ e, e < 512 → s.blk.bt (R.DISP_PEND (e / 32)) (e % 32) = false) →
    exec .coalesceEnqueue s = .next s) ∧
  (∀ (s : State) (e : Nat), s.blk.off = false → s.blk.disp.evq.length < 1024 → e < 512 →
    s.blk.bt (R.DISP_PEND (e / 32)) (e % 32) = true →
    (∀ j, j < e → s.blk.bt (R.DISP_PEND (j / 32)) (j % 32) = false) →
    ∃ t, exec .coalesceEnqueue s = .next t ∧ s.onlyDisp t [R.DISP_PEND (e / 32), R.DISP_QHWM] ∧
      t.blk.disp = { s.blk.disp with evq := s.blk.disp.evq ++ [e] } ∧
      (∀ j, j < 32 → t.blk.bt (R.DISP_PEND (e / 32)) j = if j = e % 32 then false else s.blk.bt (R.DISP_PEND (e / 32)) j) ∧
      t.blk.fl R.DISP_QHWM 0 11 = max (s.blk.fl R.DISP_QHWM 0 11) (s.blk.disp.evq.length + 1)) ∧
  (∀ (s : State) (snd : Sender) (v : Word), s.takesWrite snd R.DISP_EV_POST → 0x180 ≤ fld v 0 10 → fld v 0 10 ≤ 0x1FF →
    s.blk.disp.evq.length < 960 → s.blk.disp.held = [] →
    ∃ t, exec (.eventPostSoftware snd v) s = .next t ∧ s.onlyDisp t [R.DISP_QHWM] ∧
      t.blk.disp = { s.blk.disp with evq := s.blk.disp.evq ++ [fld v 0 10] } ∧
      t.blk.fl R.DISP_QHWM 0 11 = max (s.blk.fl R.DISP_QHWM 0 11) (s.blk.disp.evq.length + 1)) ∧
  (∀ (s : State) (snd : Sender) (v : Word), s.takesWrite snd R.DISP_EV_POST → 0x180 ≤ fld v 0 10 → fld v 0 10 ≤ 0x1FF →
    960 ≤ s.blk.disp.evq.length ∨ s.blk.disp.held ≠ [] →
    exec (.eventPostSoftware snd v) s = .next { s with blk := { s.blk with answer := { stalled := true }, disp := { s.blk.disp with
      held := s.blk.disp.held ++ [.core snd.agent.val (fld v 0 10)] } } }) ∧
  (∀ (s : State) (snd : Sender) (v : Word), s.takesWrite snd R.DISP_EV_POST → fld v 0 10 < 0x180 ∨ 0x1FF < fld v 0 10 →
    ∃ t, exec (.eventPostSoftware snd v) s = .next t ∧ s.refused t R.DISP_EV_POST .range []) ∧
  (∀ (s : State) (a ev : Nat) (rest : List StallSrc), s.blk.off = false → s.blk.disp.evq.length < 960 →
    ∀ x ∈ [(StallSrc.core a ev, ev), (.ack a ev ev, ev), (.gpio a, 0x160 + a)], s.blk.disp.held = x.1 :: rest →
    ∃ t, exec .stallEventAdmit s = .next t ∧ s.onlyDisp t [R.DISP_QHWM] ∧
      t.blk.disp = { s.blk.disp with evq := s.blk.disp.evq ++ [x.2], held := rest }) ∧
  (∀ (s : State) (i n : Nat) (rest : List StallSrc), s.blk.off = false → s.blk.disp.evq.length < 960 →
    s.blk.disp.held = .can i n :: rest →
    ∃ t, exec .stallEventAdmit s = .next t ∧ s.onlyDisp t [R.DISP_QHWM, R.CAN_STAT i] ∧
      t.blk.disp = { s.blk.disp with evq := s.blk.disp.evq ++ [0x120 + 4 * i + n], held := rest } ∧
      t.blk.bt (R.CAN_STAT i) 22 = (List.range 4).any (fun k => rest.contains (.can i k))) ∧
  (∀ (s : State) (w : Nat) (rest : List StallSrc), s.blk.off = false → s.blk.disp.evq.length < 960 →
    s.blk.disp.held = .dsp w :: rest → w < 4 → s.blk.fl (R.DSP_STAT w) 0 2 = 2 →
    ∃ t, exec .stallEventAdmit s = .next t ∧ s.sameRest t ∧
      t.blk.disp = { s.blk.disp with evq := s.blk.disp.evq ++ [0xD0 + w], held := rest } ∧
      t.blk.fl (R.DSP_STAT w) 0 2 = (if (sget (fun _ => ({} : Dsp)) s.blk.dsp w).susp then 3 else 0)) ∧
  (∀ (s : State), s.blk.off = false → 960 ≤ s.blk.disp.evq.length ∨ s.blk.disp.held = [] →
    exec .stallEventAdmit s = .next s)

/-- Time-outs (R107, R116): a blocked thread whose deadline has come, in Deck Time or in service ticks, becomes ready at the
tail of its level with WAKE = TIMEOUT; any other thread stays as it is.
Core release, counter write and machine timer (R17, R101, R103, R112, R124): a core released for the first time starts at
DISP_BOOT_ADDR; a Hub releases none; a write of COUNT rearms the selected counter; a core's timer line is 1 exactly while
Deck Time has reached its DISP_MTIMECMP. -/
def Obligations.WaitsAndCores : Prop :=
  (∀ (s : State) (u : Tid), s.blk.off = false → (s.blk.thd u.val).st = .blocked →
    (s.blk.thd u.val).tmo = .svc 0 ∨ (∃ d, (s.blk.thd u.val).tmo = .deck d ∧ d ≤ s.blk.tb.dt) →
    ∃ t, exec (.waitTimeout u) s = .next t ∧ s.onlyDisp t [] ∧
      s.blk.threadIs t.blk u.val { s.blk.thd u.val with st := .ready, wake := 2, wakeDc := 0, tmo := .none }
        { s.blk.disp with rdy := s.blk.disp.rdy.filter (· != u.val) ++ [u.val] }) ∧
  (∀ (s : State) (u : Tid), s.blk.off = false →
    (s.blk.thd u.val).st ≠ .blocked ∨ (s.blk.thd u.val).tmo = .none ∨
      (∃ n, 0 < n ∧ (s.blk.thd u.val).tmo = .svc n) ∨ (∃ d, (s.blk.thd u.val).tmo = .deck d ∧ s.blk.tb.dt < d) →
    exec (.waitTimeout u) s = .next s) ∧
  (∀ (s : State) (snd : Sender) (v : Word), s.takesWrite snd R.DISP_CORE_REL → s.blk.isHub = false →
    ∃ t, exec (.coreRelease snd v) s = .next t ∧ s.onlyDisp t [R.DISP_CORE_REL] ∧
      t.blk.disp = { s.blk.disp with corePc := t.blk.disp.corePc } ∧
      (∀ h, h < 8 → t.blk.bt R.DISP_CORE_REL h = (s.blk.bt R.DISP_CORE_REL h || v.getLsbD h)) ∧
      (∀ h, 8 ≤ h → t.blk.bt R.DISP_CORE_REL h = s.blk.bt R.DISP_CORE_REL h) ∧
      (∀ h, sget (fun _ => 0) t.blk.disp.corePc h =
        if h < 8 ∧ v.getLsbD h = true ∧ s.blk.bt R.DISP_CORE_REL h = false then s.blk.rd64 R.DISP_BOOT_ADDR_LO
        else sget (fun _ => 0) s.blk.disp.corePc h)) ∧
  (∀ (s : State) (snd : Sender) (v : Word), s.hears snd → s.blk.denial snd R.DISP_CORE_REL true = none →
    s.blk.behind R.DISP_CORE_REL = false → s.blk.isHub = true →
    exec (.coreRelease snd v) s = .next { s with blk := s.blk.fresh }) ∧
  (∀ (s : State) (snd : Sender) (v : Word), s.takesWrite snd R.DISP_DC_COUNT →
    ∃ t, exec (.dispCounterWrite snd v) s = .next t ∧ s.onlyDisp t [] ∧
      t.blk.disp = { s.blk.disp with dc := t.blk.disp.dc } ∧
      (∀ d, t.blk.ctr d = if d = s.blk.fl R.DISP_DC_SEL 0 9 then
        { s.blk.ctr d with count := fld v 0 16, reload := fld v 16 16 } else s.blk.ctr d)) ∧
  (∀ (s : State) (h : CoreIx), s.blk.off = false →
    ∃ t, exec (.machineTimerInterrupt h) s = .next t ∧ s.onlyRegs t [R.DISP_IRQ_STAT h.val] ∧
      t.blk.bt (R.DISP_IRQ_STAT h.val) 1 = decide (s.blk.rd64 (R.DISP_MTIMECMP_LO h.val) ≤ s.blk.tb.dt) ∧
      (∀ j, j < 32 → j ≠ 1 → t.blk.bt (R.DISP_IRQ_STAT h.val) j = s.blk.bt (R.DISP_IRQ_STAT h.val) j))

/-- Claim and completion at the PLIC (R105, R125): a core's claim answers the pending enabled source of the highest priority,
the lowest number among equals, and takes its pending bit; with none, or by another agent, it answers 0 and claims nothing;
a completion of a claimed enabled source ends its service and senses its page again, any other is ignored.
An error of the dispatch memories (R119): a corrected one sets ECC_CORR alone; an uncorrectable one suspends its thread,
or disables its counter, records the index in DISP_ECC_INFO, sets ECC_UNCORR and offers a record to the Event Archive. -/
def Obligations.PlicAndErrors : Prop :=
  (∀ (s : State) (x : Fin 16) (snd : Sender) (src : Nat), s.takesRead snd (R.PLIC_CLAIM x.val) → snd.agent.val < 8 →
    0 < src → src < 512 → 0 < s.blk.fl (R.PLIC_PRIO src) 0 3 →
    s.blk.bt (R.PLIC_PEND (src / 32)) (src % 32) = true → s.blk.bt (R.PLIC_EN (16 * x.val + src / 32)) (src % 32) = true →
    (∀ j, j < 512 → s.blk.bt (R.PLIC_PEND (j / 32)) (j % 32) = true →
      s.blk.bt (R.PLIC_EN (16 * x.val + j / 32)) (j % 32) = true →
      s.blk.fl (R.PLIC_PRIO j) 0 3 < s.blk.fl (R.PLIC_PRIO src) 0 3 ∨
        (s.blk.fl (R.PLIC_PRIO j) 0 3 = s.blk.fl (R.PLIC_PRIO src) 0 3 ∧ src ≤ j)) →
    ∃ t, exec (.plicClaim x snd) s = .next t ∧ s.sameRest t ∧ t.blk.answer = { data := src } ∧
      s.blk.sameHidden { t.blk with disp := s.blk.disp } ∧
      t.blk.disp = { s.blk.disp with plicSvc := src :: s.blk.disp.plicSvc } ∧
      (∀ a, a ≠ R.PLIC_PEND (src / 32) → t.blk.rd a = s.blk.rd a) ∧
      (∀ j, j < 32 → t.blk.bt (R.PLIC_PEND (src / 32)) j =
        if j = src % 32 then false else s.blk.bt (R.PLIC_PEND (src / 32)) j)) ∧
  (∀ (s : State) (x : Fin 16) (snd : Sender), s.takesRead snd (R.PLIC_CLAIM x.val) →
    8 ≤ snd.agent.val ∨ (∀ j, j < 512 → s.blk.bt (R.PLIC_PEND (j / 32)) (j % 32) = true →
      s.blk.bt (R.PLIC_EN (16 * x.val + j / 32)) (j % 32) = true → s.blk.fl (R.PLIC_PRIO j) 0 3 = 0) →
    exec (.plicClaim x snd) s = .next { s with blk := { s.blk with answer := {} } }) ∧
  (∀ (s : State) (x : Fin 16) (snd : Sender) (v : Word), s.takesWrite snd (R.PLIC_CLAIM x.val) → v.toNat < 512 →
    s.blk.bt (R.PLIC_EN (16 * x.val + v.toNat / 32)) (v.toNat % 32) = true → v.toNat ∈ s.blk.disp.plicSvc →
    ∃ t, exec (.plicComplete x snd v) s = .next t ∧ s.sameRest t ∧ s.blk.sameHidden { t.blk with disp := s.blk.disp } ∧
      t.blk.disp = { s.blk.disp with plicSvc := s.blk.disp.plicSvc.filter (· != v.toNat) } ∧
      (∀ a, a ≠ R.PLIC_PEND (v.toNat / 32) → t.blk.rd a = s.blk.rd a) ∧
      (∀ j, j < 32 → j ≠ v.toNat % 32 →
        t.blk.bt (R.PLIC_PEND (v.toNat / 32)) j = s.blk.bt (R.PLIC_PEND (v.toNat / 32)) j) ∧
      t.blk.bt (R.PLIC_PEND (v.toNat / 32)) (v.toNat % 32) =
        (s.blk.bt (R.PLIC_PEND (v.toNat / 32)) (v.toNat % 32) || match sourcePage v.toNat with
          | some page => s.blk.irqOut page
          | none => false)) ∧
  (∀ (s : State) (x : Fin 16) (snd : Sender) (v : Word), s.takesWrite snd (R.PLIC_CLAIM x.val) →
    512 ≤ v.toNat ∨ s.blk.bt (R.PLIC_EN (16 * x.val + v.toNat / 32)) (v.toNat % 32) = false ∨
      v.toNat ∉ s.blk.disp.plicSvc →
    exec (.plicComplete x snd v) s = .next { s with blk := s.blk.fresh }) ∧
  (∀ (s : State) (k : Fin 2) (i : Dc), s.blk.off = false →
    ∃ t, exec (.dispatchEccError k i false) s = .next t ∧ s.onlyRegs t [R.DISP_ERR, R.IRQ_RAW 0x40010000] ∧
      t.blk.bt R.DISP_ERR 5 = true) ∧
  (∀ (s : State) (i : Dc), s.blk.off = false →
    ∃ t, exec (.dispatchEccError 0 i true) s = .next t ∧ s.sameRest t ∧
      s.blk.keeps t.blk (R.DISP_ERR :: R.IRQ_RAW 0x40010000 :: R.DISP_ECC_INFO :: archiveRegs) ∧
      s.blk.sameHidden { t.blk with disp := s.blk.disp, eaq := s.blk.eaq, free := s.blk.free } ∧
      s.blk.threadIs t.blk i.val { s.blk.thd i.val with st := .suspended, tmo := .none }
        { s.blk.disp with rdy := s.blk.disp.rdy.filter (· != i.val) } ∧
      t.blk.bt R.DISP_ERR 6 = true ∧ t.blk.rdN R.DISP_ECC_INFO = i.val + 1024 ∧
      s.blk.offers t.blk 5 0 2 (t.blk.rdN R.DISP_ERR) (i.val + 1024) 0) ∧
  (∀ (s : State) (i : Dc), s.blk.off = false →
    ∃ t, exec (.dispatchEccError 1 i true) s = .next t ∧ s.sameRest t ∧
      s.blk.keeps t.blk (R.DISP_ERR :: R.IRQ_RAW 0x40010000 :: R.DISP_ECC_INFO :: archiveRegs) ∧
      s.blk.sameHidden { t.blk with disp := s.blk.disp, eaq := s.blk.eaq, free := s.blk.free } ∧
      t.blk.disp = { s.blk.disp with dc := t.blk.disp.dc } ∧
      (∀ d, t.blk.ctr d = if d = i.val then { s.blk.ctr d with en := false } else s.blk.ctr d) ∧
      t.blk.bt R.DISP_ERR 6 = true ∧ t.blk.rdN R.DISP_ECC_INFO = i.val + 512 + 1024 ∧
      s.blk.offers t.blk 5 0 2 (t.blk.rdN R.DISP_ERR) (i.val + 512 + 1024) 0)

/-- Staging (R126, R127, R133): a permitted sender's first payload write zeroes the payload, stores its word and makes the
mailbox STAGING with that writer; the writer's next words are stored; another's are refused with reason STATE, a sender that
R127 does not permit with reason AGENT. A staging that times out, or that its writer cancels, empties the mailbox; so does
the withdrawal of a FULL message by its sender.
Post and acknowledgement (R126 to R132): the writer's post stamps the message, makes the mailbox FULL, raises POSTED and
posts event 0x100 + m, with a core as receiver wakes that core's wing, and where the wing must be powered first keeps the
event until it is; a post that the acknowledgement memory knows as a
duplicate is answered with the stored code and empties the mailbox. The receiver's acknowledgement empties it, is remembered
in place of the entry of the same sender or the oldest of four, and raises ACKED with the acknowledge event. Posts of one
clock act in the order of R15. The payload is read by the receiver while FULL and by the writer while STAGING, by others
not, and an error of its memory is flagged (R127, R133). -/
def Obligations.MailboxMessages : Prop :=
  (∀ (s : State) (m : MbxIx) (i : Fin 16) (snd : Sender) (v : Word), s.takesWrite snd (R.MBX_DATA m.val i.val) →
    s.blk.mbxPermits m.val snd = true → s.blk.mbxSt m.val = 0 →
    ∃ t, exec (.mailboxDataWrite m i snd v) s = .next t ∧
      s.onlyRegs t (R.MBX_STAT m.val :: R.PAGE_STAT (mbxPage m.val) :: (List.range 16).map (R.MBX_DATA m.val)) ∧
      (∀ j, j < 16 → t.blk.rd (R.MBX_DATA m.val j) = if j = i.val then v else 0#32) ∧
      t.blk.rdN (R.MBX_STAT m.val) = 1 + snd.agent.val * 16 + stampEp snd * 256 ∧
      t.blk.bt (R.PAGE_STAT (mbxPage m.val)) 2 = true) ∧
  (∀ (s : State) (m : MbxIx) (i : Fin 16) (snd : Sender) (v : Word), s.takesWrite snd (R.MBX_DATA m.val i.val) →
    s.blk.mbxPermits m.val snd = true → s.blk.mbxSt m.val = 1 → s.blk.mbxIsWriter m.val snd = true →
    ∃ t, exec (.mailboxDataWrite m i snd v) s = .next t ∧ s.onlyRegs t [R.MBX_DATA m.val i.val] ∧
      t.blk.rd (R.MBX_DATA m.val i.val) = v) ∧
  (∀ (s : State) (m : MbxIx) (i : Fin 16) (snd : Sender) (v : Word), s.takesWrite snd (R.MBX_DATA m.val i.val) →
    (s.blk.mbxPermits m.val snd = false →
      ∃ t, exec (.mailboxDataWrite m i snd v) s = .next t ∧ s.refused t (R.MBX_DATA m.val i.val) .agent []) ∧
    (s.blk.mbxPermits m.val snd = true → s.blk.mbxSt m.val ≠ 0 →
      s.blk.mbxSt m.val ≠ 1 ∨ s.blk.mbxIsWriter m.val snd = false →
      ∃ t, exec (.mailboxDataWrite m i snd v) s = .next t ∧ s.refused t (R.MBX_DATA m.val i.val) .state [])) ∧
  (∀ (s : State) (m : MbxIx), s.blk.off = false →
    (s.blk.mbxSt m.val = 1 → ∃ t, exec (.mailboxStageTimeout m) s = .next t ∧
      s.onlyRegs t [R.MBX_STAT m.val, R.MBX_STAMP m.val, R.PAGE_STAT (mbxPage m.val), R.MBX_ERR m.val,
        R.IRQ_RAW (mbxPage m.val)] ∧
      t.blk.rdN (R.MBX_STAT m.val) = 0 ∧ t.blk.rdN (R.MBX_STAMP m.val) = 0 ∧
      t.blk.bt (R.PAGE_STAT (mbxPage m.val)) 2 = false ∧ t.blk.bt (R.MBX_ERR m.val) 0 = true) ∧
    (s.blk.mbxSt m.val ≠ 1 → exec (.mailboxStageTimeout m) s = .next s)) ∧
  (∀ (s : State) (m : MbxIx) (snd : Sender), s.takesWrite snd (R.MBX_CTRL m.val) → s.blk.mbxPermits m.val snd = true →
    s.blk.mbxSt m.val = 1 → s.blk.mbxIsWriter m.val snd = true →
    ∃ t, exec (.mailboxCancel m snd) s = .next t ∧
      s.onlyRegs t [R.MBX_STAT m.val, R.MBX_STAMP m.val, R.PAGE_STAT (mbxPage m.val)] ∧
      t.blk.rdN (R.MBX_STAT m.val) = 0 ∧ t.blk.rdN (R.MBX_STAMP m.val) = 0 ∧
      t.blk.bt (R.PAGE_STAT (mbxPage m.val)) 2 = false) ∧
  (∀ (s : State) (m : MbxIx) (snd : Sender), s.takesWrite snd (R.MBX_CTRL m.val) → s.blk.mbxPermits m.val snd = true →
    s.blk.mbxSt m.val = 2 → s.blk.fl (R.MBX_STAMP m.val) 0 4 = snd.agent.val →
    s.blk.fl (R.MBX_STAMP m.val) 4 12 = stampEp snd →
    ∃ t, exec (.mailboxCancel m snd) s = .next t ∧
      s.onlyRegs t [R.MBX_STAT m.val, R.MBX_STAMP m.val, R.PAGE_STAT (mbxPage m.val), R.MBX_ERR m.val,
        R.IRQ_RAW (mbxPage m.val)] ∧
      t.blk.rdN (R.MBX_STAT m.val) = 0 ∧ t.blk.rdN (R.MBX_STAMP m.val) = 0 ∧
      t.blk.bt (R.PAGE_STAT (mbxPage m.val)) 2 = false ∧ t.blk.bt (R.MBX_ERR m.val) 1 = true) ∧
  (∀ (s : State) (m : MbxIx) (snd : Sender), s.takesWrite snd (R.MBX_CTRL m.val) →
    (s.blk.mbxPermits m.val snd = false →
      ∃ t, exec (.mailboxCancel m snd) s = .next t ∧ s.refused t (R.MBX_CTRL m.val) .agent []) ∧
    (s.blk.mbxPermits m.val snd = true → s.blk.mbxSt m.val = 0 →
      ∃ t, exec (.mailboxCancel m snd) s = .next t ∧ s.refused t (R.MBX_CTRL m.val) .state [])) ∧
  (∀ (s : State) (m : MbxIx) (snd : Sender) (v : Word), s.takesWrite snd (R.MBX_POST m.val) →
    s.blk.mbxPermits m.val snd = true → s.blk.mbxSt m.val = 1 → s.blk.mbxIsWriter m.val snd = true →
    s.blk.bt (R.MBX_CFG m.val) 4 = false ∨ (∀ e ∈ s.blk.ackMem m.val,
      ¬ (e.agent = snd.agent.val ∧ e.ep = stampEp snd ∧ e.seq = fld v 0 16)) →
    ∃ t, exec (.mailboxPost m snd v []) s = .next t ∧ s.sameRest t ∧
      s.blk.keeps t.blk ([R.MBX_STAT m.val, R.MBX_STAMP m.val, R.IRQ_RAW (mbxPage m.val), R.DISP_PEND 8,
        R.DISP_COAL_CNT, R.DISP_ERR, R.IRQ_RAW 0x40010000] ++
        (if s.blk.fl (R.MBX_CFG m.val) 0 4 < 8 then [R.PWR_WAKE_SRC, R.PWR_STAT, R.PWR_ERR, R.IRQ_RAW pwrPage] else [])) ∧
      s.blk.sameHidden { t.blk with pw := s.blk.pw } ∧
      (8 ≤ s.blk.fl (R.MBX_CFG m.val) 0 4 → t.blk.pw = s.blk.pw) ∧
      (s.blk.fl (R.MBX_CFG m.val) 0 4 < 8 →
        t.blk.bt R.PWR_WAKE_SRC (10 + s.blk.fl (R.MBX_CFG m.val) 0 4 / 2) = true) ∧
      t.blk.mbxSt m.val = 2 ∧ t.blk.mbxIsWriter m.val snd = true ∧
      t.blk.rdN (R.MBX_STAMP m.val) = snd.agent.val + stampEp snd * 16 + fld v 0 16 * 2 ^ 16 ∧
      t.blk.bt (R.IRQ_RAW (mbxPage m.val)) 0 = true ∧
      (let w := s.blk.fl (R.MBX_CFG m.val) 0 4 / 2
       if w < 4 ∧ (sget (fun _ => 0) s.blk.pw.exiting w ≠ 0 ∨ (s.blk.domState w ≠ 0 ∧ s.blk.isHub = false)) then
         t.blk.pw.bells = s.blk.pw.bells ++ [(w, m.val)] ∧ t.blk.rd (R.DISP_PEND 8) = s.blk.rd (R.DISP_PEND 8)
       else t.blk.pw.bells = s.blk.pw.bells ∧ t.blk.bt (R.DISP_PEND 8) m.val = true)) ∧
  (∀ (s : State) (m : MbxIx) (snd : Sender) (v : Word) (e : AckEnt), s.takesWrite snd (R.MBX_POST m.val) →
    s.blk.mbxPermits m.val snd = true → s.blk.mbxSt m.val = 1 → s.blk.mbxIsWriter m.val snd = true →
    s.blk.bt (R.MBX_CFG m.val) 4 = true → (s.blk.ackMem m.val).find? (fun e => e.agent == snd.agent.val &&
      e.ep == stampEp snd && e.seq == fld v 0 16) = some e → e.rc < 2 ^ 16 →
    ∃ t, exec (.mailboxPost m snd v []) s = .next t ∧
      s.onlyDisp t [R.MBX_STAT m.val, R.MBX_STAMP m.val, R.PAGE_STAT (mbxPage m.val), R.MBX_LAST_RC m.val,
        R.MBX_LAST_STAMP m.val, R.MBX_DUP_CNT m.val, R.MBX_ERR m.val, R.IRQ_RAW (mbxPage m.val), R.DISP_QHWM] ∧
      t.blk.rdN (R.MBX_STAT m.val) = 0 ∧ t.blk.rdN (R.MBX_STAMP m.val) = 0 ∧
      t.blk.rdN (R.MBX_LAST_RC m.val) = e.rc + 2 ^ 16 + 2 ^ 17 ∧
      t.blk.fl (R.MBX_DUP_CNT m.val) 0 16 = satAdd (s.blk.fl (R.MBX_DUP_CNT m.val) 0 16) 1 0xFFFF ∧
      t.blk.bt (R.MBX_ERR m.val) 2 = true ∧ t.blk.bt (R.IRQ_RAW (mbxPage m.val)) 1 = true ∧
      s.blk.ackPosted t.blk m.val snd.agent.val) ∧
  (∀ (s : State) (m : MbxIx) (snd : Sender) (v : Word), s.takesWrite snd (R.MBX_POST m.val) →
    (s.blk.mbxPermits m.val snd = false →
      ∃ t, exec (.mailboxPost m snd v []) s = .next t ∧ s.refused t (R.MBX_POST m.val) .agent []) ∧
    (s.blk.mbxPermits m.val snd = true → s.blk.mbxSt m.val ≠ 1 ∨ s.blk.mbxIsWriter m.val snd = false →
      ∃ t, exec (.mailboxPost m snd v []) s = .next t ∧ s.refused t (R.MBX_POST m.val) .state [])) ∧
  (∀ (s : State) (m : MbxIx) (snd snd' : Sender) (v v' : Word), s.hears snd →
    (grantRank snd'.agent.val < grantRank snd.agent.val →
      ∃ t u, exec (.mailboxPost m snd' v' []) s = .next u ∧ exec (.mailboxPost m snd v []) u = .next t ∧
        ∃ r, exec (.mailboxPost m snd v [(snd', v')]) s = .next r ∧ r.blk.regs = t.blk.regs) ∧
    (grantRank snd.agent.val ≤ grantRank snd'.agent.val →
      ∃ t u, exec (.mailboxPost m snd v []) s = .next u ∧ exec (.mailboxPost m snd' v' []) u = .next t ∧
        ∃ r, exec (.mailboxPost m snd v [(snd', v')]) s = .next r ∧ r.blk.regs = t.blk.regs)) ∧
  (∀ (s : State) (m : MbxIx) (i : Fin 16) (snd : Sender) (a : Fin 16777216), s.takesRead snd (R.MBX_DATA m.val i.val) →
    0x40000000 + a.val = R.MBX_DATA m.val i.val →
    (s.blk.mbxReads m.val snd = true →
      exec (.pairLoRead a snd .word .none) s = .next { s with blk := { s.blk with
        answer := { data := s.blk.rdN (R.MBX_DATA m.val i.val) } } } ∧
      (∃ t, exec (.pairLoRead a snd .word .corr) s = .next t ∧
        s.onlyRegs t [R.MBX_ERR m.val, R.IRQ_RAW (mbxPage m.val)] ∧ t.blk.bt (R.MBX_ERR m.val) 3 = true ∧
        t.blk.bt (R.IRQ_RAW (mbxPage m.val)) 5 = true ∧ t.blk.answer = { data := s.blk.rdN (R.MBX_DATA m.val i.val) }) ∧
      ∃ t, exec (.pairLoRead a snd .word .uncorr) s = .next t ∧ s.sameRest t ∧
        s.blk.keeps t.blk [R.MBX_ERR m.val, R.IRQ_RAW (mbxPage m.val)] ∧ t.blk.bt (R.MBX_ERR m.val) 4 = true ∧
        t.blk.bt (R.IRQ_RAW (mbxPage m.val)) 6 = true) ∧
    (s.blk.mbxReads m.val snd = false →
      ∃ t, exec (.pairLoRead a snd .word .none) s = .next t ∧ s.refused t (R.MBX_DATA m.val i.val) .agent [])) ∧
  (∀ (s : State) (m : MbxIx) (snd : Sender) (v : Word), s.takesWrite snd (R.MBX_ACK m.val) →
    snd.agent.val = s.blk.fl (R.MBX_CFG m.val) 0 4 → s.blk.mbxSt m.val = 2 →
    ∃ t, exec (.mailboxAck m snd v) s = .next t ∧ s.sameRest t ∧ s.blk.acked t.blk m.val snd.agent.val (fld v 0 16)) ∧
  (∀ (s : State) (m : MbxIx) (snd : Sender) (v : Word), s.takesWrite snd (R.MBX_ACK m.val) →
    (snd.agent.val ≠ s.blk.fl (R.MBX_CFG m.val) 0 4 →
      ∃ t, exec (.mailboxAck m snd v) s = .next t ∧ s.refused t (R.MBX_ACK m.val) .agent []) ∧
    (snd.agent.val = s.blk.fl (R.MBX_CFG m.val) 0 4 → s.blk.mbxSt m.val ≠ 2 →
      ∃ t, exec (.mailboxAck m snd v) s = .next t ∧ s.refused t (R.MBX_ACK m.val) .state []))

/-- Loan registers (R134, R135): a read of a free loan gives it to the reader and returns 0, the owner reads 0 and another
agent the owner's code + 1, and of two reads in one clock the one that R15 grants first gets it; the owner's write of 0 frees it, another agent's is refused with reason STATE and sets
BAD_RELEASE, another value with reason RANGE; LOAN_FORCE frees every held loan whose bit is 1 and no other. -/
def Obligations.Loans : Prop :=
  (∀ (s : State) (n : Fin 64) (snd : Sender), s.takesRead snd (R.LOAN n.val) → s.blk.loanOwner n.val = 0 →
    ∃ t, exec (.loanAcquire n snd []) s = .next t ∧
      s.onlyRegs t [R.LOAN_PEEK n.val, R.LOAN_HELD_LO, R.LOAN_HELD_HI] ∧ t.blk.answer = {} ∧
      t.blk.loanOwner n.val = snd.agent.val + 1 ∧
      (∀ k, k < 64 → t.blk.bt (if k < 32 then R.LOAN_HELD_LO else R.LOAN_HELD_HI) (k % 32) =
        (k == n.val || s.blk.bt (if k < 32 then R.LOAN_HELD_LO else R.LOAN_HELD_HI) (k % 32)))) ∧
  (∀ (s : State) (n : Fin 64) (snd : Sender), s.takesRead snd (R.LOAN n.val) → s.blk.loanOwner n.val ≠ 0 →
    exec (.loanAcquire n snd []) s = .next { s with blk := { s.blk with answer :=
      ⟨if s.blk.loanOwner n.val = snd.agent.val + 1 then 0 else s.blk.loanOwner n.val, false, false, 0⟩ } }) ∧
  (∀ (s : State) (n : Fin 64) (snd snd' : Sender), s.takesRead snd (R.LOAN n.val) → s.takesRead snd' (R.LOAN n.val) →
    s.blk.loanOwner n.val = 0 → grantRank snd'.agent.val < grantRank snd.agent.val →
    ∃ t, exec (.loanAcquire n snd [snd']) s = .next t ∧ t.blk.loanOwner n.val = snd'.agent.val + 1 ∧
      t.blk.answer.data = snd'.agent.val + 1) ∧
  (∀ (s : State) (n : Fin 64) (snd : Sender), s.takesWrite snd (R.LOAN n.val) →
    s.blk.loanOwner n.val = snd.agent.val + 1 →
    ∃ t, exec (.loanRelease n snd 0#32) s = .next t ∧
      s.onlyRegs t [R.LOAN_PEEK n.val, R.LOAN_HELD_LO, R.LOAN_HELD_HI] ∧ t.blk.loanOwner n.val = 0 ∧
      (∀ k, k < 64 → t.blk.bt (if k < 32 then R.LOAN_HELD_LO else R.LOAN_HELD_HI) (k % 32) =
        (k != n.val && s.blk.bt (if k < 32 then R.LOAN_HELD_LO else R.LOAN_HELD_HI) (k % 32)))) ∧
  (∀ (s : State) (n : Fin 64) (snd : Sender) (v : Word), s.takesWrite snd (R.LOAN n.val) →
    (v ≠ 0#32 → ∃ t, exec (.loanRelease n snd v) s = .next t ∧ s.refused t (R.LOAN n.val) .range []) ∧
    (s.blk.loanOwner n.val ≠ snd.agent.val + 1 → ∃ t, exec (.loanRelease n snd 0#32) s = .next t ∧
      s.refused t (R.LOAN n.val) .state [R.LOAN_ERR] ∧ t.blk.bt R.LOAN_ERR 1 = true)) ∧
  (∀ (s : State) (snd : Sender) (v : Word), s.takesWrite snd R.LOAN_FORCE_HI →
    ∃ t, exec (.loanForce snd v) s = .next t ∧
      s.onlyRegs t (R.LOAN_HELD_LO :: R.LOAN_HELD_HI :: R.LOAN_ERR :: (List.range 64).map R.LOAN_PEEK) ∧
      (∀ n, n < 64 →
        let sel := if n < 32 then (s.blk.stagedLo R.LOAN_FORCE_LO).getLsbD n else v.getLsbD (n - 32)
        (sel = true → t.blk.loanOwner n = 0) ∧
        (sel = true → s.blk.loanOwner n ≠ 0 → t.blk.bt R.LOAN_ERR 0 = true ∧
          t.blk.bt (if n < 32 then R.LOAN_HELD_LO else R.LOAN_HELD_HI) (n % 32) = false) ∧
        (sel = false → t.blk.rd (R.LOAN_PEEK n) = s.blk.rd (R.LOAN_PEEK n) ∧
          t.blk.bt (if n < 32 then R.LOAN_HELD_LO else R.LOAN_HELD_HI) (n % 32) =
            s.blk.bt (if n < 32 then R.LOAN_HELD_LO else R.LOAN_HELD_HI) (n % 32))))

/-- Requests to the power ladder (R477, R478): STATE above 4 is refused with reason RANGE; where a condition of R477 holds
the request is refused with reason STATE and PWR_REFUSE records which, bit by bit; else it is pending. At its entry a pending
request is abandoned where an interrupt of a released core of a named wing stands, and else puts the named domains, and no
other, into the state.
The end of an exit (R475, R476, R481): the domain is in Run and the RTC has counted the time asleep; after Pause, and a
wing after Shelved, everything else is kept; a wing lost in Stored or Archived returns to its reset values and its released
cores start at PWR_RESUME; after Archived the domain's memories are zeroed; DEV after Shelved or deeper restarts Deck Time
within the error of R481 (a free value, log 2) with CYCLE_RUN 0, DT_STATE FREE and the Synzon state OFF. A wing waits for
DEV, and a domain that is on no exit stays. The event of a doorbell that waited for the exit is pending at its end (R130). -/
def Obligations.PowerRequests : Prop :=
  (∀ (s : State) (snd : Sender) (v : Word), s.takesWrite snd R.PWR_REQ → 4 < fld v 0 3 →
    ∃ t, exec (.powerStateRequest snd v) s = .next t ∧ s.refused t R.PWR_REQ .range []) ∧
  (∀ (s : State) (snd : Sender) (v : Word), s.takesWrite snd R.PWR_REQ → fld v 0 3 ≤ 4 →
    s.blk.pwrRefuse (fld v 0 3) (fld v 4 5) ≠ 0 →
    ∃ t, exec (.powerStateRequest snd v) s = .next t ∧ s.refused t R.PWR_REQ .state [R.PWR_REFUSE, R.PWR_ERR] ∧
      t.blk.rdN R.PWR_REFUSE = s.blk.pwrRefuse (fld v 0 3) (fld v 4 5) ∧ t.blk.bt R.PWR_ERR 0 = true) ∧
  (∀ (s : State) (snd : Sender) (v : Word), s.takesWrite snd R.PWR_REQ → fld v 0 3 ≤ 4 →
    s.blk.pwrRefuse (fld v 0 3) (fld v 4 5) = 0 →
    ∃ t, exec (.powerStateRequest snd v) s = .next t ∧ s.sameRest t ∧ s.blk.keeps t.blk [R.PWR_REQ, R.PWR_STAT] ∧
      s.blk.sameHidden { t.blk with pw := s.blk.pw } ∧
      t.blk.pw = { s.blk.pw with reqState := fld v 0 3, reqMask := fld v 4 5 } ∧
      t.blk.rdN R.PWR_REQ = fld v 0 3 + fld v 4 5 * 16 ∧
      (∀ j, j < 32 → t.blk.bt R.PWR_STAT j = (j == 15 || s.blk.bt R.PWR_STAT j))) ∧
  (∀ (b : Block) (st mask : Nat),
    (nbit (b.pwrRefuse st mask) 0 = true ↔ ∃ d, d < 5 ∧ nbit mask d = true ∧ b.domState d ≠ 0) ∧
    (nbit (b.pwrRefuse st mask) 1 = true ↔ st = 0) ∧
    (nbit (b.pwrRefuse st mask) 2 = true ↔ ∃ w, w < 4 ∧ nbit mask w = true ∧ ∃ c ∈ b.enCars, c / 48 = w) ∧
    (nbit (b.pwrRefuse st mask) 3 = true ↔ ∃ w, w < 4 ∧ nbit mask w = true ∧
      ∃ x ∈ b.cfg.safe.axes, x.2.carrel / 48 = w ∧ nbit b.safeOut x.2.group = true) ∧
    (nbit (b.pwrRefuse st mask) 4 = true ↔ nbit mask 4 = true ∧ b.safeOut % 2 ^ 12 ≠ 0) ∧
    (nbit (b.pwrRefuse st mask) 5 = true ↔ ∃ w, w < 4 ∧ nbit mask w = true ∧ b.rdN (R.DSP_STAT w) % 2 ^ 8 ≠ 0) ∧
    (nbit (b.pwrRefuse st mask) 6 = true ↔ nbit mask 4 = true ∧ (b.fl R.SZN_STAT 0 3 ≠ 0 ∨ b.fl R.SOLV_STAT 0 4 ≠ 0)) ∧
    (nbit (b.pwrRefuse st mask) 7 = true ↔ nbit mask 4 = true ∧
      ∃ w, w < 4 ∧ (if nbit mask w = true then st else b.domState w) < st)) ∧
  (∀ (s : State), s.blk.bt R.PWR_STAT 15 = false → exec .powerStateEntry s = .next s) ∧
  (∀ (s : State) (w : Nat), s.blk.bt R.PWR_STAT 15 = true → w < 4 → nbit s.blk.pw.reqMask w = true →
    s.blk.wingIrq w = true →
    ∃ t, exec .powerStateEntry s = .next t ∧ s.sameRest t ∧
      s.blk.keeps t.blk [R.PWR_STAT, R.PWR_ERR, R.IRQ_RAW pwrPage] ∧ s.blk.sameHidden { t.blk with pw := s.blk.pw } ∧
      t.blk.pw = { s.blk.pw with reqState := 0, reqMask := 0 } ∧ t.blk.bt R.PWR_ERR 1 = true ∧
      (∀ j, j < 32 → t.blk.bt R.PWR_STAT j = (j != 15 && s.blk.bt R.PWR_STAT j))) ∧
  (∀ (s : State), s.blk.bt R.PWR_STAT 15 = true →
    (∀ w, w < 4 → nbit s.blk.pw.reqMask w = true → s.blk.wingIrq w = false) →
    ∃ t, exec .powerStateEntry s = .next t ∧ s.sameRest t ∧ s.blk.keeps t.blk [R.PWR_STAT, R.IRQ_RAW pwrPage] ∧
      s.blk.sameHidden { t.blk with pw := s.blk.pw } ∧ t.blk.pw = { s.blk.pw with reqState := 0, reqMask := 0 } ∧
      t.blk.bt R.PWR_STAT 15 = false ∧ t.blk.bt (R.IRQ_RAW pwrPage) 0 = true ∧
      (∀ d, d < 5 → t.blk.domState d = if nbit s.blk.pw.reqMask d = true then s.blk.pw.reqState % 8 else s.blk.domState d)) ∧
  (∀ (s : State) (d : Fin 5) (z : Nat), s.blk.held = false →
    sget (fun _ => 0) s.blk.pw.exiting d.val = 0 ∨ (d.val ≠ 4 ∧ s.blk.domState 4 ≠ 0) →
    exec (.powerStateExitDone d z) s = .next s) ∧
  (∀ (s : State) (d : Fin 5) (z : Nat), s.blk.held = false →
    (sget (fun _ => 0) s.blk.pw.exiting d.val = 1 ∨ (sget (fun _ => 0) s.blk.pw.exiting d.val = 2 ∧ d.val ≠ 4)) →
    d.val = 4 ∨ s.blk.domState 4 = 0 →
    ∃ t, exec (.powerStateExitDone d z) s = .next t ∧ s.sameRest t ∧
      s.blk.keeps t.blk ([R.PWR_STAT, R.PWR_RTC_LO, R.PWR_RTC_HI, R.IRQ_RAW pwrPage] ++ s.blk.bellRegs d.val) ∧
      s.blk.sameHidden { t.blk with pw := s.blk.pw } ∧
      t.blk.pw = { s.blk.pw with
        exiting := serase d.val s.blk.pw.exiting, bells := s.blk.pw.bells.filter (fun e => e.1 != d.val) } ∧
      (∀ m, m < 32 → (d.val, m) ∈ s.blk.pw.bells → t.blk.evPending (0x100 + m)) ∧
      (∀ k, k < 5 → t.blk.domState k = if k = d.val then 0 else s.blk.domState k) ∧
      t.blk.bt R.PWR_STAT 16 = !(serase d.val s.blk.pw.exiting).isEmpty ∧
      t.blk.rd64 R.PWR_RTC_LO = (s.blk.rd64 R.PWR_RTC_LO + z) % 2 ^ 48) ∧
  (∀ (s : State) (d : Fin 5) (z : Nat), s.blk.held = false → 3 ≤ sget (fun _ => 0) s.blk.pw.exiting d.val →
    d.val ≠ 4 → s.blk.domState 4 = 0 →
    ∃ t, exec (.powerStateExitDone d z) s = .next t ∧ t.isl = s.isl ∧ t.nv = s.nv ∧ t.pending = s.pending ∧
      t.blk.domState d.val = 0 ∧ t.blk.tb = s.blk.tb ∧ t.blk.cfg = s.blk.cfg ∧
      (∀ a, pageDom (pageBase a) = some d.val → a ∉ s.blk.bellRegs d.val → (∀ e ∈ s.blk.rstv, e.1 ≠ a) →
        t.blk.rd a = regDefault a) ∧
      (∀ a, pageDom (pageBase a) ≠ some d.val →
        a ∉ [R.PWR_STAT, R.PWR_RTC_LO, R.PWR_RTC_HI, R.IRQ_RAW pwrPage] ++ s.blk.bellRegs d.val → notPend a →
        t.blk.rd a = s.blk.rd a) ∧
      (∀ m, m < 32 → (d.val, m) ∈ s.blk.pw.bells → t.blk.evPending (0x100 + m)) ∧
      (∀ c, c ∈ t.blk.enCars ↔ c ∈ s.blk.enCars ∧ c / 48 ≠ d.val) ∧
      (∀ h, h / 2 = d.val → s.blk.bt R.DISP_CORE_REL h = true →
        sget (fun _ => 0) t.blk.disp.corePc h = s.blk.rd64 R.PWR_RESUME_LO) ∧
      (sget (fun _ => 0) s.blk.pw.exiting d.val ≠ 4 → t.mem = s.mem) ∧
      (sget (fun _ => 0) s.blk.pw.exiting d.val = 4 → ∀ x, mrd t.mem x =
        if 0x18000000 + d.val * 0x200000 ≤ x ∧ x < 0x18200000 + d.val * 0x200000 then 0#8 else mrd s.mem x)) ∧
  (∀ (s : State) (z : Nat), s.blk.held = false → 2 ≤ sget (fun _ => 0) s.blk.pw.exiting 4 →
    ∃ t, exec (.powerStateExitDone 4 z) s = .next t ∧ t.isl = s.isl ∧ t.nv = s.nv ∧ t.pending = s.pending ∧
      t.blk.domState 4 = 0 ∧ t.blk.cfg = s.blk.cfg ∧ t.blk.enCars = s.blk.enCars ∧
      t.blk.bt R.TB_STAT 1 = false ∧ t.blk.fl R.TB_STAT 2 2 = 0 ∧ t.blk.fl R.SZN_STAT 0 3 = 0 ∧
      (s.blk.tb.dt + z * 1000000000 / 32768 ≤ t.blk.tb.dt + 31004 ∧
        t.blk.tb.dt ≤ s.blk.tb.dt + z * 1000000000 / 32768 + 31000 ∧ t.blk.tb.dt % 5 = 0) ∧
      (∀ w a, w < 4 → pageDom (pageBase a) = some w → t.blk.rd a = s.blk.rd a) ∧
      (sget (fun _ => 0) s.blk.pw.exiting 4 ≠ 4 → t.mem = s.mem) ∧
      (sget (fun _ => 0) s.blk.pw.exiting 4 = 4 → ∀ x, mrd t.mem x =
        if (0x10000000 ≤ x ∧ x < 0x10800000) ∨ (0x20000000 ≤ x ∧ x < 0x20100000) then 0#8 else mrd s.mem x))

/-- Wakes (R479): an edge of the selected polarity on an enabled line, the RTC compare and the WAKE of port 0, each where
PWR_WAKE_EN enables it, set their bit of PWR_WAKE_SRC and start the exit of every domain of PWR_WAKE_TGT that is not in Run,
and of DEV with it; a pending request that names one of them is abandoned. Where not enabled they wake nothing. -/
def Obligations.Wakes : Prop :=
  (∀ (s : State) (l : Fin 8) (f : Bool), s.blk.bt R.PWR_WAKE_EN l.val = true → s.blk.bt R.PWR_WAKE_POL l.val = f →
    ∃ t, exec (.gpioWake l f) s = .next t ∧ s.woken t (s.blk.fl R.PWR_WAKE_TGT 0 5) l.val []) ∧
  (∀ (s : State) (l : Fin 8) (f : Bool), s.blk.bt R.PWR_WAKE_EN l.val = false ∨ s.blk.bt R.PWR_WAKE_POL l.val ≠ f →
    exec (.gpioWake l f) s = .next s) ∧
  (∀ (s : State), s.blk.bt R.PWR_WAKE_EN 8 = true →
    ∃ t, exec .rtcWake s = .next t ∧ s.woken t (s.blk.fl R.PWR_WAKE_TGT 0 5) 8 [R.PWR_RTC_LO, R.PWR_RTC_HI] ∧
      t.blk.rd64 R.PWR_RTC_LO = s.blk.rd64 R.PWR_RTC_CMP_LO) ∧
  (∀ (s : State), s.blk.bt R.PWR_WAKE_EN 8 = false →
    ∃ t, exec .rtcWake s = .next t ∧ s.onlyRegs t [R.PWR_RTC_LO, R.PWR_RTC_HI] ∧
      t.blk.rd64 R.PWR_RTC_LO = s.blk.rd64 R.PWR_RTC_CMP_LO) ∧
  (∀ (s : State), s.blk.bt R.PWR_WAKE_EN 9 = true → s.blk.domState 4 < 3 ∨ s.blk.bt R.PWR_WAKE_EN 10 = true →
    ∃ t, exec .wakeReceived s = .next t ∧ s.woken t (s.blk.fl R.PWR_WAKE_TGT 0 5) 9 []) ∧
  (∀ (s : State), s.blk.bt R.PWR_WAKE_EN 9 = false ∨ (3 ≤ s.blk.domState 4 ∧ s.blk.bt R.PWR_WAKE_EN 10 = false) →
    exec .wakeReceived s = .next s)

/-- Carrel and profile commands (R163, R166, R168, R177 to R180, R229): EN is written with FOLIO_VALID and asks for its
cycle boundary, without it refused with reason STATE; GO and HOME of an enabled carrel act at the next profile tick, of a
disabled or stopping one they are refused with reason STATE, with parameters that R168 or R179 excludes with reason RANGE;
a GO while the carrel moves changes nothing (R177), one where a stop of the Safety Island or a fault holds a carrel in
IDLE, or that needs HOMED, is refused with reason STATE;
STOP acts at the next tick; a homing that times out fails with HOME_FAIL, HOMED 0 and the carrel's event. -/
def Obligations.CarrelCommands : Prop :=
  (∀ (s : State) (c : Carrel) (snd : Sender), s.takesWrite snd (R.CAR_CTRL c.val) →
    (s.blk.bt (R.LE_STAT c.val) 8 = true → ∃ t, exec (.carrelEnable c snd) s = .next t ∧ s.sameRest t ∧
      s.blk.keeps t.blk (R.CAR_CTRL c.val :: directOf (R.CAR_CTRL c.val)) ∧
      s.blk.sameHidden { t.blk with carReq := s.blk.carReq } ∧ t.blk.bt (R.CAR_CTRL c.val) 0 = true ∧
      t.blk.carReq = s.blk.carReq.filter (· != c.val) ++ [c.val]) ∧
    (s.blk.bt (R.LE_STAT c.val) 8 = false → ∃ t, exec (.carrelEnable c snd) s = .next t ∧
      s.refused t (R.CAR_CTRL c.val) .state (directOf (R.CAR_CTRL c.val)))) ∧
  (∀ (s : State) (c : Carrel) (snd : Sender), s.takesWrite snd (R.CAR_CTRL c.val) →
    ∃ t, exec (.carrelDisable c snd) s = .next t ∧ s.sameRest t ∧
      s.blk.keeps t.blk (R.CAR_CTRL c.val :: directOf (R.CAR_CTRL c.val)) ∧
      s.blk.sameHidden { t.blk with carReq := s.blk.carReq } ∧ t.blk.bt (R.CAR_CTRL c.val) 0 = false ∧
      t.blk.carReq = s.blk.carReq.filter (· != c.val) ++ [c.val]) ∧
  (∀ (s : State) (c : Carrel) (snd : Sender), s.takesWrite snd (R.PS_CMD c.val) → s.blk.carEn c.val = true →
    s.blk.psSt c.val ≠ 5 →
    let halted := s.blk.psSt c.val = 0 ∧
      ((s.blk.prf c.val).safe = true ∨ (s.blk.prf c.val).off = true ∨ s.blk.faultNow c.val = true)
    let unhomed := s.blk.psMode c.val = 1 ∧ s.blk.bt (R.PS_CFG c.val) 6 = true ∧ s.blk.bt (R.PS_STAT c.val) 5 = false
    (s.blk.moving c.val = true → ∃ t, exec (.profileGo c snd) s = .next t ∧ s.onlyRegs t (directOf (R.PS_CMD c.val))) ∧
    (s.blk.moving c.val = false → ¬ halted → s.blk.badMoveOf c.val = false → ¬ unhomed →
      ∃ t, exec (.profileGo c snd) s = .next t ∧
        s.onlyProf t c.val { s.blk.prf c.val with go := true } (directOf (R.PS_CMD c.val))) ∧
    (s.blk.moving c.val = false → ¬ halted → s.blk.badMoveOf c.val = true → ∃ t, exec (.profileGo c snd) s = .next t ∧
      s.refused t (R.PS_CMD c.val) .range (directOf (R.PS_CMD c.val))) ∧
    (s.blk.moving c.val = false → halted ∨ (s.blk.badMoveOf c.val = false ∧ unhomed) →
      ∃ t, exec (.profileGo c snd) s = .next t ∧ s.refused t (R.PS_CMD c.val) .state (directOf (R.PS_CMD c.val)))) ∧
  (∀ (s : State) (c : Carrel) (snd : Sender), s.takesWrite snd (R.PS_CMD c.val) →
    (s.blk.carEn c.val = false ∨ s.blk.psSt c.val = 5 →
      ∃ t, exec (.profileGo c snd) s = .next t ∧ s.refused t (R.PS_CMD c.val) .state (directOf (R.PS_CMD c.val)))) ∧
  (∀ (s : State) (c : Carrel) (snd : Sender), s.takesWrite snd (R.PS_CMD c.val) →
    (s.blk.carEn c.val = true → ∃ t, exec (.profileStop c snd) s = .next t ∧
      s.onlyProf t c.val { s.blk.prf c.val with stop := true } (directOf (R.PS_CMD c.val))) ∧
    (s.blk.carEn c.val = false → ∃ t, exec (.profileStop c snd) s = .next t ∧ s.onlyRegs t (directOf (R.PS_CMD c.val)))) ∧
  (∀ (s : State) (c : Carrel) (snd : Sender), s.takesWrite snd (R.PS_CMD c.val) →
    (s.blk.carEn c.val = true → s.blk.psSt c.val ≠ 5 → s.blk.methodOk c.val (s.blk.fl (R.PS_HOME_CFG c.val) 0 4) = true →
      ∃ t, exec (.profileHome c snd) s = .next t ∧
        s.onlyProf t c.val { s.blk.prf c.val with home := true } (directOf (R.PS_CMD c.val))) ∧
    (s.blk.carEn c.val = true → s.blk.psSt c.val ≠ 5 → s.blk.methodOk c.val (s.blk.fl (R.PS_HOME_CFG c.val) 0 4) = false →
      ∃ t, exec (.profileHome c snd) s = .next t ∧ s.refused t (R.PS_CMD c.val) .range (directOf (R.PS_CMD c.val))) ∧
    (s.blk.carEn c.val = false ∨ s.blk.psSt c.val = 5 →
      ∃ t, exec (.profileHome c snd) s = .next t ∧ s.refused t (R.PS_CMD c.val) .state (directOf (R.PS_CMD c.val)))) ∧
  (∀ (s : State) (c : Carrel), s.blk.off = false →
    (s.blk.psSt c.val = 7 → ∃ t, exec (.homingTimeout c) s = .next t ∧
      s.onlyProf t c.val { s.blk.prf c.val with method := 0, ref := false, rested := true }
        (R.PS_STAT c.val :: R.PS_ERR c.val :: R.IRQ_RAW (R.carPage c.val) :: eventRegs c.val) ∧
      t.blk.bt (R.PS_STAT c.val) 5 = false ∧ t.blk.bt (R.PS_ERR c.val) 5 = true ∧
      t.blk.psSt c.val = (if (s.blk.prf c.val).v = 0 then 0 else 5) ∧ t.blk.evPending c.val) ∧
    (s.blk.psSt c.val ≠ 7 → exec (.homingTimeout c) s = .next s))

/-- Path channels (R175, R192): GO and STOP act at the next profile tick, GO with parameters that R168 excludes is refused
with reason RANGE; FLUSH at rest empties the queue, else is refused with reason STATE; a segment joins a queue of fewer than
sixteen, a seventeenth is refused with reason STATE and one shorter than one unit with reason RANGE. The length
is at least the distance of the positions, within one in its last place, and just that between equal orientations; the
rotation between unequal ones is a free value (log 12). -/
def Obligations.PathCommands : Prop :=
  (∀ (s : State) (m : PathIx) (snd : Sender), s.takesWrite snd (R.PATH_CMD (m.val / 4) (m.val % 4)) →
    (s.blk.badPath m.val = false → ∃ t, exec (.pathGo m snd) s = .next t ∧
      s.onlyPath t m.val { s.blk.pth m.val with go := true } (directOf (psPage (m.val / 4)))) ∧
    (s.blk.badPath m.val = true → ∃ t, exec (.pathGo m snd) s = .next t ∧
      s.refused t (R.PATH_CMD (m.val / 4) (m.val % 4)) .range (directOf (psPage (m.val / 4))))) ∧
  (∀ (s : State) (m : PathIx) (snd : Sender), s.takesWrite snd (R.PATH_CMD (m.val / 4) (m.val % 4)) →
    ∃ t, exec (.pathStop m snd) s = .next t ∧
      s.onlyPath t m.val { s.blk.pth m.val with stop := true } (directOf (psPage (m.val / 4)))) ∧
  (∀ (s : State) (m : PathIx) (snd : Sender), s.takesWrite snd (R.PATH_CMD (m.val / 4) (m.val % 4)) →
    (s.blk.pathSt m.val = 0 ∨ s.blk.pathSt m.val = 3 → ∃ t, exec (.pathFlush m snd) s = .next t ∧
      s.onlyPath t m.val { s.blk.pth m.val with pend := (s.blk.pth m.val).pend ++ [none] }
        (R.PATH_STAT (m.val / 4) (m.val % 4) :: directOf (psPage (m.val / 4))) ∧
      t.blk.fl (R.PATH_STAT (m.val / 4) (m.val % 4)) 0 5 = 0 ∧ t.blk.pathSt m.val = s.blk.pathSt m.val) ∧
    (s.blk.pathSt m.val ≠ 0 → s.blk.pathSt m.val ≠ 3 → ∃ t, exec (.pathFlush m snd) s = .next t ∧
      s.refused t (R.PATH_CMD (m.val / 4) (m.val % 4)) .state (directOf (psPage (m.val / 4))))) ∧
  (∀ (s : State) (m : PathIx) (snd : Sender), s.takesWrite snd (R.PATH_SEG_PUSH (m.val / 4) (m.val % 4)) →
    let w := m.val / 4
    let j := m.val % 4
    let x := s.blk.pth m.val
    let pos := [s.blk.rdI (R.PATH_SEG_X w j), s.blk.rdI (R.PATH_SEG_Y w j), s.blk.rdI (R.PATH_SEG_Z w j)]
    let quat := posQuat [s.blk.rdI (R.PATH_SEG_QW w j), s.blk.rdI (R.PATH_SEG_QX w j), s.blk.rdI (R.PATH_SEG_QY w j),
      s.blk.rdI (R.PATH_SEG_QZ w j)]
    let queued := x.acted.segs
    let len := match queued.getLast? with
      | some g => segLen g.pos g.quat pos quat (s.blk.rotR m.val)
      | none => segLenFrom x.acted.start ⟨pos, quat, 0⟩ (s.blk.rotR m.val)
    (queued.length < 16 → 4294967296 ≤ len → ∃ t, exec (.pathSegmentPush m snd) s = .next t ∧
      s.onlyPath t m.val { x with pend := x.pend ++ [some ⟨pos, quat, len⟩] } (R.PATH_STAT w j :: directOf (psPage w)) ∧
      t.blk.fl (R.PATH_STAT w j) 0 5 = queued.length + 1) ∧
    (16 ≤ queued.length → ∃ t, exec (.pathSegmentPush m snd) s = .next t ∧
      s.refused t (R.PATH_SEG_PUSH w j) .state (R.PATH_ERR w j :: directOf (psPage w)) ∧ t.blk.bt (R.PATH_ERR w j) 0 = true) ∧
    (queued.length < 16 → len < 4294967296 → ∃ t, exec (.pathSegmentPush m snd) s = .next t ∧
      s.refused t (R.PATH_SEG_PUSH w j) .range (R.PATH_ERR w j :: directOf (psPage w)) ∧ t.blk.bt (R.PATH_ERR w j) 2 = true)) ∧
  (∀ (a b q r : List Int) (rot : Nat), a.length = 3 → b.length = 3 →
    (∀ x ∈ a ++ b, -2 ^ 31 ≤ x ∧ x < 2 ^ 31) →
    let d := ((b.getD 0 0 - a.getD 0 0) ^ 2 + (b.getD 1 0 - a.getD 1 0) ^ 2 + (b.getD 2 0 - a.getD 2 0) ^ 2).toNat * 2 ^ 64
    let n := posDist a b
    d < (n + 1) ^ 2 ∧ (n = 0 ∨ (n - 1) ^ 2 < d) ∧ n ≤ segLen a q b r rot ∧ segLen a q b q rot = n)

/-- The stop ramp (R165): the braking distance D follows the sequence of the ramp's steps, one profile tick each, so that
it is 3125 times the visible speed of the next step and the distance from there; a step never speeds up and rests at 0.
The rate multiplier (R162, R168, R182): a tick adds the visible velocity to P of every carrel on its way, in the 64 bits of P; TARGET_REACHED
moves time to the tick at which P would reach the target T that the last profile tick read (R177) and leaves P at T with V 0, AT_TARGET, REST and the carrel's event;
STEP_PULSE moves time to the tick at which the integer part of P changes and adds the pulse. Beyond the cycle or with no
such tick they do nothing. -/
def Obligations.RateMultiplier : Prop :=
  (∀ (r : Ramp) (v : Nat), r.a1 ≠ 0 → r.a2 ≠ 0 →
    dist r v = (if stopstep r v = 0 then 0 else 3125 * (stopstep r v >>> 16) + dist r (stopstep r v)) ∧
    (0 < v → stopstep r v < v) ∧ stopstep r 0 = 0 ∧ (v ≤ r.vstop → stopstep r v = 0) ∧
    (r.vstop < v → r.vstop ≤ stopstep r v) ∧ (∀ w, w ≤ v → stopstep r w ≤ v)) ∧
  (∀ (s : State) (c : Nat), s.pending = [] → s.blk.off = false → c < 192 → s.blk.enCars.count c = 1 →
    s.blk.mayArrive c = false →
    ∃ t, step s = .next t ∧ (t.blk.prf c).p = (if shr (s.blk.prf c).v 16 = 0 then (s.blk.prf c).p
        else wrapP ((s.blk.prf c).p + shr (s.blk.prf c).v 16)) ∧
      (t.blk.prf c).v = (s.blk.prf c).v ∧ t.blk.tb.dt = s.deckAfter 1) ∧
  (∀ (s : State) (c : Carrel) (n : Nat), s.blk.off = false → c.val ∈ s.blk.enCars →
    s.blk.ticksToTarget c.val = some n → s.blk.tick + n < 3125 →
    ∃ t, exec (.targetReached c) s = .next t ∧ t.blk.tb.dt = s.deckAfter n ∧
      (t.blk.prf c.val).p = (s.blk.prf c.val).tgt * 2 ^ 32 ∧ (t.blk.prf c.val).v = 0 ∧
      t.blk.psSt c.val = 0 ∧ t.blk.bt (R.PS_STAT c.val) 4 = true ∧ t.blk.evPending c.val) ∧
  (∀ (s : State) (c : Carrel), s.blk.off = false →
    (∀ n, s.blk.ticksToTarget c.val = some n → 3125 ≤ s.blk.tick + n) → exec (.targetReached c) s = .next s) ∧
  (∀ (s : State) (c : Carrel) (n : Nat), s.blk.off = false → c.val ∈ s.blk.enCars → s.blk.mayArrive c.val = false →
    s.blk.ticksToPulse c.val = some n → s.blk.tick + n < 3125 →
    ∃ t, exec (.stepPulse c) s = .next t ∧ t.blk.tb.dt = s.deckAfter n ∧
      (sget (fun _ => {}) s.blk.stepOut (s.blk.actF (R.PS_STEP_CFG c.val) 0 4)).pulses <
        (sget (fun _ => {}) t.blk.stepOut (s.blk.actF (R.PS_STEP_CFG c.val) 0 4)).pulses) ∧
  (∀ (s : State) (c : Carrel), s.blk.off = false →
    (∀ n, s.blk.ticksToPulse c.val = some n → 3125 ≤ s.blk.tick + n) → exec (.stepPulse c) s = .next s)

/-- The phase step of Deck Time (R38): the write of TB_STEP_HI commits the pair as a signed step; at the boundary, with no
carrel enabled, Deck Time moves by the step rounded down to whole ticks, a part-cycle where that is no multiple of a cycle;
with a carrel enabled the step is refused with STEP_REFUSED and Deck Time stays.
The Service Tick (R54, R116): while it runs, with SVC_EN the count rises by one and event 0x150 is posted, and every wait
in service ticks loses one and expires at its last; other waits stay. Before the boot starts it, nothing happens. -/
def Obligations.DeckTimeSteps : Prop :=
  (∀ (s : State) (snd : Sender) (v : Word), s.takesWrite snd R.TB_STEP_HI →
    ∃ t, exec (.deckTimeStepCommit snd v) s = .next t ∧ s.sameRest t ∧ s.blk.keeps t.blk [R.TB_STEP_LO, R.TB_STEP_HI] ∧
      s.blk.sameHidden { t.blk with tb := s.blk.tb } ∧ t.blk.tb = { s.blk.tb with
        stepPend := some (sx 64 ((s.blk.stagedLo R.TB_STEP_LO).toNat + 2 ^ 32 * v.toNat)) }) ∧
  (∀ (s : State), s.blk.off = false → s.blk.tb.stepPend = none → exec .deckTimeStep s = .next s) ∧
  (∀ (s : State) (d : Int), s.blk.off = false → s.blk.tb.stepPend = some d → s.blk.tb.dt % 15625 = 0 →
    s.blk.tb.cycDone ≤ s.blk.tb.dt / 15625 → s.blk.enCars = [] →
    ∃ t, exec .deckTimeStep s = .next t ∧ t.blk.tb.dt = lowBits 64 (s.blk.tb.dt + 5 * (d / 5)) ∧
      t.blk.tb.stepPend = none ∧ t.blk.tb.part = decide (5 * (d / 5) % 15625 ≠ 0)) ∧
  (∀ (s : State) (d : Int), s.blk.off = false → s.blk.tb.stepPend = some d → s.blk.tb.dt % 15625 = 0 →
    s.blk.tb.cycDone ≤ s.blk.tb.dt / 15625 → s.blk.enCars ≠ [] →
    ∃ t, exec .deckTimeStep s = .next t ∧ s.sameRest t ∧ s.blk.keeps t.blk [R.TB_ERR, R.IRQ_RAW 0x40300000] ∧
      s.blk.sameHidden { t.blk with tb := s.blk.tb } ∧
      t.blk.tb = { s.blk.tb with stepPend := none, part := false } ∧ t.blk.bt R.TB_ERR 3 = true) ∧
  (∀ (s : State), s.blk.held = true ∨ s.blk.tb.svcRun = false → exec .serviceTick s = .next s) ∧
  (∀ (s : State), s.blk.off = false → s.blk.tb.svcRun = true →
    ∃ t, exec .serviceTick s = .next t ∧ t.isl = s.isl ∧ t.nv = s.nv ∧ t.mem = s.mem ∧ t.pending = s.pending ∧
      (s.blk.bt R.TB_CTRL 3 = true →
        t.blk.rd R.TB_SVC_CNT = s.blk.rd R.TB_SVC_CNT + 1#32 ∧ t.blk.evPending 0x150) ∧
      (s.blk.bt R.TB_CTRL 3 = false → t.blk.rd R.TB_SVC_CNT = s.blk.rd R.TB_SVC_CNT) ∧
      (∀ u r, u < 256 → (s.blk.thd u).st = .blocked → (s.blk.thd u).tmo = .svc r → t.blk.thd u =
        if r ≤ 1 then { s.blk.thd u with st := .ready, wake := 2, wakeDc := 0, tmo := .none }
        else { s.blk.thd u with tmo := .svc (r - 1) }) ∧
      (∀ u, (s.blk.thd u).st ≠ .blocked ∨ (∀ r, (s.blk.thd u).tmo ≠ .svc r) → t.blk.thd u = s.blk.thd u))

/-- The deadlines of a cycle (R36, R42, R43): each moves Deck Time on to its own tick, CYCLE_START_TICK to the next boundary
whose tick 0 is to come, and acts only while a cycle exists, outside a part-cycle, in the roles that have it. At tick 0
enables and disables act and event 0x0E0 is posted while CYCLE_RUN is 1; at FBD the collected feedback items are used up
and a REMOTE carrel takes its newest one, one of the frames that missed the last FBD where there is none; what came too
late for this cycle waits for the next (R44); at the profile tick the pushes and flushes of the paths act (R177) and PS_STAT.DIR
tells the sign of V; at APD of a Node the collected commands are used up. What the ECC of the Catalogue finds at tick 0 is
flagged (R382). -/
def Obligations.CycleDeadlines : Prop :=
  (∀ (s : State) (d : Bool) (e : Ecc) (o : Fin 4096), s.blk.off = false → s.blk.tb.stepPend = none →
    ∃ t, exec (.cycleStartTick d e o) s = .next t ∧ t.blk.tb.part = false ∧ t.blk.carReq = [] ∧
      t.blk.tb.dt = (if s.blk.tb.dt % 15625 = 0 ∧ s.blk.tb.cycDone ≤ s.blk.tb.dt / 15625 then s.blk.tb.dt
        else s.deckAfter ((15625 - s.blk.tb.dt % 15625 + 4) / 5)) ∧
      (e = .corr → t.blk.bt R.SZN_ERR 8 = true) ∧ (e = .uncorr → t.blk.bt R.SZN_ERR 9 = true) ∧
      t.blk.tb.cycDone = t.blk.tb.dt / 15625 + 1 ∧ (t.blk.bt R.TB_STAT 1 = true → t.blk.evPending 0x0E0)) ∧
  (∀ (s : State) (d : Bool) (e : Ecc) (o : Fin 4096), s.blk.held = true → exec (.cycleStartTick d e o) s = .next s) ∧
  (∀ (s : State) (spi : List (Nat × List Byte)), s.blk.off = false → s.blk.isCoord = true →
    s.blk.deadline s.blk.fbd = true →
    ∃ t, exec (.feedbackLatch spi) s = .next t ∧ t.blk.tb.dt = s.deckAfter (s.blk.fbd - s.blk.tick) ∧
      t.blk.szn.fbNew = [] ∧ t.blk.szn.fbLate = [] ∧ t.blk.szn.fbNext = s.blk.szn.fbNext ∧
      (∀ c it, c < 192 → c ∈ s.blk.cfg.cars → s.blk.carLocal c = false →
        sget (fun _ => none) s.blk.szn.fbNew c = some it ∨
          (sget (fun _ => none) s.blk.szn.fbNew c = none ∧ sget (fun _ => none) s.blk.szn.fbLate c = some it) →
        (t.blk.lp c).pfb = it.pos * 2 ^ 32 ∧ (t.blk.lp c).vfb = it.vfb ∧ (t.blk.lp c).status = it.status ∧
        (t.blk.lp c).age = it.age) ∧
      (∀ c, c < 192 → s.blk.cfg.cars.count c = 1 → s.blk.carLocal c = false → sget (fun _ => none) s.blk.szn.fbNew c = none →
        sget (fun _ => none) s.blk.szn.fbLate c = none →
        (t.blk.lp c).pfb = (s.blk.lp c).pfb ∧ (t.blk.lp c).age = satAdd (s.blk.lp c).age 1 255 ∧
        t.blk.bt R.TB_ERR 0 = true)) ∧
  (∀ (s : State) (spi : List (Nat × List Byte)), s.blk.held = true ∨ s.blk.isCoord = false ∨
    s.blk.deadline s.blk.fbd = false → exec (.feedbackLatch spi) s = .next s) ∧
  (∀ (s : State), s.blk.off = false → s.blk.isCoord = true → s.blk.deadline (s.blk.fbd + 4) = true →
    ∃ t, exec .profileTick s = .next t ∧ t.blk.tb.dt = s.deckAfter (s.blk.fbd + 4 - s.blk.tick) ∧
      (∀ m, m ∈ s.blk.machines → (t.blk.pth m).pend = []) ∧
      (∀ c, c < 192 → c ∈ s.blk.enCars → t.blk.bt (R.PS_STAT c) 3 = decide ((t.blk.prf c).v < 0))) ∧
  (∀ (s : State), s.blk.held = true ∨ s.blk.isHub = true ∨ s.blk.deadline (s.blk.fbd + 4) = false →
    exec .profileTick s = .next s) ∧
  (∀ (s : State) (f : Fin 16), s.blk.off = false → s.blk.isNode = true → s.blk.deadline s.blk.apd = true →
    ∃ t, exec (.commandLatch f) s = .next t ∧ t.blk.tb.dt = s.deckAfter (s.blk.apd - s.blk.tick) ∧
      t.blk.szn.cmdNew = [] ∧ t.blk.szn.cmdLate = [] ∧ t.blk.szn.cmdNext = s.blk.szn.cmdNext) ∧
  (∀ (s : State) (f : Fin 16), s.blk.held = true ∨ s.blk.isNode = false ∨ s.blk.deadline s.blk.apd = false →
    exec (.commandLatch f) s = .next s)

/-- The loop pass (R42, R222, R224, R228): at FBD + 20 of a Coordinator the loops of every due carrel of an enabled wing run,
each leaving its current reference in LE_OUT within ± LE_ILIM as the last profile tick read it (R177); at FBD + 620 the pass records its length, flags one that
overran, hands the references to the current loops, of a carrel that the pass reached too late the one before, and posts event 0x0C0 + w.
Folio swaps (R232, R233): a request sets SWAP_PEND; the swap exchanges the 65 words of the live and the shadow folio,
counts and clears SWAP_PEND, and changes nothing else; a group request sets SWAP_PEND of every selected carrel of the wing,
and is refused whole with reason STATE where one of them is pending.
Memory errors of the Loop Engine (R238): a corrected one sets ECC_CORR; an uncorrectable one in the shadow folio
abandons a pending swap and clears FOLIO_VALID, with none pending it does nothing; in the live folio or the loop state it
sets ECC_UNCORR, disables the carrel and no other, tells the Safety Island and is offered to the Event Archive. -/
def Obligations.LoopPasses : Prop :=
  (∀ (s : State), s.blk.off = false → s.blk.isCoord = true → s.blk.deadline (s.blk.fbd + 20) = true →
    ∃ t, exec .loopPassStart s = .next t ∧ s.sameRest t ∧
      t.blk.tb.dt = s.deckAfter (s.blk.fbd + 20 - s.blk.tick) ∧
      (∀ c, c < 192 → c ∈ s.blk.enCars → s.blk.outOf c = 0 → s.blk.loopDue c (t.blk.tb.dt / 15625) = true →
        s.blk.pageEn (wingPg (c / 48) + 0x1000) = true → 0 ≤ s.blk.actI (R.LE_ILIM c) →
        t.blk.rdI (R.LE_OUT c) = (t.blk.lp c).iref ∧ -s.blk.actI (R.LE_ILIM c) ≤ t.blk.rdI (R.LE_OUT c) ∧
          t.blk.rdI (R.LE_OUT c) ≤ s.blk.actI (R.LE_ILIM c))) ∧
  (∀ (s : State), s.blk.held = true ∨ s.blk.deadline (s.blk.fbd + 20) = false → exec .loopPassStart s = .next s) ∧
  (∀ (s : State), s.blk.off = false → s.blk.isCoord = true → s.blk.deadline (s.blk.fbd + 620) = true →
    ∃ t, exec .loopPassDone s = .next t ∧ s.sameRest t ∧
      t.blk.tb.dt = s.deckAfter (s.blk.fbd + 620 - s.blk.tick) ∧
      (∀ w, w < 4 → t.blk.rdN (R.LE_PASS_CLK w) = min (s.blk.dia w).clk 2047 ∧ t.blk.evPending (0x0C0 + w) ∧
        (1200 < (s.blk.dia w).clk → t.blk.bt (R.LE_WERR w) 0 = true)) ∧
      (∀ c, c < 192 → c ∈ s.blk.enCars → s.blk.curFed c = true → (t.blk.lp c).late = false ∧
        (t.blk.lp c).qref = if (s.blk.lp c).late = true then (s.blk.lp c).iold else (s.blk.lp c).iref)) ∧
  (∀ (s : State), s.blk.held = true ∨ s.blk.deadline (s.blk.fbd + 620) = false → exec .loopPassDone s = .next s) ∧
  (∀ (s : State) (c : Carrel) (snd : Sender) (v : Word), s.takesWrite snd (R.LE_SWAP c.val) →
    (v.getLsbD 0 = true → ∃ t, exec (.folioSwapRequest c snd v) s = .next t ∧
      s.onlyRegs t (R.LE_STAT c.val :: directOf (R.LE_SWAP c.val)) ∧
      (∀ j, j < 32 → t.blk.bt (R.LE_STAT c.val) j = (j == 7 || s.blk.bt (R.LE_STAT c.val) j))) ∧
    (v.getLsbD 0 = false → ∃ t, exec (.folioSwapRequest c snd v) s = .next t ∧
      s.onlyRegs t (directOf (R.LE_SWAP c.val)))) ∧
  (∀ (s : State) (c : Carrel), s.blk.off = false →
    (s.blk.bt (R.LE_STAT c.val) 7 = true → ∃ t, exec (.folioSwap c) s = .next t ∧
      s.onlyRegs t (R.LE_STAT c.val ::
        ((List.range 65).map (R.LIVE_FOLIO c.val) ++ (List.range 65).map (R.SHADOW_FOLIO c.val))) ∧
      (∀ i, i < 65 → t.blk.rd (R.LIVE_FOLIO c.val i) = s.blk.rd (R.SHADOW_FOLIO c.val i) ∧
        t.blk.rd (R.SHADOW_FOLIO c.val i) = s.blk.rd (R.LIVE_FOLIO c.val i)) ∧
      t.blk.bt (R.LE_STAT c.val) 7 = false ∧
      t.blk.fl (R.LE_STAT c.val) 16 16 = (s.blk.fl (R.LE_STAT c.val) 16 16 + 1) % 65536) ∧
    (s.blk.bt (R.LE_STAT c.val) 7 = false → exec (.folioSwap c) s = .next s)) ∧
  (∀ (s : State) (w : WingIx) (snd : Sender) (v : Word), s.takesWrite snd (R.LE_GSWAP_HI w.val) →
    let sel := fun k => if k < 32 then (s.blk.stagedLo (R.LE_GSWAP_LO w.val)).getLsbD k else v.getLsbD (k - 32)
    ((∃ k, k < 48 ∧ sel k = true ∧ s.blk.bt (R.LE_STAT (48 * w.val + k)) 7 = true) →
      ∃ t, exec (.groupSwapRequest w snd v) s = .next t ∧
        s.refused t (R.LE_GSWAP_HI w.val) .state (directOf (R.LE_GSWAP_HI w.val))) ∧
    ((∀ k, k < 48 → sel k = true → s.blk.bt (R.LE_STAT (48 * w.val + k)) 7 = false) →
      ∃ t, exec (.groupSwapRequest w snd v) s = .next t ∧
        s.onlyRegs t (directOf (R.LE_GSWAP_HI w.val) ++ (List.range 48).map (fun k => R.LE_STAT (48 * w.val + k))) ∧
        (∀ k j, k < 48 → j < 32 → t.blk.bt (R.LE_STAT (48 * w.val + k)) j =
          ((sel k && j == 7) || s.blk.bt (R.LE_STAT (48 * w.val + k)) j)))) ∧
  (∀ (s : State) (c : Carrel) (shadow : Bool), s.blk.off = false →
    ∃ t, exec (.loopEngineEccError c shadow false) s = .next t ∧
      s.onlyRegs t [R.LE_ERR c.val, R.IRQ_RAW (R.carPage c.val)] ∧ t.blk.bt (R.LE_ERR c.val) 2 = true) ∧
  (∀ (s : State) (c : Carrel), s.blk.off = false →
    (s.blk.bt (R.LE_STAT c.val) 7 = true → ∃ t, exec (.loopEngineEccError c true true) s = .next t ∧
      s.onlyRegs t [R.LE_STAT c.val] ∧
      (∀ j, j < 32 → t.blk.bt (R.LE_STAT c.val) j = (j != 7 && j != 8 && s.blk.bt (R.LE_STAT c.val) j))) ∧
    (s.blk.bt (R.LE_STAT c.val) 7 = false → exec (.loopEngineEccError c true true) s = .next s)) ∧
  (∀ (s : State) (c : Carrel), s.blk.off = false →
    ∃ t, exec (.loopEngineEccError c false true) s = .next t ∧ t.nv = s.nv ∧ t.mem = s.mem ∧ t.pending = s.pending ∧
      t.blk.bt (R.LE_ERR c.val) 3 = true ∧ t.blk.bt (R.CAR_CTRL c.val) 0 = false ∧
      (∀ k, k ∈ t.blk.enCars ↔ k ∈ s.blk.enCars ∧ k ≠ c.val) ∧
      s.blk.offers t.blk 0x15 c.val 2 (t.blk.rdN (R.LE_ERR c.val)) 0 0 ∧
      (s.isl.held = true → t.isl = s.isl) ∧
      (s.isl.held = false → ∀ j ∈ s.isl.axIds, (s.isl.axc j).carrel = c.val → (t.isl.ax j).stoNext = true))

/-- Trace, injection and Ledger (R235 to R237, R244): ARM in trace mode starts at Ledger word 0, with more frames after the
trigger than the ring holds refused with reason RANGE; TRIGGER of a running trace fixes the trigger frame; START of an
injection wants inject mode and an enabled carrel, else it is refused with reason STATE; ARM outside trace mode too (log 48); ABORT ends either; a read of
LEDGER_DATA answers the word at LEDGER_ADDR, which rises, and is refused with reason STATE while either runs. What an
unwritten word of a lost Ledger reads as is a free value (log 2). -/
def Obligations.TuningHelp : Prop :=
  (∀ (s : State) (w : WingIx) (snd : Sender), s.takesWrite snd (R.WING_DIAG_CMD w.val) →
    (s.blk.fl (R.WING_DIAG_MODE w.val) 0 2 = 1 →
      s.blk.fl (R.WING_TR_POST w.val) 0 14 ≤ 16384 / (1 + (s.blk.taps w.val).length) - 1 →
      ∃ t, exec (.traceArm w snd) s = .next t ∧
        s.onlyDiag t w.val { s.blk.dia w.val with lastTap := none, post := 0 } [R.LEDGER_WPTR w.val, R.WING_DIAG_STAT w.val] ∧
        t.blk.rdN (R.LEDGER_WPTR w.val) = 0 ∧ t.blk.rdN (R.WING_DIAG_STAT w.val) = 1) ∧
    (s.blk.fl (R.WING_DIAG_MODE w.val) 0 2 = 1 →
      16384 / (1 + (s.blk.taps w.val).length) - 1 < s.blk.fl (R.WING_TR_POST w.val) 0 14 →
      ∃ t, exec (.traceArm w snd) s = .next t ∧ s.refused t (R.WING_DIAG_CMD w.val) .range []) ∧
    (s.blk.fl (R.WING_DIAG_MODE w.val) 0 2 ≠ 1 → ∃ t, exec (.traceArm w snd) s = .next t ∧
      s.refused t (R.WING_DIAG_CMD w.val) .state [])) ∧
  (∀ (s : State) (w : WingIx) (snd : Sender), s.takesWrite snd (R.WING_DIAG_CMD w.val) →
    (s.blk.fl (R.WING_DIAG_MODE w.val) 0 2 = 1 → s.blk.diaSt w.val = 1 →
      ∃ t, exec (.diagTrigger w snd) s = .next t ∧
        s.onlyDiag t w.val { s.blk.dia w.val with post := s.blk.fl (R.WING_TR_POST w.val) 0 14 }
          [R.LEDGER_TRIG_PTR w.val, R.WING_DIAG_STAT w.val, R.IRQ_RAW (wingPg w.val)] ∧
        t.blk.rd (R.LEDGER_TRIG_PTR w.val) = s.blk.rd (R.LEDGER_WPTR w.val) ∧
        t.blk.diaSt w.val = (if s.blk.fl (R.WING_TR_POST w.val) 0 14 = 0 then 3 else 2)) ∧
    (s.blk.fl (R.WING_DIAG_MODE w.val) 0 2 ≠ 1 ∨ s.blk.diaSt w.val ≠ 1 →
      exec (.diagTrigger w snd) s = .next { s with blk := s.blk.fresh })) ∧
  (∀ (s : State) (w : WingIx) (snd : Sender), s.takesWrite snd (R.WING_DIAG_CMD w.val) →
    (s.blk.fl (R.WING_DIAG_MODE w.val) 0 2 = 2 → s.blk.carEn (48 * w.val + s.blk.fl (R.WING_INJ_CFG w.val) 0 6) = true →
      ∃ t, exec (.injectStart w snd) s = .next t ∧
        s.onlyDiag t w.val { s.blk.dia w.val with
            ph := 0, finc := s.blk.rdN (R.WING_INJ_FINC w.val), prbs := s.blk.fl (R.WING_INJ_PRBS w.val) 0 15,
            hold := 0, inj := 0, pairs := 0 } [R.LEDGER_WPTR w.val, R.WING_DIAG_STAT w.val] ∧
        t.blk.rdN (R.LEDGER_WPTR w.val) = 0 ∧ t.blk.rdN (R.WING_DIAG_STAT w.val) = 1) ∧
    (s.blk.fl (R.WING_DIAG_MODE w.val) 0 2 ≠ 2 ∨
        s.blk.carEn (48 * w.val + s.blk.fl (R.WING_INJ_CFG w.val) 0 6) = false →
      ∃ t, exec (.injectStart w snd) s = .next t ∧ s.refused t (R.WING_DIAG_CMD w.val) .state [])) ∧
  (∀ (s : State) (w : WingIx) (snd : Sender), s.takesWrite snd (R.WING_DIAG_CMD w.val) →
    (s.blk.diaSt w.val = 1 ∨ s.blk.diaSt w.val = 2 → ∃ t, exec (.diagAbort w snd) s = .next t ∧
      s.onlyDiag t w.val { s.blk.dia w.val with inj := 0 } [R.WING_DIAG_STAT w.val, R.IRQ_RAW (wingPg w.val)] ∧
      t.blk.diaSt w.val = 3 ∧ t.blk.bt (R.IRQ_RAW (wingPg w.val)) 0 = true) ∧
    (s.blk.diaSt w.val ≠ 1 → s.blk.diaSt w.val ≠ 2 →
      exec (.diagAbort w snd) s = .next { s with blk := s.blk.fresh })) ∧
  (∀ (s : State) (w : WingIx) (snd : Sender), s.takesRead snd (R.LEDGER_DATA w.val) →
    (s.blk.diaSt w.val ≠ 1 → s.blk.diaSt w.val ≠ 2 → ∃ t, exec (.ledgerDataRead w snd) s = .next t ∧ s.sameRest t ∧
      s.blk.keeps t.blk [R.LEDGER_ADDR w.val] ∧ s.blk.sameHidden { t.blk with free := s.blk.free } ∧
      t.blk.fl (R.LEDGER_ADDR w.val) 0 14 = (s.blk.fl (R.LEDGER_ADDR w.val) 0 14 + 1) % 16384 ∧
      (∀ e, (s.blk.dia w.val).led.find? (fun e => e.1 == s.blk.fl (R.LEDGER_ADDR w.val) 0 14) = some e →
        t.blk.answer = { data := e.2 }) ∧
      ((s.blk.dia w.val).led.find? (fun e => e.1 == s.blk.fl (R.LEDGER_ADDR w.val) 0 14) = none →
        (s.blk.dia w.val).lost = false → t.blk.answer = {})) ∧
    (s.blk.diaSt w.val = 1 ∨ s.blk.diaSt w.val = 2 →
      ∃ t, exec (.ledgerDataRead w snd) s = .next t ∧ s.refused t (R.LEDGER_DATA w.val) .state []))

/-- Ports and link delay (R352, R353, R385, R380): EN, STAR, TWIN and the test bit are written, and EN = 0 makes the port DOWN;
STAR on a Node and the test bit on another port than SZ0 are refused; synchronisation leads from DOWN to SYNC where EN is
1; its loss leads to DOWN and sets LINK_LOST where EN is 1; a request is sent at a Service Tick without a cycle or in a
cycle n with n mod 64 = 32 from JOIN_START on, and one received is answered unless it would clash; the 16th accepted
measurement in SYNC makes the port UP with their mean; one more than 20 ns from the reference mean is discarded and sets
DELAY_FAIL, as a missing response does; SEND_WAKE sends 64 WAKE sets unless a slot uses the port. -/
def Obligations.SynzonPorts : Prop :=
  (∀ (s : State) (k : PortIx) (snd : Sender) (v : Word), s.takesWrite snd (R.SZP_CFG k.val) →
    (v.getLsbD 1 && s.blk.isNode) = false → (v.getLsbD 3 && k.val != 0) = false →
    ∃ t, exec (.portEnable k snd v) s = .next t ∧ s.sameRest t ∧ t.blk.fl (R.SZP_CFG k.val) 0 4 = fld v 0 4 ∧
      s.blk.keeps t.blk [R.SZP_CFG k.val, R.SZP_STAT k.val, R.PAGE_STAT (szpPage k.val), R.RED_STAT, R.RED_ERR,
        R.IRQ_RAW 0x40420000] ∧
      (v.getLsbD 0 = true → s.onlyRegs t [R.SZP_CFG k.val]) ∧
      ((s.blk.twinPort k.val && s.blk.portUp k.val) = false ∨ s.blk.fl R.RED_STAT 0 3 ≠ 4 →
        t.blk.rd R.RED_STAT = s.blk.rd R.RED_STAT ∧ t.blk.rd R.RED_ERR = s.blk.rd R.RED_ERR) ∧
      ((s.blk.twinPort k.val && s.blk.portUp k.val && !v.getLsbD 0) = true → s.blk.fl R.RED_STAT 0 3 = 4 →
        t.blk.fl R.RED_STAT 0 3 = 3 ∧ t.blk.bt R.RED_ERR 9 = true) ∧
      (v.getLsbD 0 = false → t.blk.fl (R.SZP_STAT k.val) 0 2 = 0 ∧ t.blk.dly k.val = {})) ∧
  (∀ (s : State) (k : PortIx) (snd : Sender) (v : Word), s.takesWrite snd (R.SZP_CFG k.val) →
    (v.getLsbD 1 && s.blk.isNode) = true ∨ (v.getLsbD 3 && k.val != 0) = true →
    ∃ t, exec (.portEnable k snd v) s = .next t ∧ s.onlyRegs t [R.PAGE_ERR (szpPage k.val), R.IRQ_RAW (szpPage k.val)] ∧
      t.blk.answer.why = if (v.getLsbD 1 && s.blk.isNode) = true then Reason.state.code else Reason.range.code) ∧
  (∀ (s : State) (k : PortIx), s.blk.off = false → s.blk.pageEn (szpPage k.val) = true →
    s.blk.bt (R.SZP_CFG k.val) 0 = true → s.blk.fl (R.SZP_STAT k.val) 0 2 = 0 →
    ∃ t, exec (.linkSyncAcquired k) s = .next t ∧ s.sameRest t ∧ t.blk.fl (R.SZP_STAT k.val) 0 2 = 1 ∧
      t.blk.dly k.val = {} ∧ s.blk.keeps t.blk [R.SZP_STAT k.val] ∧ s.blk.sameHidden { t.blk with szn := s.blk.szn }) ∧
  (∀ (s : State) (k : PortIx), s.blk.off = false → s.blk.fl (R.SZP_STAT k.val) 0 2 ≠ 0 →
    ∃ t, exec (.linkSyncLost k) s = .next t ∧ s.sameRest t ∧ t.blk.fl (R.SZP_STAT k.val) 0 2 = 0 ∧
      t.blk.dly k.val = {} ∧ (s.blk.bt (R.SZP_CFG k.val) 0 = true → t.blk.bt (R.SZP_ERR k.val) 7 = true) ∧
      s.blk.keeps t.blk [R.SZP_STAT k.val, R.PAGE_STAT (szpPage k.val), R.SZP_ERR k.val, R.IRQ_RAW (szpPage k.val),
        R.RED_STAT, R.RED_ERR, R.IRQ_RAW 0x40420000] ∧
      (s.blk.twinPort k.val = false → t.blk.rd R.RED_STAT = s.blk.rd R.RED_STAT ∧ t.blk.rd R.RED_ERR = s.blk.rd R.RED_ERR)) ∧
  (∀ (s : State) (k : PortIx), s.blk.off = false → s.blk.fl (R.SZP_STAT k.val) 0 2 = 0 →
    exec (.linkSyncLost k) s = .next s) ∧
  (∀ (s : State) (k : PortIx), s.blk.off = false → s.blk.fl (R.SZP_STAT k.val) 0 2 ≠ 0 →
    s.blk.pageEn (szpPage k.val) = true →
    (s.blk.bt R.TB_STAT 1 = false ∨ (s.blk.cyc % 64 = 32 ∧ (s.blk.catEntry s.blk.entry).joinStart ≤ s.blk.tick)) →
    ∃ t, exec (.delayRequestSend k) s = .next t ∧ s.sameRest t ∧ (t.blk.dly k.val).wait = true ∧
      t.blk.szn.dlyReq = s.blk.szn.dlyReq + 1 ∧ t.blk = { s.blk with szn := t.blk.szn }) ∧
  (∀ (s : State) (k : PortIx) (clash : Bool), s.blk.off = false → s.blk.fl (R.SZP_STAT k.val) 0 2 ≠ 0 →
    (s.blk.bt R.TB_STAT 1 && clash) = false →
    exec (.delayRequestRx k clash) s =
      .next { s with blk := s.blk.modSzn (fun z => { z with dlyRsp := z.dlyRsp + 1 }) }) ∧
  (∀ (s : State) (k : PortIx) (clash : Bool), s.blk.off = false →
    s.blk.fl (R.SZP_STAT k.val) 0 2 = 0 ∨ (s.blk.bt R.TB_STAT 1 && clash) = true →
    exec (.delayRequestRx k clash) s = .next s) ∧
  (∀ (s : State) (k : PortIx) (rtt : Nat), s.blk.off = false → s.blk.fl (R.SZP_STAT k.val) 0 2 = 1 →
    (s.blk.dly k.val).wait = true → (s.blk.dly k.val).acc.length = 15 →
    (rtt - 4096) / 2 ≤ meanOf (s.blk.dly k.val).acc + 320 → meanOf (s.blk.dly k.val).acc ≤ (rtt - 4096) / 2 + 320 →
    ∃ t, exec (.delayResponseRx k rtt) s = .next t ∧ s.sameRest t ∧ t.blk.portUp k.val = true ∧
      t.blk.fl (R.SZP_DELAY k.val) 0 24 = ((rtt - 4096) / 2 + (s.blk.dly k.val).acc.sum) / 16 % 2 ^ 24 ∧
      s.blk.keeps t.blk [R.SZP_STAT k.val, R.SZP_DELAY k.val] ∧ s.blk.sameHidden { t.blk with szn := s.blk.szn }) ∧
  (∀ (s : State) (k : PortIx) (rtt : Nat), s.blk.off = false → s.blk.fl (R.SZP_STAT k.val) 0 2 ≠ 0 →
    (s.blk.dly k.val).wait = true → (s.blk.dly k.val).acc ≠ [] →
    ((rtt - 4096) / 2 + 320 < meanOf ((s.blk.dly k.val).acc.take 16) ∨
      meanOf ((s.blk.dly k.val).acc.take 16) + 320 < (rtt - 4096) / 2) →
    ∃ t, exec (.delayResponseRx k rtt) s = .next t ∧ s.sameRest t ∧ t.blk.bt (R.SZP_ERR k.val) 8 = true ∧
      (t.blk.dly k.val).wait = false ∧
      (s.blk.fl (R.SZP_STAT k.val) 0 2 = 1 → 3 ≤ (s.blk.dly k.val).bad → (t.blk.dly k.val).acc = []) ∧
      s.blk.keeps t.blk [R.SZP_ERR k.val, R.IRQ_RAW (szpPage k.val)] ∧ s.blk.sameHidden { t.blk with szn := s.blk.szn }) ∧
  (∀ (s : State) (k : PortIx), s.blk.off = false → (s.blk.dly k.val).wait = true →
    ∃ t, exec (.delayResponseTimeout k) s = .next t ∧ s.sameRest t ∧ t.blk.bt (R.SZP_ERR k.val) 8 = true ∧
      t.blk.dly k.val = { s.blk.dly k.val with wait := false } ∧
      s.blk.keeps t.blk [R.SZP_ERR k.val, R.IRQ_RAW (szpPage k.val)] ∧ s.blk.sameHidden { t.blk with szn := s.blk.szn }) ∧
  (∀ (s : State) (k : PortIx), s.blk.off = false → (s.blk.dly k.val).wait = false →
    exec (.delayResponseTimeout k) s = .next s) ∧
  (∀ (s : State) (k : PortIx) (snd : Sender), s.takesWrite snd (R.SZP_CMD k.val) → s.blk.portHasSlot k.val = false →
    s.blk.fl (R.SZP_STAT k.val) 0 2 ≠ 0 →
    exec (.sendWake k snd) s =
      .next { s with blk := s.blk.fresh.modSzn (fun z => { z with wakeSent := z.wakeSent + 64 }) }) ∧
  (∀ (s : State) (k : PortIx) (snd : Sender), s.takesWrite snd (R.SZP_CMD k.val) → s.blk.portHasSlot k.val = true →
    ∃ t, exec (.sendWake k snd) s = .next t ∧ s.onlyRegs t [R.PAGE_ERR (szpPage k.val), R.IRQ_RAW (szpPage k.val)] ∧
      t.blk.answer.why = Reason.state.code)

/-- The Synzon states (R370, R537, R39, R372): EN = 1 leads from OFF to LISTEN with the listen count of a device that may cold
start; EN = 0 leads to OFF from any state but CONFLICT; the listen count at its end makes such a device time master in
COLD with the DT_STATE of its source, and 8 cycles sent lead to MEMBER; no copy by the expected tick of the cycle start + 1 µs
leads from MEMBER to HOLD and from LOCKED to HOLDOVER, never on the time master; 64 cycles without one end ACQUIRING;
SZN_HOLD_MAX cycles in HOLD lose the accession, READY and the Deck Time in force; a CONFLICT message naming its seat stops a
device in COLD. -/
def Obligations.SynzonStates : Prop :=
  (∀ (s : State) (snd : Sender) (v : Word), s.takesWrite snd R.SZN_CTRL → (v.getLsbD 1 && !s.blk.isCoord) = false →
    ∃ t, exec (.synzonEnable snd v) s = .next t ∧ s.onlyRegs t [R.SZN_CTRL, R.SZN_STAT, R.PAGE_STAT sznPage] ∧
      t.blk.fl R.SZN_CTRL 0 2 = (if v.getLsbD 1 = true then 3 else 1) ∧
      (s.blk.sznSt = 0 → t.blk.sznSt = 1 ∧
        t.blk.fl R.SZN_STAT 10 7 = (if v.getLsbD 1 = true then 2 * (1 + s.blk.seat) else 0)) ∧
      (s.blk.sznSt ≠ 0 → t.blk.rd R.SZN_STAT = s.blk.rd R.SZN_STAT)) ∧
  (∀ (s : State) (snd : Sender) (v : Word), s.takesWrite snd R.SZN_CTRL → (v.getLsbD 1 && !s.blk.isCoord) = true →
    ∃ t, exec (.synzonEnable snd v) s = .next t ∧ s.onlyRegs t [R.PAGE_ERR sznPage, R.IRQ_RAW sznPage] ∧
      t.blk.answer.why = Reason.state.code) ∧
  (∀ (s : State) (snd : Sender) (v : Word), s.takesWrite snd R.SZN_CTRL → (v.getLsbD 1 && !s.blk.isCoord) = false →
    ∃ t, exec (.synzonDisable snd v) s = .next t ∧ s.sameRest t ∧
      s.blk.keeps t.blk [R.SZN_CTRL, R.SZN_STAT, R.PAGE_STAT sznPage] ∧ t.blk.bt R.SZN_CTRL 0 = false ∧
      (s.blk.sznSt ≠ 6 → t.blk.sznSt = 0) ∧ (s.blk.sznSt = 6 → t.blk.rd R.SZN_STAT = s.blk.rd R.SZN_STAT) ∧
      (s.blk.sznSt ≠ 0 → s.blk.sznSt ≠ 6 → t.blk.bt R.SZN_STAT 3 = false ∧ t.blk.fl R.SZN_STAT 8 2 = 0 ∧ t.blk.tx = [])) ∧
  (∀ s : State, s.blk.off = false → s.blk.sznSt = 1 → s.blk.fl R.SZN_STAT 10 7 = 0 → s.blk.bt R.SZN_CTRL 1 = true →
    ∃ t, exec .listenExpire s = .next t ∧ s.sameRest t ∧ t.blk.sznSt = 2 ∧ t.blk.bt R.SZN_STAT 3 = true ∧
      t.blk.redSt = 1 ∧ t.blk.ownClaim = 32 + s.blk.seat ∧ t.blk.bt R.TB_STAT 1 = true ∧ t.blk.szn.coldSent = 0 ∧
      t.blk.szn.coldFlag = true ∧
      (s.blk.fl R.TB_CTRL 0 2 = 0 → t.blk.dtState = 0) ∧
      (s.blk.fl R.TB_CTRL 0 2 ≠ 0 → s.blk.bt R.TB_CTRL 2 = true → t.blk.dtState = 2) ∧
      (s.blk.fl R.TB_CTRL 0 2 ≠ 0 → s.blk.bt R.TB_CTRL 2 = false → s.blk.tb.ptpSet = false → t.blk.dtState = 1)) ∧
  (∀ s : State, s.blk.off = false → s.blk.sznSt ≠ 1 ∨ s.blk.fl R.SZN_STAT 10 7 ≠ 0 ∨ s.blk.bt R.SZN_CTRL 1 = false →
    exec .listenExpire s = .next s) ∧
  (∀ s : State, s.blk.off = false → s.blk.sznSt = 2 → 8 ≤ s.blk.szn.coldSent →
    ∃ t, exec .coldStartComplete s = .next t ∧ s.sameRest t ∧ t.blk.sznSt = 4 ∧ t.blk.bt R.SZN_STAT 8 = true ∧
      t.blk.bt R.SZN_STAT 9 = true ∧ t.blk.szn.coldFlag = false ∧ s.blk.keeps t.blk [R.SZN_STAT, R.PAGE_STAT sznPage] ∧
      s.blk.sameHidden { t.blk with szn := s.blk.szn }) ∧
  (∀ s : State, s.blk.off = false → s.blk.sznSt ≠ 2 ∨ s.blk.szn.coldSent < 8 →
    exec .coldStartComplete s = .next s) ∧
  (∀ s : State, s.blk.off = false → s.blk.bt R.SZN_STAT 3 = false → s.blk.szn.csSeen = none → s.blk.csDue < 3125 →
    s.blk.dtState = 2 ∨ s.blk.sznSt = 4 →
    ∃ t, exec .cycleStartTimeout s = .next t ∧ s.sameRest t ∧ t.blk.tb.dt = s.deckAfter (s.blk.csDue - s.blk.tick) ∧
      t.blk.dtState = (if s.blk.dtState = 2 then 3 else s.blk.dtState) ∧
      t.blk.sznSt = (if s.blk.sznSt = 4 then 5 else s.blk.sznSt) ∧
      (s.blk.dtState = 2 → t.blk.bt R.TB_ERR 5 = true) ∧ (s.blk.sznSt = 4 → t.blk.szn.holdCnt = 0) ∧
      (s.blk.csDue ≤ s.blk.tick →
        s.blk.keeps t.blk [R.TB_STAT, R.TB_ERR, R.IRQ_RAW 0x40300000, R.SZN_STAT, R.PAGE_STAT sznPage] ∧
        s.blk.sameHidden { t.blk with szn := s.blk.szn })) ∧
  (∀ s : State, s.blk.off = false →
    s.blk.bt R.SZN_STAT 3 = true ∨ s.blk.szn.csSeen ≠ none ∨ 3125 ≤ s.blk.csDue ∨
      (s.blk.dtState ≠ 2 ∧ s.blk.sznSt ≠ 4) → exec .cycleStartTimeout s = .next s) ∧
  (∀ s : State, s.blk.off = false → s.blk.dtState = 1 → 64 < s.blk.tb.lost →
    ∃ t, exec .acquiringTimeout s = .next t ∧ s.onlyRegs t [R.TB_STAT] ∧ t.blk.dtState = 0 ∧
      ∀ j, j < 32 → j ≠ 2 → j ≠ 3 → t.blk.bt R.TB_STAT j = s.blk.bt R.TB_STAT j) ∧
  (∀ s : State, s.blk.off = false → s.blk.dtState ≠ 1 ∨ s.blk.tb.lost ≤ 64 → exec .acquiringTimeout s = .next s) ∧
  (∀ s : State, s.blk.off = false → s.blk.sznSt = 5 → s.blk.fl R.SZN_HOLD_MAX 0 8 ≤ s.blk.szn.holdCnt →
    ∃ t, exec .holdTimeout s = .next t ∧ s.sameRest t ∧
      t.blk.sznSt = (if (s.blk.isCoord && s.blk.bt R.SZN_CTRL 1) = true then 1 else 3) ∧
      t.blk.bt R.SZN_ERR 3 = true ∧ t.blk.bt R.TB_STAT 1 = false ∧ t.blk.dtState = 1 ∧ t.blk.bt R.SZN_STAT 8 = false ∧
      t.blk.bt R.SZN_STAT 9 = false ∧ t.blk.readyNow = false ∧ t.blk.tb.reload = true) ∧
  (∀ (s : State) (seat : Nat), s.blk.off = false → s.blk.sznSt = 2 → seat = s.blk.seat →
    ∃ t, exec (.conflict seat) s = .next t ∧ s.onlyRegs t [R.SZN_STAT, R.PAGE_STAT sznPage, R.SZN_ERR, R.IRQ_RAW sznPage] ∧
      t.blk.sznSt = 6 ∧ t.blk.bt R.SZN_STAT 3 = false ∧ t.blk.bt R.SZN_ERR 0 = true) ∧
  (∀ (s : State) (seat : Nat), s.blk.off = false → s.blk.sznSt ≠ 2 ∨ seat ≠ s.blk.seat → exec (.conflict seat) s = .next s)

/-- Frames received (R351, R355, R358 to R360, R333, R39, R370): a frame whose check sequence is wrong is discarded and
counted; the first CYCLE_START in LISTEN gives Deck Time, the time master and ACCEDE; the first copy in its cycle of a
FEEDBACK item is taken for the next latch, of a COMMAND frame with the right CFG_TAG kept for APD on a Node, each from its
deadline on for that of the next cycle (R44), of a DATA
frame with an IMU item in use kept for the VMF, of a SAFETY frame for channel A from X and channel B from Y; a SAFETY copy
whose check sequence is wrong fails its connection's payload (R333). A device
without a cycle discards frames with items without a flag. -/
def Obligations.SynzonFrames : Prop :=
  (∀ (s : State) (k : PortIx) (h : FrameHdr) (items : List CmdItem) (tag : Nat) (imus : List ImuItem) (tgts : List TgtItem),
    s.blk.off = false → s.blk.portUp k.val = true → h.codeOk = true → h.crcOk = false →
    ∀ c ∈ [Instr.commandFrameRx k h items tag, .dataFrameRx k h imus tgts],
    ∃ t, exec c s = .next t ∧ s.onlyRegs t [R.SZP_CRC_CNT k.val, R.SZP_ERR k.val, R.IRQ_RAW (szpPage k.val)] ∧
      t.blk.fl (R.SZP_CRC_CNT k.val) 0 16 = satAdd (s.blk.fl (R.SZP_CRC_CNT k.val) 0 16) 1 0xFFFF ∧
      t.blk.bt (R.SZP_ERR k.val) 0 = true) ∧
  (∀ (s : State) (k : PortIx) (h : FrameHdr) (p : SafePayload), s.blk.off = false → s.blk.portUp k.val = true →
    h.codeOk = true → h.crcOk = false →
    ∃ t, exec (.safetyFrameRx k h p) s = .next t ∧ t.nv = s.nv ∧ t.mem = s.mem ∧ t.pending = s.pending ∧
      s.blk.keeps t.blk [R.SZP_CRC_CNT k.val, R.SZP_ERR k.val, R.IRQ_RAW (szpPage k.val)] ∧ s.blk.sameHidden t.blk ∧
      t.blk.fl (R.SZP_CRC_CNT k.val) 0 16 = satAdd (s.blk.fl (R.SZP_CRC_CNT k.val) 0 16) 1 0xFFFF ∧
      t.blk.bt (R.SZP_ERR k.val) 0 = true ∧
      ((s.blk.forMe h && s.blk.bt R.TB_STAT 1) = false ∨ s.isl.held = true → t.isl = s.isl) ∧
      ((s.blk.forMe h && s.blk.bt R.TB_STAT 1) = true → s.isl.held = false →
        (s.blk.itemsDue ≤ s.blk.tick → t.isl = { s.isl with
          lateCopies := s.isl.lateCopies ++ [(decide (k.val < 32), false, p)] }) ∧
        (s.blk.tick < s.blk.itemsDue → ∀ n c, s.isl.cfg.conns.find? (fun c => c.2.src == p.src && c.2.kind == p.kind) =
          some (n, c) → t.isl = s.isl.setCon n { s.isl.con n with bad := true }))) ∧
  (∀ (s : State) (k : PortIx) (h : FrameHdr) (items : List CmdItem) (tag : Nat) (imus : List ImuItem) (tgts : List TgtItem)
    (p : SafePayload), s.blk.off = false → (s.blk.frameCheck k.val h).2 = true → s.blk.bt R.TB_STAT 1 = false →
    ∀ c ∈ [Instr.commandFrameRx k h items tag, .dataFrameRx k h imus tgts, .safetyFrameRx k h p], exec c s = .next s) ∧
  (∀ (s : State) (k : PortIx) (h : FrameHdr) (b : CsBody), s.blk.off = false → s.blk.sznSt = 1 →
    (s.blk.frameCheck k.val h).2 = true → h.cycle % 2 ^ 32 = b.deckTime / 15625 % 2 ^ 32 → s.blk.bt R.TB_STAT 1 = false →
    s.blk.bt R.SZN_STAT 3 = false → s.blk.szn.csSeen = none → s.blk.dtState = 0 →
    ∃ t, exec (.cycleStartFrameRx k h b) s = .next t ∧ s.sameRest t ∧ t.blk.sznSt = 3 ∧ t.blk.dtState = 1 ∧
      t.blk.tb.dt = deckFromFrame b h (s.blk.fl (R.SZP_DELAY k.val) 0 24) % 2 ^ 64 ∧
      t.blk.fl R.SZN_TM 0 12 = h.src.val ∧ t.blk.fl R.SZN_TM 12 16 = h.claim % 2 ^ 16 ∧
      t.blk.rdN (R.SZP_RX_CNT k.val) = (s.blk.rdN (R.SZP_RX_CNT k.val) + 1) % 2 ^ 32) ∧
  (∀ (s : State) (k : PortIx) (h : FrameHdr) (it : FbItem) (sl : Slot) (c : Nat), s.blk.off = false →
    (s.blk.frameCheck k.val h).2 = true → s.blk.forMe h = true → s.blk.bt R.TB_STAT 1 = true →
    s.blk.bt (R.SZP_CFG k.val) 1 = false → s.blk.cycAge h = 0 →
    (∀ x ∈ s.blk.szn.copies, x.kind = 2 → x.src = h.src.val → x.dst ≠ h.dst.val) →
    s.blk.slotOf h.src.val 2 h.dst.val = some sl → sl.items = [.carrel c] →
    ∃ t, exec (.feedbackFrameRx k h [it]) s = .next t ∧ s.sameRest t ∧
      (s.blk.tick < s.blk.fbd → sget (fun _ => none) t.blk.szn.fbNew c = some { it with age := satAdd it.age 0 255 } ∧
        t.blk.szn.fbNext = s.blk.szn.fbNext) ∧
      (s.blk.fbd ≤ s.blk.tick → sget (fun _ => none) t.blk.szn.fbNext c = some { it with age := satAdd it.age 1 255 } ∧
        t.blk.szn.fbNew = s.blk.szn.fbNew) ∧
      t.blk.szn.fbLate = s.blk.szn.fbLate ∧ s.blk.keeps t.blk [R.SZP_RX_CNT k.val, R.SZN_FIRST] ∧
      s.blk.sameHidden { t.blk with szn := s.blk.szn }) ∧
  (∀ (s : State) (k : PortIx) (h : FrameHdr) (items : List CmdItem) (tag : Nat), s.blk.off = false →
    (s.blk.frameCheck k.val h).2 = true → s.blk.forMe h = true → s.blk.bt R.TB_STAT 1 = true →
    s.blk.bt (R.SZP_CFG k.val) 1 = false → s.blk.cycAge h = 0 →
    (∀ x ∈ s.blk.szn.copies, x.kind = 3 → x.src = h.src.val → x.dst ≠ h.dst.val) →
    s.blk.redSt ≠ 1 → s.blk.isNode = true → tag = s.blk.rdN R.FAB_DIGEST_LO →
    ∃ t, exec (.commandFrameRx k h items tag) s = .next t ∧ s.sameRest t ∧
      (s.blk.tick < s.blk.apd → t.blk.szn.cmdNext = s.blk.szn.cmdNext ∧
        t.blk.szn.cmdNew = s.blk.szn.cmdNew.filter (fun x => x.1 != h.src.val) ++ [(h.src.val, h.claim, items)]) ∧
      (s.blk.apd ≤ s.blk.tick → t.blk.szn.cmdNew = s.blk.szn.cmdNew ∧
        t.blk.szn.cmdNext = s.blk.szn.cmdNext.filter (fun x => x.1 != h.src.val) ++ [(h.src.val, h.claim, items)]) ∧
      t.blk.szn.cmdLate = s.blk.szn.cmdLate ∧ s.blk.keeps t.blk [R.SZP_RX_CNT k.val, R.SZN_FIRST] ∧
      s.blk.sameHidden { t.blk with szn := s.blk.szn }) ∧
  (∀ (s : State) (k : PortIx) (h : FrameHdr) (it : ImuItem) (sl : Slot) (i : Nat), s.blk.off = false →
    (s.blk.frameCheck k.val h).2 = true → s.blk.forMe h = true → s.blk.bt R.TB_STAT 1 = true →
    s.blk.bt (R.SZP_CFG k.val) 1 = false → s.blk.cycAge h = 0 →
    (∀ x ∈ s.blk.szn.copies, x.kind = 5 → x.src = h.src.val → x.dst ≠ h.dst.val) →
    s.blk.slotOf h.src.val 5 h.dst.val = some sl → sl.items = [.imu i] → i < 4 → s.blk.vmfOn = true →
    s.blk.fl (R.VMF_IMU_CFG i) 0 2 = 1 → s.blk.fl (R.VMF_IMU_CFG i) 2 12 = h.src.val →
    ∃ t, exec (.dataFrameRx k h [it] []) s = .next t ∧ s.sameRest t ∧
      (s.blk.tick < s.blk.fbd →
        t.blk.vmf.imuNew = s.blk.vmf.imuNew ++ [(i, extTime s.blk.tb.dt it.time, { it with age := satAdd it.age 0 255 })] ∧
        t.blk.fl (R.VMF_IMU_STAT i) 0 8 = min it.age 255 ∧ t.blk.szn.imuNext = s.blk.szn.imuNext ∧
        s.blk.keeps t.blk [R.SZP_RX_CNT k.val, R.SZN_FIRST, R.VMF_IMU_STAT i]) ∧
      (s.blk.fbd ≤ s.blk.tick → t.blk.vmf = s.blk.vmf ∧
        t.blk.szn.imuNext = s.blk.szn.imuNext ++ [(i, h.src.val, { it with age := satAdd it.age 1 255 })] ∧
        s.blk.keeps t.blk [R.SZP_RX_CNT k.val, R.SZN_FIRST])) ∧
  (∀ (s : State) (k : PortIx) (h : FrameHdr) (p : SafePayload), s.blk.off = false →
    (s.blk.frameCheck k.val h).2 = true → s.blk.forMe h = true → s.blk.bt R.TB_STAT 1 = true →
    s.blk.bt (R.SZP_CFG k.val) 1 = false → s.blk.cycAge h = 0 →
    ∃ t, exec (.safetyFrameRx k h p) s = .next t ∧ t.nv = s.nv ∧ t.mem = s.mem ∧ t.pending = s.pending ∧
      (s.blk.tick < s.blk.itemsDue → t.isl = s.isl.safeCopy (decide (k.val < 32)) true p) ∧
      (s.blk.itemsDue ≤ s.blk.tick → t.isl = if s.isl.held = true then s.isl else { s.isl with
        lateCopies := s.isl.lateCopies ++ [(decide (k.val < 32), true, p)] }) ∧ s.blk.keeps t.blk [R.SZP_RX_CNT k.val] ∧
      t.blk.rdN (R.SZP_RX_CNT k.val) = (s.blk.rdN (R.SZP_RX_CNT k.val) + 1) % 2 ^ 32)

/-- Stars and cut-off channels (R366, R371, R374 to R377, R393): a star passes a CYCLE_START on to all other UP ports of its
channel with CORR raised by the port's delay and the residence, and a frame of a slot inside its window to the ports that
its routing table names, unless the ECC of the table finds its entry lost (R401); a JOIN frame for the device itself, or at a
device that passes none on, an empty Hub (R18) among them, is counted; queued JOIN frames go one at a time; an ACCEDE message
marks a cut-off port for reinstatement; a CUTOFF message stops the slots on the channel that it names.
Service messages, remote access and Catalogue switches (R361, R362, R378, R379): a message that has waited 64 cycles is
dropped; GO queues an access of 1 to 8 words under the next TAG, its response or 64 cycles end it; the time master announces
a switch to another valid entry, decides GO where every member has acknowledged and ABORT otherwise, and takes the entry. -/
def Obligations.SynzonStars : Prop :=
  (∀ (s : State) (k : PortIx) (h : FrameHdr) (f : TxFrame) (b : CsBody) (resid : Nat) (lower : Bool) (e : Ecc),
    s.blk.off = false → s.blk.isNode = false → s.blk.bt (R.SZP_CFG k.val) 1 = true → (s.blk.frameCheck k.val h).2 = true →
    f.body = .cycleStart b → b.cold = false → s.blk.bt (R.SZP_STAT k.val) 2 = false →
    ∃ t, exec (.frameForward k h f resid lower e) s = .next t ∧ s.sameRest t ∧
      t.blk.tx = (((s.blk.upPorts.filter (fun j => decide (j < 32) == decide (k.val < 32) && j != k.val)).filter
        (fun p => s.blk.pageEn (szpPage p))).map (fun p => { f with
          port := p
          body := .cycleStart { b with corr := b.corr + s.blk.fl (R.SZP_DELAY k.val) 0 24 + resid } })) ∧
      s.blk.keeps t.blk ((List.range 64).map R.SZP_TX_CNT) ∧
      s.blk.sameHidden { t.blk with szn := s.blk.szn, tx := s.blk.tx }) ∧
  (∀ (s : State) (k : PortIx) (h : FrameHdr) (f : TxFrame) (resid : Nat) (lower : Bool) (e : Ecc) (items : List FbItem)
      (ps : List Nat), s.blk.off = false → s.blk.isNode = false → s.blk.bt (R.SZP_CFG k.val) 1 = true →
    (s.blk.frameCheck k.val h).2 = true → f.body = .feedback items → s.blk.isHub = false →
    (s.blk.guard k.val h).2 = true → h.dst.val ≠ s.blk.ownEp → s.blk.routePorts k.val h.dst.val = some ps →
    (∀ p ∈ ps, p < 64) → (e = .uncorr → h.dst.val = 0xFFF) →
    ∃ t, exec (.frameForward k h f resid lower e) s = .next t ∧ s.sameRest t ∧
      t.blk.tx = (ps.filter (fun p => s.blk.pageEn (szpPage p))).map (fun p => { f with port := p }) ∧
      s.blk.keeps t.blk (R.FAB_ERR :: R.IRQ_RAW 0x40410000 :: (List.range 64).map R.SZP_TX_CNT) ∧
      (e = .corr → h.dst.val ≠ 0xFFF → t.blk.bt R.FAB_ERR 7 = true) ∧
      (e = .none ∨ h.dst.val = 0xFFF → s.blk.keeps t.blk ((List.range 64).map R.SZP_TX_CNT))) ∧
  (∀ (s : State) (k : PortIx) (h : FrameHdr) (f : TxFrame) (resid : Nat) (lower : Bool) (items : List FbItem),
    s.blk.off = false → s.blk.isNode = false → s.blk.bt (R.SZP_CFG k.val) 1 = true →
    (s.blk.frameCheck k.val h).2 = true → f.body = .feedback items → s.blk.isHub = false →
    (s.blk.guard k.val h).2 = true → h.dst.val ≠ s.blk.ownEp → h.dst.val ≠ 0xFFF →
    ∃ t, exec (.frameForward k h f resid lower .uncorr) s = .next t ∧ s.sameRest t ∧ t.blk.tx = s.blk.tx ∧
      t.blk.bt R.FAB_ERR 8 = true ∧ s.blk.offers t.blk 0x42 0 2 (t.blk.rdN R.FAB_ERR) 0 0 ∧
      s.blk.keeps t.blk (R.FAB_ERR :: R.IRQ_RAW 0x40410000 :: archiveRegs)) ∧
  (∀ (s : State) (k : PortIx) (h : FrameHdr) (f : TxFrame) (resid : Nat) (lower : Bool) (e : Ecc), s.blk.off = false →
    s.blk.isNode = true ∨ s.blk.bt (R.SZP_CFG k.val) 1 = false → exec (.frameForward k h f resid lower e) s = .next s) ∧
  (∀ (s : State) (k : PortIx) (h : FrameHdr) (f : TxFrame) (short : Bool), s.blk.off = false →
    (s.blk.frameCheck k.val h).2 = true → s.blk.sznSt ≠ 0 →
    s.blk.bt (R.SZP_CFG k.val) 1 = false ∨ h.dst.val = s.blk.ownEp ∨ s.blk.isNode = true ∨ s.blk.hubEmpty = true →
    ∃ t, exec (.joinFrameRx k h f short) s = .next t ∧ s.sameRest t ∧
      t.blk.rdN (R.SZP_RX_CNT k.val) = (s.blk.rdN (R.SZP_RX_CNT k.val) + 1) % 2 ^ 32 ∧
      s.blk.keeps t.blk [R.SZP_RX_CNT k.val] ∧ s.blk.sameHidden { t.blk with szn := s.blk.szn }) ∧
  (∀ (s : State) (q : JoinQ) (qs : List JoinQ), s.blk.off = false → s.blk.szn.joinQ = q :: qs →
    ∃ t, exec .joinQueueForward s = .next t ∧ s.sameRest t ∧ t.blk.szn = { s.blk.szn with joinQ := qs } ∧
      t.blk.tx = (if s.blk.pageEn (szpPage q.out) then [{ q.frame with port := q.out }] else []) ∧
      s.blk.keeps t.blk [R.SZP_TX_CNT q.out] ∧ s.blk.sameHidden { t.blk with szn := s.blk.szn, tx := s.blk.tx }) ∧
  (∀ s : State, s.blk.off = false → s.blk.szn.joinQ = [] → exec .joinQueueForward s = .next s) ∧
  (∀ (s : State) (k : PortIx) (ep chan : Nat), s.blk.off = false →
    exec (.accede k ep chan) s = .next (if s.blk.bt (R.SZP_STAT (k.val % 32 + 32 * (chan % 2))) 2 then
      { s with blk := s.blk.modSzn (fun z => { z with reinstate := (k.val % 32 + 32 * (chan % 2)) :: z.reinstate }) }
      else s)) ∧
  (∀ (s : State) (ep chan : Nat), s.blk.off = false → ep = s.blk.ownEp →
    ∃ t, exec (.cutoff ep chan) s = .next t ∧ s.sameRest t ∧ t.blk.bt R.SZN_ERR 4 = true ∧
      (chan = 0 → t.blk.bt R.SZN_STAT 8 = false ∧ t.blk.szn = { s.blk.szn with cutX := true, rejX := 0 }) ∧
      (chan ≠ 0 → t.blk.bt R.SZN_STAT 9 = false ∧ t.blk.szn = { s.blk.szn with cutY := true, rejY := 0 }) ∧
      s.blk.keeps t.blk [R.SZN_ERR, R.IRQ_RAW sznPage, R.SZN_STAT] ∧ s.blk.sameHidden { t.blk with szn := s.blk.szn }) ∧
  (∀ (s : State) (ep chan : Nat), s.blk.off = false → ep ≠ s.blk.ownEp → exec (.cutoff ep chan) s = .next s) ∧
  (∀ s : State, s.blk.off = false → (∃ m ∈ s.blk.szn.svcq, 64 ≤ m.waited) →
    ∃ t, exec .serviceMessageDrop s = .next t ∧ s.sameRest t ∧ t.blk.bt R.SZN_ERR 7 = true ∧
      t.blk.szn = { s.blk.szn with svcq := s.blk.szn.svcq.filter (fun m => decide (m.waited < 64)) } ∧
      s.blk.keeps t.blk [R.SZN_ERR, R.IRQ_RAW sznPage] ∧ s.blk.sameHidden { t.blk with szn := s.blk.szn }) ∧
  (∀ s : State, s.blk.off = false → (∀ m ∈ s.blk.szn.svcq, m.waited < 64) → exec .serviceMessageDrop s = .next s) ∧
  (∀ (s : State) (snd : Sender) (v : Word), s.takesWrite snd R.SZN_RA_CMD → 1 ≤ fld v 0 4 → fld v 0 4 ≤ 8 →
    v.getLsbD 5 = true → s.blk.fl R.SZN_RA_STAT 0 2 ≠ 1 →
    ∃ t, exec (.remoteAccessGo snd v) s = .next t ∧ s.sameRest t ∧ t.blk.rdN R.SZN_RA_STAT = 1 ∧
      t.blk.szn.raTag = (s.blk.szn.raTag + 1) % 65536 ∧ t.blk.szn.raWait = 0 ∧
      (s.blk.szn.svcq.length < 8 → ∃ m, t.blk.szn.svcq = s.blk.szn.svcq ++ [m] ∧ m.typ = 0x01 ∧
        m.dst = s.blk.fl R.SZN_RA_DST 0 12 ∧ m.body.take 4 = [(s.blk.szn.raTag + 1) % 65536, fld v 0 4,
          (if v.getLsbD 4 = true then 1 else 0), s.blk.rd64 R.SZN_RA_ADDR_LO % 2 ^ 40]) ∧
      s.blk.keeps t.blk [R.SZN_RA_STAT] ∧ s.blk.sameHidden { t.blk with szn := s.blk.szn }) ∧
  (∀ (s : State) (snd : Sender) (v : Word), s.takesWrite snd R.SZN_RA_CMD →
    (fld v 0 4 = 0 ∨ 8 < fld v 0 4) ∨ (v.getLsbD 5 = true ∧ s.blk.fl R.SZN_RA_STAT 0 2 = 1) →
    ∃ t, exec (.remoteAccessGo snd v) s = .next t ∧ s.onlyRegs t [R.PAGE_ERR sznPage, R.IRQ_RAW sznPage] ∧
      t.blk.answer.why = if fld v 0 4 = 0 ∨ 8 < fld v 0 4 then Reason.range.code else Reason.state.code) ∧
  (∀ (s : State) (tag result reason : Nat) (words : List Word), s.blk.off = false → s.blk.fl R.SZN_RA_STAT 0 2 = 1 →
    tag = s.blk.szn.raTag →
    ∃ t, exec (.accessRsp tag result reason words) s = .next t ∧
      s.onlyRegs t (R.SZN_RA_STAT :: (List.range 8).map R.SZN_RA_DATA) ∧
      t.blk.rdN R.SZN_RA_STAT = 2 + result % 4 * 4 + reason % 16 * 16 ∧
      ∀ i w, i < 8 → words[i]? = some w → t.blk.rd (R.SZN_RA_DATA i) = w) ∧
  (∀ (s : State) (tag result reason : Nat) (words : List Word), s.blk.off = false →
    s.blk.fl R.SZN_RA_STAT 0 2 ≠ 1 ∨ tag ≠ s.blk.szn.raTag → exec (.accessRsp tag result reason words) s = .next s) ∧
  (∀ s : State, s.blk.off = false → s.blk.fl R.SZN_RA_STAT 0 2 = 1 → 64 ≤ s.blk.szn.raWait →
    ∃ t, exec .remoteAccessTimeout s = .next t ∧ s.onlyRegs t [R.SZN_RA_STAT] ∧ t.blk.rdN R.SZN_RA_STAT = 3) ∧
  (∀ s : State, s.blk.off = false → s.blk.fl R.SZN_RA_STAT 0 2 ≠ 1 ∨ s.blk.szn.raWait < 64 →
    exec .remoteAccessTimeout s = .next s) ∧
  (∀ (s : State) (snd : Sender) (v : Word), s.takesWrite snd R.SZN_CAT_REQ → v.getLsbD 3 = true →
    s.blk.bt R.SZN_STAT 3 = true → s.blk.bt R.SZN_STAT 7 = false → fld v 0 3 ≠ s.blk.entry →
    (s.blk.catEntry (fld v 0 3)).valid = true →
    ∃ t, exec (.catalogueSwitchRequest snd v) s = .next t ∧ s.sameRest t ∧ t.blk.bt R.SZN_STAT 7 = true ∧
      t.blk.szn.sw = some { target := fld v 0 3, id := (s.blk.szn.swIdLast + 1) % 32, count := 9, acked := [s.blk.ownEp] } ∧
      t.blk.fl R.SZN_CAT_STAT 0 3 = fld v 0 3 ∧ t.blk.fl R.SZN_CAT_STAT 3 5 = (s.blk.szn.swIdLast + 1) % 32 ∧
      t.blk.fl R.SZN_CAT_STAT 8 2 = 1 ∧ s.blk.keeps t.blk [R.SZN_CAT_REQ, R.SZN_STAT, R.SZN_CAT_STAT] ∧
      s.blk.sameHidden { t.blk with szn := s.blk.szn }) ∧
  (∀ (s : State) (snd : Sender) (v : Word), s.takesWrite snd R.SZN_CAT_REQ → v.getLsbD 3 = true →
    (s.blk.bt R.SZN_STAT 3 = false ∨ s.blk.bt R.SZN_STAT 7 = true ∨ fld v 0 3 = s.blk.entry) ∨
      (s.blk.catEntry (fld v 0 3)).valid = false →
    ∃ t, exec (.catalogueSwitchRequest snd v) s = .next t ∧
      s.onlyRegs t [R.SZN_CAT_REQ, R.PAGE_ERR sznPage, R.IRQ_RAW sznPage] ∧
      t.blk.answer.why = if s.blk.bt R.SZN_STAT 3 = false ∨ s.blk.bt R.SZN_STAT 7 = true ∨ fld v 0 3 = s.blk.entry then
        Reason.state.code else Reason.range.code) ∧
  (∀ (s : State) (w : Switch), s.blk.off = false → s.blk.szn.sw = some w → w.count = 1 → w.go = false → w.abort = false →
    s.blk.bt R.SZN_STAT 3 = true → (∀ e ∈ s.blk.members s.blk.entry, e ∈ w.acked) →
    exec .catalogueSwitchDecide s =
      .next { s with blk := s.blk.modSzn (fun z => { z with sw := some { w with go := true } }) }) ∧
  (∀ (s : State) (w : Switch) (e : Nat), s.blk.off = false → s.blk.szn.sw = some w → w.count = 1 → w.go = false →
    w.abort = false → s.blk.bt R.SZN_STAT 3 = true → e ∈ s.blk.members s.blk.entry → e ∉ w.acked →
    (∀ d ∈ s.blk.members s.blk.entry, d ∉ w.acked → e ≤ d) →
    ∃ t, exec .catalogueSwitchDecide s = .next t ∧ s.sameRest t ∧ t.blk.szn.sw = some { w with abort := true } ∧
      t.blk.fl R.SZN_CAT_STAT 16 12 = e % 2 ^ 12 ∧ s.blk.keeps t.blk [R.SZN_CAT_STAT]) ∧
  (∀ (s : State) (w : Switch), s.blk.off = false → s.blk.szn.sw = some w → w.count = 1 → w.go = true →
    ∃ t, exec .catalogueSwitchApply s = .next t ∧ s.sameRest t ∧ t.blk.szn.sw = none ∧ t.blk.entry = w.target % 8 ∧
      t.blk.bt R.SZN_STAT 7 = false ∧ t.blk.fl R.SZN_CAT_STAT 8 2 = 2) ∧
  (∀ (s : State) (w : Switch), s.blk.off = false → s.blk.szn.sw = some w → w.count ≠ 1 →
    exec .catalogueSwitchApply s = .next s)

/-- Counting (R276, R277, R280, R281): a step of the filtered quadrature lines or of the Hall state along its order counts by
one, against it by minus one, two steps at once or an invalid Hall state are illegal transitions, no change does nothing;
the mode of the interface admits only its own kind; a level that did not stand for more than FILT samples is not taken
(R275); in OFF and SSI mode LINES shows the lines (R293). The island's counters of channel B count the same lines, through
their own filters (R336).
The index (R285, R286): IDX_ARM arms; the next index latches the count and sets the reference, after that an index within
the tolerance latches, one outside it sets INDEX_ERR and DEV and by POL latches nothing, latches, or latches and corrects
the count by the deviation; the edge is the one to the
level of ZPOL; a gated index latches nothing, one outside QUAD mode does nothing. A homing by index takes its OFFSET for the
count and the reference (R281).
SSI (R278, R291): a read starts at tick FBK_SSI_START in SSI mode outside the monoflop time and is busy until the last of its clock
periods, within it it is discarded
with SSI_ERR; the command is refused with reason STATE outside SSI mode or while a read runs. A read that ends well leaves
its value, after LEAD bits and decoded from Gray where selected; the first loads the count within its limits, the next count by their difference, one that jumps
by more than SSI_JUMP sets JUMP and counts nothing; a bad read is discarded. -/
def Obligations.CountedFeedback : Prop :=
  (∀ (s : State) (i : FbIx) (a b : Bool) (n : Nat), ∃ t, exec (.quadTransition i a b n) s = .next t ∧ s.seenB t i.val ∧
    (∀ j, s.isl.countsOn j i.val n →
      let d := (quadIx a b + 4 - quadIx (s.isl.ax j).linA (s.isl.ax j).linB) % 4
      let k : Int := if d = 1 then 1 else if d = 3 then -1 else 0
      (t.isl.ax j).linA = a ∧ (t.isl.ax j).linB = b ∧
        (t.isl.ax j).cu = (s.isl.ax j).cu + (if s.blk.bt (R.FBK_CFG i.val) 3 = true then -k else k)) ∧
    (s.blk.off = true ∨ n ≤ s.blk.fl (R.FBK_CFG i.val) 4 4 ∨ s.blk.pageEn (fbkPage i.val) = false ∨
      s.blk.fbMode i.val = 2 ∨ s.blk.fbMode i.val = 4 → t.blk = s.blk) ∧
    (s.blk.off = false → s.blk.fl (R.FBK_CFG i.val) 4 4 < n → s.blk.pageEn (fbkPage i.val) = true →
      s.blk.fbMode i.val = 0 ∨ s.blk.fbMode i.val = 3 → s.blk.keeps t.blk [R.FBK_STAT i.val] ∧ s.blk.sameHidden t.blk ∧
      (∀ j, j < 32 → t.blk.bt (R.FBK_STAT i.val) j = if j = 4 then a else if j = 5 then b else s.blk.bt (R.FBK_STAT i.val) j)) ∧
    (s.blk.off = false → s.blk.fl (R.FBK_CFG i.val) 4 4 < n → s.blk.fbMode i.val = 1 →
      let d := (quadIx a b + 4 - quadIx (s.blk.bt (R.FBK_STAT i.val) 4) (s.blk.bt (R.FBK_STAT i.val) 5)) % 4
      s.blk.keeps t.blk (countRegs i.val) ∧
      s.blk.sameHidden { t.blk with fb := s.blk.fb, pins := s.blk.pins } ∧
      (∀ k, k ≠ i.val → t.blk.fbi k = s.blk.fbi k) ∧
      t.blk.bt (R.FBK_STAT i.val) 4 = a ∧ t.blk.bt (R.FBK_STAT i.val) 5 = b ∧
      (d = 1 → s.blk.counted t.blk i.val 1) ∧ (d = 3 → s.blk.counted t.blk i.val (-1)) ∧
      (d = 2 → s.blk.miscounted t.blk i.val) ∧ (d = 0 → t.blk.rd (R.FBK_COUNT i.val) = s.blk.rd (R.FBK_COUNT i.val)))) ∧
  (∀ (s : State) (i : FbIx) (h : Fin 8) (n : Nat), ∃ t, exec (.hallStateChange i h n) s = .next t ∧ s.seenB t i.val ∧
    (∀ j, s.isl.countsOn j i.val n → (t.isl.ax j).hall = h.val ∧
      ∀ p q, hallIx (s.isl.ax j).hall = some p → hallIx h.val = some q →
        let k : Int := if (q + 6 - p) % 6 = 1 then 1 else if (q + 6 - p) % 6 = 5 then -1 else 0
        (t.isl.ax j).cu = (s.isl.ax j).cu + (if s.blk.bt (R.FBK_CFG i.val) 3 = true then -k else k)) ∧
    (s.blk.off = true ∨ n ≤ s.blk.fl (R.FBK_CFG i.val) 4 4 ∨ s.blk.fbMode i.val ≠ 2 ∨ (s.blk.fbi i.val).hall = h.val →
      t.blk = s.blk) ∧
    (s.blk.off = false → s.blk.fl (R.FBK_CFG i.val) 4 4 < n → s.blk.fbMode i.val = 2 → (s.blk.fbi i.val).hall ≠ h.val →
      s.blk.keeps t.blk (countRegs i.val) ∧
      s.blk.sameHidden { t.blk with fb := s.blk.fb, pins := s.blk.pins } ∧
      (∀ k, k ≠ i.val → t.blk.fbi k = s.blk.fbi k) ∧
      t.blk.fl (R.FBK_STAT i.val) 4 3 = h.val ∧ (t.blk.fbi i.val).hall = h.val ∧
      (∀ p q, hallIx (s.blk.fbi i.val).hall = some p → hallIx h.val = some q →
        ((q + 6 - p) % 6 = 1 → s.blk.counted t.blk i.val 1) ∧ ((q + 6 - p) % 6 = 5 → s.blk.counted t.blk i.val (-1)) ∧
        (2 ≤ (q + 6 - p) % 6 → (q + 6 - p) % 6 ≤ 4 → s.blk.miscounted t.blk i.val)) ∧
      (hallIx h.val = none → s.blk.miscounted t.blk i.val) ∧
      (hallIx (s.blk.fbi i.val).hall = none → hallIx h.val ≠ none →
        t.blk.rd (R.FBK_COUNT i.val) = s.blk.rd (R.FBK_COUNT i.val)))) ∧
  (∀ (s : State) (i : FbIx) (snd : Sender), s.takesWrite snd (R.FBK_CMD i.val) →
    ∃ t, exec (.indexArm i snd) s = .next t ∧ s.onlyFb t i.val { s.blk.fbi i.val with arm := true } []) ∧
  (∀ (s : State) (i : FbIx) (lv : Option Bool) (n : Nat), s.blk.off = false →
    s.blk.fbMode i.val ≠ 1 ∨ n ≤ s.blk.fl (R.FBK_CFG i.val) 4 4 ∨ lv = some (s.blk.bt (R.FBK_STAT i.val) 6) →
    exec (.indexEdge i lv n) s = .next s) ∧
  (∀ (s : State) (i : FbIx) (lv : Option Bool) (n : Nat), s.blk.off = false → s.blk.fbMode i.val = 1 →
    s.blk.fl (R.FBK_CFG i.val) 4 4 < n → lv ≠ some (s.blk.bt (R.FBK_STAT i.val) 6) →
    lv = some (s.blk.bt (R.FBK_CFG i.val) 10) ∨ (s.blk.bt (R.FBK_CFG i.val) 11 = true ∧
      (s.blk.bt (R.FBK_STAT i.val) 4 && s.blk.bt (R.FBK_STAT i.val) 5) = false) →
    ∃ t, exec (.indexEdge i lv n) s = .next t ∧ s.onlyRegs t [R.FBK_STAT i.val] ∧
      (∀ j, j < 32 → t.blk.bt (R.FBK_STAT i.val) j =
        if j = 6 then lv.getD (!s.blk.bt (R.FBK_CFG i.val) 10) else s.blk.bt (R.FBK_STAT i.val) j)) ∧
  (∀ (s : State) (i : FbIx) (lv : Option Bool) (n : Nat), s.blk.off = false → s.blk.fbMode i.val = 1 →
    s.blk.fl (R.FBK_CFG i.val) 4 4 < n → lv ≠ some (s.blk.bt (R.FBK_STAT i.val) 6) →
    lv ≠ some (s.blk.bt (R.FBK_CFG i.val) 10) →
    s.blk.bt (R.FBK_CFG i.val) 11 = false ∨ (s.blk.bt (R.FBK_STAT i.val) 4 && s.blk.bt (R.FBK_STAT i.val) 5) = true →
    (s.blk.homingBy [1, 3]).filter (fun a => s.blk.fbOf a == i.val) = [] →
    let ref := s.blk.bt (R.FBK_STAT i.val) 3 && s.blk.rdN (R.FBK_IDX_PERIOD i.val) != 0
    let d := indexDev (s.blk.rdI (R.FBK_COUNT i.val)) (s.blk.rdI (R.FBK_IDX_REF i.val)) (s.blk.rdN (R.FBK_IDX_PERIOD i.val))
    let near := decide (d.natAbs ≤ s.blk.fl (R.FBK_IDX_TOL i.val) 0 16)
    ∃ t, exec (.indexEdge i lv n) s = .next t ∧ s.sameRest t ∧ t.blk.bt (R.FBK_STAT i.val) 6 = !s.blk.bt (R.FBK_CFG i.val) 10 ∧
      s.blk.keeps t.blk ([R.FBK_COUNT i.val, R.FBK_STAT i.val, R.FBK_ERR i.val, R.IRQ_RAW (fbkPage i.val),
        R.FBK_IDX_LATCH i.val, R.FBK_IDX_REF i.val, R.FBK_IDX_DEV i.val, R.FBK_EDGE_T_LO i.val, R.FBK_EDGE_T_HI i.val] ++
        eventRegs (0x130 + i.val)) ∧
      s.blk.sameHidden { t.blk with fb := s.blk.fb } ∧ (t.blk.fbi i.val).arm = false ∧
      ((s.blk.fbi i.val).arm = true → t.blk.rd (R.FBK_IDX_LATCH i.val) = s.blk.rd (R.FBK_COUNT i.val) ∧
        t.blk.rd (R.FBK_IDX_REF i.val) = s.blk.rd (R.FBK_COUNT i.val) ∧ t.blk.bt (R.FBK_STAT i.val) 3 = true) ∧
      ((s.blk.fbi i.val).arm = false → (ref = false ∨ near = true) →
        t.blk.rd (R.FBK_IDX_LATCH i.val) = s.blk.rd (R.FBK_COUNT i.val) ∧
        t.blk.rd (R.FBK_COUNT i.val) = s.blk.rd (R.FBK_COUNT i.val)) ∧
      ((s.blk.fbi i.val).arm = false → ref = true → near = false →
        t.blk.bt (R.FBK_ERR i.val) 0 = true ∧ t.blk.rd (R.FBK_IDX_DEV i.val) = BitVec.ofInt 32 d ∧
        (t.blk.rd (R.FBK_IDX_LATCH i.val) = if s.blk.fl (R.FBK_CFG i.val) 8 2 = 1 ∨ s.blk.fl (R.FBK_CFG i.val) 8 2 = 2
          then s.blk.rd (R.FBK_COUNT i.val) else s.blk.rd (R.FBK_IDX_LATCH i.val)) ∧
        (t.blk.rd (R.FBK_COUNT i.val) = if s.blk.fl (R.FBK_CFG i.val) 8 2 = 2
          then BitVec.ofInt 32 (s.blk.satCount i.val (s.blk.rdI (R.FBK_COUNT i.val) - d)).1
          else s.blk.rd (R.FBK_COUNT i.val)))) ∧
  (∀ (s : State) (i : FbIx) (a : Nat), s.blk.off = false → s.blk.fbMode i.val = 1 → a < 192 →
    s.blk.bt (R.FBK_STAT i.val) 6 = s.blk.bt (R.FBK_CFG i.val) 10 → s.blk.bt (R.FBK_CFG i.val) 11 = false → (s.blk.prf a).method = 3 → s.blk.psSt a = 7 → (s.blk.prf a).ref = false →
    (s.blk.homingBy [1, 3]).filter (fun a => s.blk.fbOf a == i.val) = [a] →
    ∃ t, exec (.indexEdge i) s = .next t ∧ (t.blk.prf a).ref = true ∧
      (t.blk.prf a).p = s.blk.actI (R.PS_HOME_OFFSET a) * 2 ^ 32 ∧
      t.blk.rd (R.FBK_COUNT i.val) = s.blk.act (R.PS_HOME_OFFSET a) ∧
      t.blk.rd (R.FBK_IDX_REF i.val) = s.blk.act (R.PS_HOME_OFFSET a) ∧ t.blk.bt (R.FBK_STAT i.val) 3 = true) ∧
  (∀ (s : State) (i : FbIx) (snd : Sender) (high : Bool), s.blk.fbMode i.val = 3 →
    let reads := fun (c : Instr) =>
      ((s.blk.fbi i.val).ssiHigh ≤ s.blk.tb.ticks → s.blk.bt (R.FBK_STAT i.val) 14 = false → ∃ t, exec c s = .next t ∧
        s.onlyFb t i.val { s.blk.fbi i.val with ssiT := s.blk.tb.ticks, ssiBad := !high } [R.FBK_STAT i.val] ∧
        t.blk.bt (R.FBK_STAT i.val) 14 = true) ∧
      (s.blk.tb.ticks < (s.blk.fbi i.val).ssiHigh ∨ s.blk.bt (R.FBK_STAT i.val) 14 = true → ∃ t, exec c s = .next t ∧
        s.onlyRegs t [R.FBK_ERR i.val, R.FBK_ERRCNT i.val, R.IRQ_RAW (fbkPage i.val)] ∧ t.blk.bt (R.FBK_ERR i.val) 2 = true ∧
        t.blk.fl (R.FBK_ERRCNT i.val) 0 16 = satAdd (s.blk.fl (R.FBK_ERRCNT i.val) 0 16) 1 0xFFFF)
    (s.blk.off = false → s.blk.deadline (s.blk.fl (R.FBK_SSI_START i.val) 0 12) = true →
      (s.blk.tick = s.blk.fl (R.FBK_SSI_START i.val) 0 12 → reads (.ssiReadStart i high)) ∧
      ∃ t, exec (.ssiReadStart i high) s = .next t ∧
        t.blk.tb.dt = s.deckAfter (s.blk.fl (R.FBK_SSI_START i.val) 0 12 - s.blk.tick) ∧
        (s.blk.bt (R.FBK_STAT i.val) 14 = false →
          (s.blk.fbi i.val).ssiHigh ≤ s.blk.tb.ticks + (s.blk.fl (R.FBK_SSI_START i.val) 0 12 - s.blk.tick) →
          t.blk.bt (R.FBK_STAT i.val) 14 = true ∧ (t.blk.fbi i.val).ssiBad = !high ∧
          (t.blk.fbi i.val).ssiT = s.blk.tb.ticks + (s.blk.fl (R.FBK_SSI_START i.val) 0 12 - s.blk.tick))) ∧
    (s.takesWrite snd (R.FBK_CMD i.val) → s.blk.bt (R.FBK_STAT i.val) 14 = false → reads (.ssiReadCommand i snd high))) ∧
  (∀ (s : State) (i : FbIx) (high : Bool), s.blk.off = false →
    s.blk.fbMode i.val ≠ 3 ∨ s.blk.deadline (s.blk.fl (R.FBK_SSI_START i.val) 0 12) = false →
    exec (.ssiReadStart i high) s = .next s) ∧
  (∀ (s : State) (i : FbIx) (snd : Sender) (high : Bool), s.takesWrite snd (R.FBK_CMD i.val) →
    s.blk.fbMode i.val ≠ 3 ∨ s.blk.bt (R.FBK_STAT i.val) 14 = true →
    ∃ t, exec (.ssiReadCommand i snd high) s = .next t ∧ s.refused t (R.FBK_CMD i.val) .state []) ∧
  (∀ (s : State) (i : FbIx) (raw trail : Nat) (line : List Bool), s.blk.off = false →
    let last := (s.blk.fbi i.val).ssiT + 2 * s.blk.fl (R.FBK_SSI_CFG i.val) 12 8 *
      (1 + s.blk.fl (R.FBK_SSI_CFG i.val) 6 3 + s.blk.fl (R.FBK_SSI_CFG i.val) 0 6 + s.blk.fl (R.FBK_SSI_CFG i.val) 9 3)
    (s.blk.fbMode i.val ≠ 3 ∨ s.blk.bt (R.FBK_STAT i.val) 14 = false ∨
      (s.blk.tb.ticks < last ∧ 3125 ≤ s.blk.tick + (last - s.blk.tb.ticks)) → exec (.ssiReadDone i raw trail line) s = .next s) ∧
    (s.blk.fbMode i.val = 3 → s.blk.bt (R.FBK_STAT i.val) 14 = true → s.blk.tick + (last - s.blk.tb.ticks) < 3125 →
      ∃ t, exec (.ssiReadDone i raw trail line) s = .next t ∧ t.blk.tb.dt = s.deckAfter (last - s.blk.tb.ticks) ∧
        t.blk.bt (R.FBK_STAT i.val) 14 = false ∧
        (t.blk.fbi i.val).ssiHigh = last + 200 * s.blk.fl (R.FBK_SSI_CFG i.val) 20 8)) ∧
  (∀ (s : State) (i : FbIx) (raw trail : Nat) (line : List Bool), s.blk.off = false → s.blk.fbMode i.val = 3 →
    s.blk.bt (R.FBK_STAT i.val) 14 = true → (s.blk.homingBy [5]).filter (fun a => s.blk.fbOf a == i.val) = [] →
    (s.blk.fbi i.val).ssiT + 2 * s.blk.fl (R.FBK_SSI_CFG i.val) 12 8 * (1 + s.blk.fl (R.FBK_SSI_CFG i.val) 6 3 +
      s.blk.fl (R.FBK_SSI_CFG i.val) 0 6 + s.blk.fl (R.FBK_SSI_CFG i.val) 9 3) ≤ s.blk.tb.ticks →
    let nb := s.blk.fl (R.FBK_SSI_CFG i.val) 0 6
    let g := if line.isEmpty then raw else bitsMsb nb (line.drop (1 + s.blk.fl (R.FBK_SSI_CFG i.val) 6 3))
    let v := if s.blk.bt (R.FBK_CFG i.val) 12 = true then grayBits (g % 2 ^ nb) nb false else g % 2 ^ nb
    ∃ t, exec (.ssiReadDone i raw trail line) s = .next t ∧ s.sameRest t ∧
      s.blk.keeps t.blk (R.FBK_SSI_RAW i.val :: R.FBK_SSI_TRAIL i.val :: countRegs i.val) ∧
      s.blk.sameHidden { t.blk with fb := s.blk.fb, pins := s.blk.pins } ∧ t.blk.bt (R.FBK_STAT i.val) 14 = false ∧
      ((s.blk.fbi i.val).ssiBad = true → t.blk.rd (R.FBK_COUNT i.val) = s.blk.rd (R.FBK_COUNT i.val) ∧
        t.blk.rd (R.FBK_SSI_RAW i.val) = s.blk.rd (R.FBK_SSI_RAW i.val) ∧ t.blk.bt (R.FBK_ERR i.val) 2 = true) ∧
      ((s.blk.fbi i.val).ssiBad = false → t.blk.rd (R.FBK_SSI_RAW i.val) = BitVec.ofNat 32 v) ∧
      ((s.blk.fbi i.val).ssiBad = false → (s.blk.fbi i.val).ssi = none →
        t.blk.rd (R.FBK_COUNT i.val) = BitVec.ofInt 32 (s.blk.satCount i.val (if nb = 32 then sx 32 v else v)).1 ∧
          (t.blk.fbi i.val).ssi = some v) ∧
      (∀ old, (s.blk.fbi i.val).ssiBad = false → (s.blk.fbi i.val).ssi = some old →
        let d := sx nb (v + 2 ^ nb - old % 2 ^ nb)
        (s.blk.rdN (R.FBK_SSI_JUMP i.val) < d.natAbs → t.blk.rd (R.FBK_COUNT i.val) = s.blk.rd (R.FBK_COUNT i.val) ∧
          (t.blk.fbi i.val).ssi = some old ∧ t.blk.bt (R.FBK_ERR i.val) 3 = true ∧ t.blk.bt (R.FBK_STAT i.val) 1 = true) ∧
        (d.natAbs ≤ s.blk.rdN (R.FBK_SSI_JUMP i.val) → (t.blk.fbi i.val).ssi = some v ∧
          (d ≠ 0 → s.blk.counted t.blk i.val d) ∧
          (d = 0 → t.blk.rd (R.FBK_COUNT i.val) = s.blk.rd (R.FBK_COUNT i.val)))))

/-- Compare, speed time-out and switches (R279, R284, R287, R288): CMP_RESTART goes back to entry 0; the end of a compare
pulse, WIDTH ticks after the one in which it fired, returns its line to the idle level, on an enabled line of an enabled page (R70); the speed time-out sets its flag once the last counted change is longer ago than
SPD_TMO; a switch edge sets the line, latches the time at which the edge began and tells the homing that watches it.
Capture inputs and GPIO (R289, R295, R296): a selected edge of an enabled capture input, once it passed the filter, latches count and time, sets its
bit, or its overrun bit beside, and the page interrupt; an edge not selected changes the level alone. A GPIO edge shows in
GPIO_IN, but none against the level that the line drives; each event line that watches the line and the edge sets its status bit and posts its event, or counts the edge where
its event is held. -/
def Obligations.CompareAndCapture : Prop :=
  (∀ (s : State) (i : FbIx) (snd : Sender), s.takesWrite snd (R.FBK_CMD i.val) →
    ∃ t, exec (.compareRestart i snd) s = .next t ∧
      s.onlyFb t i.val { s.blk.fbi i.val with cur := some s.blk.tb.ticks } [R.FBK_STAT i.val] ∧
      t.blk.fl (R.FBK_STAT i.val) 7 6 = 0 ∧ t.blk.bt (R.FBK_STAT i.val) 13 = false ∧
      (∀ j, j < 7 ∨ j = 14 → t.blk.bt (R.FBK_STAT i.val) j = s.blk.bt (R.FBK_STAT i.val) j)) ∧
  (∀ (s : State) (n : PwmIx), s.blk.off = false →
    (s.blk.firedAt n.val = none → exec (.comparePulseEnd n) s = .next s) ∧
    (∀ f, s.blk.firedAt n.val = some f →
      let last := f + s.blk.fl (R.CMP_OUT n.val) 0 8 + 1
      (last ≤ s.blk.tb.ticks → ∃ t, exec (.comparePulseEnd n) s = .next t ∧ s.sameRest t ∧
        t.blk = { s.blk with pins := { s.blk.pins with pulse := s.blk.pins.pulse.filter (fun e => e.1 != n.val) } } ∧
        t.blk.cmpLevel n.val = (s.blk.bt (R.CMP_OUT n.val) 9 && s.blk.pageEn 0x40552000 && !s.blk.bt (R.CMP_OUT n.val) 8) ∧
        (∀ j, j ≠ n.val → t.blk.cmpLevel j = s.blk.cmpLevel j)) ∧
      (s.blk.tb.ticks < last → s.blk.tick + (last - s.blk.tb.ticks) < 3125 →
        ∃ t, exec (.comparePulseEnd n) s = .next t ∧ t.blk.tb.dt = s.deckAfter (last - s.blk.tb.ticks)) ∧
      (s.blk.tb.ticks < last → 3125 ≤ s.blk.tick + (last - s.blk.tb.ticks) → exec (.comparePulseEnd n) s = .next s))) ∧
  (∀ (s : State) (i : FbIx), s.blk.off = false →
    let due := (s.blk.fbMode i.val = 1 ∨ s.blk.fbMode i.val = 2 ∨ s.blk.fbMode i.val = 3) ∧
      s.blk.fl (R.FBK_SPD_TMO i.val) 0 24 < s.blk.tb.ticks - (s.blk.fbi i.val).t1 ∧ s.blk.bt (R.FBK_STAT i.val) 2 = false
    (due → ∃ t, exec (.speedTimeout i) s = .next t ∧
      s.onlyRegs t [R.FBK_STAT i.val, R.FBK_ERR i.val, R.IRQ_RAW (fbkPage i.val)] ∧
      t.blk.bt (R.FBK_STAT i.val) 2 = true ∧ t.blk.bt (R.FBK_ERR i.val) 5 = true) ∧
    (¬ due → exec (.speedTimeout i) s = .next s)) ∧
  (∀ (s : State) (i : FbIx) (l : Fin 3) (level : Bool) (n : Nat), s.blk.off = false →
    (n ≤ s.blk.fl (R.FBK_CFG i.val) 4 4 ∨ s.blk.pageEn (fbkPage i.val) = false ∨ s.blk.fbMode i.val = 1 ∨
      s.blk.fbMode i.val = 2 → exec (.switchEdge i l level n) s = .next s) ∧
    (s.blk.fl (R.FBK_CFG i.val) 4 4 < n → s.blk.pageEn (fbkPage i.val) = true →
      s.blk.fbMode i.val = 0 ∨ s.blk.fbMode i.val = 3 →
      ∃ t, exec (.switchEdge i l level n) s = .next t ∧ s.onlyRegs t [R.FBK_STAT i.val] ∧
        (∀ j, j < 32 → t.blk.bt (R.FBK_STAT i.val) j =
          if j = 4 + l.val then level else s.blk.bt (R.FBK_STAT i.val) j)) ∧
    (s.blk.fl (R.FBK_CFG i.val) 4 4 < n → s.blk.fbMode i.val = 4 → s.blk.switchCars false i.val l.val = [] →
      ∃ t, exec (.switchEdge i l level n) s = .next t ∧
        s.onlyRegs t ([R.FBK_STAT i.val, R.FBK_EDGE_T_LO i.val, R.FBK_EDGE_T_HI i.val] ++ eventRegs (0x130 + i.val)) ∧
        t.blk.bt (R.FBK_STAT i.val) (4 + l.val) = level ∧
        t.blk.rd64 (R.FBK_EDGE_T_LO i.val) =
          (s.blk.tb.dt - 5 * (s.blk.fl (R.FBK_CFG i.val) 4 4 + 1)) % 2 ^ 64 ∧
        (s.blk.bt (R.FBK_CFG i.val) 14 = true → t.blk.evPending (0x130 + i.val))) ∧
    (s.blk.fl (R.FBK_CFG i.val) 4 4 < n → s.blk.fbMode i.val = 4 → ∀ c ∈ s.blk.switchCars false i.val l.val,
      ∃ t, exec (.switchEdge i l level n) s = .next t ∧
        (t.blk.prf c).sw = (level != s.blk.actB (R.PS_HOME_CFG c) 9))) ∧
  (∀ (s : State) (n : PwmIx) (level : Bool) (held : Nat), s.blk.off = false → held ≤ s.blk.fl (R.CAP_CFG n.val) 8 4 →
    exec (.captureEdge n level held) s = .next s) ∧
  (∀ (s : State) (n : PwmIx) (level : Bool) (held : Nat), s.blk.off = false → s.blk.fl (R.CAP_CFG n.val) 8 4 < held →
    s.blk.switchCars true n.val 0 = [] →
    (s.blk.homingBy [7]).filter (fun a => s.blk.actF (R.PS_HOME_CFG a) 5 4 == n.val) = [] →
    let k := s.blk.rd (R.CAP_CFG n.val)
    let sel := s.blk.pageEn capPage && nbit (fld k 5 2) (if level then 0 else 1)
    ∃ t, exec (.captureEdge n level held) s = .next t ∧ s.sameRest t ∧
      s.blk.keeps t.blk (if sel = true then [R.CAP_POS n.val, R.CAP_TIME_LO n.val, R.CAP_TIME_HI n.val, R.CAP_STAT,
        R.IRQ_RAW capPage] ++ eventRegs (0x130 + fld k 0 5) else []) ∧
      s.blk.sameHidden { t.blk with pins := s.blk.pins } ∧ nbit t.blk.pins.cap n.val = level ∧
      (∀ j, j ≠ n.val → nbit t.blk.pins.cap j = nbit s.blk.pins.cap j) ∧
      (sel = true → t.blk.rd (R.CAP_POS n.val) = s.blk.rd (R.FBK_COUNT (fld k 0 5)) ∧
        t.blk.rd64 (R.CAP_TIME_LO n.val) = (s.blk.tb.dt - 5 * (fld k 8 4 + 1)) % 2 ^ 64 ∧
        t.blk.bt R.CAP_STAT n.val = true ∧
        t.blk.bt R.CAP_STAT (16 + n.val) = (s.blk.bt R.CAP_STAT n.val || s.blk.bt R.CAP_STAT (16 + n.val)) ∧
        t.blk.bt (R.IRQ_RAW capPage) n.val = true)) ∧
  (∀ (s : State) (l : PortIx) (level : Bool) (n : Nat), s.blk.off = false →
    n ≤ s.blk.fl R.GPIO_FILT 0 4 ∨ s.blk.gpioDrive l.val = some (!level) →
    exec (.gpioEdgeEvent l level n) s = .next s) ∧
  (∀ (s : State) (l : PortIx) (level : Bool) (n : Nat), s.blk.off = false → s.blk.fl R.GPIO_FILT 0 4 < n →
    s.blk.gpioDrive l.val ≠ some (!level) →
    let hit := fun e => s.blk.pageEn gpioPage = true ∧ s.blk.fl (R.GPIO_EV_CFG e) 0 6 = l.val ∧
      nbit (s.blk.fl (R.GPIO_EV_CFG e) 6 2) (if level then 0 else 1) = true
    ∃ t, exec (.gpioEdgeEvent l level n) s = .next t ∧
      s.onlyDisp t ([R.GPIO_IN_LO, R.GPIO_IN_HI, R.GPIO_EV_STAT, R.IRQ_RAW gpioPage, R.DISP_QHWM] ++
        (List.range 32).map R.GPIO_EV_CNT) ∧
      t.blk.bt (if l.val < 32 then R.GPIO_IN_LO else R.GPIO_IN_HI) (l.val % 32) = level ∧
      (∀ e, e < 32 → hit e → t.blk.bt R.GPIO_EV_STAT e = true ∧
        (.gpio e ∈ s.blk.disp.held → t.blk.fl (R.GPIO_EV_CNT e) 0 16 = satAdd (s.blk.fl (R.GPIO_EV_CNT e) 0 16) 1 0xFFFF) ∧
        (.gpio e ∉ s.blk.disp.held → (0x160 + e) ∈ t.blk.disp.evq ∨ .gpio e ∈ t.blk.disp.held)) ∧
      (∀ e, e < 32 → ¬ hit e → t.blk.bt R.GPIO_EV_STAT e = s.blk.bt R.GPIO_EV_STAT e ∧
        t.blk.rd (R.GPIO_EV_CNT e) = s.blk.rd (R.GPIO_EV_CNT e)))

/-- Channel commands (R252 to R254, R257, R260): EN is refused with reason STATE while a trip stands, where the role, the
clocks of its inputs or PAIRED forbid it; an enabled channel starts at its next reload after the
tick of the write, one of 8 to 15 first ends adaptive
dead time and waits for the running channels of 0 to 7; a disable stops the channel, its high sides off and its pending
items gone, and of one already disabled discards the pending items; a write of CMP_W makes one pending duty set, a write of PERIOD a pending period, refused with reason STATE for
another source of duties or a cycle-locked channel and with reason RANGE below 2000.
Periods, dead time and the debug halt (R246, R251, R252, R256, R257): a reload moves time to it, starts the period at
count 0 and puts the pending period in force; a measured edge adapts the dead time of its side, an unmeasured one counts as
a miss; the dead-time mode is in use while channels 8 to 15 are disabled; an authorised halt of the system freezes the enabled
channels, and its end disables each frozen one with HALTED; one of a core alone leaves the channels (R495). -/
def Obligations.PwmChannels : Prop :=
  (∀ (s : State) (p : PwmIx) (snd : Sender) (pd : Bool), s.takesWrite snd (R.PWM_CH_CTRL p.val) →
    let bad := s.blk.bt (R.PWM_CH_ERR p.val) 2 || s.blk.bt (R.PWM_CH_ERR p.val) 6 || !s.blk.pwmRole ||
      (s.blk.sdmEn p.val && !s.blk.inputsClocked p.val) || !s.blk.pairedOk p.val pd
    (bad = true → ∃ t, exec (.pwmChannelEnable p snd pd) s = .next t ∧ s.refused t (R.PWM_CH_CTRL p.val) .state []) ∧
    (bad = false → ∃ t, exec (.pwmChannelEnable p snd pd) s = .next t ∧ s.sameRest t ∧
      s.blk.keeps t.blk [R.PWM_CH_CTRL p.val, R.PWM_CH_STAT p.val, R.PWM_COM_STAT, R.PWM_COM_ERR, R.IRQ_RAW pwmCom] ∧
      s.blk.sameHidden { t.blk with pwm := s.blk.pwm } ∧ t.blk.chEn p.val = true ∧ t.blk.bt (R.PWM_CH_CTRL p.val) 1 = pd ∧
      (∀ q, q ≠ p.val → t.blk.pw1 q = s.blk.pw1 q) ∧
      (s.blk.chEn p.val = true → t.blk.pw1 p.val = s.blk.pw1 p.val) ∧
      (s.blk.chEn p.val = false → p.val < 8 ∨ s.blk.bt R.PWM_COM_STAT 16 = false ∨ (∀ q, q < 8 → s.blk.running q = false) →
        t.blk.pw1 p.val = { s.blk.pw1 p.val with starting := true, startAt := s.blk.tb.ticks + 1 }) ∧
      (s.blk.chEn p.val = false → 8 ≤ p.val → s.blk.bt R.PWM_COM_STAT 16 = true →
        t.blk.bt R.PWM_COM_STAT 16 = false ∧ t.blk.bt R.PWM_COM_ERR 0 = true ∧
        ((∃ q, q < 8 ∧ s.blk.running q = true) → t.blk.bt (R.PWM_CH_STAT p.val) 5 = true ∧
          t.blk.pw1 p.val = { s.blk.pw1 p.val with await := (List.range 8).filter (fun q => s.blk.running q) })))) ∧
  (∀ (s : State) (p : PwmIx) (snd : Sender) (pd : Bool), s.takesWrite snd (R.PWM_CH_CTRL p.val) →
    (s.blk.pairedOk p.val pd = false →
      ∃ t, exec (.pwmChannelDisable p snd pd) s = .next t ∧ s.refused t (R.PWM_CH_CTRL p.val) .state []) ∧
    (s.blk.pairedOk p.val pd = true → ∃ t, exec (.pwmChannelDisable p snd pd) s = .next t ∧ s.sameRest t ∧
      t.blk.chEn p.val = false ∧ t.blk.bt (R.PWM_CH_CTRL p.val) 1 = pd ∧
      (s.blk.chEn p.val = false → s.blk.keeps t.blk [R.PWM_CH_CTRL p.val, R.PWM_CH_STAT p.val] ∧
        s.blk.sameHidden { t.blk with pwm := s.blk.pwm } ∧ (∀ q, q ≠ p.val → t.blk.pw1 q = s.blk.pw1 q) ∧
        t.blk.pw1 p.val = { s.blk.pw1 p.val with pendP := none, pendC := none, newer := false } ∧
        (∀ j, j < 32 → t.blk.bt (R.PWM_CH_STAT p.val) j = (j != 1 && j != 2 && s.blk.bt (R.PWM_CH_STAT p.val) j))) ∧
      (s.blk.chEn p.val = true → t.blk.running p.val = false ∧ t.blk.rdN (R.PWM_CH_CNT p.val) = 0 ∧
        (t.blk.pw1 p.val).pendC = none ∧ (t.blk.pw1 p.val).pendP = none ∧
        (s.blk.running p.val = true → ∀ l, l < 3 → (t.blk.pw1 p.val).gates.getD (2 * l) {} = {}) ∧
        (s.blk.running p.val = false → (t.blk.pw1 p.val).gates = (s.blk.pw1 p.val).gates) ∧
        s.blk.sameHidden { t.blk with pwm := s.blk.pwm }))) ∧
  (∀ (s : State) (p : PwmIx) (snd : Sender) (v : Word), s.takesWrite snd (R.PWM_CH_CMP_W p.val) →
    (s.blk.chSrc p.val ≠ 0 →
      ∃ t, exec (.pwmCompareWrite p snd v) s = .next t ∧ s.refused t (R.PWM_CH_CMP_W p.val) .state []) ∧
    (s.blk.chSrc p.val = 0 → ∃ t, exec (.pwmCompareWrite p snd v) s = .next t ∧ s.sameRest t ∧
      s.blk.keeps t.blk [R.PWM_CH_CMP_W p.val, R.PWM_CH_STAT p.val] ∧ s.blk.sameHidden { t.blk with pwm := s.blk.pwm } ∧
      t.blk.rd (R.PWM_CH_CMP_W p.val) = v &&& 0x1FFFFF ∧ t.blk.bt (R.PWM_CH_STAT p.val) 2 = true ∧
      (∀ q, q ≠ p.val → t.blk.pw1 q = s.blk.pw1 q) ∧
      t.blk.pw1 p.val = { s.blk.pw1 p.val with
        newer := true
        pendC := some [(s.blk.fl (R.PWM_CH_CMP_U p.val) 0 16, s.blk.fl (R.PWM_CH_CMP_U p.val) 16 5),
          (s.blk.fl (R.PWM_CH_CMP_V p.val) 0 16, s.blk.fl (R.PWM_CH_CMP_V p.val) 16 5), (fld v 0 16, fld v 16 5)] })) ∧
  (∀ (s : State) (p : PwmIx) (snd : Sender) (v : Word), s.takesWrite snd (R.PWM_CH_PERIOD p.val) →
    (s.blk.chLock p.val = true →
      ∃ t, exec (.pwmPeriodWrite p snd v) s = .next t ∧ s.refused t (R.PWM_CH_PERIOD p.val) .state []) ∧
    (s.blk.chLock p.val = false → fld v 0 16 < 2000 →
      ∃ t, exec (.pwmPeriodWrite p snd v) s = .next t ∧ s.refused t (R.PWM_CH_PERIOD p.val) .range []) ∧
    (s.blk.chLock p.val = false → 2000 ≤ fld v 0 16 → ∃ t, exec (.pwmPeriodWrite p snd v) s = .next t ∧ s.sameRest t ∧
      s.blk.keeps t.blk [R.PWM_CH_PERIOD p.val, R.PWM_CH_STAT p.val] ∧ s.blk.sameHidden { t.blk with pwm := s.blk.pwm } ∧
      t.blk.rdN (R.PWM_CH_PERIOD p.val) = fld v 0 16 ∧ t.blk.bt (R.PWM_CH_STAT p.val) 1 = true ∧
      (∀ q, q ≠ p.val → t.blk.pw1 q = s.blk.pw1 q) ∧
      t.blk.pw1 p.val = { s.blk.pw1 p.val with pendP := some (fld v 0 16), newer := false })) ∧
  (∀ (s : State) (p : PwmIx), s.blk.off = false → s.blk.ticksToReload p.val = none → exec (.pwmReload p) s = .next s) ∧
  (∀ (s : State) (p : PwmIx) (n : Nat), s.blk.off = false → s.blk.ticksToReload p.val = some n →
    ∃ t, exec (.pwmReload p) s = .next t ∧ s.sameRest t ∧
      t.blk.tb.dt = s.deckAfter n ∧
      t.blk.running p.val = true ∧ (t.blk.pw1 p.val).cnt = 0 ∧ (t.blk.pw1 p.val).starting = false ∧
      (∀ m, s.blk.bt (R.PWM_CH_CTRL p.val) 1 = false → (s.blk.pw1 p.val).pendP = some m →
        t.blk.perAct p.val = m % 65536 ∧ (t.blk.pw1 p.val).pendP = none)) ∧
  (∀ (s : State) (p : PwmIx) (l : Fin 3) (high : Bool) (sn : Option Nat), s.blk.off = false →
    8 ≤ p.val ∨ s.blk.running p.val = false ∨ s.blk.bt (R.PWM_CH_STAT p.val) 3 = false ∨
      s.blk.legUsed p.val l.val = false ∨ s.blk.hasEdge p.val l.val high = false →
    exec (.switchNodeEdge p l high sn) s = .next s) ∧
  (∀ (s : State) (p : PwmIx) (l : Fin 3) (high : Bool) (sn : Option Nat), s.blk.off = false → p.val < 8 →
    s.blk.running p.val = true → s.blk.bt (R.PWM_CH_STAT p.val) 3 = true → s.blk.legUsed p.val l.val = true →
    s.blk.hasEdge p.val l.val high = true →
    let x := s.blk.pw1 p.val
    let d := adaptDt ((if high = true then x.dth else x.dtl).getD l.val 0) (s.blk.fl R.PWM_ADT_TGT 0 11)
      (s.blk.fl R.PWM_ADT_TGT 16 4) (s.blk.fl R.PWM_ADT_LIM 0 10) (s.blk.fl R.PWM_ADT_LIM 16 10) sn
    (d = none → ∃ t, exec (.switchNodeEdge p l high sn) s = .next t ∧ s.onlyRegs t [R.PWM_CH_ADT_MISS p.val] ∧
      t.blk.fl (R.PWM_CH_ADT_MISS p.val) 0 16 = satAdd (s.blk.fl (R.PWM_CH_ADT_MISS p.val) 0 16) 1 0xFFFF) ∧
    (∀ y, d = some y → ∃ t, exec (.switchNodeEdge p l high sn) s = .next t ∧ s.sameRest t ∧
      s.blk.keeps t.blk [R.PWM_CH_ADT_U p.val + 4 * l.val] ∧ s.blk.sameHidden { t.blk with pwm := s.blk.pwm } ∧
      (∀ q, q ≠ p.val → t.blk.pw1 q = s.blk.pw1 q) ∧
      t.blk.pw1 p.val = (if high = true then { x with dth := x.dth.set l.val y } else { x with dtl := x.dtl.set l.val y }))) ∧
  (∀ (s : State) (snd : Sender) (ad : Bool), s.takesWrite snd R.PWM_COM_CFG →
    ∃ t, exec (.deadTimeModeWrite snd ad) s = .next t ∧
      s.onlyRegs t (R.PWM_COM_CFG :: R.PWM_COM_STAT :: (List.range 8).map R.PWM_CH_STAT) ∧
      (∀ j, j < 32 → t.blk.bt R.PWM_COM_CFG j = if j = 2 then ad else s.blk.bt R.PWM_COM_CFG j) ∧
      t.blk.bt R.PWM_COM_STAT 16 = (ad && (List.range 8).all (fun i => !s.blk.chEn (8 + i)))) ∧
  (∀ (s : State) (core : Option (Fin 8)), s.blk.off = false → s.blk.bt R.DBG_AUTH_STAT 0 = false ∨
    s.blk.bt R.DBG_AUTH_STAT (if core.isSome = true then 2 else 1) = false → exec (.debugHaltStart core) s = .next s) ∧
  (∀ (s : State) (h : Fin 8), s.blk.off = false → s.blk.bt R.DBG_AUTH_STAT 0 = true → s.blk.bt R.DBG_AUTH_STAT 2 = true →
    exec (.debugHaltStart (some h)) s = .next { s with blk := { s.blk with sec := { s.blk.sec with
      halted := h.val :: s.blk.sec.halted.filter (· != h.val) } } }) ∧
  (∀ (s : State) (h : Fin 8), s.blk.off = false →
    exec (.debugHaltEnd (some h)) s = .next { s with blk := { s.blk with sec := { s.blk.sec with
      halted := s.blk.sec.halted.filter (· != h.val) } } }) ∧
  (∀ (s : State), s.blk.off = false → s.blk.bt R.DBG_AUTH_STAT 0 = true → s.blk.bt R.DBG_AUTH_STAT 1 = true →
    ∃ t, exec (.debugHaltStart none) s = .next t ∧
      s.onlyRegs t (R.PWM_COM_STAT :: R.PWM_COM_ERR :: R.IRQ_RAW pwmCom :: (List.range 16).map R.PWM_CH_STAT) ∧
      (∀ p, p < 16 → t.blk.frozen p = (s.blk.chEn p || s.blk.frozen p)) ∧
      t.blk.bt R.PWM_COM_STAT 17 = true ∧ t.blk.bt R.PWM_COM_ERR 1 = true) ∧
  (∀ (s : State), s.blk.off = false → s.blk.bt R.PWM_COM_STAT 17 = false → exec (.debugHaltEnd none) s = .next s) ∧
  (∀ (s : State), s.blk.off = false → s.blk.bt R.PWM_COM_STAT 17 = true →
    ∃ t, exec (.debugHaltEnd none) s = .next t ∧ s.sameRest t ∧ t.blk.bt R.PWM_COM_STAT 17 = false ∧
      (∀ p, p < 16 → s.blk.frozen p = true →
        t.blk.chEn p = false ∧ t.blk.running p = false ∧ t.blk.bt (R.PWM_CH_ERR p) 4 = true))

/-- Sigma-delta sensing (R225 to R227, R261 to R266): at the end of a window of a running channel the three inputs hold the
sinc³ sums of the bits sampled up to SE and the scaled currents, and a stuck one stops the channel, frozen or not; a finished
current loop makes its duties pending where SRC names it, and sets CUR_LATE where the reload comes; an overcurrent trip stops
the channels of the input; the Safety Island records a trip and a stuck modulator of a carrel (R13, R339); SDM_CLK is refused with reason RANGE below 10 and with
reason STATE while a running channel uses it. -/
def Obligations.CurrentSensing : Prop :=
  (∀ (s : State) (p : PwmIx) (u v w : List Bool), s.blk.off = false →
    s.blk.running p.val = false ∨ (s.blk.frozen p.val = true ∧ s.blk.sdmEn p.val = false) ∨
      (s.blk.frozen p.val = false ∧ s.blk.ticksToSe p.val = none) → exec (.sampleWindowEnd p u v w) s = .next s) ∧
  (∀ (s : State) (p : PwmIx) (u v w : List Bool) (m : Nat), s.blk.off = false → s.blk.running p.val = true →
    (if s.blk.frozen p.val = true then some 0 else s.blk.ticksToSe p.val) = some m → s.blk.sdmEn p.val = true →
    s.blk.pageEn sdmPage = true → s.blk.fl (R.PWM_CH_SDM p.val) 0 6 ≤ 45 →
    ∃ t, exec (.sampleWindowEnd p u v w) s = .next t ∧ t.nv = s.nv ∧ t.mem = s.mem ∧ t.pending = s.pending ∧
      t.isl = { s.isl with noted := t.isl.noted } ∧ (s.isl.held = true → t.isl = s.isl) ∧
      t.blk.tb.dt = s.deckAfter m ∧
      (∀ (k : Nat) (levels : List Bool), (k, levels) ∈ [(0, u), (1, v), (2, w)] →
        let i := s.blk.fl (R.PWM_CH_SDM p.val) 0 6 + k
        let n := s.blk.fl (R.SDM_IN_CFG i) 8 9
        let bits := ({ s.blk with tb := { s.blk.tb with dt := s.deckAfter m } } : Block).sddBits i levels
        t.blk.rd (R.SDM_IN_RAW i) = BitVec.ofInt 32 (sinc3 n bits) ∧
        t.blk.rd (R.SDM_IN_VAL i) = BitVec.ofInt 32 (scale (sinc3 n bits) n (s.blk.rdI (R.SDM_IN_OFS i))
          (s.blk.rdI (R.SDM_IN_GAIN i)) (s.blk.fl (R.SDM_IN_SH i) 0 6)) ∧
        (sinc3 n bits = 0 ∨ sinc3 n bits = (n * n * n : Nat) → t.blk.bt (R.SDM_IN_STAT i) 0 = true ∧
          t.blk.chEn p.val = false ∧ t.blk.running p.val = false ∧ t.blk.bt (R.PWM_CH_ERR p.val) 6 = true ∧
          (s.isl.held = false → s.blk.bt (R.PWM_CH_ERR p.val) 6 = false → ∀ c ∈ s.blk.cfg.cars, s.blk.carLocal c = true →
            s.blk.fl (R.CAR_BIND c) 2 4 = p.val → nbit (sget (fun _ => 0) t.isl.noted c) 1 = true)))) ∧
  (∀ (s : State) (p : PwmIx) (wait : Fin 25), s.blk.off = false →
    (∀ c ∈ s.blk.loopCars p.val, (s.blk.lp c).place = 0 ∨ (s.blk.lp c).armed = true) →
    exec (.currentLoopDone p wait) s = .next s) ∧
  (∀ (s : State) (p : PwmIx) (wait : Fin 25) (c : Nat), s.blk.off = false →
    (s.blk.loopCars p.val).find? (fun c => (s.blk.lp c).place != 0 && !(s.blk.lp c).armed) = some c →
    (s.blk.lp c).missed = false →
    ∃ t, exec (.currentLoopDone p wait) s = .next t ∧ s.sameRest t ∧
      (s.blk.frozen p.val = true ∨ s.blk.ticksToReload p.val ≠ some 0 → (t.blk.lp c).armed = true) ∧
      (s.blk.running p.val = true → s.blk.frozen p.val = false → s.blk.ticksToReload p.val ≠ some 0 → s.blk.chSrc p.val = 1 →
        (t.blk.pw1 p.val).newer = true ∧
        (t.blk.pw1 p.val).pendC.map List.length = some 3 ∧ t.blk.bt (R.PWM_CH_STAT p.val) 2 = true) ∧
      (s.blk.chSrc p.val ≠ 1 ∨ s.blk.running p.val = false ∨ s.blk.frozen p.val = true → t.blk.pwm = s.blk.pwm) ∧
      (s.blk.frozen p.val = false → s.blk.ticksToReload p.val = some 0 → (t.blk.lp c).place = 0 ∧
        t.blk.bt (R.LE_ERR c) 1 = true ∧ t.blk.pwm = s.blk.pwm)) ∧
  (∀ (s : State) (p : PwmIx) (wait : Fin 25) (c : Nat), s.blk.off = false →
    (s.blk.loopCars p.val).find? (fun c => (s.blk.lp c).place != 0 && !(s.blk.lp c).armed) = some c →
    (s.blk.lp c).missed = true →
    ∃ t, exec (.currentLoopDone p wait) s = .next t ∧ s.sameRest t ∧ (t.blk.lp c).place = 0 ∧
      (t.blk.lp c).missed = false ∧ t.blk.pwm = s.blk.pwm) ∧
  (∀ (s : State) (i : Fin 48) (ones : Nat), s.blk.off = false →
    let oc := s.blk.rd (R.SDM_IN_OC i.val)
    let trips := oc.getLsbD 24 = true ∧ s.blk.bt (R.SDM_CLK (s.blk.fl (R.SDM_IN_CFG i.val) 0 3)) 8 = true ∧
      ones ≤ fld oc 0 6 ∧ ¬ (fld oc 16 6 < ones ∧ ones < fld oc 8 6)
    (¬ trips → exec (.overcurrentTrip i ones) s = .next s) ∧
    (trips → ∃ t, exec (.overcurrentTrip i ones) s = .next t ∧ t.nv = s.nv ∧ t.mem = s.mem ∧ t.pending = s.pending ∧
      t.isl = { s.isl with noted := t.isl.noted } ∧ (s.isl.held = true → t.isl = s.isl) ∧
      t.blk.bt (R.SDM_IN_STAT i.val) 1 = true ∧ t.blk.bt (R.IRQ_RAW sdmPage) 1 = true ∧
      (∀ p, p < 16 → s.blk.sdmEn p = true → s.blk.fl (R.PWM_CH_SDM p) 0 6 ≤ i.val →
        i.val < s.blk.fl (R.PWM_CH_SDM p) 0 6 + (if s.blk.bt (R.PWM_CH_SDM p) 7 = true then 3 else 2) →
        t.blk.chEn p = false ∧ t.blk.running p = false ∧ t.blk.bt (R.PWM_CH_ERR p) 2 = true ∧
        (s.isl.held = false → s.blk.bt (R.PWM_CH_ERR p) 2 = false → ∀ c ∈ s.blk.cfg.cars, s.blk.carLocal c = true →
          s.blk.fl (R.CAR_BIND c) 2 4 = p → nbit (sget (fun _ => 0) t.isl.noted c) 0 = true)))) ∧
  (∀ (s : State) (j : Fin 8) (snd : Sender) (v : Word), s.takesWrite snd (R.SDM_CLK j.val) →
    (fld v 0 6 < 10 → ∃ t, exec (.sdmClockWrite j snd v) s = .next t ∧ s.refused t (R.SDM_CLK j.val) .range []) ∧
    (10 ≤ fld v 0 6 → s.blk.clockUsed j.val = true →
      ∃ t, exec (.sdmClockWrite j snd v) s = .next t ∧ s.refused t (R.SDM_CLK j.val) .state []) ∧
    (10 ≤ fld v 0 6 → s.blk.clockUsed j.val = false → ∃ t, exec (.sdmClockWrite j snd v) s = .next t ∧
      s.sameRest t ∧ s.blk.keeps t.blk [R.SDM_CLK j.val] ∧ s.blk.sameHidden { t.blk with pins := s.blk.pins } ∧
      t.blk.pins = { s.blk.pins with sdc := sset (fun _ => 0) s.blk.pins.sdc j.val (s.blk.tb.ticks + 1) } ∧
      t.blk.rd (R.SDM_CLK j.val) = v &&& 0x13F))

/-- Commands of the VMF (R141, R146, R150, R153): the write of NAV_T_HI commits the record; RUN sets its bit, disabling clears
every estimate and the state, REALIGN of a running estimator returns it to ALIGN, and neither is taken while a frame is in
use by a moving machine; a query holds its clamped time, another during it is refused with reason STATE; a machine's frame
request is refused with reason RANGE for code 3 and with reason STATE for a frame that is not available. A clearing that ends
WAVE_OK sets WAVE_DEGRADED (R149).
What the VMF ends (R144, R146, R148, R150): an update counts, posts event 0x0CA and leaves its epoch in the record VL and
the inputs used up, the position of V in L 0 (R136), and the IMUs it used in both status words; a wave fit counts and leaves a
component of each of at most sixteen peaks; a query leaves the pose formed at its time in the record PRED with its time and
flags. With nothing in progress nothing happens. Where an end or a clearing leaves the lanes to the double-precision jobs, the
head of their queue starts (R212). -/
def Obligations.VesselMotion : Prop :=
  (∀ (s : State) (snd : Sender) (v : Word), s.takesWrite snd R.VMF_NAV_T_HI →
    ∃ t, exec (.navRecordCommit snd v) s = .next t ∧ s.sameRest t ∧
      s.blk.keeps t.blk ([R.VMF_NAV_T_LO, R.VMF_NAV_T_HI] ++ directOf vmfPage) ∧
      s.blk.sameHidden { t.blk with vmf := s.blk.vmf } ∧
      t.blk.rd R.VMF_NAV_T_LO = s.blk.stagedLo R.VMF_NAV_T_LO ∧ t.blk.rd R.VMF_NAV_T_HI = v ∧
      t.blk.vmf = { s.blk.vmf with navNew := some {
        time := (s.blk.stagedLo R.VMF_NAV_T_LO).toNat + 2 ^ 32 * v.toNat
        valid := s.blk.fl R.VMF_NAV_VALID 0 3
        pos := [s.blk.rdI R.VMF_NAV_PN, s.blk.rdI R.VMF_NAV_PE, s.blk.rdI R.VMF_NAV_PD]
        hdg := s.blk.rdI R.VMF_NAV_HDG
        vel := [s.blk.rdI R.VMF_NAV_VN, s.blk.rdI R.VMF_NAV_VE]
        sig := s.blk.rd R.VMF_NAV_SIG } }) ∧
  (∀ (s : State) (snd : Sender) (v : Word), s.takesWrite snd R.VMF_CTRL → v.getLsbD 3 = false →
    ∃ t, exec (.vmfRunEnable snd v) s = .next t ∧ s.onlyRegs t (R.VMF_CTRL :: directOf vmfPage) ∧
      t.blk.rd R.VMF_CTRL = (v ||| 1) &&& 0x3FF7) ∧
  (∀ (s : State) (snd : Sender) (v : Word), s.takesWrite snd R.VMF_CTRL →
    (s.blk.frameInUse = true → v.getLsbD 3 = true ∨ s.blk.bt R.VMF_CTRL 0 = true →
      ∃ t, exec (.vmfRunDisable snd v) s = .next t ∧ s.refused t R.VMF_CTRL .state (directOf vmfPage)) ∧
    (s.blk.frameInUse = false → s.blk.bt R.VMF_CTRL 0 = true → ∃ t, exec (.vmfRunDisable snd v) s = .next t ∧ s.handsLanes t ∧
      t.blk.rd R.VMF_CTRL = v &&& 0x3FF6 ∧ t.blk.rdN R.VMF_STAT = 0 ∧ t.blk.fl R.VMF_WAVE_STAT 0 5 = 0 ∧
      t.blk.vmf.busy = none ∧ t.blk.vmf.posT = none ∧ t.blk.vmf.est = none ∧ t.blk.vmf.tgt = [] ∧ t.blk.vmf.comps = [] ∧
      t.blk.vmf.ring = [] ∧
      (s.blk.bt R.VMF_STAT 20 = true → t.blk.bt R.VMF_ERR 8 = true) ∧ (∀ i, i < 96 → t.blk.rdN (R.Record_VL i) = 0)) ∧
    (s.blk.bt R.VMF_CTRL 0 = false → v.getLsbD 3 = false → ∃ t, exec (.vmfRunDisable snd v) s = .next t ∧
      s.onlyRegs t (R.VMF_CTRL :: directOf vmfPage) ∧ t.blk.rd R.VMF_CTRL = v &&& 0x3FF6)) ∧
  (∀ (s : State) (snd : Sender) (v : Word), s.takesWrite snd R.VMF_CTRL →
    (s.blk.frameInUse = true →
      ∃ t, exec (.vmfRealign snd v) s = .next t ∧ s.refused t R.VMF_CTRL .state (directOf vmfPage)) ∧
    (s.blk.frameInUse = false → v.getLsbD 0 = true → s.blk.vmfSt = 2 ∨ s.blk.vmfSt = 3 ∨ s.blk.vmfSt = 4 →
      ∃ t, exec (.vmfRealign snd v) s = .next t ∧ s.handsLanes t ∧ t.blk.rd R.VMF_CTRL = v &&& 0x3FF7 ∧
        t.blk.rdN R.VMF_STAT = 1 ∧ t.blk.vmf.alignCnt = 0 ∧ t.blk.vmf.est = none ∧ t.blk.vmf.ring = [] ∧
        (∀ i, i < 96 → t.blk.rdN (R.Record_VL i) = 0))) ∧
  (∀ (s : State) (snd : Sender) (v : Word), s.takesWrite snd R.VMF_PRED_T_HI →
    let q := (s.blk.stagedLo R.VMF_PRED_T_LO).toNat + 2 ^ 32 * v.toNat
    (s.blk.bt R.VMF_PRED_STAT 0 = true →
      ∃ t, exec (.predictionQuery snd v) s = .next t ∧ s.refused t R.VMF_PRED_T_HI .state (directOf vmfPage)) ∧
    (s.blk.bt R.VMF_PRED_STAT 0 = false → ∃ t, exec (.predictionQuery snd v) s = .next t ∧ s.sameRest t ∧
      s.blk.keeps t.blk ([R.VMF_PRED_T_LO, R.VMF_PRED_T_HI, R.VMF_PRED_STAT] ++ directOf vmfPage) ∧
      s.blk.sameHidden { t.blk with vmf := s.blk.vmf } ∧ t.blk.rdN R.VMF_PRED_STAT = 1 ∧
      t.blk.vmf.predT = max s.blk.vmf.epoch (min q (s.blk.vmf.epoch + s.blk.horizon)) ∧
      t.blk.vmf.predClamp = decide (t.blk.vmf.predT ≠ q) ∧ (s.blk.vmf.est = none → t.blk.vmf.predRes = []) ∧
      (s.blk.vmf.est ≠ none → s.blk.fl R.VMF_PRED_SEL 0 3 < 4 → t.blk.vmf.predRes =
        (poseWords (s.blk.predSel (s.blk.fl R.VMF_PRED_SEL 0 3) t.blk.vmf.predT)).map Prod.fst))) ∧
  (∀ (s : State) (m : PathIx) (snd : Sender) (v : Word), s.takesWrite snd (R.VMF_MFRAME m.val) →
    let f := fld v 0 3
    (f = 3 → ∃ t, exec (.machineFrameRequest m snd v) s = .next t ∧
      s.refused t (R.VMF_MFRAME m.val) .range (directOf vmfPage)) ∧
    (f ≠ 3 → f ≠ 0 → s.blk.frameCode f = 0 ∨ s.blk.frameEnabled f = false →
      ∃ t, exec (.machineFrameRequest m snd v) s = .next t ∧ s.refused t (R.VMF_MFRAME m.val) .state (directOf vmfPage)) ∧
    (f = 0 ∨ (f ≠ 3 ∧ s.blk.frameCode f ≠ 0 ∧ s.blk.frameEnabled f = true) →
      ∃ t, exec (.machineFrameRequest m snd v) s = .next t ∧ s.onlyRegs t (R.VMF_MFRAME m.val :: directOf vmfPage) ∧
        t.blk.fl (R.VMF_MFRAME m.val) 0 3 = f ∧ t.blk.bt (R.VMF_MFRAME m.val) 7 = true ∧
        t.blk.machFrame m.val = s.blk.machFrame m.val)) ∧
  (∀ (s : State), s.blk.off = false → s.blk.vmf.busy = none → exec .vmfUpdateDone s = .next s) ∧
  (∀ (s : State) (u : Nat), s.blk.off = false → s.blk.vmf.busy = some u →
    ∃ t, exec .vmfUpdateDone s = .next t ∧ s.handsLanes t ∧ t.blk.vmf.busy = none ∧ t.blk.vmf.epoch = s.blk.vmf.epochUse ∧
      t.blk.vmf.imuUse = [] ∧ t.blk.vmf.tgtUse = [] ∧ t.blk.vmf.navUse = none ∧
      t.blk.rd64 (R.Record_VL 14) = s.blk.vmf.epochUse % 2 ^ 64 ∧ (∀ k, k < 3 → t.blk.rdN (R.Record_VL k) = 0) ∧
      (∀ i, i < 4 → t.blk.bt (R.VMF_IMU_STAT i) 8 = t.blk.bt R.VMF_STAT (15 + i)) ∧
      t.blk.rd R.VMF_UPD_CNT = s.blk.rd R.VMF_UPD_CNT + 1#32 ∧ t.blk.evPending 0x0CA) ∧
  (∀ (s : State), s.blk.off = false → s.blk.vmf.fitBusy = false → exec .waveFitDone s = .next s) ∧
  (∀ (s : State), s.blk.off = false → s.blk.vmf.fitBusy = true →
    ∃ t, exec .waveFitDone s = .next t ∧ s.handsLanes t ∧
      t.blk.vmf = { s.blk.vmf with fitBusy := false, comps := t.blk.vmf.comps, waveT := s.blk.vmf.epoch } ∧
      t.blk.vmf.comps.map WaveComp.w = s.blk.vmf.waveW.take 16 ∧
      t.blk.fl R.VMF_WAVE_STAT 0 5 = min 16 s.blk.vmf.waveW.length ∧
      t.blk.rd R.VMF_FIT_CNT = s.blk.rd R.VMF_FIT_CNT + 1#32 ∧
      s.blk.keeps t.blk (R.SOLV_STAT :: R.SOLV_DPJ_STAT :: R.VMF_WAVE_STAT :: R.VMF_FIT_CNT :: R.VMF_ERR :: R.IRQ_RAW vmfPage ::
        (List.range 64).map R.VMF_WAVE)) ∧
  (∀ (s : State), s.blk.off = false → s.blk.bt R.VMF_PRED_STAT 0 = false → exec .predictionQueryDone s = .next s) ∧
  (∀ (s : State), s.blk.off = false → s.blk.bt R.VMF_PRED_STAT 0 = true →
    ∃ t, exec .predictionQueryDone s = .next t ∧ s.sameRest t ∧
      s.blk.keeps t.blk (R.VMF_PRED_STAT :: R.VMF_ERR :: R.IRQ_RAW vmfPage :: (List.range 16).map R.Record_PRED) ∧
      (s.blk.vmf.predSat = true → t.blk.bt R.VMF_ERR 12 = true) ∧
      t.blk.rdN R.VMF_PRED_STAT = (if s.blk.vmf.predClamp = true then 6 else 2) ∧
      t.blk.rd64 (R.Record_PRED 14) = s.blk.vmf.predT % 2 ^ 64 ∧
      (∀ k, k < 13 → t.blk.rd (R.Record_PRED k) = BitVec.ofInt 32 (s.blk.vmf.predRes.getD k 0)))

/-- The batch of a pass (R193, R194, R201, R202, R208, R211, R315): the end of the forward kinematics hands the link frames
over, starts a batch that waits for it, or an allocation that waits for both (R194), and, with the monitor on, the pass of monitor A; the end of the batch hands its set-points on, posts
event 0x0C8, and stores only in the warm-start records of the machines; the end of the allocation leaves at most eight
iterations and posts event 0x0C9; TA_COMMIT copies demand and gains.
Variants, double-precision jobs and errors of the Solver (R197, R213, R217, R218): a variant request beyond the machine's
variants is refused with reason RANGE; a job outside the job area is refused with reason RANGE, with the lanes off or a full
queue with reason STATE, else its STATUS reads queued or, on idle lanes, running; the end of a job counts, posts event 0x0CB
and stores its result, that of R214 or R215, where it did well, with its STATUS, and waits while the VMF has the lanes (R212); an uncorrectable error in a machine record stops the joints of
that machine, one in a warm-start record makes its next batch start cold, and is offered to the Event Archive. -/
def Obligations.SolverPasses : Prop :=
  (∀ (s : State) (clk : Nat), s.blk.off = false → s.blk.solv.fk = none → exec (.solverFkDone clk) s = .next s) ∧
  (∀ (s : State) (clk n : Nat), s.blk.off = false → s.blk.solv.fk = some n →
    ∃ t, exec (.solverFkDone clk) s = .next t ∧ s.sameRest t ∧
      s.blk.keeps t.blk [R.SOLV_STAT, R.SSM_STAT, R.SOLV_PASS_CLK, R.SOLV_PASS_MAX, R.SOLV_ERR, R.SOLV_PIVOT_INFO, R.SOLV_OVF_INFO,
        R.SOLV_RANGE_INFO, R.IRQ_RAW solvPage] ∧
      t.blk.bt R.SOLV_STAT 0 = false ∧ t.blk.fl R.SOLV_PASS_CLK 0 16 = min clk 65535 ∧
      t.blk.solv = { s.blk.solv with
        fk := none, links := s.blk.cfg.machs.map (fun m => (m.1, (s.blk.linkFrames m.1 m.2).1)), warm := t.blk.solv.warm } ∧
      (s.blk.solv.ikRun = some n → t.blk.solv.warm = s.blk.cfg.machs.filterMap (fun m =>
        (warmRead s.mem (warmAddr m.1) m.2.joints.length (s.blk.variant m.1 m.2).sig).map (fun q => (m.1, q)))) ∧
      (s.blk.solv.ikRun ≠ some n → t.blk.solv.warm = s.blk.solv.warm) ∧
      (s.blk.solv.ikRun = some n → t.blk.bt R.SOLV_STAT 1 = true) ∧
      (s.blk.solv.ikRun = none → s.blk.solv.taRun ≠ none → t.blk.bt R.SOLV_STAT 2 = true) ∧
      (s.blk.bt R.SSM_STAT 0 = true → t.blk.ssmA = { s.blk.ssmA with busy := some n } ∧ t.blk.bt R.SSM_STAT 1 = true) ∧
      (s.blk.bt R.SSM_STAT 0 = false → t.blk.ssmA = s.blk.ssmA)) ∧
  (∀ (s : State) (clk : Nat), s.blk.off = false → s.blk.solv.ikRun = none ∨ s.blk.solv.fk ≠ none →
    exec (.ikBatchDone clk) s = .next s) ∧
  (∀ (s : State) (clk n : Nat), s.blk.off = false → s.blk.solv.ikRun = some n → s.blk.solv.fk = none →
    ∃ t, exec (.ikBatchDone clk) s = .next t ∧ t.isl = s.isl ∧ t.nv = s.nv ∧ t.pending = s.pending ∧
      t.blk.solv.ikRun = none ∧ t.blk.solv.ikFor = some n ∧ t.blk.solv.warm = [] ∧ t.blk.bt R.SOLV_STAT 1 = false ∧
      (s.blk.solv.taRun ≠ none → t.blk.bt R.SOLV_STAT 2 = true) ∧ t.blk.fl R.SOLV_PASS_CLK 0 16 = min clk 65535 ∧ t.blk.evPending 0x0C8 ∧
      (∀ x, (∀ m ∈ s.blk.cfg.machs, x < warmAddr m.1 ∨ warmAddr m.1 + 8 + 4 * m.2.joints.length ≤ x) →
        mrd t.mem x = mrd s.mem x)) ∧
  (∀ (s : State) (clk : Nat), s.blk.off = false → s.blk.solv.taRun = none ∨ s.blk.bt R.SOLV_STAT 2 = false →
    exec (.thrustAllocationDone clk) s = .next s) ∧
  (∀ (s : State) (clk n : Nat), s.blk.off = false → s.blk.solv.taRun = some n → s.blk.bt R.SOLV_STAT 2 = true →
    ∃ t, exec (.thrustAllocationDone clk) s = .next t ∧ s.sameRest t ∧ t.blk.solv.taRun = none ∧
      t.blk.solv.taFor = some n ∧ t.blk.bt R.SOLV_STAT 2 = false ∧ t.blk.evPending 0x0C9 ∧
      1 ≤ t.blk.fl R.TA_STAT 0 4 ∧ t.blk.fl R.TA_STAT 0 4 ≤ 8) ∧
  (∀ (s : State) (snd : Sender) (v : Word), s.takesWrite snd R.TA_COMMIT →
    (v.getLsbD 0 = true → ∃ t, exec (.taCommit snd v) s = .next t ∧ s.sameRest t ∧
      s.blk.keeps t.blk (directOf solvPage) ∧ s.blk.sameHidden { t.blk with solv := s.blk.solv } ∧
      t.blk.solv = { s.blk.solv with
        dem := (List.range 6).map (fun r => s.blk.rdI (R.TA_DEM r))
        gain := (List.range 12).map (fun i => s.blk.rdI (R.TA_GAIN i))
        committed := true }) ∧
    (v.getLsbD 0 = false → ∃ t, exec (.taCommit snd v) s = .next t ∧ s.onlyRegs t (directOf solvPage))) ∧
  (∀ (s : State) (m : PathIx) (snd : Sender) (v : Word), s.takesWrite snd (R.SOLV_M_VAR m.val) →
    (s.blk.fl (R.SOLV_M_CFG m.val) 9 2 < fld v 0 2 → ∃ t, exec (.variantRequest m snd v) s = .next t ∧
      s.refused t (R.SOLV_M_VAR m.val) .range (directOf solvPage)) ∧
    (fld v 0 2 ≤ s.blk.fl (R.SOLV_M_CFG m.val) 9 2 → ∃ t, exec (.variantRequest m snd v) s = .next t ∧
      s.onlyRegs t (R.SOLV_M_VAR m.val :: directOf solvPage) ∧ t.blk.fl (R.SOLV_M_VAR m.val) 0 2 = fld v 0 2 ∧
      t.blk.bt (R.SOLV_M_VAR m.val) 2 = true ∧ (v.getLsbD 3 = true → t.blk.bt (R.SOLV_M_VAR m.val) 3 = false))) ∧
  (∀ (s : State) (snd : Sender) (v : Word), s.takesWrite snd R.SOLV_DPJ_SUBMIT →
    let off := fld v 3 17 * 8
    let ok := 0x60000 ≤ off ∧ off < 0x100000
    (¬ ok → ∃ t, exec (.dpJobSubmit snd v) s = .next t ∧ s.refused t R.SOLV_DPJ_SUBMIT .range (directOf solvPage)) ∧
    (ok → s.blk.bt R.SOLV_CTRL 2 = false ∨ 16 ≤ s.blk.solv.jobs.length →
      ∃ t, exec (.dpJobSubmit snd v) s = .next t ∧ s.refused t R.SOLV_DPJ_SUBMIT .state (directOf solvPage)) ∧
    (ok → s.blk.bt R.SOLV_CTRL 2 = true → s.blk.solv.jobs.length < 16 →
      ∃ t, exec (.dpJobSubmit snd v) s = .next t ∧ t.isl = s.isl ∧ t.nv = s.nv ∧ t.pending = s.pending ∧
        s.blk.keeps t.blk ([R.SOLV_STAT, R.SOLV_DPJ_STAT] ++ directOf solvPage) ∧
        s.blk.sameHidden { t.blk with solv := s.blk.solv } ∧
        (s.blk.solv.job ≠ none ∨ s.blk.lanesTaken = true → t.blk.solv = { s.blk.solv with jobs := s.blk.solv.jobs ++ [off] } ∧
          wordsAt t.mem (dpAddr off + 4) [0] ∧
          ∀ x, x < dpAddr off + 4 ∨ dpAddr off + 8 ≤ x → mrd t.mem x = mrd s.mem x) ∧
        (s.blk.solv.job = none → s.blk.solv.jobs = [] → s.blk.pageEn solvPage = true → s.blk.lanesTaken = false →
          s.jobStarts t off []))) ∧
  (∀ (s : State) (reason : Fin 6) (its : Nat) (pivot : Bool) (out : List Byte), s.blk.off = false →
    (s.blk.solv.job = none ∨ s.blk.lanesTaken = true → exec (.dpJobDone reason its pivot out) s = .next s) ∧
    (∀ off, s.blk.solv.job = some off → s.blk.lanesTaken = false → s.blk.solv.jobs = [] →
      let a := dpAddr off
      let o := s.blk.dpRun reason.val its pivot s.mem a
      ∃ t, exec (.dpJobDone reason its pivot out) s = .next t ∧ t.isl = s.isl ∧ t.nv = s.nv ∧ t.pending = s.pending ∧
        t.blk.solv = { s.blk.solv with job := none } ∧
        t.blk.rd R.SOLV_DPJ_DONE_CNT = s.blk.rd R.SOLV_DPJ_DONE_CNT + 1#32 ∧ t.blk.evPending 0x0CB ∧
        wordsAt t.mem (a + 4) [(if o.reason = 0 then 2 else 3) + o.reason * 2 ^ 8 + min o.its 65535 * 2 ^ 16] ∧
        (∀ x, (x < a + 4 ∨ a + 8 ≤ x) →
          (o.reason ≠ 0 ∨ x < mrdN s.mem (a + 32) 5 ∨ mrdN s.mem (a + 32) 5 + o.out.length ≤ x) → mrd t.mem x = mrd s.mem x) ∧
        (o.reason = 0 → ∀ i, i < o.out.length → mrdN s.mem (a + 32) 5 + i < a + 4 ∨ a + 8 ≤ mrdN s.mem (a + 32) 5 + i →
          mrd t.mem (mrdN s.mem (a + 32) 5 + i) = o.out.getD i 0#8) ∧
        (o.raised = true → t.blk.bt R.SOLV_ERR 12 = true) ∧ (o.reason ≠ 0 → t.blk.bt R.SOLV_ERR 13 = true))) ∧
  (∀ (s : State) (k : Fin 3) (m : PathIx), s.blk.off = false →
    (∃ t, exec (.solverEccError k m false) s = .next t ∧ s.onlyRegs t [R.SOLV_ERR, R.IRQ_RAW solvPage] ∧
      t.blk.bt R.SOLV_ERR 14 = true) ∧
    (∃ t, exec (.solverEccError k m true) s = .next t ∧ s.sameRest t ∧
      s.blk.keeps t.blk (R.SOLV_ERR :: R.IRQ_RAW solvPage :: archiveRegs) ∧ t.blk.bt R.SOLV_ERR 15 = true ∧
      s.blk.offers t.blk 0x20 m.val 2 (t.blk.rdN R.SOLV_ERR) 0 0 ∧ (k.val = 0 → m.val ∈ t.blk.solv.bad) ∧
      (k.val = 1 → ∀ g, s.blk.cfg.machs.find? (fun x => x.1 == m.val) = some g → ∀ j ∈ g.2.joints,
        (t.blk.prf j.carrel).fault = true)))

/-- The end of a pass and the loss of a unit (R303, R304, R311, R315, R316, R319): an end without a pass changes nothing; a
pass with an uncorrectable error gives no result and is recorded; any other end hands over demands whose margins lie within
± CAP, weaker than before only once RELEASE weaker passes are complete, counts the pass, and on channel A shows the demands,
posts event 0x0CC and flags what it met. A unit found lost puts its loss action on its machines on each channel alike. -/
def Obligations.SeparationMonitor : Prop :=
  (∀ (s : State) (clk : Nat) (e : Fin 3),
    (s.blk.off = false → s.blk.ssmA.busy = none → exec (.ssmPassDoneA clk e) s = .next s) ∧
    (s.isl.ssmB.busy = none → exec (.ssmPassDoneB clk e) s = .next s)) ∧
  (∀ (s : State) (clk n : Nat), s.blk.off = false → s.blk.ssmA.busy = some n →
    ∃ t, exec (.ssmPassDoneA clk 2) s = .next t ∧ s.sameRest t ∧
      s.blk.keeps t.blk (R.SSM_STAT :: R.SSM_ERR :: R.IRQ_RAW ssmPage :: archiveRegs) ∧
      t.blk.ssmA = { s.blk.ssmA with busy := none } ∧ t.blk.bt R.SSM_STAT 1 = false ∧ t.blk.bt R.SSM_ERR 7 = true ∧
      s.blk.offers t.blk 0x22 0 2 (t.blk.rdN R.SSM_ERR) 0 0) ∧
  (∀ (s : State) (clk n : Nat) (e : Fin 3), s.blk.off = false → s.blk.ssmA.busy = some n → e ≠ 2 →
    (∀ m ∈ s.blk.cfg.safe.ssm.machs, m < 16) →
    ∃ t, exec (.ssmPassDoneA clk e) s = .next t ∧ s.sameRest t ∧
      s.blk.keeps t.blk ([R.SSM_STAT, R.SSM_ERR, R.IRQ_RAW ssmPage, R.SSM_PASS_CNT, R.SSM_PASS_CLK, R.SSM_PASS_MAX,
        R.SSM_TRACK_LO, R.SSM_TRACK_HI, R.SSM_UNIT, R.SSM_FRAME, R.SSM_DIAG_D, R.SSM_DIAG_SA, R.SSM_DIAG_SB, R.SSM_DIAG_C,
        R.SSM_DIAG_Z, R.SSM_DIAG_SV, R.SSM_DIAG_SP] ++ (List.range 16).map R.SSM_M_DEM ++
        (List.range 16).map R.SSM_M_PAIR ++ eventRegs 0x0CC) ∧
      s.blk.sameHidden { t.blk with ssmA := s.blk.ssmA } ∧
      t.blk.ssmA = { s.blk.ssmA with busy := none, done := some n, dems := t.blk.ssmA.dems } ∧
      t.blk.bt R.SSM_STAT 1 = false ∧ t.blk.bt R.SSM_STAT 2 = true ∧ t.blk.evPending 0x0CC ∧
      t.blk.rd R.SSM_PASS_CNT = s.blk.rd R.SSM_PASS_CNT + 1#32 ∧ t.blk.fl R.SSM_PASS_CLK 0 16 = min clk 0xFFFF ∧
      t.blk.fl R.SSM_UNIT 0 8 = s.blk.ssmA.lost % 256 ∧ (s.blk.ssmA.lost ≠ 0 → t.blk.bt R.SSM_ERR 1 = true) ∧
      (s.blk.ssmA.rope = true → t.blk.bt R.SSM_ERR 5 = true) ∧
      (e = 1 → t.blk.bt R.SSM_ERR 6 = true) ∧
      (∀ m ∈ s.blk.cfg.safe.ssm.machs,
        let x := sget (fun _ => ({} : MDem)) s.blk.ssmA.dems m
        let y := sget (fun _ => ({} : MDem)) t.blk.ssmA.dems m
        y.margin.natAbs ≤ s.blk.cfg.safe.ssm.cap ∧ (x.cnt + 1 < s.blk.cfg.safe.ssm.release → x.dem ≤ y.dem) ∧
        t.blk.rd (R.SSM_M_DEM m) = BitVec.ofNat 32 (demWord y))) ∧
  (∀ (s : State) (clk n : Nat), s.isl.ssmB.busy = some n →
    ∃ t, exec (.ssmPassDoneB clk 2) s = .next t ∧ t.nv = s.nv ∧ t.mem = s.mem ∧ t.pending = s.pending ∧
      t.isl = { s.isl with regs := t.isl.regs, ssmB := { s.isl.ssmB with busy := none } } ∧
      (∀ a, a ≠ R.SAFE_SSMB_ERR → t.isl.rd a = s.isl.rd a) ∧ t.isl.bt R.SAFE_SSMB_ERR 7 = true ∧
      s.blk.safeOffered t.blk 0x61 2 (t.isl.rdN R.SAFE_SSMB_ERR)) ∧
  (∀ (s : State) (clk n : Nat) (e : Fin 3), s.isl.ssmB.busy = some n → e ≠ 2 →
    ∃ t, exec (.ssmPassDoneB clk e) s = .next t ∧ t.nv = s.nv ∧ t.mem = s.mem ∧ t.pending = s.pending ∧
      t.blk = s.blk ∧
      t.isl = { s.isl with regs := t.isl.regs, ssmB := { s.isl.ssmB with
        busy := none, done := some n, dems := t.isl.ssmB.dems, cnt := (s.isl.ssmB.cnt + 1) % 2 ^ 32, clk := clk } } ∧
      (∀ a, a ≠ R.SAFE_SSMB_ERR → t.isl.rd a = s.isl.rd a) ∧ (s.isl.ssmB.lost ≠ 0 → t.isl.bt R.SAFE_SSMB_ERR 1 = true) ∧
      (s.isl.ssmB.rope = true → t.isl.bt R.SAFE_SSMB_ERR 5 = true) ∧ (e = 1 → t.isl.bt R.SAFE_SSMB_ERR 6 = true) ∧
      (∀ m ∈ s.isl.cfg.ssm.machs,
        let x := sget (fun _ => ({} : MDem)) s.isl.ssmB.dems m
        let y := sget (fun _ => ({} : MDem)) t.isl.ssmB.dems m
        y.margin.natAbs ≤ s.isl.cfg.ssm.cap ∧ (x.cnt + 1 < s.isl.cfg.ssm.release → x.dem ≤ y.dem))) ∧
  (∀ (s : State) (u : Fin 8), s.blk.held = true ∨ s.blk.bt R.SSM_STAT 0 = false ∨
      (s.blk.cfg.safe.ssm.units.find? (fun k => k.1 == u.val)) = none → exec (.perceptionUnitLost u) s = .next s) ∧
  (∀ (s : State) (u : Fin 8) (w : Nat) (k : SUnit), s.blk.off = false → s.blk.bt R.SSM_STAT 0 = true →
    s.blk.cfg.safe.ssm.units.find? (fun k => k.1 == u.val) = some (w, k) →
    let lostIn := fun (x y : Ssm) (g : SsmCfg) => nbit y.lost u.val = true ∧ y = { x with lost := y.lost, dems := y.dems } ∧
      ∀ m ∈ g.machs, (sget (fun _ => ({} : MDem)) y.dems m).dem =
        if nbit k.machs m = true then max (sget (fun _ => ({} : MDem)) x.dems m).dem k.loss
        else (sget (fun _ => ({} : MDem)) x.dems m).dem
    ∃ t, exec (.perceptionUnitLost u) s = .next t ∧ t.nv = s.nv ∧ t.mem = s.mem ∧ t.pending = s.pending ∧
      s.blk.keeps t.blk [R.SSM_UNIT, R.SSM_ERR, R.IRQ_RAW ssmPage] ∧
      s.blk.sameHidden { t.blk with ssmA := s.blk.ssmA } ∧
      (unitLost s.blk.ssmA s.blk.tb.dt u.val k = true → lostIn s.blk.ssmA t.blk.ssmA s.blk.cfg.safe.ssm ∧
        t.blk.bt R.SSM_UNIT u.val = true ∧ t.blk.bt R.SSM_ERR 1 = true) ∧
      (unitLost s.blk.ssmA s.blk.tb.dt u.val k = false → t.blk = s.blk) ∧
      (s.isl.held = false → unitLost s.isl.ssmB s.blk.tb.dt u.val k = true →
        lostIn s.isl.ssmB t.isl.ssmB s.isl.cfg.ssm ∧ t.isl.bt R.SAFE_SSMB_ERR 1 = true) ∧
      (s.isl.held = true ∨ unitLost s.isl.ssmB s.blk.tb.dt u.val k = false → t.isl = s.isl))

/-- Internal faults (R324, R340 to R342, R345): in every state a fault of any code leads to LOCKOUT with every output off and a
record ahead of all others, and in HOLD or RUN so do a failed off-pulse test of a group that is on or went off during the pulse,
a readback that differs and a contactor whose mirror contact does not follow; a passed off-pulse test counts; held in reset
none of them acts, and in START and LOCKOUT no test of an output does.
Start, lock-out and reset of the island (R83, R324, R326, R339): passed start tests lead from START to HOLD, failed ones
to LOCKOUT with code 9; a deliberate reset that keeps the pattern leads from LOCKOUT to START, any other is counted and
changes nothing else; SPORN low resets the island alone, and its release starts it in START with every output off, its role
and, with CFG_OK, the accepted safety parameters. -/
def Obligations.IslandStates : Prop :=
  (∀ (s : State), s.isl.held = false →
    let locksOut := fun (c : Instr) (code : Nat) => ∃ t, exec c s = .next t ∧ t.nv = s.nv ∧ t.mem = s.mem ∧
      t.pending = s.pending ∧ t.isl.lockedOut code ∧ s.blk.safeOffered t.blk 0x60 3 code
    (∀ k : Fin 11, locksOut (.internalFault k) k.val) ∧
    (s.isl.alive = true →
      (∀ g ch, nbit s.isl.stoOn g.val = true ∨ nbit s.isl.justOff g.val = true → locksOut (.offPulseTest g ch false) 5) ∧
      (∀ g ch, locksOut (.stoReadbackMismatch g ch) 5) ∧ (∀ n, locksOut (.contactorFeedbackTimeout n) 6))) ∧
  (∀ (s : State) (k : Fin 11), s.isl.held = true → exec (.internalFault k) s = .next s) ∧
  (∀ s : State, s.isl.alive = false →
    (∀ g ch p, exec (.offPulseTest g ch p) s = .next s) ∧ (∀ g ch, exec (.stoReadbackMismatch g ch) s = .next s) ∧
    (∀ n, exec (.contactorFeedbackTimeout n) s = .next s)) ∧
  (∀ (s : State) (g : Fin 8) (ch : Fin 2), s.isl.alive = true →
    (nbit s.isl.stoOn g.val = true ∨ nbit s.isl.justOff g.val = true → ∃ t, exec (.offPulseTest g ch true) s = .next t ∧
      t = { s with isl := { s.isl with regs := t.isl.regs, justOff := t.isl.justOff } } ∧
      (∀ a, a ≠ R.SAFE_OPT_STAT → t.isl.rd a = s.isl.rd a) ∧
      (∀ k, k < 8 → nbit t.isl.justOff k = (k != g.val && nbit s.isl.justOff k)) ∧ t.isl.rdN R.SAFE_OPT_STAT =
        g.val + ch.val * 8 + 16 + (s.isl.fl R.SAFE_OPT_STAT 16 16 + 1) % 65536 * 2 ^ 16) ∧
    (nbit s.isl.stoOn g.val = false → nbit s.isl.justOff g.val = false → ∀ p, exec (.offPulseTest g ch p) s = .next s)) ∧
  (∀ (s : State) (p : Bool), s.isl.held = true ∨ s.isl.st ≠ 0 → exec (.safeStartTestsDone p) s = .next s) ∧
  (∀ s : State, s.isl.held = false → s.isl.st = 0 →
    (∃ t, exec (.safeStartTestsDone true) s = .next t ∧ s.onlyIsl t (bothOf R.SAFE_CH_STATE) ∧ t.isl.st = 1 ∧
      ∀ ch, ch < 2 → t.isl.bt (R.SAFE_CH_STATE ch) 3 = true) ∧
    (∃ t, exec (.safeStartTestsDone false) s = .next t ∧ t.nv = s.nv ∧ t.mem = s.mem ∧ t.pending = s.pending ∧
      t.isl.lockedOut 9 ∧ s.blk.safeOffered t.blk 0x60 3 9)) ∧
  (∀ (s : State) (skew lo hi : Nat) (fault : Bool), s.isl.held = true ∨ s.isl.st ≠ 3 →
    exec (.deliberateReset skew lo hi fault) s = .next s) ∧
  (∀ (s : State) (skew lo hi : Nat) (fault : Bool), s.isl.held = false → s.isl.st = 3 →
    let good := fault = false ∧ skew ≤ 50000 ∧ 250000 ≤ lo ∧ hi ≤ 3000000
    (good → ∃ t, exec (.deliberateReset skew lo hi fault) s = .next t ∧ t = { s with isl := t.isl } ∧
      t.isl.st = 0 ∧ t.isl.stoOn = 0 ∧ t.isl.kOn = 0 ∧ t.isl.released = 0 ∧ t.isl.cfg = s.isl.cfg ∧
      (∀ j ∈ s.isl.axIds, (t.isl.ax j).func = 4 ∧ (t.isl.ax j).loaded = false) ∧
      ∀ ch, ch < 2 → t.isl.bt (R.SAFE_CH_STATE ch) 3 = false) ∧
    (¬ good → ∃ t, exec (.deliberateReset skew lo hi fault) s = .next t ∧ s.onlyIsl t [R.SAFE_RST_STAT] ∧
      t.isl.fl R.SAFE_RST_STAT 8 8 = satAdd (s.isl.fl R.SAFE_RST_STAT 8 8) 1 255)) ∧
  (∀ s : State, exec .safetyPowerOnReset s = .next { s with isl := { held := true } }) ∧
  (∀ s : State, s.isl.held = false → exec .spornRelease s = .next s) ∧
  (∀ s : State, s.isl.held = true →
    ∃ t, exec .spornRelease s = .next t ∧
      t = { s with isl := { regs := t.isl.regs, role := s.blk.role, cfg := t.isl.cfg } } ∧
      t.isl.cfg = (if s.blk.bt R.SYS_BOOT_STAT 6 = true then s.blk.cfg.safe else {}) ∧
      t.isl.st = 0 ∧ t.isl.stoOn = 0 ∧ t.isl.kOn = 0 ∧
      (∀ a, a ∉ bothOf R.SAFE_CH_STATE → a ∉ bothOf R.SAFE_CH_PSIG → t.isl.rd a = regDefault a) ∧
      ∀ ch, ch < 2 → t.isl.bt (R.SAFE_CH_STATE ch) 4 = (s.blk.role == 1 || s.blk.role == 3) ∧
        t.isl.bt (R.SAFE_CH_STATE ch) 5 = !t.isl.cfg.axes.isEmpty ∧
        t.isl.rd (R.SAFE_CH_PSIG ch) = BitVec.ofNat 32 t.isl.cfg.psig)

/-- Safe inputs, connections and axes (R280, R331, R334, R336 to R338): a filtered level is shown in its channel's register,
and a discrepancy ends once both channels demand; channels that disagree for DISC demand and set event 4; a connection
without an accepted payload for SF_TMO latches is lost with event 5; a node's cycle latch, at its tick, gives POS and channel A's
count of the axis that the interface measures, and an axis in SOS that moves goes to STO at the next tick 0 with event 1. -/
def Obligations.SafeInputs : Prop :=
  (∀ (s : State) (n : PwmIx) (chB level : Bool), s.isl.held = true → exec (.safeInputChange n chB level) s = .next s) ∧
  (∀ (s : State) (n : PwmIx) (chB level : Bool), s.isl.held = false →
    let r := if chB = true then R.SAFE_SIN_B else R.SAFE_SIN_A
    ∃ t, exec (.safeInputChange n chB level) s = .next t ∧
      t = { s with isl := { s.isl with regs := t.isl.regs, sins := t.isl.sins } } ∧
      (∀ a, a ≠ r → a ≠ R.SAFE_SIN_STATE → t.isl.rd a = s.isl.rd a) ∧
      (∀ k, k < 32 → t.isl.bt r k = if k = n.val then level else s.isl.bt r k) ∧
      (∀ k, k ≠ n.val → t.isl.sin k = s.isl.sin k) ∧
      (t.isl.demA n.val = true → t.isl.demB n.val = true → t.isl.sin n.val = { s.isl.sin n.val with disc := false } ∧
        ∀ k, k < 32 → t.isl.bt R.SAFE_SIN_STATE k = if k = 16 + n.val then false else s.isl.bt R.SAFE_SIN_STATE k) ∧
      (t.isl.demA n.val = false ∨ t.isl.demB n.val = false → t.isl.sin n.val = s.isl.sin n.val ∧
        t.isl.rd R.SAFE_SIN_STATE = s.isl.rd R.SAFE_SIN_STATE)) ∧
  (∀ (s : State) (n : PwmIx), s.isl.held = true ∨ s.isl.demA n.val = s.isl.demB n.val →
    exec (.safeInputDiscrepancy n) s = .next s) ∧
  (∀ (s : State) (n : PwmIx), s.isl.held = false → s.isl.demA n.val ≠ s.isl.demB n.val →
    ∃ t, exec (.safeInputDiscrepancy n) s = .next t ∧
      t = { s with isl := { s.isl with regs := t.isl.regs, sins := t.isl.sins } } ∧
      (∀ a, a ≠ R.SAFE_SIN_STATE → a ∉ bothOf R.SAFE_CH_EVT → t.isl.rd a = s.isl.rd a) ∧
      t.isl.sin n.val = { s.isl.sin n.val with disc := true, dem := true } ∧
      (∀ k, k ≠ n.val → t.isl.sin k = s.isl.sin k) ∧ t.isl.bt R.SAFE_SIN_STATE (16 + n.val) = true ∧
      ∀ ch, ch < 2 → t.isl.bt (R.SAFE_CH_EVT ch) 4 = true) ∧
  (∀ (s : State) (k : MbxIx) (w : Nat) (c : ConnCfg), s.isl.cfg.conns.find? (fun c => c.1 == k.val) = some (w, c) →
    (s.isl.alive = true → c.tmo ≤ (s.isl.con k.val).misses → s.isl.lost k.val = false →
      ∃ t, exec (.safetyConnectionLost k) s = .next t ∧ s.onlyIsl t (bothOf R.SAFE_CH_CONN ++ bothOf R.SAFE_CH_EVT) ∧
        ∀ ch, ch < 2 → t.isl.bt (R.SAFE_CH_CONN ch) k.val = true ∧ t.isl.bt (R.SAFE_CH_EVT ch) 5 = true) ∧
    (s.isl.alive = false ∨ (s.isl.con k.val).misses < c.tmo ∨ s.isl.lost k.val = true →
      exec (.safetyConnectionLost k) s = .next s)) ∧
  (∀ (s : State) (k : MbxIx), s.isl.cfg.conns.find? (fun c => c.1 == k.val) = none →
    exec (.safetyConnectionLost k) s = .next s) ∧
  (∀ (s : State) (f : FbIx), s.blk.off = true ∨ s.blk.role ≠ 0 ∨ s.blk.deadline (s.blk.nodeLatchTick f.val) = false →
    exec (.nodeFeedbackLatch f) s = .next s) ∧
  (∀ (s : State) (f : FbIx), s.blk.off = false → s.blk.role = 0 → s.blk.deadline (s.blk.nodeLatchTick f.val) = true →
    ∃ t, exec (.nodeFeedbackLatch f) s = .next t ∧ t.nv = s.nv ∧ t.mem = s.mem ∧ t.pending = s.pending ∧
      t.blk.tb.dt = s.deckAfter (s.blk.nodeLatchTick f.val - s.blk.tick) ∧
      t.blk.rd (R.FBK_LC_POS f.val) = (t.blk.latched0 f.val).2) ∧
  (∀ (s : State) (f : FbIx), s.blk.off = false → s.blk.role = 0 → s.blk.deadline s.blk.tick = true →
    s.blk.nodeLatchTick f.val = s.blk.tick →
    s.isl.alive = false ∨ (∀ j ∈ s.isl.axIds, (s.isl.axc j).fbA ≠ f.val) →
    ∃ t, exec (.nodeFeedbackLatch f) s = .next t ∧ s.sameRest t ∧
      s.blk.keeps t.blk [R.FBK_LC_POS f.val, R.FBK_LC_VEL f.val] ∧
      t.blk.rd (R.FBK_LC_POS f.val) = (s.blk.latched0 f.val).2 ∧
      (s.blk.carOfFb f.val = none → s.blk.sameHidden { t.blk with fb := s.blk.fb }) ∧
      (∀ c, s.blk.carOfFb f.val = some c → (t.blk.lp c).pfb = counts (t.blk.rdI (R.FBK_LC_POS f.val)) ∧
        (t.blk.lp c).vfb = t.blk.rdI (R.FBK_LC_VEL f.val) ∧ (t.blk.lp c).age = 0)) ∧
  (∀ (s : State) (f : FbIx) (j : Nat), s.blk.off = false → s.blk.role = 0 →
    s.blk.deadline (s.blk.nodeLatchTick f.val) = true → s.isl.held = false → s.isl.st = 2 → s.isl.axIds.filter (fun j => (s.isl.axc j).fbA == f.val) = [j] →
    ∃ t, exec (.nodeFeedbackLatch f) s = .next t ∧ t.nv = s.nv ∧ t.mem = s.mem ∧ t.pending = s.pending ∧
      t.isl.st = 2 ∧ t.isl.stoOn = s.isl.stoOn ∧ t.isl.kOn = s.isl.kOn ∧
      (t.isl.ax j).cntA = t.blk.rdI (R.FBK_LC_POS f.val) ∧
      (t.isl.ax j).atRest = decide ((t.isl.ax j).vel ≤ (s.isl.axc j).vrest * 65536) ∧
      (∀ i, i ≠ j → t.isl.ax i = s.isl.ax i) ∧
      ((s.isl.ax j).func = 5 → (s.isl.axc j).vrest * 65536 < (t.isl.ax j).vel ∨
          (s.isl.axc j).sosWin < ((t.isl.ax j).cntA - (s.isl.ax j).sosCount).natAbs →
        (t.isl.ax j).stoNext = true ∧ ∀ ch, ch < 2 → t.isl.bt (R.SAFE_CH_EVT ch) 1 = true))

/-- Requests of firmware to the island (R343, R344): without a message for it, or with a known code that the command does
not name, nothing happens; channels that disagree answer 0xFF, a fault during evaluation locks the island out and answers
FAULT, an unknown code BAD_REQ, and each leaves requests and outputs alone. A RELEASE is refused on a Hub and in the lifecycles
BLANK and RETURNED, for an input that still demands, for a demand that remains or came up since tick 0, for a contactor whose
mirror contact does not show it closed and for bad words, else leads to RUN with its groups released and its contactors
on; STOP, SLS_SET and SLS_CLEAR set the request of each machine or axis of the mask; CLEAR_EVENTS clears the named events. -/
def Obligations.SafeRequests : Prop :=
  (∀ (s : State) (kfb : Fin 16) (p : (Fin 3 → Instr) × Nat), p ∈ ([(fun o => .safeRelease o kfb, 1), (.safeStopRequest, 2),
      (.safeSlsSet, 3), (.safeSlsClear, 4), (.safeClearEvents, 5)] : List ((Fin 3 → Instr) × Nat)) →
    let c := reqWord s.blk s.isl 0 % 256
    let m := s.isl.cfg.mbx
    (∀ o, requestIn s.blk s.isl = false → exec (p.1 o) s = .next s) ∧
    (requestIn s.blk s.isl = true →
      (∃ t, exec (p.1 1) s = .next t ∧ s.sameRest t ∧ s.blk.acked t.blk m 8 0xFF) ∧
      (∃ t, exec (p.1 2) s = .next t ∧ t.nv = s.nv ∧ t.mem = s.mem ∧ t.pending = s.pending ∧ t.isl.lockedOut 4 ∧
        t.blk.mbxSt m = 0 ∧ t.blk.rdN (R.MBX_LAST_RC m) = 2 + 2 ^ 17) ∧
      (c = 0 ∨ 5 < c → ∃ t, exec (p.1 0) s = .next t ∧ s.sameRest t ∧ s.blk.acked t.blk m 8 5) ∧
      (1 ≤ c → c ≤ 5 → c ≠ p.2 → exec (p.1 0) s = .next s))) ∧
  (∀ (s : State) (kfb : Fin 16), requestIn s.blk s.isl = true → reqWord s.blk s.isl 0 % 256 = 1 →
    let w1 := reqWord s.blk s.isl 1
    let w2 := reqWord s.blk s.isl 2
    let barred := decide (s.blk.fl R.SEC_STAT 0 2 = 0 ∨ s.blk.fl R.SEC_STAT 0 2 = 3)
    let r := (release w1 w2 kfb.val barred s.isl).1
    let bad := 256 ≤ w1 ∨ w2 / 16 % 4096 ≠ 0
    let demands := ∃ n, n < 16 ∧ nbit (w2 / 2 ^ 16) n = true ∧ s.isl.stillDem n = true
    (bad → r = 5) ∧ (¬ bad → s.isl.role = 2 ∨ barred = true → r = 6) ∧
    (¬ bad → s.isl.role ≠ 2 → barred = false → demands → r = 3) ∧
    (¬ bad → s.isl.role ≠ 2 → barred = false → ¬ demands →
      (s.isl.newStop = true ∨ (s.isl.isDecider = true ∧ ∃ m ∈ s.isl.machIds, 2 ≤ (s.isl.mc m).mon) → r = 1) ∧
      ((∃ n, n < 4 ∧ nbit (w2 % 16) n = true ∧ nbit s.isl.kOn n = false ∧ nbit kfb.val n = false) → r = 1 ∨ r = 4)) ∧
    (r ≠ 0 → ∃ t, exec (.safeRelease 0 kfb) s = .next t ∧ s.sameRest t ∧ s.blk.acked t.blk s.isl.cfg.mbx 8 r) ∧
    (r = 0 → ∃ t, exec (.safeRelease 0 kfb) s = .next t ∧ t.nv = s.nv ∧ t.mem = s.mem ∧ t.pending = s.pending ∧
      s.blk.acked t.blk s.isl.cfg.mbx 8 0 ∧ t.isl.st = 2 ∧ t.isl.released = (s.isl.released ||| w1) % 256 ∧
      t.isl.kOn = (s.isl.kOn ||| w2 % 16) % 16 ∧ ∀ g, g < 8 → nbit s.isl.stoOn g = true → nbit t.isl.stoOn g = true)) ∧
  (∀ s : State, requestIn s.blk s.isl = true → reqWord s.blk s.isl 0 % 256 = 2 →
    let w1 := reqWord s.blk s.isl 1
    let w2 := reqWord s.blk s.isl 2
    (2 < w1 → ∃ t, exec (.safeStopRequest 0) s = .next t ∧ s.sameRest t ∧ s.blk.acked t.blk s.isl.cfg.mbx 8 5) ∧
    (w1 ≤ 2 → ∃ t, exec (.safeStopRequest 0) s = .next t ∧ t.nv = s.nv ∧ t.mem = s.mem ∧ t.pending = s.pending ∧
      s.blk.acked t.blk s.isl.cfg.mbx 8 0 ∧ t.isl.st = s.isl.st ∧ t.isl.kOn = s.isl.kOn ∧
      t.isl.newStop = true ∧
      (s.isl.isDecider = true → t.isl = { s.isl with mach := t.isl.mach, newStop := true } ∧ ∀ m ∈ s.isl.machIds, t.isl.mc m =
        if nbit w2 m = true then { s.isl.mc m with fwStop := max (s.isl.mc m).fwStop (4 - w1) } else s.isl.mc m) ∧
      (s.isl.isDecider = false → t.isl.mach = s.isl.mach ∧ ∀ j ∈ s.isl.axIds, (t.isl.ax j).fwStop =
        if nbit w2 j = true then max (s.isl.ax j).fwStop (4 - w1) else (s.isl.ax j).fwStop))) ∧
  (∀ (s : State), requestIn s.blk s.isl = true →
    let w1 := reqWord s.blk s.isl 1
    let w2 := reqWord s.blk s.isl 2
    let sets := fun (c : Instr) (v : Nat) => ∃ t, exec c s = .next t ∧ t.nv = s.nv ∧ t.mem = s.mem ∧
      t.pending = s.pending ∧ s.blk.acked t.blk s.isl.cfg.mbx 8 0 ∧ t.isl.st = s.isl.st ∧ t.isl.kOn = s.isl.kOn ∧
      (s.isl.isDecider = true → t.isl = { s.isl with mach := t.isl.mach } ∧ ∀ m ∈ s.isl.machIds, t.isl.mc m =
        if nbit w1 m = true then { s.isl.mc m with fwSls := v } else s.isl.mc m) ∧
      (s.isl.isDecider = false → t.isl.mach = s.isl.mach ∧ ∀ j ∈ s.isl.axIds, (t.isl.ax j).fwSls =
        if nbit w1 j = true then v else (s.isl.ax j).fwSls)
    (reqWord s.blk s.isl 0 % 256 = 3 → w2 ≤ 3 → sets (.safeSlsSet 0) (w2 + 1)) ∧
    (reqWord s.blk s.isl 0 % 256 = 4 → sets (.safeSlsClear 0) 0)) ∧
  (∀ s : State, requestIn s.blk s.isl = true → reqWord s.blk s.isl 0 % 256 = 3 → 3 < reqWord s.blk s.isl 2 →
    ∃ t, exec (.safeSlsSet 0) s = .next t ∧ s.sameRest t ∧ s.blk.acked t.blk s.isl.cfg.mbx 8 5) ∧
  (∀ s : State, requestIn s.blk s.isl = true → reqWord s.blk s.isl 0 % 256 = 5 →
    ∃ t, exec (.safeClearEvents 0) s = .next t ∧ t.nv = s.nv ∧ t.mem = s.mem ∧ t.pending = s.pending ∧
      s.blk.acked t.blk s.isl.cfg.mbx 8 0 ∧ t.isl = { s.isl with regs := t.isl.regs } ∧
      (∀ a, a ∉ bothOf R.SAFE_CH_EVT → t.isl.rd a = s.isl.rd a) ∧
      ∀ ch, ch < 2 → t.isl.rd (R.SAFE_CH_EVT ch) = s.isl.rd (R.SAFE_CH_EVT ch) &&& ~~~(s.blk.rd (R.MBX_DATA s.isl.cfg.mbx 1)))

/-- Frames of own slots (R332, R355 to R361, R364, R369, R377, R378, R413, R414): at a slot's START a device that may use its
slots sends, on each UP port of the way to DST, its own endpoint, the cycle, its claim in a COMMAND frame, the
acknowledgement, the items of the slot and the oldest service message that fits; the first SAFETY frame of a cycle counts the
safe sequence up;
a TWIN frame takes up to eight writes off the queue; a JOIN frame carries a service message to its destination. A device that
may not use its slots, or that reaches no port, sends nothing. -/
def Obligations.SlotFrames : Prop :=
  (∀ (s : State) (j : Fin 65) (imus : List ImuItem) (tgts : List TgtItem) (ld : LoadBody),
    (j.val < 64 → s.blk.slots[j.val]? = none → exec (.slotFrameSend j imus tgts ld) s = .next s) ∧
    (∀ x, j.val < 64 → s.blk.slots[j.val]? = some x → x.kind ≠ 8 → x.sender ≠ s.blk.ownEp ∨
      (s.blk.tick = x.start ∧ (s.blk.mayUseSlots = false ∨ (s.blk.slotPorts x.dst).filter s.blk.onChannel = [])) →
      exec (.slotFrameSend j imus tgts ld) s = .next s) ∧
    (j.val = 64 → s.blk.sznSt = 0 ∨ s.blk.sznSt = 6 → exec (.slotFrameSend j imus tgts ld) s = .next s)) ∧
  (∀ (s : State) (j : Fin 65) (imus : List ImuItem) (tgts : List TgtItem) (ld : LoadBody) (x : Slot),
    s.blk.off = false → j.val < 64 → s.blk.slots[j.val]? = some x → x.sender = s.blk.ownEp →
    s.blk.tick = x.start → s.blk.mayUseSlots = true →
    let ports := (s.blk.slotPorts x.dst).filter s.blk.onChannel
    let fits := fun m => svcFits m x.dst (4 * x.allow)
    let sends := fun body => ∃ t, exec (.slotFrameSend j imus tgts ld) s = .next t ∧ t.nv = s.nv ∧ t.mem = s.mem ∧
      t.pending = s.pending ∧ (x.kind ≠ 4 → t.isl = s.isl) ∧
      (x.kind = 4 → t.isl = { s.isl with
        seq := if s.isl.seqCyc = s.blk.cyc + 1 then s.isl.seq else (s.isl.seq + 1) % 65536
        seqCyc := s.blk.cyc + 1 }) ∧
      t.blk.tx = (ports.filter (fun p => s.blk.pageEn (szpPage p))).map (fun p => {
        port := p
        src := s.blk.ownEp
        dst := x.dst
        cycle := s.blk.cyc % 2 ^ 32
        claim := if x.kind = 3 then s.blk.ownClaim else 0
        ack := s.blk.szn.ackOut
        body := body
        svc := s.blk.szn.svcq.find? fits }) ∧
      t.blk.szn = { s.blk.szn with svcq := dropFirst fits s.blk.szn.svcq } ∧
      s.blk.keeps t.blk ((List.range 64).map R.SZP_TX_CNT ++ (if x.kind = 2 then [R.SZN_TX_REPEAT] else [])) ∧
      s.blk.sameHidden { t.blk with szn := s.blk.szn, tx := s.blk.tx, red := s.blk.red, fab := s.blk.fab } ∧
      (x.kind ≠ 2 → t.blk.red = s.blk.red) ∧
      (let l := s.blk.nextLoad ld
       t.blk.fab = if x.kind = 7 then { s.blk.fab with loadPos := some (l.img, l.chunk, l.length) } else s.blk.fab) ∧
      (ports.Nodup → ∀ p ∈ ports, s.blk.pageEn (szpPage p) = true →
        t.blk.rd (R.SZP_TX_CNT p) = s.blk.rd (R.SZP_TX_CNT p) + 1#32)
    ports ≠ [] → (∀ p ∈ ports, p < 64) →
    (x.kind = 2 → sends (.feedback ((slotCarrels x).map (fun c => s.blk.fbItemOf s.isl c)))) ∧
    (x.kind = 3 → s.blk.isCoord = true → s.blk.redSt ≠ 3 → s.blk.redSt ≠ 4 → sends (.command
      ((slotCarrels x).map (fun c => sget (fun _ => {}) s.blk.red.out c)) (s.blk.rdN R.FAB_DIGEST_LO))) ∧
    (∀ p, x.kind = 4 → s.isl.payload s.blk.ownEp x.dst (s.blk.safetyBefore x) s.blk.cyc = some p → sends (.safety p)) ∧
    (x.kind = 5 → (∃ n, .target n ∈ x.items) → sends (.dataTgt tgts)) ∧
    (x.kind = 5 → (∀ n, .target n ∉ x.items) → sends (.dataImu imus)) ∧
    (x.kind = 7 → s.blk.bt R.SZN_STAT 3 = true → s.blk.bt R.FAB_CTRL 1 = true → sends (.load (s.blk.nextLoad ld)))) ∧
  (∀ (s : State) (j : Fin 65) (imus : List ImuItem) (tgts : List TgtItem) (ld : LoadBody) (x : Slot),
    s.blk.off = false → j.val < 64 → s.blk.slots[j.val]? = some x → x.kind = 8 → s.blk.isCoord = true → s.blk.redSt = 1 →
    s.blk.tick = x.start → s.blk.mayUseSlots = true →
    let ports := (s.blk.upPorts.filter s.blk.twinPort).filter s.blk.onChannel
    let body : TwinBody := {
      health := !s.blk.bt R.RED_CTRL 2
      handover := s.blk.red.hoTx
      rs := s.blk.red.rsOn
      writes := s.blk.red.twq.take 8
      records := s.blk.red.rsSnap }
    ports ≠ [] →
    ∃ t, exec (.slotFrameSend j imus tgts ld) s = .next t ∧ s.sameRest t ∧
      t.blk.tx.map (fun f => (f.port, f.dst, f.body)) = (ports.filter (fun p => s.blk.pageEn (szpPage p))).map
        (fun p => (p, s.blk.peerEp, .twin body)) ∧
      t.blk.red.twq = s.blk.red.twq.drop 8 ∧ t.blk.red.twSent = s.blk.red.twq.take 8 ∧ t.blk.red.hoTx = false ∧
      t.blk.fl R.RED_TW_STAT 0 5 = (s.blk.red.twq.drop 8).length % 32 ∧
      s.blk.keeps t.blk (R.RED_TW_STAT :: (List.range 64).map R.SZP_TX_CNT)) ∧
  (∀ (s : State) (imus : List ImuItem) (tgts : List TgtItem) (ld : LoadBody) (m : SvcMsg), s.blk.off = false →
    s.blk.sznSt ≠ 0 → s.blk.sznSt ≠ 6 → (s.blk.catEntry s.blk.entry).joinStart ≤ s.blk.tick →
    s.blk.szn.svcq.find? (fun m => decide (4 + svcLen m ≤ 76)) = some m → s.blk.joinPorts m.dst ≠ [] →
    (∀ p ∈ s.blk.joinPorts m.dst, p < 64) →
    ∃ t, exec (.slotFrameSend 64 imus tgts ld) s = .next t ∧ s.sameRest t ∧
      t.blk.tx = ((s.blk.joinPorts m.dst).filter (fun p => s.blk.pageEn (szpPage p))).map (fun p => {
        port := p
        src := s.blk.ownEp
        dst := m.dst
        cycle := s.blk.cyc % 2 ^ 32
        ack := s.blk.szn.ackOut
        body := .join
        svc := some m }) ∧
      t.blk.szn = { s.blk.szn with svcq := dropFirst (fun m => decide (4 + svcLen m ≤ 76)) s.blk.szn.svcq } ∧
      s.blk.keeps t.blk ((List.range 64).map R.SZP_TX_CNT) ∧
      s.blk.sameHidden { t.blk with szn := s.blk.szn, tx := s.blk.tx })

/-- The twin link (R408, R413 to R417, R421): a TWIN frame of the peer gives a coordinator that is not ACTIVE its health, its
writes and its records, and with RS and the first record a STALE one enters RESYNC (log 116, the model's reading of when); a twin write of an ACTIVE coordinator joins the queue of
sixteen, one that names no twinned page is refused with reason RANGE and one that is not ACTIVE, finds the queue full or its
page locked with reason STATE; a RESYNC_REQ of the peer makes the Active send every record anew; a STALE coordinator sends
that request on command and every 64 cycles; YIELD sets its bit; a Node refuses these commands with reason STATE. -/
def Obligations.TwinLink : Prop :=
  (∀ (s : State) (k : PortIx) (h : FrameHdr) (b : TwinBody), s.blk.off = false → s.blk.twinPort k.val = false →
    exec (.twinFrameRx k h b) s = .next s) ∧
  (∀ (s : State) (k : PortIx) (h : FrameHdr) (b : TwinBody), s.blk.off = false → s.blk.twinPort k.val = true →
    (s.blk.frameCheck k.val h).2 = true → s.blk.forMe h = true → s.blk.bt R.TB_STAT 1 = true →
    s.blk.bt (R.SZP_CFG k.val) 1 = false → s.blk.cycAge h = 0 →
    (∀ x ∈ s.blk.szn.copies, x.kind = 8 → x.src = h.src.val → x.dst ≠ h.dst.val) → s.blk.redSt ≠ 1 →
    h.src.val = s.blk.peerEp →
    let start := s.blk.redSt = 3 ∧ b.rs = true ∧ s.blk.rsFirst b = true
    let r : Red := if start then { s.blk.red with recs := [], rsU := 0, rsM := 0 } else s.blk.red
    ∃ t, exec (.twinFrameRx k h b) s = .next t ∧ s.sameRest t ∧
      t.blk.red = { r with
        twinSeen := true
        health := b.health
        twNow := b.writes
        recs := r.recs ++ b.records
        hoRx := r.hoRx || b.handover } ∧
      s.blk.keeps t.blk ([R.SZP_RX_CNT k.val, R.SZN_FIRST] ++ (if start then [R.RED_STAT, R.PAGE_STAT redPage] else [])) ∧
      (start → t.blk.redSt = 4 ∧ t.blk.fl R.RED_STAT 4 12 = 0) ∧
      s.blk.sameHidden { t.blk with szn := s.blk.szn, red := s.blk.red }) ∧
  (∀ (s : State) (snd : Sender), s.takesWrite snd R.RED_TW_GO →
    let a := s.blk.rd64 R.RED_TW_ADDR_LO % 2 ^ 40
    let locked := ∃ r, regDef a = some r ∧ r.rwl ≠ 0 ∧ s.blk.unlockedFor (pageBase a) snd = false
    let full := s.blk.redSt ≠ 1 ∨ 16 ≤ s.blk.red.twq.length ∨ locked
    (twinnedPage a = false → ∃ t, exec (.twinWriteGo snd) s = .next t ∧ s.refused t R.RED_TW_GO .range []) ∧
    (twinnedPage a = true → full → ∃ t, exec (.twinWriteGo snd) s = .next t ∧ s.refused t R.RED_TW_GO .state []) ∧
    (twinnedPage a = true → ¬ full → ∃ t, exec (.twinWriteGo snd) s = .next t ∧ s.sameRest t ∧
      t.blk.red = { s.blk.red with twq := s.blk.red.twq ++ [⟨a, snd.agent.val, s.blk.rd R.RED_TW_DATA⟩] } ∧
      t.blk.fl R.RED_TW_STAT 0 5 = s.blk.red.twq.length + 1 ∧ s.blk.keeps t.blk [R.RED_TW_STAT] ∧
      s.blk.sameHidden { t.blk with red := s.blk.red })) ∧
  (∀ (s : State) (src : Fin 4096), s.blk.off = false →
    (s.blk.redSt ≠ 1 ∨ src.val ≠ s.blk.peerEp → exec (.resyncReq src) s = .next s) ∧
    (s.blk.redSt = 1 → src.val = s.blk.peerEp → ∃ t, exec (.resyncReq src) s = .next t ∧
      t = { s with blk := { s.blk with red := { s.blk.red with
        rsOn := true, rsTodo := t.blk.red.rsTodo, rsSnap := [], peerSt := 4, rsU := 0, rsM := 0 } } } ∧
      t.blk.red.rsTodo.getLast? = some (7, 0, 0) ∧
      (∀ c ∈ s.blk.cfg.cars, (1, 0, c) ∈ t.blk.red.rsTodo ∧ (1, 1, c) ∈ t.blk.red.rsTodo ∧ (6, 0, c) ∈ t.blk.red.rsTodo) ∧
      (∀ m ∈ s.blk.machines, (5, 0, m) ∈ t.blk.red.rsTodo ∧
        ∀ j, j < (s.blk.pth m).segs.length → (4, j, m) ∈ t.blk.red.rsTodo))) ∧
  (∀ (s : State) (snd : Sender) (v : Word), s.takesWrite snd R.RED_CTRL →
    (s.blk.isNode = true → ∀ c ∈ [Instr.resyncCommand snd, .yield snd v, .coordinatorSwap snd],
      ∃ t, exec c s = .next t ∧ s.refused t R.RED_CTRL .state []) ∧
    (s.blk.isNode = false → s.blk.redSt ≠ 3 →
      exec (.resyncCommand snd) s = .next { s with blk := { s.blk with answer := {} } }) ∧
    (s.blk.isNode = false → s.blk.redSt = 3 → ∃ t, exec (.resyncCommand snd) s = .next t ∧
      t = { s with blk := { s.blk with answer := {}, szn := t.blk.szn, red := { s.blk.red with reqCnt := 0 } } } ∧
      t.blk.szn = { s.blk.szn with svcq := if 8 ≤ s.blk.szn.svcq.length then s.blk.szn.svcq
        else s.blk.szn.svcq ++ [{ typ := 0x20, dst := s.blk.peerEp }] }) ∧
    (s.blk.isNode = false → ∃ t, exec (.yield snd v) s = .next t ∧ s.onlyRegs t [R.RED_CTRL] ∧
      ∀ j, j < 32 → t.blk.bt R.RED_CTRL j = if j = 2 then v.getLsbD 2 else s.blk.bt R.RED_CTRL j)) ∧
  (∀ s : State, s.blk.off = false →
    let due := s.blk.redSt = 3 ∧ 64 ≤ s.blk.red.reqCnt ∧ ∃ p, p < 64 ∧ s.blk.portUp p = true ∧ s.blk.twinPort p = true
    (¬ due → exec .resyncReqRepeat s = .next s) ∧
    (due → ∃ t, exec .resyncReqRepeat s = .next t ∧
      t = { s with blk := { s.blk with szn := t.blk.szn, red := { s.blk.red with reqCnt := 0 } } } ∧
      t.blk.szn = { s.blk.szn with svcq := if 8 ≤ s.blk.szn.svcq.length then s.blk.szn.svcq
        else s.blk.szn.svcq ++ [{ typ := 0x20, dst := s.blk.peerEp }] }))

/-- Taking over and handing over (R40, R402, R403, R407, R408, R418, R419): at tick 200 a coordinator that is neither NONE nor
ACTIVE counts a missed cycle of the Active or clears the count; at MAX a STANDBY becomes ACTIVE with the
epoch after the Active's, and time master at the cycle boundary that follows, without a jump of Deck Time, and any other
flags NO_TAKEOVER; SWAP needs an ACTIVE coordinator with a peer in STANDBY; the
acknowledgements of every node pass the proof test, and one missing after 64 cycles is flagged, as is a test that is due;
a node reports a discrepancy count that has risen to both coordinators, which show it. -/
def Obligations.TakeOverAndHandOver : Prop :=
  (∀ s : State, s.blk.off = false → s.blk.tick = 200 →
    let missed := s.blk.red.twinPrev = some false ∨
      ((∀ x, s.blk.szn.csSeen = some x → x.1 ≠ s.blk.peerEp) ∧ s.blk.red.twinPrev ≠ some true)
    let idle := s.blk.isCoord = false ∨ s.blk.redSt = 0 ∨ s.blk.redSt = 1
    let n := min (s.blk.fl R.RED_MISS 8 4 + 1) 15
    (idle → exec .missedCycleCheck s = .next s) ∧
    (¬ idle → ¬ missed → ∃ t, exec .missedCycleCheck s = .next t ∧ s.onlyRegs t [R.RED_MISS] ∧
      t.blk.fl R.RED_MISS 8 4 = 0) ∧
    (¬ idle → missed → n < s.blk.fl R.RED_MISS 0 4 → ∃ t, exec .missedCycleCheck s = .next t ∧
      s.onlyRegs t [R.RED_MISS] ∧ t.blk.fl R.RED_MISS 8 4 = n ∧ t.blk.fl R.RED_MISS 0 4 = s.blk.fl R.RED_MISS 0 4) ∧
    (¬ idle → missed → s.blk.fl R.RED_MISS 0 4 ≤ n → s.blk.redSt ≠ 2 → ∃ t, exec .missedCycleCheck s = .next t ∧
      s.onlyRegs t [R.RED_MISS, R.RED_ERR, R.IRQ_RAW redPage] ∧ t.blk.bt R.RED_ERR 10 = true) ∧
    (¬ idle → missed → s.blk.fl R.RED_MISS 0 4 ≤ n → s.blk.redSt = 2 → ∃ t, exec .missedCycleCheck s = .next t ∧
      s.sameRest t ∧ t.blk.redSt = 1 ∧ t.blk.red = { s.blk.red with hoArm := true } ∧ t.blk.tb = s.blk.tb ∧
      t.blk.ownClaim = (s.blk.fl R.RED_CLAIM 16 16 / 32 + 1) % 2048 * 32 + s.blk.seat ∧
      t.blk.rd64 R.RED_SWAP_T_LO = s.blk.tb.dt % 2 ^ 64 ∧
      t.blk.fl R.RED_SWAP_CNT 0 16 = (s.blk.fl R.RED_SWAP_CNT 0 16 + 1) % 65536 ∧ t.blk.fl R.RED_MISS 8 4 = 0 ∧
      t.blk.evPending 0x0E3 ∧
      s.blk.keeps t.blk ([R.RED_MISS, R.RED_CLAIM, R.RED_STAT, R.PAGE_STAT redPage, R.RED_SWAP_T_LO, R.RED_SWAP_T_HI,
        R.RED_SWAP_CNT] ++ eventRegs 0x0E3))) ∧
  (∀ b : Block, b.red.hoArm = true → b.red.hoRx = false → b.red.hoWait = 0 →
    let c := b.handoverCycle
    c.bt R.SZN_STAT 3 = true ∧ c.sznSt = 4 ∧ c.tb.dt = b.tb.dt ∧ c.redSt = b.redSt ∧
    c.red = { b.red with hoArm := false } ∧
    b.keeps c [R.SZN_STAT, R.PAGE_STAT sznPage, R.TB_FREQ_ADJ, R.TB_STAT, R.TB_ERR, R.IRQ_RAW 0x40300000]) ∧
  (∀ (s : State) (snd : Sender), s.takesWrite snd R.RED_CTRL → s.blk.isNode = false →
    (s.blk.redSt = 1 ∧ s.blk.red.peerSt = 2 → exec (.coordinatorSwap snd) s =
      .next { s with blk := { s.blk with answer := {}, red := { s.blk.red with hoTx := true } } }) ∧
    (¬ (s.blk.redSt = 1 ∧ s.blk.red.peerSt = 2) →
      ∃ t, exec (.coordinatorSwap snd) s = .next t ∧ s.refused t R.RED_CTRL .state [])) ∧
  (∀ (s : State) (src : Fin 4096), s.blk.off = false →
    let acks := if s.blk.red.hoAcks.contains src.val then s.blk.red.hoAcks else src.val :: s.blk.red.hoAcks
    let all := s.blk.nodeMembers ≠ [] ∧ ∀ e ∈ s.blk.nodeMembers, e ∈ acks
    let runs := s.blk.redSt = 1 ∧ ∃ n, s.blk.red.hoTest = some n ∧ n < 64
    (¬ runs → exec (.claimAck src) s = .next s) ∧
    (runs → ¬ all →
      exec (.claimAck src) s = .next { s with blk := { s.blk with red := { s.blk.red with hoAcks := acks } } }) ∧
    (runs → all → ∃ t, exec (.claimAck src) s = .next t ∧ s.sameRest t ∧ s.blk.keeps t.blk [R.RED_ERR] ∧
      t.blk.bt R.RED_ERR 7 = false ∧ t.blk.red = { s.blk.red with hoAcks := acks, ptLast := s.blk.tb.dt, hoTest := none } ∧
      s.blk.sameHidden { t.blk with red := s.blk.red })) ∧
  (∀ s : State, s.blk.off = false →
    let missing := s.blk.redSt = 1 ∧ (∃ n, s.blk.red.hoTest = some n ∧ 64 ≤ n) ∧ ∃ e ∈ s.blk.nodeMembers, e ∉ s.blk.red.hoAcks
    let due := s.blk.isCoord = true ∧ s.blk.fl R.RED_PT_INTERVAL 0 16 * 3600000000000 < s.blk.tb.dt - s.blk.red.ptLast
    (missing → ∃ t, exec .handoverAckTimeout s = .next t ∧ s.sameRest t ∧ s.blk.keeps t.blk [R.RED_ERR, R.IRQ_RAW redPage] ∧
      t.blk.bt R.RED_ERR 8 = true ∧ t.blk.red = { s.blk.red with hoTest := none } ∧
      s.blk.sameHidden { t.blk with red := s.blk.red }) ∧
    (¬ missing → exec .handoverAckTimeout s = .next s) ∧
    (due → ∃ t, exec .proofTestDue s = .next t ∧ s.onlyRegs t [R.RED_ERR, R.IRQ_RAW redPage] ∧
      t.blk.bt R.RED_ERR 7 = true) ∧
    (¬ due → exec .proofTestDue s = .next s)) ∧
  (∀ (s : State) (src : Fin 4096) (n : Nat), s.blk.off = false →
    (s.blk.isCoord = false → exec (.discReport src n) s = .next s) ∧
    (s.blk.isCoord = true → ∃ t, exec (.discReport src n) s = .next t ∧ s.onlyRegs t [R.RED_DISC_RPT] ∧
      t.blk.fl R.RED_DISC_RPT 0 12 = src.val ∧ t.blk.fl R.RED_DISC_RPT 16 16 = n % 65536)) ∧
  (∀ s : State, s.blk.off = false →
    let n := s.blk.fl R.RED_DISC_CNT 0 16
    (n ≤ s.blk.red.discLast ∨ s.blk.red.discCnt < 64 → exec .discReportSend s = .next s) ∧
    (s.blk.red.discLast < n → 64 ≤ s.blk.red.discCnt → s.blk.szn.svcq.length ≤ 6 → exec .discReportSend s = .next { s with blk := { s.blk with
      szn := { s.blk.szn with svcq := s.blk.szn.svcq ++
        [{ typ := 0x21, body := [s.blk.fl R.RED_DISC_CNT 16 8, n], dst := s.blk.fl R.RED_NODE_CFG 0 12 },
         { typ := 0x21, body := [s.blk.fl R.RED_DISC_CNT 16 8, n], dst := s.blk.fl R.RED_NODE_CFG 12 12 }] }
      red := { s.blk.red with discLast := n, discCnt := 0 } } }))

/-- The order of claims (R402): claim a is above claim b when its epoch is 1 to 1023 further on modulo 2048, or when the epochs are
equal and its seat is higher; never both ways, and claims whose epochs differ by exactly 1024 are ordered neither way. -/
def Obligations.ClaimOrder : Prop :=
  ∀ a b : Nat, a < 2 ^ 16 → b < 2 ^ 16 →
    (claimAbove a b = true ↔ (∃ k, 1 ≤ k ∧ k ≤ 1023 ∧ a / 32 = (b / 32 + k) % 2048) ∨ (a / 32 = b / 32 ∧ b % 32 < a % 32)) ∧
    ¬ (claimAbove a b = true ∧ claimAbove b a = true) ∧
    (a / 32 = b / 32 + 1024 ∨ b / 32 = a / 32 + 1024 → claimEq a b = true ∧ claimEq b a = true)

/-- Jobs (R148, R430, R431, R435 to R437): a submitted descriptor joins the queue of eight with STATUS queued; its refusal
has reason RANGE in the VMF's area and reason STATE on a full queue; at a job boundary the VMF's job, else the oldest
firmware job starts, and one whose descriptor is wrong ends at once; a job that ends writes its results and STATUS alone,
and the last VMF job of an interval leaves the VMF at most sixteen frequencies; every 8 s the VMF stores its samples and six
descriptors in its area, queues the six jobs and flags those of the last interval that are not done.
Suspension (R432, R433): SUSPEND is noted for the next boundary unless the processor is IDLE or SUSPENDED; at
the boundary a firmware job stands SUSPENDED under the next TAG, with its context and STATUS stored and the TAG in the loop
registers; RESUME runs the job on or leaves a processor without a job IDLE; RUN_NEXT sets it aside. A command in the wrong state is refused with reason STATE,
two at once with reason RANGE (log 65, the model's choice). -/
def Obligations.SpectralJobs : Prop :=
  (∀ (s : State) (w : WingIx) (snd : Sender) (v : Word), s.takesWrite snd (R.DSP_SUBMIT w.val) →
    let off := fld v 3 18 * 8
    let a := dspAddr w.val off
    (s.blk.vmfArea w.val off = true →
      ∃ t, exec (.dspSubmit w snd v) s = .next t ∧ s.refused t (R.DSP_SUBMIT w.val) .range []) ∧
    (s.blk.vmfArea w.val off = false → 8 ≤ (s.blk.dspAt w.val).jobs.length →
      ∃ t, exec (.dspSubmit w snd v) s = .next t ∧ s.refused t (R.DSP_SUBMIT w.val) .state [R.DSP_ERR w.val] ∧
        t.blk.bt (R.DSP_ERR w.val) 1 = true) ∧
    (s.blk.vmfArea w.val off = false → (s.blk.dspAt w.val).jobs.length < 8 →
      ∃ t, exec (.dspSubmit w snd v) s = .next t ∧ t.isl = s.isl ∧ t.nv = s.nv ∧ t.pending = s.pending ∧
        s.blk.onlyDsp t.blk w.val [R.DSP_STAT w.val] ∧
        t.blk.dspAt w.val = { s.blk.dspAt w.val with jobs := (s.blk.dspAt w.val).jobs ++ [off] } ∧
        t.blk.fl (R.DSP_STAT w.val) 3 4 = (s.blk.dspAt w.val).jobs.length + 1 ∧ t.blk.dspSt w.val = s.blk.dspSt w.val ∧
        (nbit (mrdN s.mem (a + 2) 2) 0 = true → t.mem = s.mem) ∧
        (nbit (mrdN s.mem (a + 2) 2) 0 = false → wordsAt t.mem (a + 4) [0] ∧ memKeeps s.mem t.mem [(a + 4, 4)]))) ∧
  (∀ (s : State) (w : WingIx), s.blk.dspSt w.val ≠ 0 ∨ s.blk.bt (R.DSP_CTRL w.val) 0 = false ∨
      s.blk.pageEn (dspPage w.val) = false ∨ s.blk.domState w.val ≠ 0 ∨
      ((s.blk.dspAt w.val).vmfJobs = 0 ∧ (s.blk.dspAt w.val).jobs = []) →
    exec (.dspJobStart w) s = .next s) ∧
  (∀ (s : State) (w : WingIx), s.blk.off = false → s.blk.dspSt w.val = 0 → s.blk.bt (R.DSP_CTRL w.val) 0 = true →
    s.blk.pageEn (dspPage w.val) = true → s.blk.domState w.val = 0 →
    ((s.blk.dspAt w.val).vmfJobs ≠ 0 →
      let a := dspAddr w.val (s.blk.vmfJobOff w.val (6 - (s.blk.dspAt w.val).vmfJobs))
      ∃ t, exec (.dspJobStart w) s = .next t ∧ t.isl = s.isl ∧ t.nv = s.nv ∧ t.pending = s.pending ∧
      wordsAt t.mem (a + 4) [1] ∧ memKeeps s.mem t.mem [(a + 4, 4)] ∧
      s.blk.onlyDsp t.blk w.val [R.DSP_STAT w.val, R.DSP_JOB w.val, R.PAGE_STAT (dspPage w.val)] ∧
      t.blk.dspAt w.val = { s.blk.dspAt w.val with
        vmfJobs := (s.blk.dspAt w.val).vmfJobs - 1, done := 0, bexp := 0, s := 0, sat := false } ∧
      t.blk.dspSt w.val = 1 ∧ t.blk.dspVmf w.val = true ∧ t.blk.dspValid w.val = true ∧
      t.blk.bt (R.DSP_STAT w.val) 2 = true) ∧
    (∀ off rest, (s.blk.dspAt w.val).vmfJobs = 0 → (s.blk.dspAt w.val).jobs = off :: rest → off < 2 ^ 21 →
      nbit (dspDesc s.mem (dspAddr w.val off)).flags 0 = false →
      let a := dspAddr w.val off
      let why := dspReason w.val (dspDesc s.mem a)
      ∃ t, exec (.dspJobStart w) s = .next t ∧ t.isl = s.isl ∧ t.nv = s.nv ∧ t.pending = s.pending ∧
        (t.blk.dspAt w.val).jobs = rest ∧ (t.blk.dspAt w.val).done = 0 ∧ memKeeps s.mem t.mem [(a + 4, 4)] ∧
        (why = 0 → wordsAt t.mem (a + 4) [1] ∧ t.blk.dspSt w.val = 1 ∧ t.blk.rdN (R.DSP_JOB w.val) = off / 8 + 2 ^ 18 ∧
          s.blk.onlyDsp t.blk w.val [R.DSP_STAT w.val, R.DSP_JOB w.val, R.PAGE_STAT (dspPage w.val)]) ∧
        (why ≠ 0 → wordsAt t.mem (a + 4) [3 + why * 2 ^ 8] ∧ s.blk.dspEnded t.blk w.val ∧
          t.blk.bt (R.DSP_ERR w.val) 0 = true ∧
          s.blk.onlyDsp { t.blk with disp := s.blk.disp } w.val (dspRegs w.val)))) ∧
  (∀ (s : State) (w : WingIx) (clk : Nat) (ecc : Bool), s.blk.dspSt w.val ≠ 1 → exec (.dspJobDone w clk ecc) s = .next s) ∧
  (∀ (s : State) (w : WingIx) (clk : Nat), s.blk.off = false → s.blk.dspSt w.val = 1 →
    let x := s.blk.dspAt w.val
    let a := dspAddr w.val (s.blk.dspJob w.val)
    let d := dspDesc s.mem a
    (s.blk.dspVmf w.val = true → ∃ t, exec (.dspJobDone w clk false) s = .next t ∧ t.isl = s.isl ∧ t.nv = s.nv ∧
      t.pending = s.pending ∧
      (let y := t.blk.dspAt w.val
       wordsAt t.mem (a + 4) [2 + y.bexp % 256 * 2 ^ 16 + (if y.sat = true then 2 ^ 24 else 0)]) ∧
      memKeeps s.mem t.mem ([(a + 4, 4), (d.out, outLen d)] ++ (if d.kind = 3 then [(d.aux, auxLen d)] else [])) ∧
      s.blk.onlyDsp { t.blk with vmf := s.blk.vmf } w.val [R.DSP_STAT w.val, R.DSP_JOB w.val, R.DSP_CLK w.val,
        R.DSP_ERR w.val, R.PAGE_STAT (dspPage w.val), R.IRQ_RAW (dspPage w.val)] ∧
      t.blk.rd (R.DSP_JOB w.val) = 0#32 ∧ t.blk.dspSt w.val = (if x.susp = true then 3 else 0) ∧
      t.blk.vmf = { s.blk.vmf with
        waveJobs := s.blk.vmf.waveJobs - 1
        waveW := t.blk.vmf.waveW
        fitBusy := s.blk.vmf.fitBusy || (s.blk.vmf.waveJobs - 1 == 0 && decide (1024 ≤ s.blk.vmf.hist.length)) } ∧
      (s.blk.vmf.waveJobs - 1 ≠ 0 → t.blk.vmf.waveW = s.blk.vmf.waveW) ∧
      (s.blk.vmf.waveJobs - 1 = 0 → t.blk.vmf.waveW.length ≤ 16)) ∧
    (s.blk.dspVmf w.val = false → ∃ t, exec (.dspJobDone w clk true) s = .next t ∧ t.isl = s.isl ∧ t.nv = s.nv ∧
      t.pending = s.pending ∧ s.blk.dspEnded t.blk w.val ∧ t.blk.bt (R.DSP_ERR w.val) 0 = true ∧
      t.blk.bt (R.DSP_ERR w.val) 4 = true ∧ (s.blk.eaq.length < 8 → ∃ r, t.blk.eaq = s.blk.eaq ++ [r] ∧
        r.source = 0x13 ∧ r.index = w.val ∧ r.cls = 2) ∧
      wordsAt t.mem (a + 4) [3 + 3 * 2 ^ 8 + x.bexp % 256 * 2 ^ 16 + (if x.sat = true then 2 ^ 24 else 0)] ∧
      memKeeps s.mem t.mem [(a + 4, 4)] ∧
      s.blk.onlyDsp { t.blk with disp := s.blk.disp, eaq := s.blk.eaq, free := s.blk.free } w.val
        (dspRegs w.val ++ archiveRegs)) ∧
    (s.blk.dspVmf w.val = false → ∃ t, exec (.dspJobDone w clk false) s = .next t ∧ t.isl = s.isl ∧ t.nv = s.nv ∧
      t.pending = s.pending ∧ s.blk.dspEnded t.blk w.val ∧ t.blk.fl (R.DSP_CLK w.val) 0 24 = min clk (2 ^ 24 - 1) ∧
      (let y := t.blk.dspAt w.val
       y.done = max x.done (dspTotal d) ∧ (y.sat = true → t.blk.bt (R.DSP_ERR w.val) 2 = true) ∧
       wordsAt t.mem (a + 4) [2 + y.bexp % 256 * 2 ^ 16 + (if y.sat = true then 2 ^ 24 else 0)]) ∧
      memKeeps s.mem t.mem ([(a + 4, 4), (d.out, outLen d)] ++ (if d.kind = 3 then [(d.aux, auxLen d)] else [])) ∧
      s.blk.onlyDsp { t.blk with disp := s.blk.disp } w.val (dspRegs w.val))) ∧
  (∀ s : State, s.blk.off = false →
    let run := s.blk.bt R.VMF_CTRL 1 = true ∧ (s.blk.vmfSt = 2 ∨ s.blk.vmfSt = 3)
    let w := s.blk.fl R.VMF_CTRL 12 2
    (¬ run → exec .waveFftSubmit s = .next s) ∧
    (run → ∃ t, exec .waveFftSubmit s = .next t ∧ t.isl = s.isl ∧ t.nv = s.nv ∧ t.pending = s.pending ∧
      memKeeps s.mem t.mem ((List.range 6).flatMap (fun d =>
        [(s.blk.vmfRing w d, 4096), (dspAddr w (s.blk.vmfJobOff w d), 64)])) ∧
      s.blk.onlyDsp { t.blk with vmf := s.blk.vmf } w [R.DSP_STAT w, R.VMF_ERR, R.IRQ_RAW vmfPage] ∧
      t.blk.dspAt w = { s.blk.dspAt w with vmfJobs := 6 } ∧ t.blk.fl (R.DSP_STAT w) 7 3 = 6 ∧
      t.blk.vmf.waveCnt = s.blk.vmf.waveCnt + 1 ∧ 6 ≤ t.blk.vmf.waveJobs ∧
      (s.blk.vmf.waveJobs ≠ 0 → t.blk.bt R.VMF_ERR 9 = true) ∧
      (s.blk.vmf.waveJobs = 0 → s.blk.keeps t.blk [R.DSP_STAT w]))) ∧
  (∀ (s : State) (w : WingIx) (snd : Sender) (v : Word) (n : Nat), s.takesWrite snd (R.DSP_CMD w.val) →
    let one := [1, 2, 4, 8].contains (fld v 0 4)
    let st := s.blk.dspSt w.val
    let x := s.blk.dspAt w.val
    let a := dspAddr w.val (s.blk.dspJob w.val)
    (one = false → ∀ c ∈ [Instr.dspSuspend w snd v, .dspResume w snd v, .dspRunNext w snd v, .dspAbort w snd v n],
      ∃ t, exec c s = .next t ∧ s.refused t (R.DSP_CMD w.val) .range []) ∧
    (one = true → st = 0 ∨ st = 3 →
      ∃ t, exec (.dspSuspend w snd v) s = .next t ∧ s.refused t (R.DSP_CMD w.val) .state []) ∧
    (one = true → st ≠ 3 → ∀ c ∈ [Instr.dspResume w snd v, .dspRunNext w snd v],
      ∃ t, exec c s = .next t ∧ s.refused t (R.DSP_CMD w.val) .state []) ∧
    (one = true → st ≠ 0 → st ≠ 3 → ∃ t, exec (.dspSuspend w snd v) s = .next t ∧ s.sameRest t ∧
      s.blk.onlyDsp t.blk w.val [] ∧ t.blk.dspAt w.val = { x with susp := true }) ∧
    (one = true → st = 3 → ∃ t, exec (.dspResume w snd v) s = .next t ∧ t.isl = s.isl ∧ t.nv = s.nv ∧
      t.pending = s.pending ∧ s.blk.onlyDsp t.blk w.val [R.DSP_STAT w.val, R.PAGE_STAT (dspPage w.val)] ∧
      t.blk.dspAt w.val = x ∧
      (s.blk.dspValid w.val = true → t.blk.dspSt w.val = 1 ∧ wordsAt t.mem (a + 4) [1] ∧
        memKeeps s.mem t.mem [(a + 4, 4)]) ∧
      (s.blk.dspValid w.val = false → t.blk.dspSt w.val = 0 ∧ t.mem = s.mem)) ∧
    (one = true → st = 3 → ∃ t, exec (.dspRunNext w snd v) s = .next t ∧ s.sameRest t ∧
      s.blk.onlyDsp t.blk w.val [R.DSP_STAT w.val, R.DSP_JOB w.val, R.PAGE_STAT (dspPage w.val)] ∧
      t.blk.dspAt w.val = x ∧ t.blk.dspSt w.val = 0 ∧ t.blk.rd (R.DSP_JOB w.val) = 0#32)) ∧
  (∀ (s : State) (w : WingIx) (n : Nat), s.blk.off = false →
    let x := s.blk.dspAt w.val
    let a := dspAddr w.val (s.blk.dspJob w.val)
    let d := dspDesc s.mem a
    let at_ := s.blk.dspSt w.val = 1 ∧ x.susp = true ∧ s.blk.dspVmf w.val = false ∧ x.done + n < dspTotal d
    let tag := (x.tag + 1) % 65536
    (¬ at_ → exec (.dspSuspended w n) s = .next s) ∧
    (at_ → ∃ t, exec (.dspSuspended w n) s = .next t ∧ t.isl = s.isl ∧ t.nv = s.nv ∧ t.pending = s.pending ∧
      t.blk.dspSt w.val = 3 ∧ t.blk.bt (R.IRQ_RAW (dspPage w.val)) 1 = true ∧
      (let y := t.blk.dspAt w.val
       y.done = x.done + n ∧ y.tag = tag ∧ y.susp = false ∧ y.jobs = x.jobs ∧ y.vmfJobs = x.vmfJobs ∧
       sget (fun _ => (0, false)) y.ctx tag = (x.done + n, y.sat) ∧
       wordsAt t.mem (a + 4) [4 + y.bexp % 256 * 2 ^ 16 + (if y.sat = true then 2 ^ 24 else 0)] ∧
       wordsAt t.mem (a + 40) [tag + y.bexp % 256 * 2 ^ 16 + y.s * 2 ^ 24]) ∧
      (∀ i, i < 3 → t.blk.fl (R.DSP_LOOP w.val i) 28 4 = tag % 16) ∧
      memKeeps s.mem t.mem ([(a + 4, 4), (a + 40, 12), (d.out, outLen d)] ++
        (if d.kind = 3 then [(d.aux, auxLen d)] else [])) ∧
      s.blk.onlyDsp { t.blk with free := s.blk.free } w.val ([R.DSP_STAT w.val, R.DSP_ERR w.val, R.IRQ_RAW (dspPage w.val),
        R.PAGE_STAT (dspPage w.val)] ++ (List.range 3).map (R.DSP_LOOP w.val))))

/-- The abort of a job (R434): a running or suspended firmware job ends at once with STATUS failed and reason 5 and its event is
posted; what its finished elements stored in OUT stays; while a VMF job runs, or in IDLE, it is refused with reason STATE. -/
def Obligations.SpectralAborts : Prop :=
  ∀ (s : State) (w : WingIx) (snd : Sender) (v : Word) (n : Nat), s.takesWrite snd (R.DSP_CMD w.val) → fld v 0 4 = 8 →
    let st := s.blk.dspSt w.val
    let x := s.blk.dspAt w.val
    let a := dspAddr w.val (s.blk.dspJob w.val)
    let d := dspDesc s.mem a
    let fw := s.blk.dspValid w.val && !s.blk.dspVmf w.val
    ((st ≠ 1 ∧ st ≠ 3) ∨ fw = false →
      ∃ t, exec (.dspAbort w snd v n) s = .next t ∧ s.refused t (R.DSP_CMD w.val) .state []) ∧
    (st = 1 ∨ st = 3 → fw = true → ∃ t, exec (.dspAbort w snd v n) s = .next t ∧ t.isl = s.isl ∧
      t.nv = s.nv ∧ t.pending = s.pending ∧ s.blk.dspEnded t.blk w.val ∧ t.blk.bt (R.DSP_ERR w.val) 0 = true ∧
      (let y := t.blk.dspAt w.val
       y.done = x.done + (if st = 3 then 0 else min n (dspTotal d - x.done)) ∧
       wordsAt t.mem (a + 4) [3 + 5 * 2 ^ 8 + y.bexp % 256 * 2 ^ 16 + (if y.sat = true then 2 ^ 24 else 0)]) ∧
      memKeeps s.mem t.mem ([(a + 4, 4), (d.out, outLen d)] ++ (if d.kind = 3 then [(d.aux, auxLen d)] else [])) ∧
      (st = 3 ∨ n = 0 → memKeeps s.mem t.mem [(a + 4, 4)]) ∧
      s.blk.onlyDsp { t.blk with disp := s.blk.disp } w.val (dspRegs w.val))

/-- The FIR kernel (R422, R424, R428): a job that runs from its first element leaves each output element as the sum of
T products of taps and the input elements from j·D + T − 1 downwards, rounded by SH bits (R198) and
saturated to 24 bits, wherever its descriptor does not lie in the output. -/
def Obligations.FirKernel : Prop :=
  ∀ (s : State) (w : WingIx) (clk : Nat), s.blk.off = false → s.blk.dspSt w.val = 1 → s.blk.dspVmf w.val = false →
    let a := dspAddr w.val (s.blk.dspJob w.val)
    let d := dspDesc s.mem a
    (s.blk.dspAt w.val).done = 0 → d.kind = 2 → dspReason w.val d = 0 → a + 8 ≤ d.out ∨ d.out + outLen d ≤ a + 4 →
    ∃ t, exec (.dspJobDone w clk false) s = .next t ∧
      ∀ j, j < dM d → smp t.mem (d.out + 4 * j) =
        sat (rnd (((List.range (dT d)).map (fun k =>
          smp s.mem (d.aux + 4 * k) * smp s.mem (inAddr d (j * dD d + (dT d - 1) - k)))).sum) (d.param % 32)) 24

/-- Reception (R441 to R443, R448, R450): in INIT, in bus-off and with its page off a controller receives nothing; else the
lowest enabled filter that matches, or NOMATCH, decides: a frame is stored at the end of the FIFO of 64, or is lost with
RX_OVF, or goes to the high-priority buffer, over an older one with HP_OVR, or nowhere; POP removes the head and the window
shows the next; a read of CAN_HP_ID takes the buffer into its window.
Sending (R444, R445): PUSH and SEND queue the staged frame, and are refused as the table of R444 says; the direct-send
frame goes before the FIFO's head; a success removes the frame and counts TEC down; a failure counts against the frame, and
at LIMIT failures before it abandons the frame with TX_ABANDON; an error raises TEC by 8, and above 255 the controller is
bus-off. -/
def Obligations.CanTraffic : Prop :=
  (∀ (s : State) (i : CanIx) (f : CanFrame) (ago : Nat), s.blk.canMode i.val = 0 ∨ s.blk.canFc i.val = 2 ∨
    s.blk.pageEn (canPage i.val) = false → exec (.canFrameRx i f ago) s = .next s) ∧
  (∀ (s : State) (i : CanIx) (f : CanFrame) (ago : Nat) (n : Option Nat), s.blk.off = false →
    s.blk.canMode i.val ≠ 0 → s.blk.canFc i.val ≠ 2 → s.blk.pageEn (canPage i.val) = true →
    s.blk.rec_ i.val = 0 → (s.blk.canAt i.val).initPend = false → s.blk.canChosen i.val f n →
    let x := s.blk.canAt i.val
    let act := match n with
      | some k => s.blk.fl (R.CAN_FLT_CFG i.val k) 3 2
      | none => if s.blk.bt (R.CAN_CTRL i.val) 5 = true then 0 else 2
    let b := canStored f n (s.blk.tb.dt - ago)
    ∃ t, exec (.canFrameRx i f ago) s = .next t ∧ s.onlyCan t i.val (canRegs i.val) ∧
      t.blk.rd (R.CAN_ECNT i.val) = s.blk.rd (R.CAN_ECNT i.val) ∧
      (act = 0 → x.rxf.length < 64 → t.blk.canAt i.val = { x with rxf := x.rxf ++ [b] } ∧
        t.blk.bt (R.IRQ_RAW (canPage i.val)) 0 = true ∧ t.blk.fl (R.CAN_STAT i.val) 13 7 = x.rxf.length + 1 ∧
        (s.blk.fl (R.CAN_EV_CFG i.val) 0 7 ≤ x.rxf.length + 1 → s.blk.canPosted t.blk i.val 0) ∧
        (x.rxf.length + 1 < s.blk.fl (R.CAN_EV_CFG i.val) 0 7 → t.blk.disp = s.blk.disp)) ∧
      (act = 0 → 64 ≤ x.rxf.length → t.blk.canAt i.val = x ∧ t.blk.disp = s.blk.disp ∧
        t.blk.bt (R.CAN_ERR i.val) 0 = true ∧
        t.blk.fl (R.CAN_LOST_CNT i.val) 0 16 = satAdd (s.blk.fl (R.CAN_LOST_CNT i.val) 0 16) 1 0xFFFF) ∧
      (act = 1 → t.blk.canAt i.val = { x with hp := b } ∧ t.blk.bt (R.CAN_STAT i.val) 20 = true ∧
        t.blk.bt (R.IRQ_RAW (canPage i.val)) 1 = true ∧ s.blk.canPosted t.blk i.val 1 ∧
        (s.blk.bt (R.CAN_STAT i.val) 20 = true → t.blk.bt (R.CAN_ERR i.val) 1 = true)) ∧
      (2 ≤ act → t.blk.canAt i.val = x ∧ t.blk.disp = s.blk.disp)) ∧
  (∀ (s : State) (i : CanIx) (f : CanFrame) (ago : Nat), s.blk.off = false → s.blk.canMode i.val = 1 →
    s.blk.canFc i.val = 0 → s.blk.pageEn (canPage i.val) = true → 0 < s.blk.rec_ i.val → s.blk.rec_ i.val ≤ 127 →
    s.blk.tec i.val ≤ 127 →
    ∃ t, exec (.canFrameRx i f ago) s = .next t ∧ t.blk.rec_ i.val = s.blk.rec_ i.val - 1 ∧
      t.blk.tec i.val = s.blk.tec i.val ∧ t.blk.canFc i.val = 0) ∧
  (∀ (s : State) (i : CanIx) (snd : Sender) (v : Word), s.takesWrite snd (R.CAN_RXF_POP i.val) →
    let x := s.blk.canAt i.val
    (v.getLsbD 0 = false →
      exec (.canRxfPop i snd v) s = .next { s with blk := { s.blk with answer := {} } }) ∧
    (v.getLsbD 0 = true → x.rxf = [] →
      ∃ t, exec (.canRxfPop i snd v) s = .next t ∧ s.refused t (R.CAN_RXF_POP i.val) .state []) ∧
    (∀ h l, v.getLsbD 0 = true → x.rxf = h :: l → ∃ t, exec (.canRxfPop i snd v) s = .next t ∧
      s.onlyCan t i.val (canRegs i.val) ∧ t.blk.canAt i.val = { x with rxf := l } ∧ t.blk.disp = s.blk.disp ∧
      t.blk.rd (R.CAN_RXF_ID i.val) = BitVec.ofNat 32 (l.headD {}).id ∧
      t.blk.rd (R.CAN_RXF_CTL i.val) = BitVec.ofNat 32 (l.headD {}).ctl ∧
      t.blk.rd (R.CAN_RXF_TS i.val) = BitVec.ofNat 32 (l.headD {}).ts ∧
      ∀ j, j < 16 → t.blk.rd (R.CAN_RXF_DATA i.val j) = BitVec.ofNat 32 ((l.headD {}).data.getD j 0))) ∧
  (∀ (s : State) (i : CanIx) (snd : Sender), s.takesRead snd (R.CAN_HP_ID i.val) →
    let b := (s.blk.canAt i.val).hp
    ∃ t, exec (.canHpRead i snd) s = .next t ∧ t.blk.answer = { data := b.id } ∧
      s.onlyRegs t ([R.CAN_STAT i.val, R.CAN_HP_ID i.val, R.CAN_HP_CTL i.val, R.CAN_HP_TS i.val] ++
        (List.range 16).map (R.CAN_HP_DATA i.val)) ∧ t.blk.bt (R.CAN_STAT i.val) 20 = false ∧
      t.blk.rd (R.CAN_HP_ID i.val) = BitVec.ofNat 32 b.id ∧ t.blk.rd (R.CAN_HP_TS i.val) = BitVec.ofNat 32 b.ts ∧
      ∀ j, j < 16 → t.blk.rd (R.CAN_HP_DATA i.val j) = BitVec.ofNat 32 (b.data.getD j 0)) ∧
  (∀ (s : State) (i : CanIx) (snd : Sender) (v : Word), v.getLsbD 0 = true →
    let x := s.blk.canAt i.val
    let off := 2 ≤ s.blk.canMode i.val
    let badF := s.blk.badCtl i.val (s.blk.rd (R.CAN_TXF_CTL i.val))
    let badD := s.blk.badCtl i.val (s.blk.rd (R.CAN_TXD_CTL i.val))
    (s.takesWrite snd (R.CAN_TXF_PUSH i.val) →
      (32 ≤ x.txf.length ∨ off →
        ∃ t, exec (.canTxfPush i snd v) s = .next t ∧ s.refused t (R.CAN_TXF_PUSH i.val) .state []) ∧
      (x.txf.length < 32 → ¬ off → badF = true →
        ∃ t, exec (.canTxfPush i snd v) s = .next t ∧ s.refused t (R.CAN_TXF_PUSH i.val) .range []) ∧
      (x.txf.length < 32 → ¬ off → badF = false → ∃ t, exec (.canTxfPush i snd v) s = .next t ∧
        s.onlyCan t i.val (canRegs i.val) ∧ t.blk.disp = s.blk.disp ∧ t.blk.fl (R.CAN_STAT i.val) 7 6 = x.txf.length + 1 ∧
        ∃ b, t.blk.canAt i.val = { x with txf := x.txf ++ [b] } ∧ b.id = s.blk.fl (R.CAN_TXF_ID i.val) 0 30 ∧
          b.ctl % 64 = s.blk.fl (R.CAN_TXF_CTL i.val) 0 6)) ∧
    (s.takesWrite snd (R.CAN_TXD_SEND i.val) →
      (x.txd.isSome = true ∨ off →
        ∃ t, exec (.canTxdSend i snd v) s = .next t ∧ s.refused t (R.CAN_TXD_SEND i.val) .state []) ∧
      (x.txd = none → ¬ off → badD = true →
        ∃ t, exec (.canTxdSend i snd v) s = .next t ∧ s.refused t (R.CAN_TXD_SEND i.val) .range []) ∧
      (x.txd = none → ¬ off → badD = false → ∃ t, exec (.canTxdSend i snd v) s = .next t ∧
        s.onlyCan t i.val (canRegs i.val) ∧ t.blk.disp = s.blk.disp ∧ t.blk.bt (R.CAN_STAT i.val) 21 = true ∧
        ∃ b, t.blk.canAt i.val = { x with txd := some b, failD := 0 } ∧ b.id = s.blk.fl (R.CAN_TXD_ID i.val) 0 30 ∧
          b.ctl % 64 = s.blk.fl (R.CAN_TXD_CTL i.val) 0 6))) ∧
  (∀ (s : State) (i : CanIx), s.blk.off = false →
    let x := s.blk.canAt i.val
    let may := s.blk.canMode i.val = 1 ∧ s.blk.pageEn (canPage i.val) = true ∧ s.blk.canFc i.val ≠ 2 ∧ x.onBus = none ∧
      x.initPend = false
    (¬ may ∨ (x.txd = none ∧ x.txf = []) → exec (.canTxDecision i) s = .next s) ∧
    (may → x.txd.isSome = true ∨ x.txf ≠ [] → ∃ t, exec (.canTxDecision i) s = .next t ∧
      s.onlyCan t i.val (canRegs i.val) ∧ t.blk.disp = s.blk.disp ∧
      t.blk.canAt i.val = { x with onBus := some x.txd.isSome } ∧ t.blk.bt (R.CAN_STAT i.val) 5 = true)) ∧
  (∀ (s : State) (i : CanIx) (up : Bool) (d : Option Nat) (o : Fin 3), (s.blk.canAt i.val).onBus = none →
    exec (.canTxAttemptEnd i o up d) s = .next s) ∧
  (∀ (s : State) (i : CanIx) (up : Bool) (direct : Bool), s.blk.off = false → (s.blk.canAt i.val).onBus = some direct →
    (s.blk.canAt i.val).initPend = false →
    let x := s.blk.canAt i.val
    let gone : Can := if direct = true then { x with txd := none, failD := 0, abortD := false, onBus := none }
      else { x with txf := x.txf.drop 1, failF := 0, abortF := false, onBus := none }
    let fails := if direct = true then x.failD else x.failF
    let aborted := if direct = true then x.abortD else x.abortF
    (s.blk.canMode i.val ≠ 3 → s.blk.canFc i.val = 0 → s.blk.tec i.val ≤ 127 → s.blk.rec_ i.val ≤ 127 →
      ∃ t, exec (.canTxAttemptEnd i 0 up none) s = .next t ∧ s.onlyCan t i.val (canRegs i.val) ∧
        t.blk.canAt i.val = gone ∧ t.blk.bt (R.IRQ_RAW (canPage i.val)) 2 = true ∧ s.blk.canPosted t.blk i.val 2 ∧
        t.blk.tec i.val = s.blk.tec i.val - 1) ∧
    (aborted = false → fails < s.blk.fl (R.CAN_RETRY i.val) 0 8 → ∃ t, exec (.canTxAttemptEnd i 1 up none) s = .next t ∧
      s.onlyCan t i.val (canRegs i.val) ∧ t.blk.disp = s.blk.disp ∧ t.blk.canAt i.val =
        (if direct = true then { x with failD := fails + 1, onBus := none } else { x with failF := fails + 1, onBus := none })) ∧
    (aborted = false → s.blk.fl (R.CAN_RETRY i.val) 0 8 ≤ fails → ∃ t, exec (.canTxAttemptEnd i 1 up none) s = .next t ∧
      s.onlyCan t i.val (canRegs i.val) ∧ t.blk.canAt i.val = gone ∧ t.blk.bt (R.CAN_ERR i.val) 2 = true ∧
      t.blk.fl (R.CAN_LOST_CNT i.val) 16 16 = satAdd (s.blk.fl (R.CAN_LOST_CNT i.val) 16 16) 1 0xFFFF ∧
      s.blk.canPosted t.blk i.val 2) ∧
    (s.blk.canMode i.val ≠ 3 → s.blk.canFc i.val ≠ 2 → ∃ t, exec (.canTxAttemptEnd i 2 true none) s = .next t ∧
      s.onlyCan t i.val (canRegs i.val) ∧ t.blk.bt (R.CAN_ERR i.val) 5 = true ∧
      t.blk.tec i.val = min (s.blk.tec i.val + 8) 255 ∧
      (256 ≤ s.blk.tec i.val + 8 → t.blk.canFc i.val = 2 ∧ t.blk.bt (R.CAN_ERR i.val) 3 = true ∧
        t.blk.bt (R.IRQ_RAW (canPage i.val)) 4 = true)))

/-- Aborts (R446): TXF_ABORT discards every FIFO frame that is not on the bus, TXD_ABORT the direct-send frame if it is not; a
frame on the bus at the command is discarded at the end of that attempt unless the attempt succeeds, and a success is
reported as such. An abort reports no abandonment, and an abandonment leaves the other frame's abort as it is. -/
def Obligations.CanAborts : Prop :=
  (∀ (s : State) (i : CanIx) (snd : Sender) (v : Word), s.takesWrite snd (R.CAN_TXCMD i.val) →
    let fifo := fun (x : Can) => if x.onBus = some false then { x with txf := x.txf.take 1, abortF := true }
      else { x with txf := [], failF := 0 }
    let direct := fun (x : Can) => if x.onBus = some true then { x with abortD := true }
      else { x with txd := none, failD := 0 }
    let x := s.blk.canAt i.val
    (∃ t, exec (.canTxfAbort i snd v) s = .next t ∧ s.onlyCan t i.val (canRegs i.val) ∧ t.blk.disp = s.blk.disp ∧
      t.blk.canAt i.val = (if v.getLsbD 1 = true then direct (fifo x) else fifo x) ∧
      t.blk.rd (R.CAN_ERR i.val) = s.blk.rd (R.CAN_ERR i.val) ∧
      t.blk.rd (R.CAN_LOST_CNT i.val) = s.blk.rd (R.CAN_LOST_CNT i.val)) ∧
    (∃ t, exec (.canTxdAbort i snd v) s = .next t ∧ s.onlyCan t i.val (canRegs i.val) ∧ t.blk.disp = s.blk.disp ∧
      t.blk.canAt i.val = (if v.getLsbD 0 = true then direct (fifo x) else direct x) ∧
      t.blk.rd (R.CAN_ERR i.val) = s.blk.rd (R.CAN_ERR i.val) ∧
      t.blk.rd (R.CAN_LOST_CNT i.val) = s.blk.rd (R.CAN_LOST_CNT i.val))) ∧
  (∀ (s : State) (i : CanIx) (up : Bool) (o : Fin 3) (direct : Bool), s.blk.off = false →
    (s.blk.canAt i.val).onBus = some direct → (s.blk.canAt i.val).initPend = false → s.blk.canFc i.val ≠ 2 →
    let x := s.blk.canAt i.val
    (if direct = true then x.abortD else x.abortF) = true →
    ∃ t, exec (.canTxAttemptEnd i o up none) s = .next t ∧ s.onlyCan t i.val (canRegs i.val) ∧
      (if direct = true then (t.blk.canAt i.val).txd = none ∧ (t.blk.canAt i.val).abortD = false
        else (t.blk.canAt i.val).txf = x.txf.drop 1 ∧ (t.blk.canAt i.val).abortF = false) ∧
      (t.blk.canAt i.val).onBus = none ∧ t.blk.bt (R.CAN_ERR i.val) 2 = s.blk.bt (R.CAN_ERR i.val) 2 ∧
      t.blk.fl (R.CAN_LOST_CNT i.val) 16 16 = s.blk.fl (R.CAN_LOST_CNT i.val) 16 16 ∧
      (o = 0 → t.blk.bt (R.IRQ_RAW (canPage i.val)) 2 = true ∧
        (s.blk.canFc i.val = 0 → s.blk.tec i.val ≤ 127 → s.blk.rec_ i.val ≤ 127 → s.blk.canPosted t.blk i.val 2)) ∧
      (o ≠ 0 → t.blk.bt (R.IRQ_RAW (canPage i.val)) 2 = s.blk.bt (R.IRQ_RAW (canPage i.val)) 2)) ∧
  (∀ (s : State) (i : CanIx) (up : Bool) (o : Fin 3) (direct : Bool), s.blk.off = false →
    (s.blk.canAt i.val).onBus = some direct → (s.blk.canAt i.val).initPend = false →
    ∃ t, exec (.canTxAttemptEnd i o up none) s = .next t ∧
      (if direct = true then (t.blk.canAt i.val).abortF = (s.blk.canAt i.val).abortF
        else (t.blk.canAt i.val).abortD = (s.blk.canAt i.val).abortD))

/-- Modes, bus-off and errors (R438, R440, R445, R447, R449): a mode comes into force with its write, INIT at the end of a
frame in progress, and keeps FIFOs, buffer and counts; LOOPBACK changes in INIT alone; the end of a recovery from bus-off
leaves counters of 0 and error active; an error seen on reception raises REC, a protocol exception is flagged, with PXD a form error, and an
uncorrectable error in a memory discards the entry as lost and is recorded. -/
def Obligations.CanModes : Prop :=
  (∀ (s : State) (i : CanIx) (snd : Sender) (v : Word) (busy : Bool), s.takesWrite snd (R.CAN_CTRL i.val) →
    let x := s.blk.canAt i.val
    let loop := v.getLsbD 2 ≠ s.blk.bt (R.CAN_CTRL i.val) 2 ∧ s.blk.canMode i.val ≠ 0
    let regs := R.CAN_CTRL i.val :: R.PAGE_STAT (canPage i.val) :: canRegs i.val
    (loop → ∀ c ∈ [Instr.canModeInit i busy snd v, .canModeNormal i snd v, .canModeListen i snd v,
      .canModeRestricted i snd v], ∃ t, exec c s = .next t ∧ s.refused t (R.CAN_CTRL i.val) .state []) ∧
    (¬ loop → ∀ p ∈ [(Instr.canModeNormal i snd v, 1), (.canModeListen i snd v, 2), (.canModeRestricted i snd v, 3)],
      ∃ t, exec p.1 s = .next t ∧ s.onlyCan t i.val regs ∧ t.blk.canMode i.val = p.2 ∧ t.blk.disp = s.blk.disp ∧
        t.blk.rdN (R.CAN_CTRL i.val) = p.2 + fld v 2 5 * 4 ∧ t.blk.bt (R.CAN_STAT i.val) 4 = true ∧
        t.blk.canAt i.val = { x with
          initPend := false
          recov := x.recov || (p.2 == 1 && s.blk.canFc i.val == 2) }) ∧
    (¬ loop → ∃ t, exec (.canModeInit i busy snd v) s = .next t ∧ s.onlyCan t i.val regs ∧ t.blk.disp = s.blk.disp ∧
      t.blk.rdN (R.CAN_CTRL i.val) = fld v 2 5 * 4 ∧
      (s.blk.canMode i.val = 0 → t.blk.canAt i.val = x ∧ t.blk.canMode i.val = 0) ∧
      (s.blk.canMode i.val ≠ 0 → x.onBus ≠ none ∨ busy = true → t.blk.canAt i.val = { x with initPend := true } ∧
        t.blk.canMode i.val = s.blk.canMode i.val) ∧
      (s.blk.canMode i.val ≠ 0 → x.onBus = none → busy = false → t.blk.canMode i.val = 0 ∧
        t.blk.canAt i.val = { x with initPend := false, recov := false } ∧ t.blk.bt (R.CAN_STAT i.val) 4 = false))) ∧
  (∀ (s : State) (i : CanIx) (direct up : Bool), s.blk.off = false → (s.blk.canAt i.val).onBus = some direct →
    (s.blk.canAt i.val).initPend = true →
    ∃ t, exec (.canTxAttemptEnd i 1 up none) s = .next t ∧ t.blk.canMode i.val = 0 ∧
      (t.blk.canAt i.val).onBus = none ∧ (t.blk.canAt i.val).initPend = false ∧
      (t.blk.canAt i.val).rxf = (s.blk.canAt i.val).rxf) ∧
  (∀ (s : State) (i : CanIx), s.blk.off = false →
    let off := s.blk.canFc i.val = 2 ∧ (s.blk.canAt i.val).recov = true
    (¬ off → exec (.canBusOffRecoveryDone i) s = .next s) ∧
    (off → ∃ t, exec (.canBusOffRecoveryDone i) s = .next t ∧ s.onlyCan t i.val (canRegs i.val) ∧
      t.blk.canAt i.val = { s.blk.canAt i.val with recov := false } ∧ t.blk.rd (R.CAN_ECNT i.val) = 0#32 ∧
      t.blk.canFc i.val = 0 ∧ t.blk.bt (R.IRQ_RAW (canPage i.val)) 4 = true ∧ s.blk.canPosted t.blk i.val 3)) ∧
  (∀ (s : State) (i : CanIx) (at_ : Fin 3) (heavy : Bool), s.blk.off = false →
    let off := s.blk.canMode i.val = 0 ∨ s.blk.canFc i.val = 2
    (off → exec (.canBusError i 0 at_ heavy) s = .next s ∧ exec (.canBusError i 1 at_ heavy) s = .next s) ∧
    (∀ k : Fin 3, k = 0 ∨ (k = 1 ∧ s.blk.bt (R.CAN_CTRL i.val) 4 = true) → ¬ off → s.blk.canMode i.val ≠ 3 →
      (s.blk.canAt i.val).initPend = false → ∃ t, exec (.canBusError i k at_ heavy) s = .next t ∧ s.onlyCan t i.val (canRegs i.val) ∧ t.blk.bt (R.CAN_ERR i.val) 5 = true ∧
        t.blk.rec_ i.val = min (s.blk.rec_ i.val + (if heavy = true then 8 else 1)) 255) ∧
    (¬ off → (s.blk.canAt i.val).initPend = false → s.blk.bt (R.CAN_CTRL i.val) 4 = false →
      ∃ t, exec (.canBusError i 1 at_ heavy) s = .next t ∧ s.onlyCan t i.val (canRegs i.val) ∧
        t.blk.canAt i.val = s.blk.canAt i.val ∧ t.blk.disp = s.blk.disp ∧ t.blk.bt (R.CAN_ERR i.val) 6 = true)) ∧
  (∀ (s : State) (i : CanIx) (at_ : Fin 3) (heavy : Bool), s.blk.off = false →
    let x := s.blk.canAt i.val
    let lost := fun (lo : Nat) (b : Block) =>
      b.fl (R.CAN_LOST_CNT i.val) lo 16 = satAdd (s.blk.fl (R.CAN_LOST_CNT i.val) lo 16) 1 0xFFFF
    ∃ t, exec (.canBusError i 2 at_ heavy) s = .next t ∧ s.sameRest t ∧ s.blk.keeps t.blk (canRegs i.val ++ archiveRegs) ∧
      s.blk.sameHidden { t.blk with can := s.blk.can, eaq := s.blk.eaq, free := s.blk.free } ∧
      t.blk.bt (R.CAN_ERR i.val) 8 = true ∧ s.blk.offers t.blk 0x50 i.val 2 (t.blk.rdN (R.CAN_ERR i.val)) 0 0 ∧
      (at_ = 0 → t.blk.canAt i.val = { x with rxf := x.rxf.drop 1 } ∧ (x.rxf ≠ [] → lost 0 t.blk)) ∧
      (at_ = 1 → s.blk.bt (R.CAN_STAT i.val) 20 = true →
        t.blk.canAt i.val = { x with hp := {} } ∧ t.blk.bt (R.CAN_STAT i.val) 20 = false ∧ lost 0 t.blk) ∧
      (at_ = 2 → x.txf ≠ [] → x.onBus ≠ some false →
        t.blk.canAt i.val = { x with txf := x.txf.drop 1, failF := 0 } ∧ lost 16 t.blk))

/-- MSI-X vectors (R452, R454): a vector whose source has risen, and one that firmware fires, sends its message, or becomes
pending where it or the function is masked; what unmasks a vector sends a pending one once and clears its pending bit.
The PCIe link (R451, R455 to R457): link-up shows width and generation; a reset returns the page to its reset values and
the block's queues to empty, ends a pending outbound read with an error response and reaches nothing else; an outbound
access without a link ends with an error response, with one it goes to OB_BASE plus the offset, a read waiting for its
completion; a completion with UR or CA and a time-out end the oldest read with an error response and their flags. -/
def Obligations.PcieHost : Prop :=
  (∀ (s : State) (v : Fin 64), v.val ∉ s.blk.host.rises → exec (.msixSourceRise v) s = .next s) ∧
  (∀ (s : State) (v : Fin 64), s.blk.off = false → v.val ∈ s.blk.host.rises →
    let src := s.blk.fl (R.PCIE_MSIX_SRC v.val) 0 9
    let masked := s.blk.msixMasked v.val
    exec (.msixSourceRise v) s = .next { s with blk := { s.blk with host := { s.blk.host with
      rises := s.blk.host.rises.erase v.val
      msi := if src ≠ 0 ∧ masked = false then [v.val] else []
      pba := if src ≠ 0 ∧ masked = true ∧ v.val ∉ s.blk.host.pba then s.blk.host.pba ++ [v.val] else s.blk.host.pba } } }) ∧
  (∀ (s : State) (snd : Sender) (hi : Bool) (v : Word),
    s.takesWrite snd (if hi = true then R.PCIE_MSIX_FIRE_HI else R.PCIE_MSIX_FIRE_LO) →
    let vecs := ((List.range 32).filter (fun j => v.getLsbD j)).map (fun j => j + if hi = true then 32 else 0)
    exec (.msixFire snd hi v) s = .next { s with blk := { s.blk with
      answer := {}
      host := { s.blk.host with
        msi := vecs.filter (fun k => !s.blk.msixMasked k)
        pba := s.blk.host.pba ++ vecs.filter (fun k => s.blk.msixMasked k && !s.blk.host.pba.contains k) } } }) ∧
  (∀ (s : State) (v : Fin 64), s.blk.off = false →
    let send := v.val ∈ s.blk.host.pba ∧ s.blk.host.fmask = false
    ∃ t, exec (.msixUnmask (some v)) s = .next t ∧ t = { s with blk := { s.blk with host := { s.blk.host with
        msixTab := t.blk.host.msixTab
        msi := if send then [v.val] else []
        pba := if send then s.blk.host.pba.filter (· != v.val) else s.blk.host.pba } } } ∧
      ∀ k, t.blk.msixWord k = if k = 4 * v.val + 3 then s.blk.msixWord k / 2 * 2 else s.blk.msixWord k) ∧
  (∀ s : State, s.blk.off = false →
    ∃ t, exec (.msixUnmask none) s = .next t ∧
      t = { s with blk := { s.blk with host := { s.blk.host with
        fmask := false
        msi := (List.range 64).filter (fun v => s.blk.host.pba.contains v && !nbit (s.blk.msixWord (4 * v + 3)) 0)
        pba := t.blk.host.pba } } } ∧
      ∀ v, v ∈ t.blk.host.pba ↔ v ∈ s.blk.host.pba ∧ (64 ≤ v ∨ nbit (s.blk.msixWord (4 * v + 3)) 0 = true)) ∧
  (∀ (s : State) (w g : Fin 3), s.blk.off = false → ∃ t, exec (.pcieLinkUp w g) s = .next t ∧
    s.onlyRegs t [R.PCIE_STAT] ∧ t.blk.bt R.PCIE_STAT 0 = true ∧ t.blk.fl R.PCIE_STAT 1 3 = 2 ^ w.val ∧
    t.blk.fl R.PCIE_STAT 4 2 = g.val + 1) ∧
  (∀ s : State, s.blk.held = false → ∃ t, exec .pcieReset s = .next t ∧ s.sameRest t ∧
    (∀ a, pageBase a ≠ pciePage → notPend a → t.blk.rd a = s.blk.rd a) ∧
    (∀ a, pageBase a = pciePage → a ≠ R.PCIE_ERR → a ≠ R.IRQ_RAW pciePage →
      t.blk.rd a = regDefault a ∨ ∃ e ∈ s.blk.rstv, e.1 = a ∧ t.blk.rd a = e.2) ∧
    (s.blk.bt R.PCIE_STAT 0 = true → t.blk.bt R.PCIE_ERR 3 = true) ∧
    t.blk = { s.blk with
      regs := t.blk.regs
      answer := if s.blk.host.obRd = [] then s.blk.answer else { error := true }
      host := { s.blk.host with
        msixTab := [], pba := [], fmask := false, rises := t.blk.host.rises, msi := [], obRd := [], obTx := [] } }) ∧
  (∀ (s : State) (snd : Sender) (x : Fin (2 ^ 35)) (wr : Option Word), s.blk.held = false →
    let host := (s.blk.rd64 R.PCIE_OB_BASE_LO + x.val) % 2 ^ 64
    let sent : Block := { s.blk with
      answer := { stalled := decide (wr = none) }
      host := { s.blk.host with
        obTx := [(host, wr)]
        obRd := s.blk.host.obRd ++ if wr = none then [snd] else [] } }
    exec (.pcieOutboundAccess snd x wr) s = .next { s with
      blk := if s.blk.bt R.PCIE_STAT 0 = true then sent else { s.blk with answer := { error := true } } }) ∧
  (∀ (s : State) (ok : Bool) (d : Word), s.blk.off = false → s.blk.host.obRd = [] →
    exec (.pcieOutboundCompletion ok d) s = .next s ∧ exec .pcieOutboundTimeout s = .next s) ∧
  (∀ (s : State) (d : Word) (x : Sender) (l : List Sender), s.blk.off = false → s.blk.host.obRd = x :: l →
    exec (.pcieOutboundCompletion true d) s = .next { s with blk := { s.blk with
      answer := { data := d.toNat }, host := { s.blk.host with obRd := l } } } ∧
    (∃ t, exec (.pcieOutboundCompletion false d) s = .next t ∧ s.onlyHost t [R.PCIE_ERR, R.IRQ_RAW pciePage] ∧
      t.blk.answer = { error := true } ∧ t.blk.bt R.PCIE_ERR 2 = true ∧ t.blk.host.obRd = l) ∧
    ∃ t, exec .pcieOutboundTimeout s = .next t ∧ s.onlyHost t [R.PCIE_ERR, R.IRQ_RAW pciePage] ∧
      t.blk.answer = { error := true } ∧ t.blk.bt R.PCIE_ERR 1 = true ∧ t.blk.host.obRd = l)

/-- Ethernet (R459 to R463): an accepted frame that finds a free descriptor is stored in its buffer without a tag that the MAC
strips, with length, timestamp within 4 ns (log 68) and DONE, and HEAD advances; one that is too long, finds the ring full or
exceeds its buffer is dropped and counted; TAIL starts the next frame of the lowest ring that is ready; the end of a frame
advances HEAD, sets DONE and, with TS_REQ, the timestamp; the link's state is shown and its loss flagged. -/
def Obligations.EthernetFrames : Prop :=
  (∀ (s : State) (i : EthIx) (f : EthFrame), s.blk.bt (R.ETH_CTRL i.val) 0 = false ∨ s.blk.bt (R.ETH_STAT i.val) 0 = false ∨
    s.blk.pageEn (ethPage i.val) = false → exec (.ethFrameRx i f) s = .next s) ∧
  (∀ (s : State) (i : EthIx) (f : EthFrame), s.blk.off = false → s.blk.bt (R.ETH_CTRL i.val) 0 = true →
    s.blk.bt (R.ETH_STAT i.val) 0 = true → s.blk.pageEn (ethPage i.val) = true → f.fcsOk = true →
    let head := s.blk.fl (R.ETH_RING_HEAD i.val 0) 0 10
    let full := head = s.blk.fl (R.ETH_RING_TAIL i.val 0) 0 10
    let d := s.blk.rdN (R.ETH_RING_BASE i.val 0) * 256 + 32 * head
    let tag := if s.blk.bt (R.ETH_CTRL i.val) 4 = true then ethTci f else none
    let data := if tag.isSome = true then f.data.take 12 ++ f.data.drop 16 else f.data
    let buf := mrdN s.mem d 8 % 2 ^ 40
    let long := 1522 < f.data.length + 4
    let fits := data.length ≤ mrdN s.mem (d + 8) 2
    (¬ long → s.blk.ethAccepts i.val f = false → exec (.ethFrameRx i f) s = .next s) ∧
    (long ∨ (s.blk.ethAccepts i.val f = true ∧ (full ∨ (s.blk.dmaOk d 32 = true ∧ ¬ fits))) →
      ∃ t, exec (.ethFrameRx i f) s = .next t ∧
        s.onlyRegs t [R.ETH_DROP_CNT i.val, R.ETH_ERR i.val, R.IRQ_RAW (ethPage i.val)] ∧
        t.blk.fl (R.ETH_DROP_CNT i.val) 0 16 = satAdd (s.blk.fl (R.ETH_DROP_CNT i.val) 0 16) 1 0xFFFF ∧
        t.blk.bt (R.ETH_ERR i.val) 0 = true) ∧
    (¬ long → s.blk.ethAccepts i.val f = true → ¬ full → s.blk.dmaOk d 32 = true → fits →
      s.blk.dmaOk buf data.length = true → buf + data.length ≤ d ∨ d + 32 ≤ buf →
      ∃ t, exec (.ethFrameRx i f) s = .next t ∧ t.isl = s.isl ∧ t.nv = s.nv ∧ t.pending = s.pending ∧
        s.blk.keeps t.blk [R.ETH_RING_HEAD i.val 0, R.IRQ_RAW (ethPage i.val)] ∧
        s.blk.sameHidden { t.blk with free := s.blk.free } ∧
        t.blk.fl (R.ETH_RING_HEAD i.val 0) 0 10 = (head + 1) % s.blk.fl (R.ETH_RING_SIZE i.val 0) 0 11 % 1024 ∧
        t.blk.bt (R.IRQ_RAW (ethPage i.val)) 0 = true ∧ mrdBytes t.mem buf data.length = data ∧
        mrdN t.mem (d + 10) 2 = data.length ∧
        wordsAt t.mem (d + 12) [tag.getD 0 + (if tag.isSome = true then 0x10000 else 0)] ∧ wordsAt t.mem (d + 24) [1] ∧
        (∃ e : Int, -4 ≤ e ∧ e ≤ 4 ∧
          mrdN t.mem (d + 16) 8 = lowBits 64 (s.blk.tb.dt + e + s.blk.fl (R.ETH_RX_LAT i.val) 0 16)) ∧
        memKeeps s.mem t.mem [(buf, data.length), (d + 10, 18)])) ∧
  (∀ (s : State) (snd : Sender) (i : EthIx) (q : Fin 3) (v : Word), s.takesWrite snd (R.ETH_RING_TAIL i.val q.val) →
    ∃ t, exec (.ethTailWrite snd i q v) s = .next t ∧ s.onlyHost t [R.ETH_RING_TAIL i.val q.val] ∧
      t.blk.fl (R.ETH_RING_TAIL i.val q.val) 0 10 = fld v 0 10 ∧ (t.blk.ethAt i.val).sent = (s.blk.ethAt i.val).sent ∧
      (∀ k, k ≠ i.val → t.blk.ethAt k = s.blk.ethAt k) ∧
      (let ready := fun r => t.blk.fl (R.ETH_RING_HEAD i.val (r + 1)) 0 10 != t.blk.fl (R.ETH_RING_TAIL i.val (r + 1)) 0 10
       (t.blk.ethAt i.val).cur = if (s.blk.ethAt i.val).cur = none ∧ s.blk.bt (R.ETH_CTRL i.val) 0 = true ∧
         s.blk.pageEn (ethPage i.val) = true then [0, 1].find? ready else (s.blk.ethAt i.val).cur)) ∧
  (∀ (s : State) (i : EthIx), (s.blk.ethAt i.val).cur = none → exec (.ethTxDone i) s = .next s) ∧
  (∀ (s : State) (i : EthIx) (q : Nat), s.blk.off = false → (s.blk.ethAt i.val).cur = some q → q < 2 →
    let head := s.blk.fl (R.ETH_RING_HEAD i.val (q + 1)) 0 10
    let d := s.blk.rdN (R.ETH_RING_BASE i.val (q + 1)) * 256 + 32 * head
    let len := mrdN s.mem (d + 8) 2
    let buf := mrdN s.mem d 8 % 2 ^ 40
    let opt := mrdN s.mem (d + 10) 2
    let raw := mrdBytes s.mem buf len
    let tci := mrdN s.mem (d + 12) 2
    let dma := s.blk.dmaOk d 32 && s.blk.dmaOk buf len
    ∃ t, exec (.ethTxDone i) s = .next t ∧ t.isl = s.isl ∧ t.nv = s.nv ∧ t.pending = s.pending ∧
      s.blk.keeps t.blk [R.ETH_RING_HEAD i.val (q + 1), R.ETH_ERR i.val, R.IRQ_RAW (ethPage i.val)] ∧
      s.blk.sameHidden { t.blk with host := s.blk.host, free := s.blk.free } ∧
      t.blk.fl (R.ETH_RING_HEAD i.val (q + 1)) 0 10 = (head + 1) % s.blk.fl (R.ETH_RING_SIZE i.val (q + 1)) 0 11 % 1024 ∧
      (dma = false → t.mem = s.mem ∧ t.blk.bt (R.ETH_ERR i.val) 3 = true) ∧
      (dma = true → t.blk.bt (R.IRQ_RAW (ethPage i.val)) (1 + q) = true ∧ wordsAt t.mem (d + 24) [1] ∧
        (t.blk.ethAt i.val).sent = some (if nbit opt 1 = true then raw.take 12 ++
          [0x81#8, 0x00#8, BitVec.ofNat 8 (tci / 256), BitVec.ofNat 8 tci] ++ raw.drop 12 else raw) ∧
        memKeeps s.mem t.mem (if nbit opt 0 = true then [(d + 16, 12)] else [(d + 24, 4)]) ∧
        (nbit opt 0 = true → ∃ e : Int, -4 ≤ e ∧ e ≤ 4 ∧
          mrdN t.mem (d + 16) 8 = lowBits 64 (s.blk.tb.dt + e - s.blk.fl (R.ETH_TX_LAT i.val) 0 16)))) ∧
  (∀ (s : State) (i : EthIx) (speed : Fin 3), s.blk.off = false →
    (∃ t, exec (.ethLinkChange i true speed) s = .next t ∧ s.onlyRegs t [R.ETH_STAT i.val] ∧
      t.blk.bt (R.ETH_STAT i.val) 0 = true ∧ t.blk.fl (R.ETH_STAT i.val) 1 2 = speed.val) ∧
    (s.blk.bt (R.ETH_STAT i.val) 0 = true → ∃ t, exec (.ethLinkChange i false speed) s = .next t ∧
      s.onlyRegs t [R.ETH_STAT i.val, R.ETH_ERR i.val, R.IRQ_RAW (ethPage i.val)] ∧ t.blk.fl (R.ETH_STAT i.val) 0 4 = 0 ∧
      t.blk.bt (R.ETH_ERR i.val) 2 = true) ∧
    (s.blk.bt (R.ETH_STAT i.val) 0 = false → exec (.ethLinkChange i false speed) s = .next s))

/-- The SDRAM controller (R464 to R468): training shows ranks and size, or fails with boot error 6, its record
and, before the firmware runs, stage 0xF; the fill ends with the
populated size all zero; a correctable error is counted with its address; an uncorrectable one ends the access with an error
response, is recorded and stays until its word is written; the scrub takes the next burst, finds both and wraps.
The flash, SPI and SMBus (R470 to R473): a program or erase starts with WR_MODE while none runs, is refused with reason
STATE otherwise, and ends with the collected bytes programmed from 1 to 0, or the sector erased, or FAIL and open contents
(log 27); an SPI transfer of 1 to 32 bytes takes its bytes from the transmit FIFO and leaves those received, and is refused
while the VMF owns the master or it is busy; an SMBus transaction of protocol 1 to 9 ends with its bytes or its error flag,
and the target address takes and gives bytes. -/
def Obligations.SdramAndSerial : Prop :=
  (∀ (s : State) (ok : Bool), s.blk.bt R.SDC_STAT 0 = true → exec (.sdramTrainingDone ok) s = .next s) ∧
  (∀ s : State, s.blk.off = false → s.blk.bt R.SDC_STAT 0 = false →
    (∃ t, exec (.sdramTrainingDone true) s = .next t ∧ s.onlyRegs t [R.SDC_STAT, R.SDC_FILL_PTR] ∧
      t.blk.bt R.SDC_STAT 0 = true ∧ t.blk.bt R.SDC_STAT 1 = false ∧
      t.blk.fl R.SDC_STAT 2 2 = (if s.blk.bt R.SDC_CFG 4 = true then 2 else 1) ∧
      t.blk.fl R.SDC_STAT 4 4 = sdramGB (s.blk.rd R.SDC_CFG) % 16 ∧ t.blk.rdN R.SDC_FILL_PTR = 0x1000000) ∧
    ∃ t, exec (.sdramTrainingDone false) s = .next t ∧ s.sameRest t ∧
      s.blk.keeps t.blk ([R.SYS_BOOT_STAT, R.SDC_ERR, R.IRQ_RAW sdcPage] ++ archiveRegs) ∧
      s.blk.sameHidden { t.blk with eaq := s.blk.eaq, free := s.blk.free } ∧
      t.blk.fl R.SYS_BOOT_STAT 0 4 = (if s.blk.bootStage = 4 then 4 else 0xF) ∧
      t.blk.fl R.SYS_BOOT_STAT 4 4 = s.blk.fl R.SYS_BOOT_STAT 4 4 ∧ t.blk.fl R.SYS_BOOT_STAT 8 8 = 6 ∧
      t.blk.fl R.SYS_BOOT_STAT 16 16 = s.blk.fl R.SYS_BOOT_STAT 16 16 ∧ t.blk.bt R.SDC_ERR 2 = true ∧
      s.blk.offers t.blk 0 0 4 0
        (s.blk.rdN R.SYS_BOOT_STAT % 256 + 0x600 + s.blk.rdN R.SYS_BOOT_STAT / 65536 * 65536) 0) ∧
  (∀ s : State, s.blk.off = false →
    let filling := s.blk.bt R.SDC_STAT 0 = true ∧ s.blk.bt R.SDC_STAT 1 = false
    (¬ filling → exec .sdramFillDone s = .next s) ∧
    (filling → ∃ t, exec .sdramFillDone s = .next t ∧ t.isl = s.isl ∧ t.nv = s.nv ∧ t.pending = s.pending ∧
      s.blk.keeps t.blk [R.SDC_STAT, R.SDC_FILL_PTR] ∧ t.blk.bt R.SDC_STAT 1 = true ∧
      t.blk.rdN R.SDC_FILL_PTR = s.blk.sdramTop / 256 ∧
      t.blk = { s.blk with regs := t.blk.regs, host := { s.blk.host with ue := [], scrub := 0 } } ∧
      ∀ a, mrd t.mem a = if 0x100000000 ≤ a ∧ a < s.blk.sdramTop then 0#8 else mrd s.mem a)) ∧
  (∀ (s : State) (a : Fin (2 ^ 40)), s.blk.off = false →
    let inside := s.blk.bt R.SDC_STAT 1 = true ∧ 0x100000000 ≤ a.val ∧ a.val < s.blk.sdramTop
    let regs := [R.SDC_ECC_ADDR_LO, R.SDC_ECC_ADDR_HI, R.SDC_ERR, R.IRQ_RAW sdcPage]
    (¬ inside → ∀ ue, exec (.sdramEccError a ue) s = .next s) ∧
    (inside → (∃ t, exec (.sdramEccError a false) s = .next t ∧ s.onlyRegs t (R.SDC_CE_CNT :: regs) ∧
        t.blk.fl R.SDC_CE_CNT 0 16 = satAdd (s.blk.fl R.SDC_CE_CNT 0 16) 1 0xFFFF ∧ t.blk.bt R.SDC_ERR 0 = true ∧
        t.blk.rdN R.SDC_ECC_ADDR_LO = a.val / 8 * 8 % 2 ^ 32 ∧ t.blk.rdN R.SDC_ECC_ADDR_HI = a.val / 2 ^ 32) ∧
      ∃ t, exec (.sdramEccError a true) s = .next t ∧ s.sameRest t ∧ s.blk.keeps t.blk (regs ++ archiveRegs) ∧
        s.blk.sameHidden { t.blk with host := s.blk.host, eaq := s.blk.eaq, free := s.blk.free } ∧
        t.blk.answer = { error := true } ∧ t.blk.bt R.SDC_ERR 1 = true ∧ a.val / 8 ∈ t.blk.host.ue ∧
        t.blk.rdN R.SDC_ECC_ADDR_LO = a.val / 8 * 8 % 2 ^ 32 ∧ t.blk.rdN R.SDC_ECC_ADDR_HI = a.val / 2 ^ 32 + 256 ∧
        s.blk.offers t.blk 0x53 0 2 (t.blk.rdN R.SDC_ERR) 0 (a.val / 8 * 8))) ∧
  (∀ (s : State) (ce : Bool), s.blk.off = false →
    let on := s.blk.bt R.SDC_STAT 1 = true ∧ s.blk.bt R.SDC_CTRL 0 = true
    let a := 0x100000000 + 64 * s.blk.host.scrub
    (¬ on → exec (.sdramScrub ce) s = .next s) ∧
    (on → ∃ t, exec (.sdramScrub ce) s = .next t ∧ s.sameRest t ∧
      t.blk.host.scrub = (if a + 64 < s.blk.sdramTop then s.blk.host.scrub + 1 else 0) ∧
      t.blk.host.ue = s.blk.host.ue ∧ t.blk.answer = s.blk.answer ∧
      (ce = true → t.blk.fl R.SDC_CE_CNT 0 16 = satAdd (s.blk.fl R.SDC_CE_CNT 0 16) 1 0xFFFF ∧
        t.blk.bt R.SDC_ERR 0 = true) ∧
      ((∃ w ∈ s.blk.host.ue, w / 8 = a / 64) → t.blk.bt R.SDC_ERR 1 = true) ∧
      (ce = false → (∀ w ∈ s.blk.host.ue, w / 8 ≠ a / 64) →
        t.blk = { s.blk with host := { s.blk.host with scrub := t.blk.host.scrub } }))) ∧
  (∀ (s : State) (snd : Sender), s.takesWrite snd R.XSPI_CMD →
    ∀ p ∈ [(Instr.xspiProgram snd, 1), (.xspiErase snd, 2)],
      (s.blk.bt R.XSPI_CTRL 0 = false ∨ s.blk.bt R.XSPI_STAT 0 = true →
        ∃ t, exec p.1 s = .next t ∧ s.refused t R.XSPI_CMD .state []) ∧
      (s.blk.bt R.XSPI_CTRL 0 = true → s.blk.bt R.XSPI_STAT 0 = false → ∃ t, exec p.1 s = .next t ∧
        s.onlyHost t [R.XSPI_STAT] ∧ t.blk.bt R.XSPI_STAT 0 = true ∧
        t.blk.host = { s.blk.host with xop := p.2, xaddr := s.blk.fl R.XSPI_ADDR 0 28 })) ∧
  (∀ (s : State) (ok : Bool), s.blk.bt R.XSPI_STAT 0 = false → exec (.xspiOpDone ok) s = .next s) ∧
  (∀ (s : State) (ok : Bool), s.blk.off = false → s.blk.bt R.XSPI_STAT 0 = true → s.blk.host.xaddr < 2 ^ 28 →
    let prog := s.blk.host.xop = 1
    let sector := 0x30000000 + s.blk.host.xaddr / 65536 * 65536
    ∃ t, exec (.xspiOpDone ok) s = .next t ∧ t.isl = s.isl ∧ t.nv = s.nv ∧ t.pending = s.pending ∧
      s.blk.keeps t.blk [R.XSPI_STAT, R.IRQ_RAW xspiPage] ∧
      s.blk.sameHidden { t.blk with host := s.blk.host, free := s.blk.free } ∧
      t.blk.fl R.XSPI_STAT 0 2 = (if ok = true then 0 else 2) ∧ t.blk.bt (R.IRQ_RAW xspiPage) 0 = true ∧
      t.blk.host.xop = 0 ∧ t.blk.host.xbuf = (if prog then [] else s.blk.host.xbuf) ∧
      (prog → memKeeps s.mem t.mem (s.blk.host.xbuf.map (fun e => (e.1, 1)))) ∧
      (prog → ok = true → (s.blk.host.xbuf.map Prod.fst).Nodup →
        ∀ e ∈ s.blk.host.xbuf, mrd t.mem e.1 = mrd s.mem e.1 &&& e.2) ∧
      (¬ prog → memKeeps s.mem t.mem [(sector, 65536)] ∧
        (ok = true → ∀ a, sector ≤ a → a < sector + 65536 → mrd t.mem a = 0xFF#8))) ∧
  (∀ (s : State) (snd : Sender) (k : Fin 2) (v : Word), s.takesWrite snd (R.SPI_CMD k.val) →
    let n := fld v 0 6
    let x := s.blk.spiAt k.val
    let bad := n = 0 ∨ 32 < n
    (s.blk.spiVmf k.val = true → ∃ t, exec (.spiTransferGo snd k v) s = .next t ∧ s.refused t (R.SPI_CMD k.val) .state []) ∧
    (s.blk.spiVmf k.val = false → bad →
      ∃ t, exec (.spiTransferGo snd k v) s = .next t ∧ s.refused t (R.SPI_CMD k.val) .range []) ∧
    (s.blk.spiVmf k.val = false → ¬ bad → v.getLsbD 8 = true → s.blk.bt (R.SPI_STAT k.val) 0 = true →
      ∃ t, exec (.spiTransferGo snd k v) s = .next t ∧ s.refused t (R.SPI_CMD k.val) .state []) ∧
    (s.blk.spiVmf k.val = false → ¬ bad → v.getLsbD 8 = true → s.blk.bt (R.SPI_STAT k.val) 0 = false →
      ∃ t, exec (.spiTransferGo snd k v) s = .next t ∧ s.onlyHost t [R.SPI_STAT k.val] ∧
        t.blk.bt (R.SPI_STAT k.val) 0 = true ∧
        t.blk.spiAt k.val = { x with len := n, out := x.tx.take n, tx := x.tx.drop n } ∧
        ∀ j, j ≠ k.val → t.blk.spiAt j = s.blk.spiAt j)) ∧
  (∀ (s : State) (k : Fin 2) (rx : List Byte), s.blk.bt (R.SPI_STAT k.val) 0 = false →
    exec (.spiTransferDone k rx) s = .next s) ∧
  (∀ (s : State) (k : Fin 2) (rx : List Byte), s.blk.off = false → s.blk.bt (R.SPI_STAT k.val) 0 = true →
    let x := s.blk.spiAt k.val
    let fifo := (x.rx ++ (List.range x.len).map (fun j => rx.getD j 0#8)).take 32
    ∃ t, exec (.spiTransferDone k rx) s = .next t ∧ s.onlyHost t [R.SPI_STAT k.val, R.IRQ_RAW xspiPage] ∧
      t.blk.spiAt k.val = { x with rx := fifo, len := 0 } ∧ t.blk.bt (R.SPI_STAT k.val) 0 = false ∧
      t.blk.fl (R.SPI_STAT k.val) 8 6 = fifo.length ∧ t.blk.bt (R.IRQ_RAW xspiPage) (1 + k.val) = true ∧
      ∀ j, j ≠ k.val → t.blk.spiAt j = s.blk.spiAt j) ∧
  (∀ (s : State) (snd : Sender) (c : Fin 2) (v : Word), s.takesWrite snd (R.SMB_CMD c.val) →
    let p := fld v 0 4
    let bad := p = 0 ∨ 9 < p
    let stop := s.blk.bt (R.SMB_STAT c.val) 0 = true ∨ s.blk.bt (R.SMB_CFG c.val) 0 = false
    (bad → ∃ t, exec (.smbTransactionGo snd c v) s = .next t ∧ s.refused t (R.SMB_CMD c.val) .range []) ∧
    (¬ bad → v.getLsbD 31 = true → stop →
      ∃ t, exec (.smbTransactionGo snd c v) s = .next t ∧ s.refused t (R.SMB_CMD c.val) .state []) ∧
    (¬ bad → v.getLsbD 31 = true → ¬ stop →
      ∃ t, exec (.smbTransactionGo snd c v) s = .next t ∧ s.onlyHost t [R.SMB_STAT c.val] ∧
        t.blk.bt (R.SMB_STAT c.val) 0 = true ∧ (t.blk.smbAt c.val).cmd = v.toNat ∧
        (t.blk.smbAt c.val).buf = (s.blk.smbAt c.val).buf.take 32)) ∧
  (∀ (s : State) (c : Fin 2) (err : Option (Fin 3)) (rx : List Byte), s.blk.bt (R.SMB_STAT c.val) 0 = false →
    exec (.smbTransactionDone c err rx) s = .next s ∧ exec (.smbClockTimeout c) s = .next s) ∧
  (∀ (s : State) (c : Fin 2) (err : Fin 3) (rx : List Byte), s.blk.off = false → s.blk.bt (R.SMB_STAT c.val) 0 = true →
    let ended := fun (t : State) => t.blk.bt (R.SMB_STAT c.val) 0 = false ∧ t.blk.bt (R.IRQ_RAW xspiPage) (3 + c.val) = true
    let x := s.blk.smbAt c.val
    let p := x.cmd % 16
    let n := if p = 3 ∨ p = 5 then 1 else if p = 7 then 2 else if p = 9 then rx.length else 0
    let sent := if p = 2 ∨ p = 4 then 1 else if p = 6 then 2 else if p = 8 then 32 else 0
    (∃ t, exec (.smbTransactionDone c none rx) s = .next t ∧ s.onlyHost t [R.SMB_STAT c.val, R.IRQ_RAW xspiPage] ∧ ended t ∧
      (t.blk.smbAt c.val).buf = (x.buf.drop sent ++ (List.range n).map (fun j => rx.getD j 0#8)).take 32) ∧
    (∃ t, exec (.smbTransactionDone c (some err) rx) s = .next t ∧
      s.onlyRegs t [R.SMB_STAT c.val, R.SMB_ERR c.val, R.IRQ_RAW xspiPage] ∧ ended t ∧
      t.blk.bt (R.SMB_ERR c.val) err.val = true) ∧
    ∃ t, exec (.smbClockTimeout c) s = .next t ∧
      s.onlyRegs t [R.SMB_STAT c.val, R.SMB_ERR c.val, R.IRQ_RAW xspiPage] ∧ ended t ∧
      t.blk.bt (R.SMB_ERR c.val) 3 = true) ∧
  (∀ (s : State) (c : Fin 2) (addr : Fin 128) (wr : Option (List Byte)) (n : Nat), s.blk.off = false →
    let named := s.blk.bt (R.SMB_CFG c.val) 0 = true ∧ s.blk.bt (R.SMB_CFG c.val) 11 = true ∧
      s.blk.fl (R.SMB_CFG c.val) 4 7 = addr.val
    (¬ named → exec (.smbTargetAccess c addr wr n) s = .next s) ∧
    (named → ∃ t, exec (.smbTargetAccess c addr wr n) s = .next t ∧ s.onlyHost t [R.SMB_STAT c.val, R.IRQ_RAW xspiPage] ∧
      t.blk.bt (R.IRQ_RAW xspiPage) (3 + c.val) = true ∧
      (∀ l, wr = some l → (t.blk.smbAt c.val).buf = ((s.blk.smbAt c.val).buf ++ l).take 32) ∧
      (wr = none → (t.blk.smbAt c.val).buf = ((s.blk.smbAt c.val).buf.drop n).take 32)))

/-- Keys, counters and the secret area (R487 to R489, R493): the commands are refused as the table of R488 says; a command
in progress holds BUSY, and its end provisions the slot with its hash or leaves it unusable, or revokes it, with OTP_FAIL on
a mismatch; a counter never goes down or past 255; a secret word gains bits in Blank and Provisioned alone; LOCK hides the secret.
The lifecycle (R490, R492): a write without the key 0x5EC1 is refused with reason RANGE, one while BUSY with reason STATE,
one that matches no row, or brings no two valid tokens, with reason LIFECYCLE; a transition holds BUSY and ends with a system
reset of cause SOFT in the new state, RETURNED with every customer slot revoked and the secret area all ones; a command of
the return challenge forms a new one and shows it. -/
def Obligations.KeysAndLifecycle : Prop :=
  (∀ (s : State) (snd : Sender), s.takesWrite snd R.SEC_KEY_CMD →
    let k := s.blk.fl R.SEC_KEY_SEL 0 3
    let n := s.nv
    let badP := s.blk.secBusy = true ∨ 3 < k ∨ k ∈ n.prov ∨ k ∈ n.bad
    let badR := s.blk.secBusy = true ∨ (k < 4 ∧ (n.lc = 0 ∨ ∀ j ∈ n.prov, j = k ∨ j ∈ n.rev)) ∨ (k = 4 ∧ 5 ∈ n.rev) ∨
      (k = 5 ∧ 4 ∈ n.rev)
    let started := fun (t : State) (op : OtpOp) => s.sameRest t ∧ s.blk.onlySec t.blk [R.SEC_STAT] ∧
      t.blk.secBusy = true ∧ t.blk.sec = { s.blk.sec with otp := some op }
    (2 ≤ n.lc → ∃ t, exec (.keyProgram snd) s = .next t ∧ s.refused t R.SEC_KEY_CMD .lifecycle []) ∧
    (n.lc < 2 → badP → ∃ t, exec (.keyProgram snd) s = .next t ∧ s.refused t R.SEC_KEY_CMD .state []) ∧
    (n.lc < 2 → ¬ badP → ∃ t, exec (.keyProgram snd) s = .next t ∧
      started t (.prog k (((List.range 8).map (fun j => s.blk.rdN (R.SEC_KEY_HASH j) * 2 ^ (32 * j))).sum))) ∧
    (badR → ∃ t, exec (.keyRevoke snd) s = .next t ∧ s.refused t R.SEC_KEY_CMD .state []) ∧
    (¬ badR → ∃ t, exec (.keyRevoke snd) s = .next t ∧ started t (.revoke k))) ∧
  (∀ (s : State) (ok : Bool), s.blk.held = true ∨ (∀ k h, s.blk.sec.otp ≠ some (.prog k h)) ∧
      (∀ k, s.blk.sec.otp ≠ some (.revoke k)) → exec (.otpCommandDone ok) s = .next s) ∧
  (∀ (s : State) (ok : Bool) (op : OtpOp), s.blk.held = false → s.blk.sec.otp = some op → (∀ t, op ≠ .life t) →
    ∃ t, exec (.otpCommandDone ok) s = .next t ∧ t.isl = s.isl ∧ t.mem = s.mem ∧ t.pending = s.pending ∧
      s.blk.onlySec t.blk (R.SEC_ERR :: R.IRQ_RAW secPage :: otpRegs) ∧ t.blk.sec = { s.blk.sec with otp := none } ∧
      t.blk.secBusy = false ∧ t.blk.bt (R.IRQ_RAW secPage) 0 = true ∧ (ok = false → t.blk.bt R.SEC_ERR 0 = true) ∧
      t.blk.fl R.SEC_STAT 0 12 = t.nv.secStat % 2 ^ 12 ∧
      (∀ k h, op = .prog k h → ok = true → sget (fun _ => 0) t.nv.keyHash k = h ∧
        t.nv = { s.nv with keyHash := t.nv.keyHash, prov := s.nv.prov ++ [k] }) ∧
      (∀ k h, op = .prog k h → ok = false → t.nv = { s.nv with bad := s.nv.bad ++ [k] }) ∧
      (∀ k, op = .revoke k → t.nv = if ok = true ∧ k ∉ s.nv.rev then { s.nv with rev := s.nv.rev ++ [k] } else s.nv)) ∧
  (∀ (s : State) (snd : Sender) (v : Word), s.takesWrite snd R.SEC_CTR_ADV →
    let k := s.blk.fl R.SEC_CTR_SEL 0 6
    let old := sget (fun _ => 0) s.nv.ctr k
    (s.blk.secBusy = true → ∃ t, exec (.counterAdvance snd v) s = .next t ∧ s.refused t R.SEC_CTR_ADV .state []) ∧
    (s.blk.secBusy = false → v.toNat < old ∨ 255 < v.toNat →
      ∃ t, exec (.counterAdvance snd v) s = .next t ∧ s.refused t R.SEC_CTR_ADV .range []) ∧
    (s.blk.secBusy = false → old ≤ v.toNat → v.toNat ≤ 255 → ∃ t, exec (.counterAdvance snd v) s = .next t ∧ t.isl = s.isl ∧
      t.mem = s.mem ∧ t.pending = s.pending ∧ s.blk.keeps t.blk (R.IRQ_RAW secPage :: otpRegs) ∧
      s.blk.sameHidden t.blk ∧ t.nv = { s.nv with ctr := t.nv.ctr } ∧ t.blk.rdN R.SEC_CTR = v.toNat ∧
      ∀ j, sget (fun _ => 0) t.nv.ctr j = if j = k then v.toNat else sget (fun _ => 0) s.nv.ctr j)) ∧
  (∀ (s : State) (snd : Sender) (v : Word), s.takesWrite snd R.SEC_SECRET_PROG →
    (2 ≤ s.nv.lc → ∃ t, exec (.secretProgram snd v) s = .next t ∧ s.refused t R.SEC_SECRET_PROG .lifecycle []) ∧
    (s.nv.lc < 2 → s.blk.secBusy = true →
      ∃ t, exec (.secretProgram snd v) s = .next t ∧ s.refused t R.SEC_SECRET_PROG .state []) ∧
    (s.nv.lc < 2 → s.blk.secBusy = false → ∃ t, exec (.secretProgram snd v) s = .next t ∧
      t = { s with blk := { s.blk with answer := {} }, nv := { s.nv with secret := t.nv.secret } } ∧
      ∀ j, sget (fun _ => 0#32) t.nv.secret j = if j = fld v 0 6
        then sget (fun _ => 0#32) s.nv.secret j ||| s.blk.rd (R.SEC_KEY_HASH 0) else sget (fun _ => 0#32) s.nv.secret j)) ∧
  (∀ (s : State) (snd : Sender) (v : Word), s.takesWrite snd R.SEC_SECRET_LOCK → v.getLsbD 0 = true →
    ∃ t, exec (.secretLock snd v) s = .next t ∧ s.onlyRegs t [R.SEC_SECRET_LOCK, R.SEC_STAT] ∧
      t.blk.bt R.SEC_SECRET_LOCK 0 = true ∧ t.blk.bt R.SEC_STAT 13 = true ∧ ∀ i, secretWord t.blk t.nv i = 0#32) ∧
  (∀ (s : State) (snd : Sender) (v : Word) (rel ret : ImgHdr), s.takesWrite snd R.SEC_LC_ADV →
    let t0 := fld v 0 2
    let lc := s.nv.lc
    let valid := fun (h : ImgHdr) typ => h.typ = typ ∧ verifyImage s.blk.role s.nv.uid s.nv h = none ∧ h.bind = s.nv.uid ∧
      s.blk.sec.retChal = some h.chal
    let back := (lc = 1 ∨ lc = 2) ∧ t0 = 3
    let row := (lc = 0 ∧ t0 = 1 ∧ s.nv.prov ≠ []) ∨ (lc = 1 ∧ t0 = 2)
    let key := fld v 16 16 = 0x5EC1
    (¬ key → ∃ t, exec (.lifecycleAdvance snd v rel ret) s = .next t ∧ s.refused t R.SEC_LC_ADV .range []) ∧
    (key → s.blk.secBusy = true →
      ∃ t, exec (.lifecycleAdvance snd v rel ret) s = .next t ∧ s.refused t R.SEC_LC_ADV .state []) ∧
    (key → s.blk.secBusy = false → ¬ row → ¬ back →
      ∃ t, exec (.lifecycleAdvance snd v rel ret) s = .next t ∧ s.refused t R.SEC_LC_ADV .lifecycle []) ∧
    (key → s.blk.secBusy = false → back → ¬ (valid rel 5 ∧ valid ret 6) →
      ∃ t, exec (.lifecycleAdvance snd v rel ret) s = .next t ∧ s.refused t R.SEC_LC_ADV .lifecycle [R.SEC_ERR] ∧
        t.blk.bt R.SEC_ERR 5 = true) ∧
    (key → s.blk.secBusy = false → row ∨ (back ∧ valid rel 5 ∧ valid ret 6) →
      ∃ t, exec (.lifecycleAdvance snd v rel ret) s = .next t ∧ s.sameRest t ∧ s.blk.onlySec t.blk [R.SEC_STAT] ∧
        t.blk.secBusy = true ∧ t.blk.sec = { s.blk.sec with
          otp := some (.life t0)
          retChal := if back then none else s.blk.sec.retChal })) ∧
  (∀ s : State, s.blk.held = true ∨ (∀ k, s.blk.sec.otp ≠ some (.life k)) → exec .lifecycleTransitionDone s = .next s) ∧
  (∀ (s : State) (k : Nat), s.blk.held = false → s.blk.sec.otp = some (.life k) →
    ∃ t, exec .lifecycleTransitionDone s = .next t ∧ ({ s with nv := t.nv } : State).systemReset t [.software] ∧ t.nv.lc = k ∧
      t.nv = { s.nv with lc := k, rev := t.nv.rev, secret := t.nv.secret } ∧
      (k ≠ 3 → t.nv.rev = s.nv.rev ∧ t.nv.secret = s.nv.secret) ∧
      (k = 3 → (∀ j, j < 4 → j ∈ t.nv.rev) ∧ (∀ j, 3 < j → (j ∈ t.nv.rev ↔ j ∈ s.nv.rev)) ∧
        ∀ i, i < 64 → sget (fun _ => 0#32) t.nv.secret i = 0xFFFFFFFF#32)) ∧
  (∀ (s : State) (snd : Sender) (v : Word), s.takesWrite snd R.SEC_RET_CMD → v.getLsbD 0 = true →
    ∃ t c, exec (.returnChallenge snd v) s = .next t ∧ s.sameRest t ∧
      s.blk.onlySec t.blk ((List.range 8).map R.SEC_RET_CHAL) ∧ c < 2 ^ 256 ∧
      t.blk.sec = { s.blk.sec with retChal := some c } ∧
      ∀ j, j < 8 → t.blk.rdN (R.SEC_RET_CHAL j) = c / 2 ^ (32 * j) % 2 ^ 32)

/-- Debug authorisation (R494, R495, R503): each command completes wherever its access is taken. A request is refused with LOCK
set or after 16 failed ones, is granted at once with every permission in Blank and Provisioned, and else has its token checked;
a token that passes grants the permissions of its word and any other counts as failed with its code and sets TOKEN_FAIL; a read of DBG_CHAL0 forms a
new challenge and voids the token and a check; token words fill the buffer upwards; a core's LOCK withdraws the grant, and no
other sender writes it; a request or a LOCK written as 0 does nothing. -/
def Obligations.DebugAuthorisation : Prop :=
  (∀ (s : State) (snd : Option Sender) (v : Word), s.authTakes snd R.DBG_AUTH_REQ →
    let stopped := s.blk.bt R.DBG_CTRL 0 = true ∨ 16 ≤ s.blk.sec.fails
    ∃ t, exec (.debugAuthRequest snd v) s = .next t ∧ s.sameRest t ∧
      (v.getLsbD 0 = false → t.blk = { s.blk with answer := {} }) ∧
      (v.getLsbD 0 = true → stopped → s.refused t R.DBG_AUTH_REQ .state []) ∧
      (v.getLsbD 0 = true → ¬ stopped → s.nv.lc < 2 → s.onlyRegs t [R.DBG_AUTH_STAT] ∧ t.blk.fl R.DBG_AUTH_STAT 0 6 = 63) ∧
      (v.getLsbD 0 = true → ¬ stopped → 2 ≤ s.nv.lc →
        t.blk = { s.blk with answer := {}, sec := { s.blk.sec with checking := true } })) ∧
  (∀ (s : State) (tok : ImgHdr), s.blk.off = true ∨ s.blk.sec.checking = false → exec (.debugTokenCheckDone tok) s = .next s) ∧
  (∀ (s : State) (tok : ImgHdr), s.blk.off = false → s.blk.sec.checking = true →
    let fault := verifyImage s.blk.role s.nv.uid s.nv tok
    let good := s.blk.sec.tok ≠ [] ∧ fault = none ∧ tok.typ = 4 ∧ s.blk.sec.chal = some tok.chal ∧ tok.perm ≠ 0
    ∃ t, exec (.debugTokenCheckDone tok) s = .next t ∧ s.sameRest t ∧
      s.blk.onlySec t.blk [R.DBG_AUTH_STAT, R.SEC_ERR, R.IRQ_RAW 0x40002000] ∧
      (good → t.blk.sec = { s.blk.sec with checking := false } ∧
        t.blk.fl R.DBG_AUTH_STAT 0 6 = 1 + tok.perm % 32 * 2 ∧
        t.blk.fl R.DBG_AUTH_STAT 6 26 = s.blk.fl R.DBG_AUTH_STAT 6 26 ∧ t.blk.rd R.SEC_ERR = s.blk.rd R.SEC_ERR) ∧
      (¬ good → t.blk.sec = { s.blk.sec with checking := false, fails := s.blk.sec.fails + 1 } ∧
        t.blk.fl R.DBG_AUTH_STAT 0 7 = s.blk.fl R.DBG_AUTH_STAT 0 7 ∧
        t.blk.fl R.DBG_AUTH_STAT 8 8 = min (s.blk.sec.fails + 1) 255 ∧
        (∀ c, s.blk.sec.tok ≠ [] → fault = some c → t.blk.fl R.DBG_AUTH_STAT 16 8 = c % 256) ∧
        t.blk.bt R.DBG_AUTH_STAT 7 = decide (16 ≤ s.blk.sec.fails + 1) ∧ t.blk.bt R.SEC_ERR 5 = true)) ∧
  (∀ (s : State) (snd : Option Sender), (snd = none ∧ s.blk.held = false) ∨
      (∃ x, snd = some x ∧ s.takesRead x (R.DBG_CHAL 0)) →
    ∃ t, exec (.debugChallengeRead snd) s = .next t ∧ s.sameRest t ∧ s.blk.onlySec t.blk ((List.range 8).map R.DBG_CHAL) ∧
      ∃ c, c < 2 ^ 256 ∧ t.blk.sec = { s.blk.sec with chal := some c, tok := [], checking := false } ∧
        t.blk.answer = { data := c % 2 ^ 32 } ∧ ∀ j, j < 8 → t.blk.rdN (R.DBG_CHAL j) = c / 2 ^ (32 * j) % 2 ^ 32) ∧
  (∀ (s : State) (snd : Option Sender) (v : Word), s.authTakes snd R.DBG_TOK_DATA →
    let i := s.blk.fl R.DBG_TOK_ADDR 2 11
    ∃ t, exec (.debugTokenWrite snd v) s = .next t ∧ s.sameRest t ∧ s.blk.onlySec t.blk [R.DBG_TOK_ADDR] ∧
      t.blk.fl R.DBG_TOK_ADDR 2 11 = (i + 1) % 2048 ∧ t.blk.sec = { s.blk.sec with tok := t.blk.sec.tok } ∧
      ∀ j, sget (fun _ => 0) t.blk.sec.tok j = if j = i ∧ i < 1152 then v.toNat else sget (fun _ => 0) s.blk.sec.tok j) ∧
  (∀ (s : State) (snd : Sender) (v : Word), s.takesWrite snd R.DBG_CTRL →
    ∃ t, exec (.debugLock snd v) s = .next t ∧ s.sameRest t ∧
      (7 < snd.agent.val → s.refused t R.DBG_CTRL .agent []) ∧
      (snd.agent.val ≤ 7 → v.getLsbD 0 = false → t.blk = { s.blk with answer := {} }) ∧
      (snd.agent.val ≤ 7 → v.getLsbD 0 = true →
        s.blk.onlySec t.blk [R.DBG_CTRL, R.DBG_AUTH_STAT] ∧ t.blk.bt R.DBG_CTRL 0 = true ∧
        t.blk.fl R.DBG_AUTH_STAT 0 6 = 0 ∧ t.blk.sec = { s.blk.sec with checking := false }))

/-- Attestation, colophon and field records (R496 to R500, R502): GO takes the nonce and the values of the report, is refused
while one runs, and fails for a buffer outside shared and wing SRAM; its end stores the report at the buffer, or fails with
the random source; a colophon read steps its index; a firmware record joins the queue unless that is full; the writer takes
the oldest record of the queue over the slot with the lowest SEQ; a powered hour counts. -/
def Obligations.ReportsAndRecords : Prop :=
  (∀ (s : State) (snd : Sender) (v : Word), s.takesWrite snd R.SEC_ATT_CMD → v.getLsbD 0 = true →
    let a := s.blk.rdN R.SEC_ATT_ADDR_LO + 2 ^ 32 * s.blk.fl R.SEC_ATT_ADDR_HI 0 8
    let inside := s.blk.dmaOk a 1792 = true ∧ a < 0x20000000
    let st := s.blk.fl R.SEC_ATT_STAT 0 2
    (st = 1 → ∃ t, exec (.attestationGo snd v) s = .next t ∧ s.refused t R.SEC_ATT_CMD .state []) ∧
    (st ≠ 1 → ¬ inside → ∃ t, exec (.attestationGo snd v) s = .next t ∧
      s.onlyRegs t [R.SEC_ATT_STAT, R.SEC_ERR, R.IRQ_RAW secPage] ∧ t.blk.fl R.SEC_ATT_STAT 0 2 = 3 ∧
      t.blk.bt R.SEC_ERR 3 = true) ∧
    (st ≠ 1 → inside → ∃ t, exec (.attestationGo snd v) s = .next t ∧ s.sameRest t ∧
      s.blk.onlySec t.blk [R.SEC_ATT_STAT] ∧ t.blk.fl R.SEC_ATT_STAT 0 2 = 1 ∧ t.blk.sec.attAddr = a ∧
      t.blk.sec.att.take 32 = mrdBytes s.mem a 32 ∧ (t.blk.sec.att.drop 32).take 8 = bytesOf 8 s.nv.uid ∧
      t.blk.sec = { s.blk.sec with att := t.blk.sec.att, attAddr := a })) ∧
  (∀ (s : State) (r : Bool), s.blk.fl R.SEC_ATT_STAT 0 2 ≠ 1 → exec (.attestationDone r) s = .next s) ∧
  (∀ s : State, s.blk.off = false → s.blk.fl R.SEC_ATT_STAT 0 2 = 1 →
    (∃ t, exec (.attestationDone false) s = .next t ∧ s.onlyRegs t [R.SEC_ATT_STAT, R.SEC_ERR, R.IRQ_RAW secPage] ∧
      t.blk.fl R.SEC_ATT_STAT 0 2 = 3 ∧ t.blk.bt R.SEC_ERR 2 = true) ∧
    ∃ t, exec (.attestationDone true) s = .next t ∧ t.isl = s.isl ∧ t.nv = s.nv ∧ t.pending = s.pending ∧
      s.blk.keeps t.blk [R.SEC_ATT_STAT, R.IRQ_RAW secPage] ∧ s.blk.sameHidden t.blk ∧
      t.blk.fl R.SEC_ATT_STAT 0 2 = 2 ∧ t.blk.bt (R.IRQ_RAW secPage) 1 = true ∧
      mrdBytes t.mem s.blk.sec.attAddr s.blk.sec.att.length = s.blk.sec.att ∧
      memKeeps s.mem t.mem [(s.blk.sec.attAddr, s.blk.sec.att.length + 1280)]) ∧
  (∀ (s : State) (snd : Sender), s.takesRead snd R.SEC_COL_DATA →
    let i := s.blk.fl R.SEC_COL_ADDR 2 10
    ∃ t, exec (.colophonRead snd) s = .next t ∧ s.onlyRegs t [R.SEC_COL_ADDR] ∧
      t.blk.fl R.SEC_COL_ADDR 2 10 = (i + 1) % 1024 ∧ (i = 0 → t.blk.answer.data = s.nv.uid % 2 ^ 32) ∧
      (i = 1 → t.blk.answer.data = s.nv.uid / 2 ^ 32 % 2 ^ 32) ∧ (i = 2 → t.blk.answer.data = s.blk.rdN R.SYS_ID) ∧
      (832 ≤ i → t.blk.answer.data = 0)) ∧
  (∀ (s : State) (snd : Sender) (v : Word), s.takesWrite snd R.SEC_EA_POST → v.getLsbD 0 = true →
    (8 ≤ s.blk.eaq.length → ∃ t, exec (.eventArchivePost snd v) s = .next t ∧ s.refused t R.SEC_EA_POST .state []) ∧
    (s.blk.eaq.length < 8 → ∃ t r, exec (.eventArchivePost snd v) s = .next t ∧ s.sameRest t ∧ s.blk.keeps t.blk [] ∧
      s.blk.sameHidden { t.blk with eaq := s.blk.eaq, free := s.blk.free } ∧ t.blk.eaq = s.blk.eaq ++ [r] ∧
      r.source = 0xF0 ∧ r.code = s.blk.fl R.SEC_EA_POST_CODE 0 8 ∧ r.cls = s.blk.fl R.SEC_EA_POST_CODE 8 8 ∧
      r.dt = s.blk.tb.dt ∧ r.args = (List.range 4).map (fun j => s.blk.rdN (R.SEC_EA_ARG j)))) ∧
  (∀ s : State, s.blk.eaq = [] → exec .eventArchiveWrite s = .next s) ∧
  (∀ (s : State) (r : EaRec) (l : List EaRec), s.blk.eaq = r :: l →
    ∃ t, exec .eventArchiveWrite s = .next t ∧ t.isl = s.isl ∧ t.mem = s.mem ∧ t.pending = s.pending ∧ t.blk.eaq = l ∧
      s.blk.keeps t.blk otpRegs ∧ s.blk.sameHidden { t.blk with eaq := s.blk.eaq } ∧
      t.nv = { s.nv with
        archive := { seq := s.nv.nextSeq, body := r } :: s.nv.archive.take (if s.nv.archive.length < 256 then 256 else 255)
        nextSeq := s.nv.nextSeq + 1 } ∧
      (s.blk.held = false → s.blk.bootStage ≠ 0 →
        t.blk.fl R.SEC_EA_STAT 0 9 = (t.nv.archive.filter (fun e => e.crcOk)).length % 512)) ∧
  (∀ s : State, ∃ t, exec .poweredHour s = .next t ∧ t.isl = s.isl ∧ t.mem = s.mem ∧ t.pending = s.pending ∧
    t.nv = { s.nv with poh := s.nv.poh + 1 } ∧ s.blk.keeps t.blk otpRegs ∧ s.blk.sameHidden t.blk ∧
    (s.blk.held = false → s.blk.bootStage ≠ 0 → t.blk.rdN R.SEC_POH = (s.nv.poh + 1) % 2 ^ 32))
end

