-- ==== Sys2Proof/Laws/Sparse.lean ====
section
/-! SUPPORT. Laws of the sparse maps: a read after a write, and that a write keeps the canonical form. -/

namespace Sys2Proof.Machine

section
variable {α : Type} (d : Nat → α)

theorem sget_serase_self (m : Sparse α) (k : Nat) : sget d (serase k m) k = d k := by
  induction m with
  | nil => rfl
  | cons e m ih =>
    obtain ⟨j, v⟩ := e
    by_cases h : j = k <;> simp [serase, sget, h, ih]

theorem sget_serase_of_ne (m : Sparse α) {k l : Nat} (h : l ≠ k) : sget d (serase k m) l = sget d m l := by
  induction m with
  | nil => rfl
  | cons e m ih =>
    obtain ⟨j, v⟩ := e
    by_cases hj : j = k
    · subst hj
      simp [serase, sget, ih, Ne.symm h]
    · by_cases hl : j = l
      · subst hl; simp [serase, sget, hj]
      · simp [serase, sget, hj, hl, ih]

theorem sget_sinsert_of_ne (m : Sparse α) {k l : Nat} (v : α) (h : l ≠ k) :
    sget d (sinsert k v m) l = sget d m l := by
  induction m with
  | nil => simp [sinsert, sget, Ne.symm h]
  | cons e m ih =>
    obtain ⟨j, w⟩ := e
    by_cases hj : k < j
    · simp [sinsert, hj, sget, Ne.symm h]
    · by_cases hl : j = l
      · subst hl; simp [sinsert, hj, sget]
      · simp [sinsert, hj, sget, hl, ih]

theorem sget_sinsert_self (m : Sparse α) (k : Nat) (v : α) (h : ∀ e ∈ m, e.1 ≠ k) :
    sget d (sinsert k v m) k = v := by
  induction m with
  | nil => simp [sinsert, sget]
  | cons e m ih =>
    obtain ⟨j, w⟩ := e
    by_cases hj : k < j
    · simp [sinsert, hj, sget]
    · have hjk : j ≠ k := h (j, w) (by simp)
      simp [sinsert, hj, sget, hjk, ih (fun e he => h e (by simp [he]))]

theorem serase_ne (m : Sparse α) (k : Nat) : ∀ e ∈ serase k m, e.1 ≠ k := by
  induction m with
  | nil => simp [serase]
  | cons e m ih =>
    obtain ⟨j, v⟩ := e
    by_cases h : j = k
    · simpa [serase, h] using ih
    · intro x hx
      simp only [serase, h, if_false, List.mem_cons] at hx
      rcases hx with rfl | hx
      · exact h
      · exact ih x hx

variable [DecidableEq α]

/-- A read after a write: the key written reads as the value, every other key as before. -/
theorem sget_sset (m : Sparse α) (k l : Nat) (v : α) :
    sget d (sset d m k v) l = if l = k then v else sget d m l := by
  unfold sset
  split
  · next h =>
    split
    · next e => subst e; rw [sget_serase_self, h]
    · next e => rw [sget_serase_of_ne d m e]
  · split
    · next e => subst e; exact sget_sinsert_self d _ _ v (serase_ne m _)
    · next e => rw [sget_sinsert_of_ne d _ v e, sget_serase_of_ne d m e]

theorem scanonFrom_mono {m : Sparse α} {a b : Nat} (hab : a ≤ b) (h : scanonFrom d b m = true) :
    scanonFrom d a m = true := by
  cases m with
  | nil => rfl
  | cons e m =>
    obtain ⟨j, v⟩ := e
    simp only [scanonFrom, Bool.and_eq_true, decide_eq_true_eq] at h ⊢
    exact ⟨⟨le_trans hab h.1.1, h.1.2⟩, h.2⟩

theorem scanonFrom_serase {m : Sparse α} {a : Nat} (k : Nat) (h : scanonFrom d a m = true) :
    scanonFrom d a (serase k m) = true := by
  induction m generalizing a with
  | nil => rfl
  | cons e m ih =>
    obtain ⟨j, v⟩ := e
    simp only [scanonFrom, Bool.and_eq_true, decide_eq_true_eq] at h
    by_cases hj : j = k
    · simpa [serase, hj] using ih (scanonFrom_mono d (by omega) h.2)
    · simp only [serase, hj, if_false, scanonFrom, Bool.and_eq_true, decide_eq_true_eq]
      exact ⟨h.1, ih h.2⟩

theorem scanonFrom_sinsert {m : Sparse α} {a : Nat} (k : Nat) (v : α) (hv : v ≠ d k) (ha : a ≤ k)
    (hk : ∀ e ∈ m, e.1 ≠ k) (h : scanonFrom d a m = true) : scanonFrom d a (sinsert k v m) = true := by
  induction m generalizing a with
  | nil => simp [sinsert, scanonFrom, ha, hv]
  | cons e m ih =>
    obtain ⟨j, w⟩ := e
    simp only [scanonFrom, Bool.and_eq_true, decide_eq_true_eq] at h
    have hjk : j ≠ k := hk (j, w) (by simp)
    by_cases hj : k < j
    · simp only [sinsert, hj, if_true, scanonFrom, Bool.and_eq_true, decide_eq_true_eq]
      exact ⟨⟨ha, hv⟩, ⟨by omega, h.1.2⟩, h.2⟩
    · simp only [sinsert, hj, if_false, scanonFrom, Bool.and_eq_true, decide_eq_true_eq]
      exact ⟨h.1, ih (by omega) (fun e he => hk e (by simp [he])) h.2⟩

/-- A write keeps the canonical form. -/
theorem scanon_sset {m : Sparse α} (k : Nat) (v : α) (h : scanon d m = true) : scanon d (sset d m k v) = true := by
  unfold sset
  split
  · exact scanonFrom_serase d k h
  · next hv => exact scanonFrom_sinsert d k v hv (Nat.zero_le _) (serase_ne m k) (scanonFrom_serase d k h)

theorem scanonFrom_filter {m : Sparse α} {a : Nat} (p : Nat × α → Bool) (h : scanonFrom d a m = true) :
    scanonFrom d a (m.filter p) = true := by
  induction m generalizing a with
  | nil => rfl
  | cons e m ih =>
    obtain ⟨j, v⟩ := e
    simp only [scanonFrom, Bool.and_eq_true, decide_eq_true_eq] at h
    by_cases hp : p (j, v)
    · simp only [List.filter_cons, hp, if_true, scanonFrom, Bool.and_eq_true, decide_eq_true_eq]
      exact ⟨h.1, ih h.2⟩
    · simpa [List.filter_cons, hp] using ih (scanonFrom_mono d (by omega) h.2)

/-- Dropping entries keeps the canonical form. -/
theorem scanon_filter {m : Sparse α} (p : Nat × α → Bool) (h : scanon d m = true) : scanon d (m.filter p) = true :=
  scanonFrom_filter d p h

end

end Sys2Proof.Machine
end

