-- ==== Sys2Proof/Laws/Memory.lean ====
section
/-! SUPPORT. Laws of the addressed memories: a byte read after a write, the bytes a store leaves alone, and that every
memory operation keeps the canonical form. -/

namespace Sys2Proof.Machine

/-- A byte read after a byte written. -/
theorem mrd_mwr (m : Mem) (a b : Nat) (v : Byte) : mrd (mwr m a v) b = if b = a then v else mrd m b :=
  sget_sset memDefault m a b v

theorem mwr_wf {m : Mem} (a : Nat) (v : Byte) (h : Mem.wf m) : Mem.wf (mwr m a v) := scanon_sset memDefault a v h

/-- What a byte reads as after bytes were stored from an address up. -/
theorem mrd_mstore (bs : List Byte) (m : Mem) (a b : Nat) :
    mrd (mstore m a bs) b = if a ≤ b ∧ b < a + bs.length then bs.getD (b - a) 0#8 else mrd m b := by
  induction bs generalizing m a with
  | nil =>
    simp [mstore]
  | cons x bs ih =>
    simp only [mstore, ih, mrd_mwr, List.length_cons]
    by_cases h1 : b = a
    · subst h1; simp
    · by_cases h2 : a + 1 ≤ b ∧ b < a + 1 + bs.length
      · obtain ⟨n, rfl⟩ : ∃ n, b = a + (n + 1) := ⟨b - a - 1, by omega⟩
        have e1 : a + (n + 1) - (a + 1) = n := by omega
        have e2 : a + (n + 1) - a = n + 1 := by omega
        rw [if_pos h2, if_pos (by omega), e1, e2, List.getD_cons_succ]
      · rw [if_neg h2, if_neg h1, if_neg (by omega)]

theorem mrd_mstore_of_out (bs : List Byte) (m : Mem) {a b : Nat} (h : b < a ∨ a + bs.length ≤ b) :
    mrd (mstore m a bs) b = mrd m b := by
  rw [mrd_mstore, if_neg (by omega)]

theorem mstore_wf (bs : List Byte) {m : Mem} (a : Nat) (h : Mem.wf m) : Mem.wf (mstore m a bs) := by
  induction bs generalizing m a with
  | nil => exact h
  | cons x bs ih => exact ih (a + 1) (mwr_wf a x h)

theorem apply_wf {m : Mem} (o : MemOp) (h : Mem.wf m) : Mem.wf (MemOp.apply m o) := by
  cases o with
  | store a bs => exact mstore_wf bs a h
  | wipe lo hi => exact scanon_filter memDefault _ h
  | counter k t => exact h
  | secret i w => exact h

/-- Every change of the addressed memories keeps their canonical form. -/
theorem mapply_wf {m : Mem} (l : List MemOp) (h : Mem.wf m) : Mem.wf (mapply m l) := by
  induction l generalizing m with
  | nil => exact h
  | cons o l ih => exact ih (apply_wf o h)

@[simp] theorem mapply_nil (m : Mem) : mapply m [] = m := rfl

@[simp] theorem mapply_store (m : Mem) (a : Nat) (bs : List Byte) : mapply m [.store a bs] = mstore m a bs := rfl

@[simp] theorem bytesOf_length (n v : Nat) : (bytesOf n v).length = n := by
  induction n generalizing v with
  | zero => rfl
  | succ n ih => simp [bytesOf, ih]

end Sys2Proof.Machine
end

