-- ==== Sys2Proof/Laws/State.lean ====
section
/-! SUPPORT. What one update of the application side's record leaves alone: one lemma for each field and update. -/

namespace Sys2Proof.Machine

@[simp] theorem Block.wr_rstv (s : Block) (a : Nat) (v : Word) : (s.wr a v).rstv = s.rstv := rfl
@[simp] theorem Block.wr_held (s : Block) (a : Nat) (v : Word) : (s.wr a v).held = s.held := rfl
@[simp] theorem Block.wr_rstSt (s : Block) (a : Nat) (v : Word) : (s.wr a v).rstSt = s.rstSt := rfl
@[simp] theorem Block.wr_free (s : Block) (a : Nat) (v : Word) : (s.wr a v).free = s.free := rfl
@[simp] theorem Block.wr_answer (s : Block) (a : Nat) (v : Word) : (s.wr a v).answer = s.answer := rfl
@[simp] theorem Block.wr_locks (s : Block) (a : Nat) (v : Word) : (s.wr a v).locks = s.locks := rfl
@[simp] theorem Block.wr_posted (s : Block) (a : Nat) (v : Word) : (s.wr a v).posted = s.posted := rfl
@[simp] theorem Block.wr_hiLatch (s : Block) (a : Nat) (v : Word) : (s.wr a v).hiLatch = s.hiLatch := rfl
@[simp] theorem Block.wr_stage (s : Block) (a : Nat) (v : Word) : (s.wr a v).stage = s.stage := rfl
@[simp] theorem Block.wr_cfg (s : Block) (a : Nat) (v : Word) : (s.wr a v).cfg = s.cfg := rfl
@[simp] theorem Block.wr_tb (s : Block) (a : Nat) (v : Word) : (s.wr a v).tb = s.tb := rfl
@[simp] theorem Block.wr_pw (s : Block) (a : Nat) (v : Word) : (s.wr a v).pw = s.pw := rfl
@[simp] theorem Block.wr_disp (s : Block) (a : Nat) (v : Word) : (s.wr a v).disp = s.disp := rfl
@[simp] theorem Block.wr_ackMemory (s : Block) (a : Nat) (v : Word) : (s.wr a v).ackMemory = s.ackMemory := rfl
@[simp] theorem Block.wr_prof (s : Block) (a : Nat) (v : Word) : (s.wr a v).prof = s.prof := rfl
@[simp] theorem Block.wr_stepOut (s : Block) (a : Nat) (v : Word) : (s.wr a v).stepOut = s.stepOut := rfl
@[simp] theorem Block.wr_path (s : Block) (a : Nat) (v : Word) : (s.wr a v).path = s.path := rfl
@[simp] theorem Block.wr_loop (s : Block) (a : Nat) (v : Word) : (s.wr a v).loop = s.loop := rfl
@[simp] theorem Block.wr_diag (s : Block) (a : Nat) (v : Word) : (s.wr a v).diag = s.diag := rfl
@[simp] theorem Block.wr_solv (s : Block) (a : Nat) (v : Word) : (s.wr a v).solv = s.solv := rfl
@[simp] theorem Block.wr_pwm (s : Block) (a : Nat) (v : Word) : (s.wr a v).pwm = s.pwm := rfl
@[simp] theorem Block.wr_fb (s : Block) (a : Nat) (v : Word) : (s.wr a v).fb = s.fb := rfl
@[simp] theorem Block.wr_pins (s : Block) (a : Nat) (v : Word) : (s.wr a v).pins = s.pins := rfl
@[simp] theorem Block.wr_enCars (s : Block) (a : Nat) (v : Word) : (s.wr a v).enCars = s.enCars := rfl
@[simp] theorem Block.wr_carReq (s : Block) (a : Nat) (v : Word) : (s.wr a v).carReq = s.carReq := rfl
@[simp] theorem Block.wr_vmf (s : Block) (a : Nat) (v : Word) : (s.wr a v).vmf = s.vmf := rfl
@[simp] theorem Block.wr_ssmA (s : Block) (a : Nat) (v : Word) : (s.wr a v).ssmA = s.ssmA := rfl
@[simp] theorem Block.wr_szn (s : Block) (a : Nat) (v : Word) : (s.wr a v).szn = s.szn := rfl
@[simp] theorem Block.wr_fab (s : Block) (a : Nat) (v : Word) : (s.wr a v).fab = s.fab := rfl
@[simp] theorem Block.wr_red (s : Block) (a : Nat) (v : Word) : (s.wr a v).red = s.red := rfl
@[simp] theorem Block.wr_dsp (s : Block) (a : Nat) (v : Word) : (s.wr a v).dsp = s.dsp := rfl
@[simp] theorem Block.wr_can (s : Block) (a : Nat) (v : Word) : (s.wr a v).can = s.can := rfl
@[simp] theorem Block.wr_host (s : Block) (a : Nat) (v : Word) : (s.wr a v).host = s.host := rfl
@[simp] theorem Block.wr_sec (s : Block) (a : Nat) (v : Word) : (s.wr a v).sec = s.sec := rfl
@[simp] theorem Block.wr_eaq (s : Block) (a : Nat) (v : Word) : (s.wr a v).eaq = s.eaq := rfl
@[simp] theorem Block.wr_tx (s : Block) (a : Nat) (v : Word) : (s.wr a v).tx = s.tx := rfl
@[simp] theorem Block.wr_raw (s : Block) (a : Nat) (v : Word) : (s.wr a v).raw = s.raw := rfl
@[simp] theorem Block.wr_answers (s : Block) (a : Nat) (v : Word) : (s.wr a v).answers = s.answers := rfl
@[simp] theorem Block.wr_wdtDiv (s : Block) (a : Nat) (v : Word) : (s.wr a v).wdtDiv = s.wdtDiv := rfl

@[simp] theorem Block.useFree_regs (s : Block) : s.useFree.regs = s.regs := rfl
@[simp] theorem Block.useFree_rstv (s : Block) : s.useFree.rstv = s.rstv := rfl
@[simp] theorem Block.useFree_held (s : Block) : s.useFree.held = s.held := rfl
@[simp] theorem Block.useFree_rstSt (s : Block) : s.useFree.rstSt = s.rstSt := rfl
@[simp] theorem Block.useFree_answer (s : Block) : s.useFree.answer = s.answer := rfl
@[simp] theorem Block.useFree_locks (s : Block) : s.useFree.locks = s.locks := rfl
@[simp] theorem Block.useFree_posted (s : Block) : s.useFree.posted = s.posted := rfl
@[simp] theorem Block.useFree_hiLatch (s : Block) : s.useFree.hiLatch = s.hiLatch := rfl
@[simp] theorem Block.useFree_stage (s : Block) : s.useFree.stage = s.stage := rfl
@[simp] theorem Block.useFree_cfg (s : Block) : s.useFree.cfg = s.cfg := rfl
@[simp] theorem Block.useFree_tb (s : Block) : s.useFree.tb = s.tb := rfl
@[simp] theorem Block.useFree_pw (s : Block) : s.useFree.pw = s.pw := rfl
@[simp] theorem Block.useFree_disp (s : Block) : s.useFree.disp = s.disp := rfl
@[simp] theorem Block.useFree_ackMemory (s : Block) : s.useFree.ackMemory = s.ackMemory := rfl
@[simp] theorem Block.useFree_prof (s : Block) : s.useFree.prof = s.prof := rfl
@[simp] theorem Block.useFree_stepOut (s : Block) : s.useFree.stepOut = s.stepOut := rfl
@[simp] theorem Block.useFree_path (s : Block) : s.useFree.path = s.path := rfl
@[simp] theorem Block.useFree_loop (s : Block) : s.useFree.loop = s.loop := rfl
@[simp] theorem Block.useFree_diag (s : Block) : s.useFree.diag = s.diag := rfl
@[simp] theorem Block.useFree_solv (s : Block) : s.useFree.solv = s.solv := rfl
@[simp] theorem Block.useFree_pwm (s : Block) : s.useFree.pwm = s.pwm := rfl
@[simp] theorem Block.useFree_fb (s : Block) : s.useFree.fb = s.fb := rfl
@[simp] theorem Block.useFree_pins (s : Block) : s.useFree.pins = s.pins := rfl
@[simp] theorem Block.useFree_enCars (s : Block) : s.useFree.enCars = s.enCars := rfl
@[simp] theorem Block.useFree_carReq (s : Block) : s.useFree.carReq = s.carReq := rfl
@[simp] theorem Block.useFree_vmf (s : Block) : s.useFree.vmf = s.vmf := rfl
@[simp] theorem Block.useFree_ssmA (s : Block) : s.useFree.ssmA = s.ssmA := rfl
@[simp] theorem Block.useFree_szn (s : Block) : s.useFree.szn = s.szn := rfl
@[simp] theorem Block.useFree_fab (s : Block) : s.useFree.fab = s.fab := rfl
@[simp] theorem Block.useFree_red (s : Block) : s.useFree.red = s.red := rfl
@[simp] theorem Block.useFree_dsp (s : Block) : s.useFree.dsp = s.dsp := rfl
@[simp] theorem Block.useFree_can (s : Block) : s.useFree.can = s.can := rfl
@[simp] theorem Block.useFree_host (s : Block) : s.useFree.host = s.host := rfl
@[simp] theorem Block.useFree_sec (s : Block) : s.useFree.sec = s.sec := rfl
@[simp] theorem Block.useFree_eaq (s : Block) : s.useFree.eaq = s.eaq := rfl
@[simp] theorem Block.useFree_tx (s : Block) : s.useFree.tx = s.tx := rfl
@[simp] theorem Block.useFree_raw (s : Block) : s.useFree.raw = s.raw := rfl
@[simp] theorem Block.useFree_answers (s : Block) : s.useFree.answers = s.answers := rfl
@[simp] theorem Block.useFree_wdtDiv (s : Block) : s.useFree.wdtDiv = s.wdtDiv := rfl

@[simp] theorem Block.fresh_regs (s : Block) : s.fresh.regs = s.regs := rfl
@[simp] theorem Block.fresh_rstv (s : Block) : s.fresh.rstv = s.rstv := rfl
@[simp] theorem Block.fresh_held (s : Block) : s.fresh.held = s.held := rfl
@[simp] theorem Block.fresh_rstSt (s : Block) : s.fresh.rstSt = s.rstSt := rfl
@[simp] theorem Block.fresh_free (s : Block) : s.fresh.free = s.free := rfl
@[simp] theorem Block.fresh_locks (s : Block) : s.fresh.locks = s.locks := rfl
@[simp] theorem Block.fresh_posted (s : Block) : s.fresh.posted = s.posted := rfl
@[simp] theorem Block.fresh_hiLatch (s : Block) : s.fresh.hiLatch = s.hiLatch := rfl
@[simp] theorem Block.fresh_stage (s : Block) : s.fresh.stage = s.stage := rfl
@[simp] theorem Block.fresh_cfg (s : Block) : s.fresh.cfg = s.cfg := rfl
@[simp] theorem Block.fresh_tb (s : Block) : s.fresh.tb = s.tb := rfl
@[simp] theorem Block.fresh_pw (s : Block) : s.fresh.pw = s.pw := rfl
@[simp] theorem Block.fresh_disp (s : Block) : s.fresh.disp = s.disp := rfl
@[simp] theorem Block.fresh_ackMemory (s : Block) : s.fresh.ackMemory = s.ackMemory := rfl
@[simp] theorem Block.fresh_prof (s : Block) : s.fresh.prof = s.prof := rfl
@[simp] theorem Block.fresh_stepOut (s : Block) : s.fresh.stepOut = s.stepOut := rfl
@[simp] theorem Block.fresh_path (s : Block) : s.fresh.path = s.path := rfl
@[simp] theorem Block.fresh_loop (s : Block) : s.fresh.loop = s.loop := rfl
@[simp] theorem Block.fresh_diag (s : Block) : s.fresh.diag = s.diag := rfl
@[simp] theorem Block.fresh_solv (s : Block) : s.fresh.solv = s.solv := rfl
@[simp] theorem Block.fresh_pwm (s : Block) : s.fresh.pwm = s.pwm := rfl
@[simp] theorem Block.fresh_fb (s : Block) : s.fresh.fb = s.fb := rfl
@[simp] theorem Block.fresh_pins (s : Block) : s.fresh.pins = s.pins := rfl
@[simp] theorem Block.fresh_enCars (s : Block) : s.fresh.enCars = s.enCars := rfl
@[simp] theorem Block.fresh_carReq (s : Block) : s.fresh.carReq = s.carReq := rfl
@[simp] theorem Block.fresh_vmf (s : Block) : s.fresh.vmf = s.vmf := rfl
@[simp] theorem Block.fresh_ssmA (s : Block) : s.fresh.ssmA = s.ssmA := rfl
@[simp] theorem Block.fresh_szn (s : Block) : s.fresh.szn = s.szn := rfl
@[simp] theorem Block.fresh_fab (s : Block) : s.fresh.fab = s.fab := rfl
@[simp] theorem Block.fresh_red (s : Block) : s.fresh.red = s.red := rfl
@[simp] theorem Block.fresh_dsp (s : Block) : s.fresh.dsp = s.dsp := rfl
@[simp] theorem Block.fresh_can (s : Block) : s.fresh.can = s.can := rfl
@[simp] theorem Block.fresh_host (s : Block) : s.fresh.host = s.host := rfl
@[simp] theorem Block.fresh_sec (s : Block) : s.fresh.sec = s.sec := rfl
@[simp] theorem Block.fresh_eaq (s : Block) : s.fresh.eaq = s.eaq := rfl
@[simp] theorem Block.fresh_tx (s : Block) : s.fresh.tx = s.tx := rfl
@[simp] theorem Block.fresh_raw (s : Block) : s.fresh.raw = s.raw := rfl
@[simp] theorem Block.fresh_answers (s : Block) : s.fresh.answers = s.answers := rfl
@[simp] theorem Block.fresh_wdtDiv (s : Block) : s.fresh.wdtDiv = s.wdtDiv := rfl

@[simp] theorem Block.reply_regs (s : Block) (v : Nat) : (s.reply v).regs = s.regs := rfl
@[simp] theorem Block.reply_rstv (s : Block) (v : Nat) : (s.reply v).rstv = s.rstv := rfl
@[simp] theorem Block.reply_held (s : Block) (v : Nat) : (s.reply v).held = s.held := rfl
@[simp] theorem Block.reply_rstSt (s : Block) (v : Nat) : (s.reply v).rstSt = s.rstSt := rfl
@[simp] theorem Block.reply_free (s : Block) (v : Nat) : (s.reply v).free = s.free := rfl
@[simp] theorem Block.reply_locks (s : Block) (v : Nat) : (s.reply v).locks = s.locks := rfl
@[simp] theorem Block.reply_posted (s : Block) (v : Nat) : (s.reply v).posted = s.posted := rfl
@[simp] theorem Block.reply_hiLatch (s : Block) (v : Nat) : (s.reply v).hiLatch = s.hiLatch := rfl
@[simp] theorem Block.reply_stage (s : Block) (v : Nat) : (s.reply v).stage = s.stage := rfl
@[simp] theorem Block.reply_cfg (s : Block) (v : Nat) : (s.reply v).cfg = s.cfg := rfl
@[simp] theorem Block.reply_tb (s : Block) (v : Nat) : (s.reply v).tb = s.tb := rfl
@[simp] theorem Block.reply_pw (s : Block) (v : Nat) : (s.reply v).pw = s.pw := rfl
@[simp] theorem Block.reply_disp (s : Block) (v : Nat) : (s.reply v).disp = s.disp := rfl
@[simp] theorem Block.reply_ackMemory (s : Block) (v : Nat) : (s.reply v).ackMemory = s.ackMemory := rfl
@[simp] theorem Block.reply_prof (s : Block) (v : Nat) : (s.reply v).prof = s.prof := rfl
@[simp] theorem Block.reply_stepOut (s : Block) (v : Nat) : (s.reply v).stepOut = s.stepOut := rfl
@[simp] theorem Block.reply_path (s : Block) (v : Nat) : (s.reply v).path = s.path := rfl
@[simp] theorem Block.reply_loop (s : Block) (v : Nat) : (s.reply v).loop = s.loop := rfl
@[simp] theorem Block.reply_diag (s : Block) (v : Nat) : (s.reply v).diag = s.diag := rfl
@[simp] theorem Block.reply_solv (s : Block) (v : Nat) : (s.reply v).solv = s.solv := rfl
@[simp] theorem Block.reply_pwm (s : Block) (v : Nat) : (s.reply v).pwm = s.pwm := rfl
@[simp] theorem Block.reply_fb (s : Block) (v : Nat) : (s.reply v).fb = s.fb := rfl
@[simp] theorem Block.reply_pins (s : Block) (v : Nat) : (s.reply v).pins = s.pins := rfl
@[simp] theorem Block.reply_enCars (s : Block) (v : Nat) : (s.reply v).enCars = s.enCars := rfl
@[simp] theorem Block.reply_carReq (s : Block) (v : Nat) : (s.reply v).carReq = s.carReq := rfl
@[simp] theorem Block.reply_vmf (s : Block) (v : Nat) : (s.reply v).vmf = s.vmf := rfl
@[simp] theorem Block.reply_ssmA (s : Block) (v : Nat) : (s.reply v).ssmA = s.ssmA := rfl
@[simp] theorem Block.reply_szn (s : Block) (v : Nat) : (s.reply v).szn = s.szn := rfl
@[simp] theorem Block.reply_fab (s : Block) (v : Nat) : (s.reply v).fab = s.fab := rfl
@[simp] theorem Block.reply_red (s : Block) (v : Nat) : (s.reply v).red = s.red := rfl
@[simp] theorem Block.reply_dsp (s : Block) (v : Nat) : (s.reply v).dsp = s.dsp := rfl
@[simp] theorem Block.reply_can (s : Block) (v : Nat) : (s.reply v).can = s.can := rfl
@[simp] theorem Block.reply_host (s : Block) (v : Nat) : (s.reply v).host = s.host := rfl
@[simp] theorem Block.reply_sec (s : Block) (v : Nat) : (s.reply v).sec = s.sec := rfl
@[simp] theorem Block.reply_eaq (s : Block) (v : Nat) : (s.reply v).eaq = s.eaq := rfl
@[simp] theorem Block.reply_tx (s : Block) (v : Nat) : (s.reply v).tx = s.tx := rfl
@[simp] theorem Block.reply_raw (s : Block) (v : Nat) : (s.reply v).raw = s.raw := rfl
@[simp] theorem Block.reply_answers (s : Block) (v : Nat) : (s.reply v).answers = s.answers := rfl
@[simp] theorem Block.reply_wdtDiv (s : Block) (v : Nat) : (s.reply v).wdtDiv = s.wdtDiv := rfl

@[simp] theorem Block.initReg_held (s : Block) (a : Nat) (v : Word) : (s.initReg a v).held = s.held := rfl
@[simp] theorem Block.initReg_rstSt (s : Block) (a : Nat) (v : Word) : (s.initReg a v).rstSt = s.rstSt := rfl
@[simp] theorem Block.initReg_free (s : Block) (a : Nat) (v : Word) : (s.initReg a v).free = s.free := rfl
@[simp] theorem Block.initReg_answer (s : Block) (a : Nat) (v : Word) : (s.initReg a v).answer = s.answer := rfl
@[simp] theorem Block.initReg_locks (s : Block) (a : Nat) (v : Word) : (s.initReg a v).locks = s.locks := rfl
@[simp] theorem Block.initReg_posted (s : Block) (a : Nat) (v : Word) : (s.initReg a v).posted = s.posted := rfl
@[simp] theorem Block.initReg_hiLatch (s : Block) (a : Nat) (v : Word) : (s.initReg a v).hiLatch = s.hiLatch := rfl
@[simp] theorem Block.initReg_stage (s : Block) (a : Nat) (v : Word) : (s.initReg a v).stage = s.stage := rfl
@[simp] theorem Block.initReg_cfg (s : Block) (a : Nat) (v : Word) : (s.initReg a v).cfg = s.cfg := rfl
@[simp] theorem Block.initReg_tb (s : Block) (a : Nat) (v : Word) : (s.initReg a v).tb = s.tb := rfl
@[simp] theorem Block.initReg_pw (s : Block) (a : Nat) (v : Word) : (s.initReg a v).pw = s.pw := rfl
@[simp] theorem Block.initReg_disp (s : Block) (a : Nat) (v : Word) : (s.initReg a v).disp = s.disp := rfl
@[simp] theorem Block.initReg_ackMemory (s : Block) (a : Nat) (v : Word) : (s.initReg a v).ackMemory = s.ackMemory := rfl
@[simp] theorem Block.initReg_prof (s : Block) (a : Nat) (v : Word) : (s.initReg a v).prof = s.prof := rfl
@[simp] theorem Block.initReg_stepOut (s : Block) (a : Nat) (v : Word) : (s.initReg a v).stepOut = s.stepOut := rfl
@[simp] theorem Block.initReg_path (s : Block) (a : Nat) (v : Word) : (s.initReg a v).path = s.path := rfl
@[simp] theorem Block.initReg_loop (s : Block) (a : Nat) (v : Word) : (s.initReg a v).loop = s.loop := rfl
@[simp] theorem Block.initReg_diag (s : Block) (a : Nat) (v : Word) : (s.initReg a v).diag = s.diag := rfl
@[simp] theorem Block.initReg_solv (s : Block) (a : Nat) (v : Word) : (s.initReg a v).solv = s.solv := rfl
@[simp] theorem Block.initReg_pwm (s : Block) (a : Nat) (v : Word) : (s.initReg a v).pwm = s.pwm := rfl
@[simp] theorem Block.initReg_fb (s : Block) (a : Nat) (v : Word) : (s.initReg a v).fb = s.fb := rfl
@[simp] theorem Block.initReg_pins (s : Block) (a : Nat) (v : Word) : (s.initReg a v).pins = s.pins := rfl
@[simp] theorem Block.initReg_enCars (s : Block) (a : Nat) (v : Word) : (s.initReg a v).enCars = s.enCars := rfl
@[simp] theorem Block.initReg_carReq (s : Block) (a : Nat) (v : Word) : (s.initReg a v).carReq = s.carReq := rfl
@[simp] theorem Block.initReg_vmf (s : Block) (a : Nat) (v : Word) : (s.initReg a v).vmf = s.vmf := rfl
@[simp] theorem Block.initReg_ssmA (s : Block) (a : Nat) (v : Word) : (s.initReg a v).ssmA = s.ssmA := rfl
@[simp] theorem Block.initReg_szn (s : Block) (a : Nat) (v : Word) : (s.initReg a v).szn = s.szn := rfl
@[simp] theorem Block.initReg_fab (s : Block) (a : Nat) (v : Word) : (s.initReg a v).fab = s.fab := rfl
@[simp] theorem Block.initReg_red (s : Block) (a : Nat) (v : Word) : (s.initReg a v).red = s.red := rfl
@[simp] theorem Block.initReg_dsp (s : Block) (a : Nat) (v : Word) : (s.initReg a v).dsp = s.dsp := rfl
@[simp] theorem Block.initReg_can (s : Block) (a : Nat) (v : Word) : (s.initReg a v).can = s.can := rfl
@[simp] theorem Block.initReg_host (s : Block) (a : Nat) (v : Word) : (s.initReg a v).host = s.host := rfl
@[simp] theorem Block.initReg_sec (s : Block) (a : Nat) (v : Word) : (s.initReg a v).sec = s.sec := rfl
@[simp] theorem Block.initReg_eaq (s : Block) (a : Nat) (v : Word) : (s.initReg a v).eaq = s.eaq := rfl
@[simp] theorem Block.initReg_tx (s : Block) (a : Nat) (v : Word) : (s.initReg a v).tx = s.tx := rfl
@[simp] theorem Block.initReg_raw (s : Block) (a : Nat) (v : Word) : (s.initReg a v).raw = s.raw := rfl
@[simp] theorem Block.initReg_answers (s : Block) (a : Nat) (v : Word) : (s.initReg a v).answers = s.answers := rfl
@[simp] theorem Block.initReg_wdtDiv (s : Block) (a : Nat) (v : Word) : (s.initReg a v).wdtDiv = s.wdtDiv := rfl

@[simp] theorem Block.useFree_free (s : Block) : s.useFree.free = s.free + 1 := rfl
@[simp] theorem Block.fresh_answer (s : Block) : s.fresh.answer = {} := rfl
@[simp] theorem Block.reply_answer (s : Block) (v : Nat) : (s.reply v).answer = { data := v } := rfl

end Sys2Proof.Machine
end

