-- ==== Sys2Proof/Laws/Regs.lean ====
section
/-! SUPPORT. Laws of the registers: a register read after a register written, fields and bits of a word, and what an
interrupt, a flag, a refusal and an event may change. -/

namespace Sys2Proof.Machine

/-! ### One register -/

/-- A register read after a register written. -/
theorem Block.rd_wr (s : Block) (a b : Nat) (v : Word) : (s.wr a v).rd b = if b = a then v else s.rd b :=
  sget_sset regDefault s.regs a b v

@[simp] theorem Block.rd_wr_self (s : Block) (a : Nat) (v : Word) : (s.wr a v).rd a = v := by simp [Block.rd_wr]

theorem Block.rd_wr_ne (s : Block) {a b : Nat} (v : Word) (h : b ≠ a) : (s.wr a v).rd b = s.rd b := by
  simp [Block.rd_wr, h]

/-- A register reads the same where the register map is the same. -/
theorem Block.rd_congr {s t : Block} (h : t.regs = s.regs) (a : Nat) : t.rd a = s.rd a := by
  simp [Block.rd, h]

/-! ### Bits and fields of a word -/

theorem getLsbD_setBit (w : Word) (i j : Nat) (b : Bool) (hi : i < 32) :
    (setBit w i b).getLsbD j = if j = i then b else w.getLsbD j := by
  unfold setBit
  by_cases hj : j < 32
  · cases b <;> by_cases h : j = i
    all_goals simp only [h, BitVec.getLsbD_and, BitVec.getLsbD_or, BitVec.getLsbD_not, BitVec.getLsbD_twoPow,
      hi, hj, decide_true, Bool.true_and, Bool.and_true, if_true, if_false, Bool.false_eq_true,
      Bool.not_true, Bool.and_false, Bool.or_true]
    all_goals simp [Ne.symm h]
  · have e : ∀ x : Word, x.getLsbD j = false := fun x => BitVec.getLsbD_of_ge x j (by omega)
    rw [e, e, if_neg (by omega)]

theorem testBit_ofNat (n j : Nat) : (BitVec.ofNat 32 n).getLsbD j = (decide (j < 32) && n.testBit j) := by
  simp [BitVec.getLsbD_ofNat]

theorem testBit_mask (lo len v j : Nat) :
    ((v % 2 ^ len) * 2 ^ lo).testBit j = (decide (lo ≤ j ∧ j < lo + len) && v.testBit (j - lo)) := by
  rw [Nat.testBit_mul_two_pow, Nat.testBit_mod_two_pow]
  by_cases h1 : lo ≤ j <;> by_cases h2 : j - lo < len <;> simp [h1, h2] <;> omega

theorem getLsbD_setFld (w : Word) (lo len v j : Nat) :
    (setFld w lo len v).getLsbD j =
      if lo ≤ j ∧ j < lo + len ∧ j < 32 then v.testBit (j - lo) else w.getLsbD j := by
  have ones : (2 ^ len - 1) = (2 ^ len - 1) % 2 ^ len := by
    rw [Nat.mod_eq_of_lt]; have := Nat.two_pow_pos len; omega
  unfold setFld
  simp only [BitVec.getLsbD_or, BitVec.getLsbD_and, BitVec.getLsbD_not, testBit_ofNat]
  rw [ones, testBit_mask, testBit_mask]
  by_cases hj : j < 32
  · by_cases h : lo ≤ j ∧ j < lo + len
    · have : (2 ^ len - 1).testBit (j - lo) = true := by
        rw [Nat.testBit_two_pow_sub_one]; simp; omega
      simp [h, hj, this]
    · have h' : ¬ (lo ≤ j ∧ j < lo + len ∧ j < 32) := fun x => h ⟨x.1, x.2.1⟩
      rw [if_neg h']
      simp [h, hj]
  · have e : w.getLsbD j = false := BitVec.getLsbD_of_ge w j (by omega)
    simp [hj, e]

theorem testBit_fld (w : Word) (lo len j : Nat) : (fld w lo len).testBit j = (decide (j < len) && w.getLsbD (lo + j)) := by
  unfold fld
  rw [Nat.testBit_mod_two_pow, Nat.testBit_shiftRight]
  rfl

/-- A field written is the value, cut to its width. -/
theorem fld_setFld_self (w : Word) (lo len v : Nat) (h : lo + len ≤ 32) : fld (setFld w lo len v) lo len = v % 2 ^ len := by
  apply Nat.eq_of_testBit_eq
  intro j
  rw [testBit_fld, getLsbD_setFld, Nat.testBit_mod_two_pow]
  by_cases hj : j < len
  · rw [if_pos (by omega)]; simp
  · simp [hj]

/-- A field apart from the one written stays. -/
theorem fld_setFld_ne (w : Word) (lo len v lo' len' : Nat) (h : lo' + len' ≤ lo ∨ lo + len ≤ lo') :
    fld (setFld w lo len v) lo' len' = fld w lo' len' := by
  apply Nat.eq_of_testBit_eq
  intro j
  rw [testBit_fld, testBit_fld, getLsbD_setFld]
  by_cases hj : j < len'
  · rw [if_neg (by omega)]
  · simp [hj]

theorem fld_setBit_ne (w : Word) (i : Nat) (b : Bool) (lo len : Nat) (hi : i < 32) (h : i < lo ∨ lo + len ≤ i) :
    fld (setBit w i b) lo len = fld w lo len := by
  apply Nat.eq_of_testBit_eq
  intro j
  rw [testBit_fld, testBit_fld, getLsbD_setBit _ _ _ _ hi]
  by_cases hj : j < len
  · rw [if_neg (by omega)]
  · simp [hj]

theorem fld_lt (w : Word) (lo len : Nat) : fld w lo len < 2 ^ len := Nat.mod_lt _ (Nat.two_pow_pos len)

/-! ### Fields and bits of a register -/

theorem Block.rd_setB_ne (s : Block) {a c : Nat} (i : Nat) (b : Bool) (h : c ≠ a) : (s.setB a i b).rd c = s.rd c :=
  s.rd_wr_ne _ h

theorem Block.rd_setF_ne (s : Block) {a c : Nat} (lo len v : Nat) (h : c ≠ a) : (s.setF a lo len v).rd c = s.rd c :=
  s.rd_wr_ne _ h

/-- A bit after a bit written. -/
theorem Block.bt_setB (s : Block) (a i : Nat) (b : Bool) (c j : Nat) (hi : i < 32) :
    (s.setB a i b).bt c j = if c = a ∧ j = i then b else s.bt c j := by
  unfold Block.bt Block.setB
  rw [Block.rd_wr]
  by_cases h : c = a
  · subst h; simp only [if_true, true_and, getLsbD_setBit _ _ _ _ hi]
  · simp [h]

theorem Block.bt_setB_self (s : Block) (a i : Nat) (b : Bool) (hi : i < 32) : (s.setB a i b).bt a i = b := by
  simp [Block.bt_setB, hi]

theorem Block.bt_setF (s : Block) (a lo len v c j : Nat) (h : c ≠ a ∨ j < lo ∨ lo + len ≤ j) :
    (s.setF a lo len v).bt c j = s.bt c j := by
  unfold Block.bt Block.setF
  rw [Block.rd_wr]
  split
  · next e => subst e; rw [getLsbD_setFld, if_neg (by omega)]
  · rfl

/-- A field after the same field written. -/
theorem Block.fl_setF_self (s : Block) (a lo len v : Nat) (h : lo + len ≤ 32) :
    (s.setF a lo len v).fl a lo len = v % 2 ^ len := by
  unfold Block.fl Block.setF
  rw [Block.rd_wr_self, fld_setFld_self _ _ _ _ h]

theorem Block.fl_setF_ne (s : Block) (a lo len v c lo' len' : Nat) (h : c ≠ a ∨ lo' + len' ≤ lo ∨ lo + len ≤ lo') :
    (s.setF a lo len v).fl c lo' len' = s.fl c lo' len' := by
  unfold Block.fl Block.setF
  rw [Block.rd_wr]
  split
  · next e => subst e; exact fld_setFld_ne _ _ _ _ _ _ (h.resolve_left (fun x => x rfl))
  · rfl

theorem Block.fl_setB (s : Block) (a i : Nat) (b : Bool) (c lo len : Nat) (hi : i < 32)
    (h : c ≠ a ∨ i < lo ∨ lo + len ≤ i) : (s.setB a i b).fl c lo len = s.fl c lo len := by
  unfold Block.fl Block.setB
  rw [Block.rd_wr]
  split
  · next e => subst e; exact fld_setBit_ne _ _ _ _ _ hi (h.resolve_left (fun x => x rfl))
  · rfl

theorem Block.rdN_wrN (s : Block) (a c n : Nat) : (s.wrN a n).rdN c = if c = a then n % 2 ^ 32 else s.rdN c := by
  unfold Block.rdN Block.wrN
  rw [Block.rd_wr]
  split <;> simp

theorem Block.fl_wrN_ne (s : Block) {a c : Nat} (n lo len : Nat) (h : c ≠ a) : (s.wrN a n).fl c lo len = s.fl c lo len := by
  unfold Block.fl Block.wrN
  rw [s.rd_wr_ne _ h]

theorem Block.bt_wrN_ne (s : Block) {a c : Nat} (n j : Nat) (h : c ≠ a) : (s.wrN a n).bt c j = s.bt c j := by
  unfold Block.bt Block.wrN
  rw [s.rd_wr_ne _ h]

/-! ### Interrupts, flags, refusals, events -/

/-- Everything that a change of a page's interrupt may touch. -/
theorem Block.noteRise_spec (s0 s : Block) (page : Nat) :
    ∃ l, s0.noteRise s page = { s with host := { s.host with rises := s.host.rises ++ l } } := by
  unfold Block.noteRise
  generalize (s.bt R.PCIE_STAT 0 && s.irqOut page && !s0.irqOut page) = b
  generalize pageSource page = o
  cases b
  · exact ⟨[], by simp⟩
  · cases o with
    | none => exact ⟨[], by simp⟩
    | some src => exact ⟨_, rfl⟩

/-- One arm of PLIC's table of sources: its source number is below 512. -/
theorem src_ite {c : Prop} [Decidable c] {o p : Option Nat} (h1 : c → ∀ k, o = some k → k < 512)
    (h2 : ¬c → ∀ k, p = some k → k < 512) : ∀ k, (if c then o else p) = some k → k < 512 := by
  split
  · exact h1 ‹_›
  · exact h2 ‹_›

theorem src_some {n : Nat} (h : n < 512) : ∀ k, some n = some k → k < 512 :=
  fun _ e => Option.some.inj e ▸ h

theorem src_none : ∀ k, (none : Option Nat) = some k → k < 512 := fun _ e => nomatch e

theorem pageSource_lt (page : Nat) : ∀ src, pageSource page = some src → src < 512 := by
  rw [pageSource.eq_def]
  dsimp only
  generalize page / 0x1000 % 0x40000 = n
  repeat (first | refine src_ite (fun h => ?_) (fun h => ?_) | exact src_some (by omega) | exact src_none)

theorem ne_pend {a : Nat} (h : notPend a) (src : Nat) (k : src < 512) : a ≠ R.PLIC_PEND (src / 32) := by
  unfold notPend R.PLIC_PEND at *
  omega

theorem Block.plicSense_spec (s : Block) (page : Nat) :
    s.plicSense page = s ∨ ∃ src, src < 512 ∧ s.plicSense page = s.setB (R.PLIC_PEND (src / 32)) (src % 32) true := by
  rw [Block.plicSense.eq_def]
  generalize ho : pageSource page = o
  rcases o with _ | src
  · exact .inl rfl
  · have hs := pageSource_lt page src ho
    by_cases h : (s.irqOut page && !(s.disp.plicSvc.contains src)) = true
    · refine .inr ⟨src, hs, ?_⟩
      simp only [h, if_true]
    · refine .inl ?_
      simp only [h, if_false, Bool.false_eq_true]

/-- An interrupt raised on a page: bit i of its IRQ_RAW is set, and nothing else changes but PLIC pending bits and the
rises noted for MSI-X. -/
theorem Block.raise_spec (s : Block) (page i : Nat) :
    ∃ l rg, s.raise page i = { s with regs := rg, host := { s.host with rises := s.host.rises ++ l } } := by
  unfold Block.raise
  obtain ⟨l, h⟩ := s.noteRise_spec (s.setB (R.IRQ_RAW page) i true) page
  rw [h]
  rcases Block.plicSense_spec _ page with e | ⟨src, hs, e⟩ <;> rw [e]
  · exact ⟨l, _, rfl⟩
  · exact ⟨l, _, rfl⟩

/-- A register other than the page's IRQ_RAW and the PLIC's pending words keeps its value when an interrupt is raised. -/
theorem Block.rd_raise (s : Block) (page i a : Nat) (h1 : a ≠ R.IRQ_RAW page) (h2 : notPend a) :
    (s.raise page i).rd a = s.rd a := by
  unfold Block.raise
  obtain ⟨l, h⟩ := s.noteRise_spec (s.setB (R.IRQ_RAW page) i true) page
  rw [h]
  rcases Block.plicSense_spec _ page with e | ⟨src, hs, e⟩ <;> rw [e]
  · exact s.rd_setB_ne i true h1
  · rw [Block.rd_setB_ne _ _ _ (ne_pend h2 src hs)]
    exact s.rd_setB_ne i true h1

theorem Block.bt_raise (s : Block) (page i a j : Nat) (h1 : a ≠ R.IRQ_RAW page) (h2 : notPend a) :
    (s.raise page i).bt a j = s.bt a j := by
  unfold Block.bt; rw [s.rd_raise page i a h1 h2]

theorem Block.fl_raise (s : Block) (page i a lo len : Nat) (h1 : a ≠ R.IRQ_RAW page) (h2 : notPend a) :
    (s.raise page i).fl a lo len = s.fl a lo len := by
  unfold Block.fl; rw [s.rd_raise page i a h1 h2]

theorem Block.rdN_raise (s : Block) (page i a : Nat) (h1 : a ≠ R.IRQ_RAW page) (h2 : notPend a) :
    (s.raise page i).rdN a = s.rdN a := by
  unfold Block.rdN; rw [s.rd_raise page i a h1 h2]

/-- The interrupt raised is set. -/
theorem Block.bt_raise_self (s : Block) (page i : Nat) (hi : i < 32) (h : notPend (R.IRQ_RAW page)) :
    (s.raise page i).bt (R.IRQ_RAW page) i = true := by
  unfold Block.raise
  obtain ⟨l, e0⟩ := s.noteRise_spec (s.setB (R.IRQ_RAW page) i true) page
  rw [e0]
  rcases Block.plicSense_spec _ page with e | ⟨src, hs, e⟩ <;> rw [e]
  · exact s.bt_setB_self _ i true hi
  · unfold Block.bt
    rw [Block.rd_setB_ne _ _ _ (ne_pend h src hs)]
    exact s.bt_setB_self _ i true hi

end Sys2Proof.Machine
end

