-- ==== Sys2Proof/Laws/Exec.lean ====
section
/-! SUPPORT. What the wrappers of the meanings do: which part of the state a meaning may change, and what a write or a
read answers where it is taken and where it is refused. -/

namespace Sys2Proof.Machine

/-! ### The wrappers -/

theorem onApp_live (f : Block → Block) {s : State} (h : s.blk.held = false) :
    onApp f s = .next { s with blk := f s.blk } := by
  simp [onApp, h]

theorem ifRun_live (f : State → Out) {s : State} (h : s.blk.off = false) : ifRun f s = f s := by
  simp [ifRun, h]

theorem ifRun_off (f : State → Out) {s : State} (h : s.blk.off = true) : ifRun f s = .next s := by
  simp [ifRun, h]

theorem onApp_held (f : Block → Block) {s : State} (h : s.blk.held = true) : onApp f s = .next s := by
  simp [onApp, h]

theorem onMem_live (f : Block → Mem → Block × List MemOp) {s : State} (h : s.blk.held = false) :
    onMem f s = .next { s with blk := (f s.blk s.mem).1, mem := mapply s.mem (f s.blk s.mem).2 } := by
  simp [onMem, h]

theorem onMem_held (f : Block → Mem → Block × List MemOp) {s : State} (h : s.blk.held = true) : onMem f s = .next s := by
  simp [onMem, h]

/-! ### A write or a read with a meaning of its own -/

theorem noteDirect_of_not_twinned (s : Block) {a : Nat} (h : twinnedPage a = false) : s.noteDirect a = s := by
  simp [Block.noteDirect, h]

/-- A direct write of a twinned page changes nothing but RED_DIRECT_CNT, RED_ERR and the interrupt of their page. -/
theorem noteDirect_spec (s : Block) (a : Nat) :
    ∃ l rg, s.noteDirect a = { s with regs := rg, host := { s.host with rises := s.host.rises ++ l } } := by
  unfold Block.noteDirect
  split
  · unfold Block.flag
    obtain ⟨l, rg, h⟩ := ((s.incSat R.RED_DIRECT_CNT 0 16).setB R.RED_ERR 6 true).raise_spec 0x40420000 6
    exact ⟨l, rg, by rw [h]; rfl⟩
  · exact ⟨[], s.regs, by simp⟩

theorem rd_noteDirect (s : Block) (a b : Nat)
    (h1 : b ≠ R.RED_DIRECT_CNT) (h2 : b ≠ R.RED_ERR) (h3 : b ≠ R.IRQ_RAW 0x40420000) (h4 : notPend b) :
    (s.noteDirect a).rd b = s.rd b := by
  unfold Block.noteDirect
  split
  · unfold Block.flag
    rw [Block.rd_raise _ _ _ _ h3 h4, Block.rd_setB_ne _ _ _ h2]
    exact s.rd_setF_ne _ _ _ h1
  · rfl

/-- An access that the interconnect admits is one to a register of a page. -/
theorem pageOf_isNone_of_denial {s : Block} {snd : Sender} {a : Nat} {wr : Bool} (h : s.denial snd a wr = none) :
    (pageOf a).isNone = false := by
  cases hp : pageOf a with
  | none => simp [Block.denial, Block.admitAs, hp] at h
  | some p => rfl

theorem busWrite_taken {s : Block} {snd : Sender} {a : Nat} (v : Word) (act : Block → Block)
    (h0 : s.agentHeld snd.agent.val = false) (h1 : s.denial snd a true = none) (h2 : s.behind a = false)
    (h3 : s.blockOff a = false) : busWrite snd a v act s = act (s.fresh.noteDirect a) := by
  simp [busWrite, h0, h1, h2, h3, pageOf_isNone_of_denial h1]

theorem busWrite_refused {s : Block} {snd : Sender} {a : Nat} (v : Word) (act : Block → Block) {r : Reason}
    (h0 : s.agentHeld snd.agent.val = false) (hp : (pageOf a).isSome) (h : s.denial snd a true = some r) :
    busWrite snd a v act s = s.refuse true a snd r := by
  have e : (pageOf a).isNone = false := by simpa [Option.isNone_iff_eq_none, ← Option.isSome_iff_ne_none] using hp
  simp [busWrite, h0, h, e]

/-- A write that cannot act yet waits in its page's posting queue (R23, R25, R28, R30). -/
theorem busWrite_behind {s : Block} {snd : Sender} {a : Nat} (v : Word) (act : Block → Block)
    (h0 : s.agentHeld snd.agent.val = false) (h1 : s.denial snd a true = none) (h2 : s.behind a = true) :
    busWrite snd a v act s = (s.fresh.noteDirect a).post snd a v := by
  simp [busWrite, h0, h1, h2, pageOf_isNone_of_denial h1]

/-- An agent whose last store does not complete makes no other access (R114, R129). -/
theorem busWrite_waits {s : Block} {snd : Sender} (a : Nat) (v : Word) (act : Block → Block)
    (h0 : s.agentHeld snd.agent.val = true) : busWrite snd a v act s = s.waits := by
  simp [busWrite, h0]

theorem busWriteM_taken {s : Block} {snd : Sender} {a : Nat} (v : Word) (act : Block → Mem → Block × List MemOp) (m : Mem)
    (h0 : s.agentHeld snd.agent.val = false) (h1 : s.denial snd a true = none) (h2 : s.behind a = false)
    (h3 : s.blockOff a = false) : busWriteM snd a v act s m = act (s.fresh.noteDirect a) m := by
  simp [busWriteM, h0, h1, h2, h3, pageOf_isNone_of_denial h1]

theorem busRead_taken {s : Block} {snd : Sender} {a : Nat} (act : Block → Block)
    (h0 : s.agentHeld snd.agent.val = false) (h1 : s.denial snd a false = none)
    (h2 : s.blockOff a = false) (h3 : s.readBusy a = false) : busRead snd a act s = act s.fresh := by
  simp [busRead, h0, h1, h2, h3, pageOf_isNone_of_denial h1]

/-- A write that is taken, on a page that the coordinators do not keep alike. -/
theorem onApp_write {s : State} {snd : Sender} {a : Nat} (v : Word) (act : Block → Block) (h : s.takesWrite snd a)
    (ht : twinnedPage a = false) : onApp (busWrite snd a v act) s = .next { s with blk := act s.blk.fresh } := by
  rw [onApp_live _ h.1.1, busWrite_taken v act h.1.2 h.2.1 h.2.2.1 h.2.2.2, noteDirect_of_not_twinned _ ht]

/-- A write that is taken. -/
theorem onApp_writeT {s : State} {snd : Sender} {a : Nat} (v : Word) (act : Block → Block) (h : s.takesWrite snd a) :
    onApp (busWrite snd a v act) s = .next { s with blk := act (s.blk.fresh.noteDirect a) } := by
  rw [onApp_live _ h.1.1, busWrite_taken v act h.1.2 h.2.1 h.2.2.1 h.2.2.2]

/-- A read that is taken. -/
theorem onApp_read {s : State} {snd : Sender} {a : Nat} (act : Block → Block) (h : s.takesRead snd a) :
    onApp (busRead snd a act) s = .next { s with blk := act s.blk.fresh } := by
  rw [onApp_live _ h.1.1, busRead_taken act h.1.2 h.2.1 h.2.2.1 h.2.2.2]

@[simp] theorem Block.rd_fresh (s : Block) (a : Nat) : s.fresh.rd a = s.rd a := rfl
@[simp] theorem Block.bt_fresh (s : Block) (a i : Nat) : s.fresh.bt a i = s.bt a i := rfl
@[simp] theorem Block.fl_fresh (s : Block) (a lo len : Nat) : s.fresh.fl a lo len = s.fl a lo len := rfl
@[simp] theorem Block.rdN_fresh (s : Block) (a : Nat) : s.fresh.rdN a = s.rdN a := rfl

/-! ### What a refusal records -/

theorem rd_refuse (s : Block) (wr : Bool) (a : Nat) (snd : Sender) (r : Reason) (b : Nat)
    (h1 : b ≠ R.PAGE_ERR (pageBase a)) (h2 : b ≠ R.IRQ_RAW (pageBase a)) (h3 : notPend b) :
    (s.refuse wr a snd r).rd b = s.rd b := by
  unfold Block.refuse
  show (Block.raise _ _ _).rd b = _
  rw [Block.rd_raise _ _ _ _ h2 h3]
  exact s.rd_wr_ne _ h1

/-! ### Nothing but registers changes -/

theorem sameHidden_refl (s : Block) : s.sameHidden s := rfl

theorem sameHidden_trans {s t u : Block} (h : s.sameHidden t) (k : t.sameHidden u) : s.sameHidden u := by
  rw [Block.sameHidden] at *
  rw [k, h]

theorem sameHidden_wr (s : Block) (a : Nat) (v : Word) : s.sameHidden (s.wr a v) := rfl
theorem sameHidden_wrN (s : Block) (a n : Nat) : s.sameHidden (s.wrN a n) := rfl
theorem sameHidden_wrI (s : Block) (a : Nat) (x : Int) : s.sameHidden (s.wrI a x) := rfl
theorem sameHidden_setB (s : Block) (a i : Nat) (b : Bool) : s.sameHidden (s.setB a i b) := rfl
theorem sameHidden_setF (s : Block) (a lo len v : Nat) : s.sameHidden (s.setF a lo len v) := rfl
theorem sameHidden_fresh (s : Block) : s.sameHidden s.fresh := rfl
theorem sameHidden_reply (s : Block) (v : Nat) : s.sameHidden (s.reply v) := rfl

theorem sameHidden_raise (s : Block) (page i : Nat) : s.sameHidden (s.raise page i) := by
  obtain ⟨l, rg, h⟩ := s.raise_spec page i
  rw [Block.sameHidden, h]

theorem sameHidden_flag (s : Block) (reg bit page irq : Nat) : s.sameHidden (s.flag reg bit page irq) :=
  sameHidden_trans (sameHidden_setB s reg bit true) (sameHidden_raise _ page irq)

theorem sameHidden_noteDirect (s : Block) (a : Nat) : s.sameHidden (s.noteDirect a) := by
  obtain ⟨l, rg, h⟩ := noteDirect_spec s a
  rw [Block.sameHidden, h]

/-- A refused access changes PAGE_ERR and the interrupt of its page, and the answer, and nothing else (R73). -/
theorem sameHidden_refuse (s : Block) (wr : Bool) (a : Nat) (snd : Sender) (r : Reason) :
    s.sameHidden (s.refuse wr a snd r) := by
  have h := sameHidden_raise (s.wrN (R.PAGE_ERR (pageBase a))
    (pageErr wr (s.fl (R.PAGE_ERR (pageBase a)) 16 4 != 0) a snd r)) (pageBase a) 31
  have k := sameHidden_trans (sameHidden_wrN s _ _) h
  rw [Block.sameHidden] at k ⊢
  unfold Block.refuse
  dsimp only
  rw [k]

/-! ### Registers kept -/

theorem keeps_refl (s : Block) (A : List Nat) : s.keeps s A := fun _ _ _ => rfl

theorem keeps_trans {s t u : Block} {A : List Nat} (h : s.keeps t A) (k : t.keeps u A) : s.keeps u A :=
  fun a h1 h2 => (k a h1 h2).trans (h a h1 h2)

theorem keeps_wr (s : Block) {A : List Nat} (a : Nat) (v : Word) (h : a ∈ A) : s.keeps (s.wr a v) A :=
  fun b h1 _ => s.rd_wr_ne v (fun e => h1 (e ▸ h))

theorem keeps_raise (s : Block) {A : List Nat} (page i : Nat) (h : R.IRQ_RAW page ∈ A) : s.keeps (s.raise page i) A :=
  fun b h1 h2 => s.rd_raise page i b (fun e => h1 (e ▸ h)) h2

theorem keeps_flag (s : Block) {A : List Nat} (reg bit page irq : Nat) (h1 : reg ∈ A) (h2 : R.IRQ_RAW page ∈ A) :
    s.keeps (s.flag reg bit page irq) A :=
  keeps_trans (keeps_wr s reg _ h1) (keeps_raise _ page irq h2)

theorem keeps_fresh (s : Block) (A : List Nat) : s.keeps s.fresh A := fun _ _ _ => rfl

theorem keeps_refuse (s : Block) {A : List Nat} (wr : Bool) (a : Nat) (snd : Sender) (r : Reason)
    (h1 : R.PAGE_ERR (pageBase a) ∈ A) (h2 : R.IRQ_RAW (pageBase a) ∈ A) : s.keeps (s.refuse wr a snd r) A :=
  fun b k1 k2 => rd_refuse s wr a snd r b (fun e => k1 (e ▸ h1)) (fun e => k1 (e ▸ h2)) k2

theorem keeps_noteDirect (s : Block) {A : List Nat} (a : Nat) (h1 : R.RED_DIRECT_CNT ∈ A) (h2 : R.RED_ERR ∈ A)
    (h3 : R.IRQ_RAW 0x40420000 ∈ A) : s.keeps (s.noteDirect a) A :=
  fun b k1 k2 => rd_noteDirect s a b (fun e => k1 (e ▸ h1)) (fun e => k1 (e ▸ h2)) (fun e => k1 (e ▸ h3)) k2

end Sys2Proof.Machine
end

