-- ==== Sys2Proof/Laws/Island.lean ====
section
/-! SUPPORT. Laws of the Safety Island: what its operations leave of its state and outputs, and that each keeps the
outputs off outside RUN (R324). -/

namespace Sys2Proof.Machine

/-! ### Registers -/

theorem Island.rd_wr (i : Island) (a b : Nat) (v : Word) : (i.wr a v).rd b = if b = a then v else i.rd b :=
  sget_sset regDefault i.regs a b v

theorem Island.rd_wr_ne (i : Island) {a b : Nat} (v : Word) (h : b ≠ a) : (i.wr a v).rd b = i.rd b := by
  simp [Island.rd_wr, h]

/-- STATE, the STO groups on and the contactors on are the same. -/
def Island.sameOut (i j : Island) : Prop := j.st = i.st ∧ j.stoOn = i.stoOn ∧ j.kOn = i.kOn

theorem sameOut_refl (i : Island) : i.sameOut i := ⟨rfl, rfl, rfl⟩

theorem sameOut_trans {i j k : Island} (h : i.sameOut j) (h' : j.sameOut k) : i.sameOut k :=
  ⟨h'.1.trans h.1, h'.2.1.trans h.2.1, h'.2.2.trans h.2.2⟩

theorem sameOut_regs {i j : Island} (h : j.regs = i.regs) : i.sameOut j := by
  refine ⟨?_, ?_, ?_⟩ <;> simp [Island.st, Island.stoOn, Island.kOn, Island.fl, Island.rd, h]

theorem sameOut_safe {i j : Island} (h : i.sameOut j) (k : i.outputsSafe) : j.outputsSafe := by
  intro hs
  rw [h.2.1, h.2.2]
  exact k (fun e => hs (h.1.trans e))

/-- A register that shows none of the three. -/
abbrev notOut (a : Nat) : Prop := a ≠ R.SAFE_CH_STATE 0 ∧ a ≠ R.SAFE_STO_OUT ∧ a ≠ R.SAFE_KOUT

theorem notOut_SAFE_CH_EVT (ch : Nat) (_ : ch < 2) : notOut (R.SAFE_CH_EVT ch) := by
  unfold notOut R.SAFE_CH_EVT R.SAFE_CH_STATE R.SAFE_STO_OUT R.SAFE_KOUT; omega
theorem notOut_SAFE_CH_CONN (ch : Nat) (hc : ch < 2) : notOut (R.SAFE_CH_CONN ch) := by
  unfold notOut R.SAFE_CH_CONN R.SAFE_CH_STATE R.SAFE_STO_OUT R.SAFE_KOUT; omega
theorem notOut_SAFE_CH_OUT (ch : Nat) (hc : ch < 2) : notOut (R.SAFE_CH_OUT ch) := by
  unfold notOut R.SAFE_CH_OUT R.SAFE_CH_STATE R.SAFE_STO_OUT R.SAFE_KOUT; omega
theorem notOut_SAFE_CH_CONN_ERR (ch : Nat) (_ : ch < 2) : notOut (R.SAFE_CH_CONN_ERR ch) := by
  unfold notOut R.SAFE_CH_CONN_ERR R.SAFE_CH_STATE R.SAFE_STO_OUT R.SAFE_KOUT; omega
theorem notOut_SAFE_CH_DISC_CNT (ch : Nat) (hc : ch < 2) : notOut (R.SAFE_CH_DISC_CNT ch) := by
  unfold notOut R.SAFE_CH_DISC_CNT R.SAFE_CH_STATE R.SAFE_STO_OUT R.SAFE_KOUT; omega
theorem notOut_SAFE_CH_PSIG (ch : Nat) (_ : ch < 2) : notOut (R.SAFE_CH_PSIG ch) := by
  unfold notOut R.SAFE_CH_PSIG R.SAFE_CH_STATE R.SAFE_STO_OUT R.SAFE_KOUT; omega
theorem notOut_SAFE_CH_AXIS (ch n : Nat) (_ : ch < 2) (h : n < 24) : notOut (R.SAFE_CH_AXIS ch n) := by
  unfold notOut R.SAFE_CH_AXIS R.SAFE_CH_STATE R.SAFE_STO_OUT R.SAFE_KOUT; omega
theorem notOut_SAFE_CH_MDEM (ch n : Nat) (_ : ch < 2) (h : n < 16) : notOut (R.SAFE_CH_MDEM ch n) := by
  unfold notOut R.SAFE_CH_MDEM R.SAFE_CH_STATE R.SAFE_STO_OUT R.SAFE_KOUT; omega
theorem notOut_SAFE_SSMB_DEM (n : Nat) : notOut (R.SAFE_SSMB_DEM n) := by
  unfold notOut R.SAFE_SSMB_DEM R.SAFE_CH_STATE R.SAFE_STO_OUT R.SAFE_KOUT; omega
theorem notOut_SAFE_SSMB_PAIR (n : Nat) : notOut (R.SAFE_SSMB_PAIR n) := by
  unfold notOut R.SAFE_SSMB_PAIR R.SAFE_CH_STATE R.SAFE_STO_OUT R.SAFE_KOUT; omega
theorem notOut_SAFE_SSMB_ERR : notOut R.SAFE_SSMB_ERR := by decide
theorem notOut_SAFE_SSMB_PASS_CNT : notOut R.SAFE_SSMB_PASS_CNT := by decide
theorem notOut_SAFE_SSMB_PASS_CLK : notOut R.SAFE_SSMB_PASS_CLK := by decide
theorem notOut_SAFE_SIN_A : notOut R.SAFE_SIN_A := by decide
theorem notOut_SAFE_SIN_B : notOut R.SAFE_SIN_B := by decide
theorem notOut_SAFE_SIN_STATE : notOut R.SAFE_SIN_STATE := by decide
theorem notOut_SAFE_RST_STAT : notOut R.SAFE_RST_STAT := by decide
theorem notOut_SAFE_OPT_STAT : notOut R.SAFE_OPT_STAT := by decide
theorem notOut_SAFE_STO_FB : notOut R.SAFE_STO_FB := by decide

theorem sameOut_wr (i : Island) {a : Nat} (v : Word) (h : notOut a) : i.sameOut (i.wr a v) := by
  refine ⟨?_, ?_, ?_⟩
  · simp only [Island.st, Island.fl, i.rd_wr_ne v (Ne.symm h.1)]
  · simp only [Island.stoOn, Island.fl, i.rd_wr_ne v (Ne.symm h.2.1)]
  · simp only [Island.kOn, Island.fl, i.rd_wr_ne v (Ne.symm h.2.2)]

theorem sameOut_wrN (i : Island) {a : Nat} (n : Nat) (h : notOut a) : i.sameOut (i.wrN a n) := sameOut_wr i _ h
theorem sameOut_setF (i : Island) {a : Nat} (lo len v : Nat) (h : notOut a) : i.sameOut (i.setF a lo len v) := sameOut_wr i _ h
theorem sameOut_setB (i : Island) {a : Nat} (k : Nat) (b : Bool) (h : notOut a) : i.sameOut (i.setB a k b) := sameOut_wr i _ h

theorem st_ne_out : R.SAFE_STO_OUT ≠ R.SAFE_CH_STATE 0 := by decide
theorem st_ne_k : R.SAFE_KOUT ≠ R.SAFE_CH_STATE 0 := by decide

/-- Another field of SAFE_CH_STATE: STATE stays. -/
theorem sameOut_stateF (i : Island) (ch lo len v : Nat) (h : 3 ≤ lo) : i.sameOut (i.setF (R.SAFE_CH_STATE ch) lo len v) := by
  by_cases hc : R.SAFE_CH_STATE ch = R.SAFE_CH_STATE 0
  · rw [hc]
    refine ⟨?_, ?_, ?_⟩
    · simp only [Island.st, Island.fl, Island.setF, Island.rd_wr, if_true]
      exact fld_setFld_ne _ _ _ _ _ _ (.inl (by omega))
    · simp only [Island.stoOn, Island.fl, Island.setF, i.rd_wr_ne _ st_ne_out]
    · simp only [Island.kOn, Island.fl, Island.setF, i.rd_wr_ne _ st_ne_k]
  · refine sameOut_wr i _ ⟨hc, ?_, ?_⟩ <;> simp only [R.SAFE_CH_STATE, R.SAFE_STO_OUT, R.SAFE_KOUT, ne_eq] <;> omega

theorem sameOut_stateB (i : Island) (ch k : Nat) (b : Bool) (h : 3 ≤ k) (h2 : k < 32) :
    i.sameOut (i.setB (R.SAFE_CH_STATE ch) k b) := by
  by_cases hc : R.SAFE_CH_STATE ch = R.SAFE_CH_STATE 0
  · rw [hc]
    refine ⟨?_, ?_, ?_⟩
    · simp only [Island.st, Island.fl, Island.setB, Island.rd_wr, if_true]
      exact fld_setBit_ne _ _ _ _ _ h2 (.inr (by omega))
    · simp only [Island.stoOn, Island.fl, Island.setB, i.rd_wr_ne _ st_ne_out]
    · simp only [Island.kOn, Island.fl, Island.setB, i.rd_wr_ne _ st_ne_k]
  · refine sameOut_wr i _ ⟨hc, ?_, ?_⟩ <;> simp only [R.SAFE_CH_STATE, R.SAFE_STO_OUT, R.SAFE_KOUT, ne_eq] <;> omega

theorem sameOut_both {f : Nat → Island → Island} (i : Island) (h : ∀ (ch : Nat) (j : Island), ch < 2 → j.sameOut (f ch j)) : i.sameOut (i.both f) :=
  sameOut_trans (h 0 i (by omega)) (h 1 _ (by omega))

theorem sameOut_islL {α : Type} (l : List α) {f : α → Island → Island} (i : Island) (h : ∀ (a : α) (j : Island), a ∈ l → j.sameOut (f a j)) :
    i.sameOut (islL l f i) := by
  unfold islL
  induction l generalizing i with
  | nil => exact sameOut_refl i
  | cons a l ih => exact sameOut_trans (h a i (by simp)) (ih _ (fun b j hb => h b j (by simp [hb])))

/-- A change for each element of a list keeps what each single change keeps. -/
theorem islL_keeps {α : Type} {P : Island → Prop} (l : List α) {f : α → Island → Island} {i : Island}
    (h : ∀ a j, P j → P (f a j)) (hi : P i) : P (islL l f i) := by
  unfold islL
  induction l generalizing i with
  | nil => exact hi
  | cons a l ih => exact ih (h a i hi)

/-! ### Operations that leave outputs and STATE alone -/

theorem sameOut_showAx (i : Island) (j : Nat) : i.sameOut (i.showAx j) := by
  unfold Island.showAx
  dsimp only
  split
  · refine sameOut_both i (fun ch k hc => sameOut_wrN k _ (notOut_SAFE_CH_AXIS ch j hc ‹_›))
  · exact sameOut_refl i

theorem sameOut_setAx (i : Island) (j : Nat) (x : SAxis) : i.sameOut (i.setAx j x) := sameOut_regs rfl
theorem sameOut_setMc (i : Island) (j : Nat) (x : SMach) : i.sameOut (i.setMc j x) := sameOut_regs rfl
theorem sameOut_setCon (i : Island) (j : Nat) (x : SConn) : i.sameOut (i.setCon j x) := sameOut_regs rfl
theorem sameOut_setSin (i : Island) (j : Nat) (x : SIn) : i.sameOut (i.setSin j x) := sameOut_regs rfl

theorem sameOut_stopNow (i : Island) : i.sameOut i.stopNow := sameOut_regs rfl
theorem sameOut_stop0 (m : Nat) (i : Island) : i.sameOut (Island.stop0 m i) := sameOut_regs rfl
theorem sameOut_toSto (i : Island) (j : Nat) (x : SAxis) : i.sameOut (i.toSto j x) := sameOut_regs rfl

theorem sameOut_connErr (i : Island) (n : Nat) : i.sameOut (i.connErr n) :=
  sameOut_both i (fun ch j hc => sameOut_setF j _ _ _ (notOut_SAFE_CH_CONN_ERR ch hc))

theorem sameOut_evt (i : Island) (k : Nat) : i.sameOut (i.evt k) := by
  refine sameOut_both i (fun ch j hc => sameOut_setB j _ _ (notOut_SAFE_CH_EVT ch hc))

theorem sameOut_setLost (i : Island) (k : Nat) (b : Bool) : i.sameOut (i.setLost k b) := by
  refine sameOut_both i (fun ch j hc => sameOut_setB j _ _ (notOut_SAFE_CH_CONN ch hc))

theorem sameOut_setReleased (i : Island) (m : Nat) : i.sameOut (i.setReleased m) := by
  refine sameOut_both i (fun ch j hc => sameOut_setF j _ _ _ (notOut_SAFE_CH_OUT ch hc))

/-! ### Outputs and STATE -/

/-- STATE after a change of state; the outputs stay. -/
theorem setSt_spec (i : Island) (v : Nat) (hv : v < 8) :
    (i.setSt v).st = v ∧ (i.setSt v).stoOn = i.stoOn ∧ (i.setSt v).kOn = i.kOn := by
  unfold Island.setSt Island.both
  have h1 : R.SAFE_CH_STATE 0 ≠ R.SAFE_CH_STATE 1 := by decide
  have h2 : R.SAFE_STO_OUT ≠ R.SAFE_CH_STATE 1 := by decide
  have h3 : R.SAFE_KOUT ≠ R.SAFE_CH_STATE 1 := by decide
  refine ⟨?_, ?_, ?_⟩
  · simp only [Island.st, Island.fl, Island.setF]
    rw [Island.rd_wr_ne _ _ h1, Island.rd_wr, if_pos rfl, fld_setFld_self _ _ _ _ (by omega), Nat.mod_eq_of_lt (by omega)]
  · simp only [Island.stoOn, Island.fl, Island.setF]
    rw [Island.rd_wr_ne _ _ h2, Island.rd_wr_ne _ _ st_ne_out]
  · simp only [Island.kOn, Island.fl, Island.setF]
    rw [Island.rd_wr_ne _ _ h3, Island.rd_wr_ne _ _ st_ne_k]

/-- The STO groups after the outputs are driven; STATE and the contactors stay. -/
theorem setSto_spec (i : Island) (m : Nat) :
    (i.setSto m).st = i.st ∧ (i.setSto m).stoOn = m % 256 ∧ (i.setSto m).kOn = i.kOn := by
  have h0 : ((i.wrN R.SAFE_STO_OUT (m % 256 * 257)).wrN R.SAFE_STO_FB (m % 256 * 257)).sameOut (i.setSto m) := by
    refine sameOut_both _ (fun ch j hc => sameOut_setF j _ _ _ (notOut_SAFE_CH_OUT ch hc))
  have h1 : (i.wrN R.SAFE_STO_OUT (m % 256 * 257)).sameOut
      ((i.wrN R.SAFE_STO_OUT (m % 256 * 257)).wrN R.SAFE_STO_FB (m % 256 * 257)) :=
    sameOut_wrN _ _ notOut_SAFE_STO_FB
  have h := sameOut_trans h1 h0
  refine ⟨h.1.trans ?_, h.2.1.trans ?_, h.2.2.trans ?_⟩
  · simp only [Island.st, Island.fl, Island.wrN]
    rw [Island.rd_wr_ne _ _ (Ne.symm st_ne_out)]
  · simp only [Island.stoOn, Island.fl, Island.wrN, Island.rd_wr, if_true, fld, BitVec.toNat_ofNat, Nat.shiftRight_zero]
    omega
  · simp only [Island.kOn, Island.fl, Island.wrN]
    rw [Island.rd_wr_ne _ _ (by decide)]

/-- The contactors after they are driven; STATE and the STO groups stay. -/
theorem setK_spec (i : Island) (m : Nat) :
    (i.setK m).st = i.st ∧ (i.setK m).stoOn = i.stoOn ∧ (i.setK m).kOn = m % 16 := by
  have h : (i.wrN R.SAFE_KOUT (m % 16 + m % 16 * 16 + (15 - m % 16) * 256)).sameOut (i.setK m) := by
    refine sameOut_both _ (fun ch j hc => sameOut_setF j _ _ _ (notOut_SAFE_CH_OUT ch hc))
  refine ⟨h.1.trans ?_, h.2.1.trans ?_, h.2.2.trans ?_⟩
  · simp only [Island.st, Island.fl, Island.wrN]
    rw [Island.rd_wr_ne _ _ (Ne.symm st_ne_k)]
  · simp only [Island.stoOn, Island.fl, Island.wrN]
    rw [Island.rd_wr_ne _ _ (by decide)]
  · simp only [Island.kOn, Island.fl, Island.wrN, Island.rd_wr, if_true, fld, BitVec.toNat_ofNat, Nat.shiftRight_zero]
    omega

/-- Every output off: STATE stays, no group and no contactor is on. -/
theorem allOff_spec (i : Island) : i.allOff.st = i.st ∧ i.allOff.stoOn = 0 ∧ i.allOff.kOn = 0 := by
  unfold Island.allOff
  dsimp only
  generalize hk : i.noteOff 255 = k0
  have z : i.sameOut k0 := sameOut_regs (by rw [← hk]; rfl)
  have a := setSto_spec k0 0
  have b := sameOut_setReleased (k0.setSto 0) 0
  have ax : ∀ k : Island, k.sameOut (islL k.axIds (fun j i => (i.setAx j (i.ax j).sto).showAx j) k) := fun k =>
    sameOut_islL _ k (fun j m _ => sameOut_trans (sameOut_setAx m j _) (sameOut_showAx _ j))
  split
  · next h =>
    have c := ax ((k0.setSto 0).setReleased 0)
    exact ⟨c.1.trans (b.1.trans (a.1.trans z.1)), c.2.1.trans (b.2.1.trans a.2.1), c.2.2.trans h⟩
  · have k := setK_spec ((k0.setSto 0).setReleased 0) 0
    have c := ax (((k0.setSto 0).setReleased 0).setK 0)
    exact ⟨c.1.trans (k.1.trans (b.1.trans (a.1.trans z.1))), c.2.1.trans (k.2.1.trans (b.2.1.trans a.2.1)), c.2.2.trans k.2.2⟩

/-- Outputs that are off stay safe in any state. -/
theorem safe_of_off {i : Island} (h1 : i.stoOn = 0) (h2 : i.kOn = 0) : i.outputsSafe := fun _ => ⟨h1, h2⟩

/-- In RUN anything may be on. -/
theorem safe_of_run {i : Island} (h : i.st = 2) : i.outputsSafe := fun k => absurd h k

theorem safe_allOff_setSt (i : Island) (v : Nat) (hv : v < 8) : (i.allOff.setSt v).outputsSafe :=
  safe_of_off ((setSt_spec _ v hv).2.1.trans (allOff_spec i).2.1) ((setSt_spec _ v hv).2.2.trans (allOff_spec i).2.2)

theorem groupOff_spec (i : Island) (g : Nat) :
    (i.groupOff g).st = i.st ∧ (i.groupOff g).stoOn = (i.stoOn &&& (255 ^^^ 2 ^ g)) % 256 ∧ (i.groupOff g).kOn = i.kOn := by
  unfold Island.groupOff
  dsimp only
  generalize hk : i.noteOff (2 ^ g) = k0
  have z : i.sameOut k0 := sameOut_regs (by rw [← hk]; rfl)
  have a := setSto_spec k0 (k0.stoOn &&& (255 ^^^ 2 ^ g))
  have b := sameOut_setReleased (k0.setSto (k0.stoOn &&& (255 ^^^ 2 ^ g))) (k0.released &&& (255 ^^^ 2 ^ g))
  have ax : ∀ (l : List Nat) (k : Island), k.sameOut (islL l (fun j i => (i.setAx j (i.ax j).sto).showAx j) k) := fun l k =>
    sameOut_islL l k (fun j m _ => sameOut_trans (sameOut_setAx m j _) (sameOut_showAx _ j))
  have c := ax (((k0.setSto (k0.stoOn &&& (255 ^^^ 2 ^ g))).setReleased (k0.released &&& (255 ^^^ 2 ^ g))).axIds.filter
    (fun j => (((k0.setSto (k0.stoOn &&& (255 ^^^ 2 ^ g))).setReleased (k0.released &&& (255 ^^^ 2 ^ g))).axc j).group == g))
    ((k0.setSto (k0.stoOn &&& (255 ^^^ 2 ^ g))).setReleased (k0.released &&& (255 ^^^ 2 ^ g)))
  exact ⟨c.1.trans (b.1.trans (a.1.trans z.1)), c.2.1.trans (b.2.1.trans (a.2.1.trans (by rw [z.2.1]))), c.2.2.trans (b.2.2.trans (a.2.2.trans z.2.2))⟩

theorem safe_groupOff {i : Island} (g : Nat) (h : i.outputsSafe) : (i.groupOff g).outputsSafe := by
  have a := groupOff_spec i g
  intro hs
  have b := h (fun e => hs (a.1.trans e))
  rw [a.2.1, a.2.2, b.1]
  exact ⟨by simp, b.2⟩

end Sys2Proof.Machine
end

