-- ==== Sys2Proof/Laws/Safe.lean ====
section
/-! SUPPORT. Every operation of the Safety Island keeps its outputs off outside RUN (R324). -/

namespace Sys2Proof.Machine

/-! ### Cases -/

theorem safe_same {i j : Island} (k : i.outputsSafe) (h : i.sameOut j) : j.outputsSafe := sameOut_safe h k

theorem safe_regs {i j : Island} (k : i.outputsSafe) (h : j.regs = i.regs) : j.outputsSafe := sameOut_safe (sameOut_regs h) k

theorem same_if {i : Island} {c : Prop} [Decidable c] {p q : Island} (h1 : i.sameOut p) (h2 : i.sameOut q) :
    i.sameOut (if c then p else q) := by
  split
  · exact h1
  · exact h2

theorem sameOut_ite {α : Type} {i : Island} {c : Prop} [Decidable c] {p q : α × Island} (h1 : i.sameOut p.2)
    (h2 : i.sameOut q.2) : i.sameOut (if c then p else q).2 := by
  split
  · exact h1
  · exact h2

theorem safe_if {c : Prop} [Decidable c] {p q : Island} (h1 : p.outputsSafe) (h2 : q.outputsSafe) :
    (if c then p else q : Island).outputsSafe := by
  split
  · exact h1
  · exact h2

theorem safe_ite {α : Type} {c : Prop} [Decidable c] {p q : α × Island} (h1 : p.2.outputsSafe)
    (h2 : q.2.outputsSafe) : (if c then p else q).2.outputsSafe := by
  split
  · exact h1
  · exact h2

theorem safe_pair {α : Type} {c : Prop} [Decidable c] {a : α} {i : Island} {q : α × Island} (h1 : i.outputsSafe)
    (h2 : q.2.outputsSafe) : (if c then (a, i) else q).2.outputsSafe := by
  split
  · exact h1
  · exact h2

/-! ### Axes and groups -/

theorem sameOut_setShow (i : Island) (j : Nat) (x : SAxis) : i.sameOut ((i.setAx j x).showAx j) :=
  sameOut_trans (sameOut_setAx i j x) (sameOut_showAx _ j)

theorem safe_strengthen {i : Island} (j : Nat) (h : i.outputsSafe) : (i.strengthen j).outputsSafe := by
  unfold Island.strengthen
  dsimp only
  split
  · exact safe_groupOff _ (safe_same h (sameOut_setAx i j _))
  · split
    · exact safe_same h (sameOut_setAx i j _)
    · split
      · exact safe_same h (sameOut_trans (sameOut_setAx i j _) (sameOut_setShow _ j _))
      · exact safe_same h (sameOut_setAx i j _)

theorem safe_weaken {i : Island} (j : Nat) (h : i.outputsSafe) : (i.weaken j).outputsSafe := by
  unfold Island.weaken
  dsimp only
  split
  · exact safe_same h (sameOut_setShow i j _)
  · exact h

theorem groupOn_st (i : Island) (g : Nat) : (i.groupOn g).st = i.st := by
  unfold Island.groupOn
  dsimp only
  split
  · exact (sameOut_islL _ _ (fun j k _ => sameOut_setShow k j _)).1.trans (setSto_spec i _).1
  · rfl

theorem safe_groupOn {i : Island} (g : Nat) (h : i.outputsSafe) : (i.groupOn g).outputsSafe := by
  by_cases hs : i.st = 2
  · exact safe_of_run ((groupOn_st i g).trans hs)
  · have e : i.groupOn g = i := by
      unfold Island.groupOn
      dsimp only
      rw [if_neg (fun c => hs c.1)]
    rw [e]; exact h

theorem safe_applyNext {i : Island} (j : Nat) (h : i.outputsSafe) : (i.applyNext j).outputsSafe := by
  unfold Island.applyNext
  dsimp only
  split
  · exact safe_groupOff _ h
  · split
    · exact safe_same h (sameOut_setShow i j _)
    · exact h

theorem safe_axesTick {i : Island} (h : i.outputsSafe) : i.axesTick.outputsSafe := by
  have a : (islL i.axIds (fun j i => i.applyNext j) i).outputsSafe :=
    islL_keeps (P := Island.outputsSafe) _ (fun j k => safe_applyNext j) h
  have b : ∀ {k : Island}, k.outputsSafe → (islL k.axIds (fun j i => i.strengthen j) k).outputsSafe := fun hk =>
    islL_keeps (P := Island.outputsSafe) _ (fun j k => safe_strengthen j) hk
  have c : ∀ {k : Island}, k.outputsSafe → (islL k.axIds (fun j i => i.weaken j) k).outputsSafe := fun hk =>
    islL_keeps (P := Island.outputsSafe) _ (fun j k => safe_weaken j) hk
  unfold Island.axesTick
  dsimp only
  split
  · exact c (b a)
  · exact islL_keeps (P := Island.outputsSafe) _ (fun g k => safe_groupOn g) (c (b a))

theorem sameOut_localAxes (i : Island) : i.sameOut i.localAxes := by
  unfold Island.localAxes
  split
  · exact sameOut_islL _ _ (fun j k _ => sameOut_setAx k j _)
  · exact sameOut_refl i

theorem sameOut_measure (j : Nat) (b : Block) (i : Island) : i.sameOut (measure j b i).2 := by
  unfold measure
  lift_lets
  extract_lets
  exact sameOut_ite (sameOut_trans (sameOut_toSto i j _) (sameOut_trans (sameOut_evt _ 3) (sameOut_showAx _ j)))
    (sameOut_setAx i j _)

theorem sameOut_checkAx (i : Island) (j : Nat) : i.sameOut (i.checkAx j) := by
  have ev : ∀ {m : Island} (k : Nat), i.sameOut m → i.sameOut ((m.evt k).showAx j) := fun k h =>
    sameOut_trans h (sameOut_trans (sameOut_evt _ k) (sameOut_showAx _ j))
  unfold Island.checkAx
  lift_lets
  extract_lets
  exact same_if (same_if (ev _ (sameOut_regs rfl)) (sameOut_showAx i j)) (same_if (sameOut_showAx i j)
    (same_if (same_if (ev _ (same_if (sameOut_regs rfl) (sameOut_regs rfl))) (sameOut_setShow i j _))
      (same_if (ev _ (sameOut_trans (same_if (sameOut_stop0 _ i) (sameOut_refl i)) (sameOut_regs rfl)))
        (same_if (sameOut_setShow i j _) (same_if (sameOut_setShow i j _) (sameOut_setShow i j _))))))

theorem sameOut_latchFb (f : Nat) (b : Block) (i : Island) : i.sameOut (islLatchFb f b i).2 := by
  unfold islLatchFb
  split
  · exact sameOut_refl i
  · generalize (i.axIds.filter (fun j => (i.axc j).fbA == f)) = l
    suffices ∀ (l : List Nat) (r : Block × Island), r.2.sameOut (l.foldl
        (fun r j => ((measure j r.1 r.2).1, if (measure j r.1 r.2).2.st = 2 then (measure j r.1 r.2).2.checkAx j
          else (measure j r.1 r.2).2.showAx j)) r).2 from this l (b, i)
    intro l
    induction l with
    | nil => exact fun r => sameOut_refl r.2
    | cons j l ih =>
      intro r
      refine sameOut_trans ?_ (ih _)
      dsimp only
      split
      · exact sameOut_trans (sameOut_measure j r.1 r.2) (sameOut_checkAx _ j)
      · exact sameOut_trans (sameOut_measure j r.1 r.2) (sameOut_showAx _ j)

/-! ### Faults, inputs and connections -/

theorem safe_fault (code : Nat) (b : Block) {i : Island} (h : i.outputsSafe) : (islFault code b i).2.outputsSafe := by
  unfold islFault
  split
  · exact h
  · exact safe_same (safe_allOff_setSt i 3 (by omega))
      (sameOut_both _ (fun ch k _ => sameOut_stateF k ch 8 8 code (by omega)))

theorem sameOut_latchInputs (i : Island) : i.sameOut i.latchInputs := by
  unfold Island.latchInputs
  exact sameOut_islL _ _ (fun n k _ => sameOut_trans (sameOut_setSin k n _) (sameOut_setB _ _ _ notOut_SAFE_SIN_STATE))

theorem sameOut_input (n : Nat) (chB level : Bool) (b : Block) (i : Island) : i.sameOut (islInput n chB level b i).2 := by
  unfold islInput
  lift_lets
  extract_lets
  rename_i k _
  have a : i.sameOut k := by
    cases chB
    · exact sameOut_setB i _ _ notOut_SAFE_SIN_A
    · exact sameOut_setB i _ _ notOut_SAFE_SIN_B
  exact sameOut_ite (sameOut_refl i)
    (sameOut_ite (sameOut_trans a (sameOut_trans (sameOut_setSin _ n _) (sameOut_setB _ _ _ notOut_SAFE_SIN_STATE))) a)

theorem sameOut_discrepancy (n : Nat) (b : Block) (i : Island) : i.sameOut (islDiscrepancy n b i).2 := by
  unfold islDiscrepancy
  split
  · exact sameOut_refl i
  · exact sameOut_trans (sameOut_setSin i n _) (sameOut_trans (sameOut_setB _ _ _ notOut_SAFE_SIN_STATE) (sameOut_evt _ 4))

theorem sameOut_safeCopy (i : Island) (chA ok : Bool) (p : SafePayload) : i.sameOut (i.safeCopy chA ok p) := by
  unfold Island.safeCopy
  split
  · exact sameOut_refl i
  · split
    · exact same_if (sameOut_regs rfl) (sameOut_regs rfl)
    · lift_lets
      extract_lets
      exact same_if (sameOut_setCon i _ _) (same_if (sameOut_refl i) (same_if (sameOut_setCon i _ _) (sameOut_setCon i _ _)))

theorem sameOut_safeRx (i : Island) (late chA ok : Bool) (p : SafePayload) : i.sameOut (i.safeRx late chA ok p) :=
  same_if (same_if (sameOut_refl i) (sameOut_regs rfl)) (sameOut_safeCopy i chA ok p)

theorem sameOut_takeLate (i : Island) : i.sameOut i.takeLate :=
  sameOut_trans (j := { i with lateCopies := [] }) (sameOut_regs rfl) (sameOut_islL _ _ (fun _ _ _ => sameOut_safeCopy _ _ _ _))

theorem sameOut_countStray (i : Island) : i.sameOut i.countStray :=
  same_if (sameOut_refl i) (sameOut_trans (j := { i with strayA := 0, strayB := 0 }) (sameOut_regs rfl) (sameOut_connErr _ _))

theorem sameOut_latchConn (k : Nat) (c : ConnCfg) (b : Block) (i : Island) : i.sameOut (latchConn k c b i).2 := by
  unfold latchConn
  have a : ∀ x, i.sameOut ((i.setCon k x).setLost k false) := fun x =>
    sameOut_trans (sameOut_setCon i k x) (sameOut_setLost _ k false)
  lift_lets
  extract_lets
  refine sameOut_ite (sameOut_ite ?_ (sameOut_trans (a _) (sameOut_islL _ _ (fun m j _ => sameOut_stop0 m j)))) (same_if ?_ (sameOut_setCon i k _))
  · exact sameOut_trans (a _) (same_if (sameOut_trans (sameOut_regs rfl) (sameOut_setB _ _ _ notOut_SAFE_SSMB_ERR)) (sameOut_regs rfl))
  · exact sameOut_trans (sameOut_setCon i k _) (sameOut_connErr _ 1)

theorem sameOut_latchItems (b : Block) (i : Island) : i.sameOut (islLatchItems b i).2 := by
  unfold islLatchItems
  split
  · exact sameOut_refl i
  · generalize i.cfg.conns = l
    suffices ∀ (l : Sparse ConnCfg) (r : Block × Island),
        r.2.sameOut (l.foldl (fun r c => latchConn c.1 c.2 r.1 r.2) r).2 from
      sameOut_trans (sameOut_countStray i) (this l (b, i.countStray))
    intro l
    induction l with
    | nil => exact fun r => sameOut_refl r.2
    | cons c l ih => exact fun r => sameOut_trans (sameOut_latchConn c.1 c.2 r.1 r.2) (ih _)

theorem sameOut_connLost (k : Nat) (b : Block) (i : Island) : i.sameOut (islConnLost k b i).2 := by
  unfold islConnLost
  split
  · exact sameOut_refl i
  · split
    · exact sameOut_trans (sameOut_setLost i k true) (sameOut_evt _ 5)
    · exact sameOut_refl i

/-! ### The cycle -/

theorem sameOut_formMach (i : Island) (m : Nat) : i.sameOut (i.formMach m) := by
  unfold Island.formMach
  dsimp only
  split
  · exact sameOut_trans (sameOut_setMc i m _)
      (sameOut_both _ (fun ch j hc => sameOut_wrN j _ (notOut_SAFE_CH_MDEM ch m hc ‹_›)))
  · exact sameOut_setMc i m _

theorem sameOut_formAll (i : Island) : i.sameOut i.formAll := by
  unfold Island.formAll
  split
  · exact sameOut_islL _ _ (fun m k _ => sameOut_formMach k m)
  · exact sameOut_refl i

theorem sameOut_showB (i : Island) : i.sameOut i.showB := by
  unfold Island.showB
  lift_lets
  extract_lets
  rename_i x k
  have a : i.sameOut k := sameOut_trans (sameOut_wrN i _ notOut_SAFE_SSMB_PASS_CNT) (sameOut_setF _ _ _ _ notOut_SAFE_SSMB_PASS_CLK)
  exact sameOut_trans a (sameOut_islL _ _ (fun m k _ => sameOut_trans (sameOut_wrN k _ (notOut_SAFE_SSMB_DEM m))
    (sameOut_wrN _ _ (notOut_SAFE_SSMB_PAIR m))))

theorem safe_takeover (n : Nat) (b : Block) {i : Island} (h : i.outputsSafe) : (takeover n b i).2.outputsSafe := by
  have a : ∀ (c : Bool), i.sameOut (if c then i.showB else i.setB R.SAFE_SSMB_ERR 0 true) := by
    intro c; cases c
    · exact sameOut_setB i _ _ notOut_SAFE_SSMB_ERR
    · exact sameOut_showB i
  have ev : ∀ (c : Bool) (k : Nat) (j : Island), j.sameOut (if c then j.evt k else j) := by
    intro c k j; cases c
    · exact sameOut_refl j
    · exact sameOut_evt j k
  unfold takeover
  lift_lets
  extract_lets
  rename_i i1 _ i2 i3 i4 _ _ _ i5
  have k1 : i.sameOut i1 := a _
  refine safe_ite (safe_same h (sameOut_trans k1 (sameOut_regs rfl))) ?_
  have k2 : i1.sameOut i2 := sameOut_islL _ _ (fun _ _ _ => sameOut_regs rfl)
  have k5 : i.sameOut i5 := sameOut_trans k1 (sameOut_trans k2 (sameOut_trans (ev _ 6 _) (sameOut_trans (ev _ 7 _) (sameOut_regs rfl))))
  exact safe_ite (safe_fault 7 _ (safe_same h k5)) (safe_ite (safe_fault 8 _ (safe_same h k5)) (safe_same h k5))

theorem safe_compare (diff : Bool) (b : Block) {i : Island} (h : i.outputsSafe) : (compare_ diff b i).2.outputsSafe := by
  unfold compare_
  split
  · exact safe_regs h rfl
  · split
    · exact safe_fault 2 b h
    · refine safe_same (i := { i with cmpRun := true }) (safe_regs h rfl) ?_
      exact sameOut_both _ (fun ch j hc => sameOut_setF j _ _ _ (notOut_SAFE_CH_DISC_CNT ch hc))

theorem restrict_st (i : Island) (off : Nat) : (i.restrict off).st = i.st := by
  unfold Island.restrict
  have e : (islL ((List.range 8).filter (fun g => nbit off g && nbit i.stoOn g)) (fun g i => i.groupOff g) i).st = i.st :=
    islL_keeps (P := fun k => k.st = i.st) _ (fun g j hj => (groupOff_spec j g).1.trans hj) rfl
  dsimp only
  split
  · exact e
  · exact (setK_spec _ _).1.trans e

theorem safe_tick0 (n : Nat) (diff : Bool) (off : Nat) (b : Block) {i : Island} (h : i.outputsSafe) :
    (islTick0 n diff off b i).2.outputsSafe := by
  unfold islTick0
  split
  · exact h
  · dsimp only
    have h0 : (Island.takeLate { i with newStop := false }).outputsSafe :=
      safe_same (safe_regs h rfl) (sameOut_takeLate { i with newStop := false })
    revert h0
    generalize Island.takeLate { i with newStop := false } = i
    intro h
    have a : (if i.alive then compare_ diff b i else (b, i)).2.outputsSafe := by
      split
      · exact safe_compare diff b h
      · exact h
    revert a
    generalize (if i.alive then compare_ diff b i else (b, i)) = r
    intro a
    have c : (if (b.bt R.SSM_STAT 0 && n % 8 == 4) then takeover (n - 4) r.1 r.2.latchInputs
        else (r.1, r.2.latchInputs)).2.outputsSafe := by
      split
      · exact safe_takeover _ _ (safe_same a (sameOut_latchInputs _))
      · exact safe_same a (sameOut_latchInputs _)
    revert c
    generalize (if (b.bt R.SSM_STAT 0 && n % 8 == 4) then takeover (n - 4) r.1 r.2.latchInputs
        else (r.1, r.2.latchInputs)) = q
    intro c
    have d : (if q.2.alive then q.2.formAll.localAxes else q.2).outputsSafe := by
      split
      · exact safe_same c (sameOut_trans (sameOut_formAll _) (sameOut_localAxes _))
      · exact c
    revert d
    generalize (if q.2.alive then q.2.formAll.localAxes else q.2) = k
    intro d
    have e : (if k.st = 2 then k.axesTick else k).outputsSafe := by
      split
      · exact safe_axesTick d
      · exact d
    revert e
    generalize (if k.st = 2 then k.axesTick else k) = m
    intro e
    split
    · next hm =>
      refine safe_of_run ((restrict_st m off).trans ?_)
      simpa using (Bool.and_eq_true_iff.mp hm).2
    · exact e

theorem safe_takeCmd (ep d kfb : Nat) (it : SafeItem) {i : Island} (h : i.outputsSafe) : (takeCmd ep d kfb it i).outputsSafe := by
  unfold takeCmd
  split
  · split
    · exact h
    · split
      · lift_lets
        extract_lets
        rename_i k m _ _ r o _
        have hk : k.outputsSafe := safe_if (safe_regs h rfl) (safe_regs h rfl)
        have hm : m.outputsSafe := safe_if (safe_of_run (setSt_spec k 2 (by omega)).1) hk
        by_cases hr : m.st ≠ 2 ∨ m.role = 2
        · rw [if_pos hr]; exact hm
        · rw [if_neg hr]
          have run : m.st = 2 := by
            by_contra e; exact hr (.inl e)
          have off : o.st = 2 :=
            islL_keeps (P := fun i => i.st = 2) _ (fun g j hj => (groupOff_spec j g).1.trans hj)
              ((sameOut_setReleased m _).1.trans run)
          exact safe_if (safe_of_run off) (safe_of_run ((setK_spec _ _).1.trans off))
      · split
        · exact safe_same h (sameOut_setAx i _ _)
        · exact h
  · exact h

theorem safe_combine (kfb : Nat) (b : Block) {i : Island} (h : i.outputsSafe) : (islCombine kfb b i).2.outputsSafe := by
  have items : ∀ (l : List SafeItem) (ep d : Nat) {k : Island}, k.outputsSafe →
      (l.foldl (fun i it => takeCmd ep (if i.isDecider then 1 else d) kfb it i) k).outputsSafe := by
    intro l ep d
    induction l with
    | nil => exact fun hk => hk
    | cons it l ih => exact fun hk => ih (safe_takeCmd ep _ kfb it hk)
  have conns : ∀ (l : Sparse ConnCfg) (ep : Nat) {k : Island}, k.outputsSafe →
      (l.foldl (fun i c => if c.2.kind = 2 ∧ (i.con c.1).misses = 0 then
        (i.con c.1).items.foldl (fun i it => takeCmd ep (if i.isDecider then 1 else c.2.decider) kfb it i) i else i) k).outputsSafe := by
    intro l ep
    induction l with
    | nil => exact fun hk => hk
    | cons c l ih =>
      intro k hk
      refine ih ?_
      dsimp only
      exact safe_if (items _ _ _ hk) hk
  unfold islCombine
  split
  · exact h
  · dsimp only
    split
    · exact islL_keeps (P := Island.outputsSafe) _ (fun j k => safe_strengthen j) (conns _ _ h)
    · exact conns _ _ h

/-! ### Requests -/

theorem sameOut_clearStops (i : Island) (ins : Nat) : i.sameOut (i.clearStops ins) := by
  unfold Island.clearStops
  lift_lets
  extract_lets
  rename_i k m
  have a : i.sameOut k := sameOut_islL _ _ (fun n k _ => sameOut_setSin k n _)
  have b : k.sameOut m := sameOut_islL _ _ (fun m k _ => sameOut_setMc k m _)
  exact sameOut_trans a (sameOut_trans b (sameOut_islL _ _ (fun j k _ => sameOut_setAx k j _)))

theorem safe_release (w1 w2 kfb : Nat) (barred : Bool) {i : Island} (h : i.outputsSafe) : (release w1 w2 kfb barred i).2.outputsSafe := by
  unfold release
  lift_lets
  extract_lets
  rename_i _ _ _ _ j0 _ j1 j2 j3 j4
  refine safe_pair h (safe_pair h (safe_pair h (safe_pair h (safe_pair h ?_))))
  have s1 : j1.st = 2 := (setSt_spec j0 2 (by omega)).1
  have e2 : j1.sameOut j2 := sameOut_islL _ _ (fun _ _ _ => sameOut_regs rfl)
  have s2 : j2.st = 2 := e2.1.trans s1
  have s3 : j3.st = 2 := (sameOut_setReleased j2 _).1.trans s2
  have s4 : j4.st = 2 := islL_keeps (P := fun i => i.st = 2) _ (fun g j hj => (groupOn_st j g).trans hj) s3
  exact safe_if (safe_of_run s4) (safe_of_run ((setK_spec j4 _).1.trans s4))

theorem safe_strengthenAll {i : Island} (h : i.outputsSafe) :
    (if i.st = 2 then islL i.axIds (fun j i => i.strengthen j) i else i).outputsSafe := by
  split
  · exact islL_keeps (P := Island.outputsSafe) _ (fun j k => safe_strengthen j) h
  · exact h

theorem safe_stopReq (w1 w2 : Nat) {i : Island} (h : i.outputsSafe) : (stopReq w1 w2 i).2.outputsSafe := by
  unfold stopReq
  dsimp only
  split
  · exact h
  · split
    · exact safe_same (safe_same h (sameOut_stopNow i)) (sameOut_islL _ _ (fun m k _ => sameOut_setMc k m _))
    · exact safe_strengthenAll (safe_same (safe_same h (sameOut_stopNow i)) (sameOut_islL _ _ (fun m k _ => sameOut_setAx k m _)))

theorem safe_slsReq (mask v : Nat) {i : Island} (h : i.outputsSafe) : (slsReq mask v i).2.outputsSafe := by
  unfold slsReq
  dsimp only
  split
  · exact safe_same h (sameOut_islL _ _ (fun m k _ => sameOut_setMc k m _))
  · exact safe_strengthenAll (safe_same h (sameOut_islL _ _ (fun m k _ => sameOut_setAx k m _)))

theorem sameOut_clearEvents (w1 : Nat) (i : Island) : i.sameOut (clearEvents w1 i).2 := by
  unfold clearEvents
  exact sameOut_both i (fun ch j hc => sameOut_wr j _ (notOut_SAFE_CH_EVT ch hc))

theorem safe_request (code outcome : Nat) (act : Nat → Nat → Island → Nat × Island)
    (ha : ∀ w1 w2 (i : Island), i.outputsSafe → (act w1 w2 i).2.outputsSafe) (b : Block) {i : Island} (h : i.outputsSafe) :
    (request code outcome act b i).2.outputsSafe := by
  unfold request
  dsimp only
  split
  · exact h
  · split
    · exact h
    · split
      · exact safe_fault 4 b h
      · split
        · exact h
        · split
          · exact h
          · exact ha _ _ _ h

/-! ### Start, tests, resets and images -/

theorem safe_tests (passed : Bool) (b : Block) {i : Island} (h : i.outputsSafe) : (islTests passed b i).2.outputsSafe := by
  unfold islTests
  split
  · exact h
  · next hc =>
    have st0 : i.st = 0 := by
      simp only [Bool.or_eq_true, bne_iff_ne, ne_eq, not_or, not_not] at hc
      exact hc.2
    have off := h (by omega)
    have a : ∀ v, v < 8 → (i.setSt v).outputsSafe := fun v hv =>
      safe_of_off ((setSt_spec i v hv).2.1.trans off.1) ((setSt_spec i v hv).2.2.trans off.2)
    split
    · exact safe_same (a 1 (by omega)) (sameOut_both _ (fun ch k _ => sameOut_stateB k ch 3 true (by omega) (by omega)))
    · exact safe_fault 9 b h

theorem safe_start (i : Island) : i.start.outputsSafe := by
  unfold Island.start
  lift_lets
  extract_lets
  rename_i k m n
  have a : k.sameOut m := sameOut_islL _ _ (fun _ _ _ => sameOut_regs rfl)
  have b : m.sameOut n := sameOut_regs rfl
  exact safe_same (safe_allOff_setSt i 0 (by omega)) (sameOut_trans a (sameOut_trans b
    (sameOut_both _ (fun ch k _ => sameOut_stateB k ch 3 false (by omega) (by omega)))))

theorem safe_deliberate (skew lo hi : Nat) (fault : Bool) (b : Block) {i : Island} (h : i.outputsSafe) :
    (islDeliberate skew lo hi fault b i).2.outputsSafe := by
  unfold islDeliberate
  split
  · exact h
  · split
    · exact safe_start i
    · exact safe_same h (sameOut_setF i _ _ _ notOut_SAFE_RST_STAT)

theorem safe_pulse (g ch : Nat) (passed : Bool) (b : Block) {i : Island} (h : i.outputsSafe) :
    (islPulse g ch passed b i).2.outputsSafe := by
  unfold islPulse
  dsimp only
  split
  · exact h
  · split
    · exact safe_same h (sameOut_wrN i _ notOut_SAFE_OPT_STAT)
    · exact safe_fault 5 b (safe_same h (sameOut_wrN i _ notOut_SAFE_OPT_STAT))

theorem safe_readback (g ch : Nat) (b : Block) {i : Island} (h : i.outputsSafe) : (islReadback g ch b i).2.outputsSafe := by
  unfold islReadback
  split
  · exact h
  · exact safe_fault 5 b (safe_same h (sameOut_setB i _ _ notOut_SAFE_STO_FB))

theorem safe_contactor (n : Nat) (hn : n < 4) (b : Block) {i : Island} (h : i.outputsSafe) : (islContactor n b i).2.outputsSafe := by
  unfold islContactor
  split
  · exact h
  · refine safe_fault 6 b (safe_same h ⟨?_, ?_, ?_⟩)
    · simp only [Island.st, Island.fl, Island.setB, i.rd_wr_ne _ (Ne.symm st_ne_k)]
    · simp only [Island.stoOn, Island.fl, Island.setB]
      rw [Island.rd_wr_ne _ _ (by decide)]
    · simp only [Island.kOn, Island.fl, Island.setB, Island.rd_wr, if_true]
      exact fld_setBit_ne _ _ _ _ _ (by omega) (.inr (by omega))

theorem sameOut_loopEcc (c : Nat) (shadow uncorr : Bool) (b : Block) (i : Island) : i.sameOut (islLoopEcc c shadow uncorr b i).2 := by
  unfold islLoopEcc
  lift_lets
  extract_lets
  rename_i _ k
  have a : i.sameOut k := sameOut_islL _ _ (fun _ _ _ => sameOut_regs rfl)
  exact sameOut_ite (sameOut_refl i) (sameOut_trans a (sameOut_islL _ _ (fun _ _ _ => sameOut_regs rfl)))

theorem safe_sysReset {i : Island} (h : i.outputsSafe) : i.sysReset.outputsSafe := by
  unfold Island.sysReset
  split
  · exact h
  · exact safe_allOff_setSt i 1 (by omega)

theorem safe_fresh (i : Island) (h : i.regs = []) : i.outputsSafe := by
  refine safe_of_off ?_ ?_
  · simp only [Island.stoOn, Island.fl, Island.rd, h]; decide
  · simp only [Island.kOn, Island.fl, Island.rd, h]; decide

theorem safe_islRelease (b : Block) {i : Island} (h : i.outputsSafe) : (islRelease b i).2.outputsSafe := by
  unfold islRelease
  split
  · exact h
  · lift_lets
    extract_lets
    rename_i k
    have a : k.outputsSafe := safe_fresh k rfl
    exact safe_same a (sameOut_both k (fun ch k hc => sameOut_trans (sameOut_trans (sameOut_stateB k ch 4 _ (by omega) (by omega))
      (sameOut_stateB _ ch 5 _ (by omega) (by omega))) (sameOut_wrN _ _ (notOut_SAFE_CH_PSIG ch hc))))

theorem safe_newParams (i : Island) (c : SafeCfg) (h : i.outputsSafe) : (i.newParams c).outputsSafe := safe_regs h rfl

theorem safe_acceptSafe {i : Island} (role : Nat) (c : SafeCfg) (h : i.outputsSafe) : (i.acceptSafe role c).outputsSafe := by
  unfold Island.acceptSafe
  split
  · exact h
  · lift_lets
    extract_lets
    rename_i k m n
    have a : k.outputsSafe := safe_if h (safe_same
      (safe_newParams i.allOff c (safe_of_off (allOff_spec i).2.1 (allOff_spec i).2.2)) (sameOut_islL _ _ (fun j _ _ => sameOut_showAx _ j)))
    have b : m.outputsSafe := safe_regs a rfl
    have d : m.sameOut n := sameOut_islL _ _ (fun k j _ => sameOut_wr j _ (notOut_SAFE_SSMB_DEM k))
    exact safe_same b (sameOut_trans d (sameOut_both n (fun ch k hc => sameOut_trans (sameOut_trans
      (sameOut_stateB k ch 4 _ (by omega) (by omega)) (sameOut_stateB _ ch 5 _ (by omega) (by omega)))
      (sameOut_wrN _ _ (notOut_SAFE_CH_PSIG ch hc)))))

theorem safe_configImage (h : ImgHdr) (img : Image) (n : Nv) (b : Block) {i : Island} (k : i.outputsSafe) :
    (configImage h img n b i).2.outputsSafe := by
  unfold configImage
  split
  · exact k
  · split
    · exact k
    · split
      · exact k
      · split
        · exact k
        · split
          · exact k
          · exact safe_acceptSafe _ _ k

/-! ### Monitor channel B -/

theorem sameOut_passB (clk ecc : Nat) (b : Block) (i : Island) : i.sameOut (islPassB clk ecc b i).2 := by
  unfold islPassB
  split
  · exact sameOut_refl i
  · dsimp only
    have a : i.sameOut (if ecc = 1 then i.setB R.SAFE_SSMB_ERR 6 true else i) := by
      split
      · exact sameOut_setB i _ _ notOut_SAFE_SSMB_ERR
      · exact sameOut_refl i
    split
    · exact sameOut_trans a (sameOut_trans (sameOut_regs rfl) (sameOut_setB _ _ _ notOut_SAFE_SSMB_ERR))
    · exact sameOut_trans a (sameOut_trans (sameOut_regs rfl) (sameOut_islL _ _ (fun k j _ => sameOut_setB j _ _ notOut_SAFE_SSMB_ERR)))

theorem sameOut_passStart (n : Nat) (b : Block) (i : Island) : i.sameOut (islPassStart n b i).2 := by
  unfold islPassStart
  split
  · exact sameOut_refl i
  · dsimp only
    split
    · exact sameOut_regs rfl
    · exact sameOut_refl i

theorem sameOut_unitLost (u : Nat) (b : Block) (i : Island) : i.sameOut (islUnitLost u b i).2 := by
  unfold islUnitLost
  split
  · exact sameOut_refl i
  · split
    · exact sameOut_refl i
    · dsimp only
      split
      · exact sameOut_refl i
      · exact sameOut_trans (sameOut_regs rfl) (sameOut_setB _ _ _ notOut_SAFE_SSMB_ERR)

end Sys2Proof.Machine
end

