-- ==== Sys2Proof/Machine/Outputs.lean ====
section
/-! DEFINITION. What the balls show: the level of every output as a function of the state, before configuration (R84, R99)
and after it: gates with their idle level and polarity (R80, R81, R249, R254), STO and KOUT, steps and direction (R182,
R184, R191), compare lines (R288), modulator clocks (R261), and the lines of the link and serial interfaces. -/

namespace Sys2Proof.Machine

/-- What an output shows: a level, high impedance, the idle states of a Synzon and of a CAN transmitter, or bits of the
transfer in progress. -/
inductive Level where
  | low
  | high
  | hiZ
  | electricalIdle
  | recessive
  | driven
  deriving DecidableEq, Repr

/-- The outputs of R99: gate g (0 UH, 1 UL, 2 VH, 3 VL, 4 WH, 5 WL) of channel p, and the others by number. -/
inductive Ball where
  | gate (p g : Nat)
  | sto (g : Nat)
  | kout (n : Nat)
  | step (n : Nat)
  | dir (n : Nat)
  | cmp (n : Nat)
  /-- FBi_B, an output in SSI mode (R274). -/
  | fbB (i : Nat)
  | sdc (n : Nat)
  | synzon (k : Nat)
  | can (n : Nat)
  | gpio (n : Nat)
  | xspiData
  | xspiCs
  | spiData (n : Nat)
  | spiCs (n : Nat)
  | tdo
  deriving DecidableEq, Repr

/-- A logic level. -/
def lvl (b : Bool) : Level := if b then .high else .low

/-- The gates of channel p: what its last period or disable set, else the idle level (R80, R84). -/
def Block.gatesOf (s : Block) (p : Nat) : List Gate :=
  let g := (s.pw1 p).gates
  if g.isEmpty then idleGates (List.replicate 3 (if s.pwmIdle then some 0 else none)) else g

/-- Where channel p stands in its gates, 1/32 tick: in its period, or since it was disabled (R254); the idle level lasts. -/
def Block.gatePos (s : Block) (p : Nat) : Nat :=
  let x := s.pw1 p
  if s.running p then 32 * min x.cnt (s.perAct p - 1) else min (32 * (s.tb.ticks - x.stopT)) (2 ^ 32 - 1)

/-- Whether a gate is on. -/
def Block.gateOn (s : Block) (p g : Nat) : Bool :=
  let x := (s.gatesOf p).getD g {}
  decide (x.start ≤ s.gatePos p) && decide (s.gatePos p < x.stop)

/-- A gate output (R81, R84, R245): high impedance through a power-on or brownout reset, else on at the active level. -/
def Block.gateLevel (s : Block) (p g : Nat) : Level :=
  if s.pins.hiZ then .hiZ else lvl (s.gateOn p g != s.bt R.PWM_COM_CFG 0)

/-- The carrel that drives step output n (R182, R191). -/
def Block.stepCar (s : Block) (n : Nat) : Option Nat :=
  s.cfg.cars.find? (fun c => s.carLocal c && s.outOf c == 1 && s.actF (R.PS_STEP_CFG c) 0 4 == n)

/-- STEPn: a pulse of PW ticks for each step, active low with STEP_POL (R182, R191); low until its carrel is configured
and enabled (R99). -/
def Block.stepLevel (s : Block) (n : Nat) : Level :=
  match s.stepCar n with
  | none => .low
  | some c =>
    if !s.carEn c then .low else
    let y := sget (fun _ => ({} : StepOut)) s.stepOut n
    let t := 5 * s.tb.ticks
    lvl ((decide (0 < y.pulses) && decide (y.last ≤ t) && decide (t < y.last + 5 * s.actF (R.PS_STEP_CFG c) 8 8)) != s.actB (R.PS_STEP_CFG c) 24)

/-- DIRn: high for negative V with DIR_POL = 1, for the other direction with 0 (R184, R191); low until its carrel is
configured and enabled (R99). (log 115, DEDUCED) -/
def Block.dirLevel (s : Block) (n : Nat) : Level :=
  match s.stepCar n with
  | none => .low
  | some c => if !s.carEn c then .low else lvl ((sget (fun _ => ({} : StepOut)) s.stepOut n).dir == s.actB (R.PS_STEP_CFG c) 25)

/-- SDCn runs while EN = 1: it rises at each tick at which Deck Time is a multiple of 5 × DIV ns and falls half a period
later; the first edge comes after the tick in which EN was set or DIV changed (R261). Low while the page is disabled (R70,
R99). (log 115, DEDUCED) -/
def Block.sdcLevel (s : Block) (n : Nat) : Level :=
  let d := s.fl (R.SDM_CLK n) 0 6
  let pos := s.tb.dt / 5 % d
  if s.held || !s.pageEn sdmPage || !s.bt (R.SDM_CLK n) 8 || d == 0 then .low
  else lvl (decide (2 * pos < d) && decide (sget (fun _ => 0) s.pins.sdc n ≤ s.tb.ticks - pos))

/-- GPIOn: an input in high impedance, or an output at its level (R296); high impedance while the page is disabled (R70,
R99). -/
def Block.gpioLevel (s : Block) (n : Nat) : Level :=
  let r := fun (a b : Nat) => s.bt (if n < 32 then a else b) (n % 32)
  if s.held || !s.pageEn 0x40550000 || !r R.GPIO_DIR_LO R.GPIO_DIR_HI then .hiZ else lvl (r R.GPIO_OUT_LO R.GPIO_OUT_HI)

/-- The level of an output (R99). The Safety Island drives its own outputs. -/
def outLevel (s : Block) (i : Island) (o : Ball) : Level :=
  match o with
  | .gate p g => s.gateLevel p g
  | .sto g => lvl (nbit i.stoOn g)
  | .kout n => lvl (nbit i.kOn n)
  | .step n => if s.held then .low else s.stepLevel n
  | .dir n => if s.held then .low else s.dirLevel n
  | .cmp n => lvl (!s.held && s.cmpLevel n)
  | .sdc n => s.sdcLevel n
  | .fbB i => if s.held || s.fbMode i != 3 then .hiZ else lvl (s.ssiClock i)
  | .synzon k => if s.held || !s.pageEn (0x40480000 + k * 0x1000) || !s.bt (R.SZP_CFG k) 0 then .electricalIdle else .driven
  | .can n => if s.held || !s.pageEn (0x40500000 + n * 0x1000) || (sget (fun _ => ({} : Can)) s.can n).onBus.isNone then .recessive else .driven
  | .gpio n => s.gpioLevel n
  | .xspiData => if s.held || !s.bt R.XSPI_STAT 0 then .hiZ else .driven
  | .xspiCs => lvl (s.held || !s.bt R.XSPI_STAT 0)
  | .spiData n => if s.held || !s.bt (R.SPI_STAT n) 0 then .hiZ else .driven
  | .spiCs n => lvl (s.held || !s.bt (R.SPI_STAT n) 0)
  | .tdo => .hiZ

end Sys2Proof.Machine
end

