-- ==== Sys2Proof/WellFormed.lean ====
section
/-! DEFINITION. Well-formed commands: what the formats of the spec allow a command to carry. `exec` is total and takes
any command; a statement about frames, images or messages may ask for this. -/

namespace Sys2Proof

/-- A number of at most n bits. -/
def fits (n x : Nat) : Bool := decide (x < 2 ^ n)

/-- A signed number of n bits. -/
def fitsI (n : Nat) (x : Int) : Bool := decide (-(2 ^ (n - 1) : Nat) ≤ x) && decide (x < (2 ^ (n - 1) : Nat))

/-- A list of at most n entries. -/
def atMost {α : Type} (n : Nat) (l : List α) : Bool := decide (l.length ≤ n)

/-- The header (R354). -/
def wfHdr (h : FrameHdr) : Bool :=
  fits 32 h.cycle && fits 16 h.claim && (match h.ack with | some a => fits 3 a.1 && fits 5 a.2 | none => true)

/-- The CYCLE_START body (R357). -/
def wfCs (b : CsBody) : Bool :=
  fits 64 b.deckTime && fits 32 b.corr && fits 3 b.entry && fits 3 b.swTarget && fits 5 b.swId && decide (b.swCount ≤ 8)
    && fits 5 b.seat && fits 64 b.digest && fits 8 b.rev && fits 24 b.fwset

/-- A feedback item (R358). -/
def wfFb (x : FbItem) : Bool := fitsI 32 x.pos && fitsI 32 x.vfb && fits 13 x.status && fits 8 x.age

/-- A command item (R359). -/
def wfCmd (x : CmdItem) : Bool := fits 16 x.seq && fitsI 64 x.value && (x.step || fitsI 32 x.value)

/-- An IMU item (R139). -/
def wfImu (x : ImuItem) : Bool :=
  fits 32 x.time && decide (x.force.length = 3) && decide (x.rate.length = 3) && x.force.all (fitsI 32) && x.rate.all (fitsI 32) && fits 8 x.age

/-- A target item (R142). -/
def wfTgt (x : TgtItem) : Bool :=
  fits 32 x.time && decide (x.pos.length = 3) && decide (x.quat.length = 4) && x.pos.all (fitsI 32) && x.quat.all (fitsI 32)
    && fits 8 x.age

/-- An item of a safety payload (R302, R332). -/
def wfSafeItem : SafeItem → Bool
  | .track time pos vel r h sigma slot cls _ _ =>
    fits 32 time && decide (pos.length = 3) && decide (vel.length = 3) && pos.all (fitsI 32) && vel.all (fitsI 16)
      && fits 16 r && fits 16 h && fits 16 sigma && fits 6 slot && fits 2 cls
  | .command dst axis func limit => fits 12 dst && (decide (axis < 24) || axis == 0xFF) && decide (func ≤ 4) && fits 32 limit
  | .status axis func flags kfb vel count =>
    (decide (axis < 24) || axis == 0xFF) && decide (func ≤ 4) && fits 8 flags && fits 4 kfb && fits 32 vel && fits 32 count

/-- A safety payload (R332). -/
def wfSafe (p : SafePayload) : Bool :=
  fits 12 p.src && p.check.all (fits 32) && decide (1 ≤ p.kind ∧ p.kind ≤ 3) && fits 16 p.seq && atMost 65535 p.items && p.items.all wfSafeItem

/-- A DISCOVERY body (R388). -/
def wfDisc (b : DiscBody) : Bool :=
  fits 8 b.op && decide (b.hops ≤ 8) && decide (b.hop ≤ 8) && atMost 8 b.path && b.path.all (fits 5) && atMost 8 b.ret && fits 16 b.tag

/-- A LOAD body (R394). -/
def wfLoad (b : LoadBody) : Bool := fits 3 b.img && fits 32 b.chunk && fits 32 b.length && atMost 960 b.data

/-- The TWIN body (R413): at most eight twin writes to 40-bit addresses. -/
def wfTwin (b : TwinBody) : Bool := atMost 8 b.writes && b.writes.all (fun w => fits 40 w.addr && decide (w.agent < 14))

/-- A CAN frame (R438): eleven identifier bits where IDE is 0, no more data than its DLC says. -/
def wfCan (f : CanFrame) : Bool :=
  let n := if f.dlc.val ≤ 8 then f.dlc.val else if !f.fdf then 8 else [12, 16, 20, 24, 32, 48, 64].getD (f.dlc.val - 9) 64
  (f.ide || fits 11 f.ident.val) && decide (f.data.length ≤ n)

/-- An image header (R485). -/
def wfImgHdr (h : ImgHdr) : Bool :=
  fits 8 h.typ && fits 8 h.slot && fits 8 h.rev && fits 4 h.roles && fits 6 h.ctr && fits 8 h.ctrVal && fits 24 h.fwset

/-- A command carries what its format allows. -/
def Instr.wf (i : Instr) : Bool :=
  match i with
  | .powerOnReset _ => true
  | .pornRelease _ => true
  | .brownoutDetect _ => true
  | .brownoutRelease _ => true
  | .externalReset _ => true
  | .watchdogExpire _ => true
  | .watchdogKick _ _ => true
  | .watchdogEnable _ _ => true
  | .softwareReset _ _ _ => true
  | .safetyIslandResetRequest _ => true
  | .debugSystemReset _ _ _ => true
  | .applicationRelease => true
  | .otpReadDone => true
  | .memoryInitDone => true
  | .imageFetchDone images => images.all wfImgHdr
  | .imageVerify => true
  | .configImageAccept h _ => wfImgHdr h
  | .safetyPowerOnReset => true
  | .alwaysOnPowerUp _ => true
  | .registerWrite _ _ _ _ _ _ => true
  | .decodeErrorClear _ _ => true
  | .postedWriteComplete _ _ => true
  | .pairLoRead _ _ _ _ _ => true
  | .pairHiWrite _ _ _ => true
  | .pageSoftReset _ _ => true
  | .pageSoftResetDone _ => true
  | .pageDisable _ _ => true
  | .pageEnable _ _ => true
  | .irqForce _ _ _ => true
  | .irqClear _ _ _ _ => true
  | .pageLockKey _ _ => true
  | .pageLockClose _ _ => true
  | .lockWindowExpire _ => true
  | .cycleStartTick _ _ _ => true
  | .feedbackLatch spi => spi.all (fun p => decide (p.1 < 4))
  | .profileTick => true
  | .targetReached _ => true
  | .loopPassStart => true
  | .loopPassDone => true
  | .commandLatch _ => true
  | .sampleWindowEnd _ u v w => decide (u.length = v.length ∧ v.length = w.length)
  | .currentLoopDone _ _ => true
  | .pwmReload _ => true
  | .serviceTick => true
  | .deckTimeStepCommit _ _ => true
  | .deckTimeStep => true
  | .cycleStartTimeout => true
  | .acquiringTimeout => true
  | .threadCreate _ => true
  | .threadResume _ => true
  | .threadSuspend _ => true
  | .threadWake _ => true
  | .threadDelete _ => true
  | .dispNextRead _ _ => true
  | .threadYield _ _ => true
  | .threadWait _ _ _ => true
  | .threadExit _ _ => true
  | .dispatchAssign => true
  | .eventDeliver => true
  | .stallEventAdmit => true
  | .coalesceEnqueue => true
  | .eventPostSoftware _ _ => true
  | .waitTimeout _ => true
  | .coreRelease _ _ => true
  | .dispCounterWrite _ _ => true
  | .machineTimerInterrupt _ => true
  | .plicClaim _ _ _ => true
  | .plicComplete _ _ _ => true
  | .dispatchEccError _ _ _ => true
  | .mailboxDataWrite _ _ _ _ => true
  | .mailboxPost _ _ _ _ => true
  | .mailboxAck _ _ _ => true
  | .mailboxCancel _ _ => true
  | .mailboxStageTimeout _ => true
  | .loanAcquire _ _ _ => true
  | .loanRelease _ _ _ => true
  | .loanForce _ _ => true
  | .vmfUpdateDone => true
  | .navRecordCommit _ _ => true
  | .vmfRunEnable _ _ => true
  | .vmfRunDisable _ _ => true
  | .vmfRealign _ _ => true
  | .waveFftSubmit => true
  | .waveFitDone => true
  | .predictionQuery _ _ => true
  | .predictionQueryDone => true
  | .machineFrameRequest _ _ _ => true
  | .profileGo _ _ => true
  | .profileStop _ _ => true
  | .profileHome _ _ => true
  | .homingTimeout _ => true
  | .carrelEnable _ _ => true
  | .carrelDisable _ _ => true
  | .pathGo _ _ => true
  | .pathStop _ _ => true
  | .pathFlush _ _ => true
  | .pathSegmentPush _ _ => true
  | .solverFkDone _ => true
  | .ikBatchDone clk => fits 32 clk
  | .thrustAllocationDone clk => fits 32 clk
  | .taCommit _ _ => true
  | .variantRequest _ _ _ => true
  | .dpJobSubmit _ _ => true
  | .dpJobDone _ _ _ _ => true
  | .solverEccError _ _ _ => true
  | .folioSwapRequest _ _ _ => true
  | .folioSwap _ => true
  | .groupSwapRequest _ _ _ => true
  | .traceArm _ _ => true
  | .diagTrigger _ _ => true
  | .injectStart _ _ => true
  | .diagAbort _ _ => true
  | .ledgerDataRead _ _ => true
  | .loopEngineEccError _ _ _ => true
  | .pwmChannelEnable _ _ _ => true
  | .pwmChannelDisable _ _ _ => true
  | .pwmCompareWrite _ _ _ => true
  | .pwmPeriodWrite _ _ _ => true
  | .deadTimeModeWrite _ _ => true
  | .switchNodeEdge _ _ _ _ => true
  | .debugHaltStart _ => true
  | .debugHaltEnd _ => true
  | .overcurrentTrip _ ones => decide (ones ≤ 32)
  | .sdmClockWrite _ _ _ => true
  | .quadTransition _ _ _ _ => true
  | .hallStateChange _ _ _ => true
  | .ssiReadStart _ _ => true
  | .ssiReadCommand _ _ _ => true
  | .ssiReadDone _ raw trail _ => fits 32 raw && fits 8 trail
  | .indexEdge _ _ _ => true
  | .indexArm _ _ => true
  | .switchEdge _ _ _ _ => true
  | .captureEdge _ _ _ => true
  | .compareRestart _ _ => true
  | .comparePulseEnd _ => true
  | .nodeFeedbackLatch _ => true
  | .speedTimeout _ => true
  | .gpioEdgeEvent _ _ _ => true
  | .ssmPassDoneA clk _ => fits 32 clk
  | .ssmPassDoneB clk _ => fits 32 clk
  | .perceptionUnitLost _ => true
  | .safeStartTestsDone _ => true
  | .deliberateReset _ _ _ _ => true
  | .internalFault _ => true
  | .safeInputChange _ _ _ => true
  | .safeInputDiscrepancy _ => true
  | .safetyConnectionLost _ => true
  | .safeRelease _ _ => true
  | .safeStopRequest _ => true
  | .safeSlsSet _ => true
  | .safeSlsClear _ => true
  | .safeClearEvents _ => true
  | .offPulseTest _ _ _ => true
  | .stoReadbackMismatch _ _ => true
  | .contactorFeedbackTimeout _ => true
  | .portEnable _ _ _ => true
  | .linkSyncAcquired _ => true
  | .linkSyncLost _ => true
  | .delayRequestSend _ => true
  | .delayRequestRx _ _ => true
  | .delayResponseRx _ rtt => fits 32 rtt
  | .delayResponseTimeout _ => true
  | .cycleStartFrameRx _ h b => wfHdr h && wfCs b
  | .feedbackFrameRx _ h items => wfHdr h && atMost 255 items && items.all wfFb
  | .commandFrameRx _ h items cfgTag => wfHdr h && atMost 255 items && items.all wfCmd && fits 32 cfgTag
  | .safetyFrameRx _ h p => wfHdr h && wfSafe p
  | .dataFrameRx _ h imus tgts => wfHdr h && imus.all wfImu && tgts.all wfTgt
  | .joinFrameRx _ h _ _ => wfHdr h
  | .twinFrameRx _ h b => wfHdr h && wfTwin b
  | .discoveryFrameRx _ h b _ => wfHdr h && wfDisc b
  | .frameForward _ h _ resid _ _ => wfHdr h && fits 16 resid
  | .joinQueueForward => true
  | .slotFrameSend _ imus tgts ld => imus.all wfImu && tgts.all wfTgt && wfLoad ld
  | .accessReq _ tag cnt wr _ ws _ => fits 16 tag && decide (cnt.val ≤ 8) && (!wr || decide (ws.length = cnt.val))
  | .accessRsp tag result reason words => fits 16 tag && decide (result ≤ 2) && decide (reason ≤ 8) && atMost 8 words
  | .accede _ ep chan => fits 12 ep && fits 1 chan
  | .cutoff ep chan => fits 12 ep && fits 1 chan
  | .conflict seat => fits 5 seat
  | .mismatch _ why => decide (1 ≤ why ∧ why ≤ 3)
  | .loadStat _ result => fits 1 result
  | .resyncReq _ => true
  | .discReport _ count => fits 16 count
  | .claimAck _ => true
  | .serviceMessageDrop => true
  | .synzonEnable _ _ => true
  | .synzonDisable _ _ => true
  | .listenExpire => true
  | .coldStartComplete => true
  | .holdTimeout => true
  | .catalogueSwitchRequest _ _ => true
  | .catalogueSwitchDecide => true
  | .catalogueSwitchApply => true
  | .remoteAccessGo _ _ => true
  | .remoteAccessTimeout => true
  | .sendWake _ _ => true
  | .wakeReceived => true
  | .discoveryWalkStart _ => true
  | .rediscovery _ => true
  | .imageLoadEnable _ _ => true
  | .identify _ _ b => wfDisc b
  | .assign _ _ b => wfDisc b
  | .write _ _ b => wfDisc b
  | .read _ _ b => wfDisc b
  | .seal _ _ b => wfDisc b
  | .load b => wfLoad b
  | .discoveryReplyTimeout => true
  | .loadedImageVerify _ _ h _ => wfImgHdr h
  | .mismatchReportSend => true
  | .routeCommit _ _ => true
  | .heldCarrelDisable => true
  | .discReportSend => true
  | .missedCycleCheck => true
  | .twinWriteGo _ => true
  | .twinWriteApply => true
  | .coordinatorSwap _ => true
  | .resyncCommand _ => true
  | .yield _ _ => true
  | .resyncReqRepeat => true
  | .handoverAckTimeout => true
  | .proofTestDue => true
  | .dspSubmit _ _ _ => true
  | .dspJobStart _ => true
  | .dspJobDone _ clk _ => fits 32 clk
  | .dspSuspend _ _ _ => true
  | .dspSuspended _ _ => true
  | .dspResume _ _ _ => true
  | .dspRunNext _ _ _ => true
  | .dspAbort _ _ _ _ => true
  | .canFrameRx _ f _ => wfCan f
  | .canRxfPop _ _ _ => true
  | .canHpRead _ _ _ => true
  | .canTxfPush _ _ _ => true
  | .canTxdSend _ _ _ => true
  | .canTxDecision _ => true
  | .canTxAttemptEnd _ _ _ _ => true
  | .canTxfAbort _ _ _ => true
  | .canTxdAbort _ _ _ => true
  | .canModeInit _ _ _ _ => true
  | .canModeNormal _ _ _ => true
  | .canModeListen _ _ _ => true
  | .canModeRestricted _ _ _ => true
  | .canBusOffRecoveryDone _ => true
  | .pcieInboundTlp _ _ => true
  | .msixSourceRise _ => true
  | .msixFire _ _ _ => true
  | .msixUnmask _ => true
  | .pcieOutboundAccess _ _ _ => true
  | .pcieOutboundTimeout => true
  | .pcieReset => true
  | .ethFrameRx _ _ => true
  | .ethTailWrite _ _ _ _ => true
  | .ethTxDone _ => true
  | .sdramTrainingDone _ => true
  | .sdramFillDone => true
  | .sdramScrub _ => true
  | .sdramEccError _ _ => true
  | .xspiProgram _ => true
  | .xspiErase _ => true
  | .xspiOpDone _ => true
  | .spiTransferGo _ _ _ => true
  | .spiTransferDone _ _ => true
  | .smbTransactionGo _ _ _ => true
  | .smbTransactionDone _ _ rx => atMost 33 rx
  | .smbClockTimeout _ => true
  | .powerStateRequest _ _ => true
  | .powerStateEntry => true
  | .gpioWake _ _ => true
  | .rtcWake => true
  | .powerStateExitDone _ _ => true
  | .keyProgram _ => true
  | .keyRevoke _ => true
  | .otpCommandDone _ => true
  | .counterAdvance _ _ => true
  | .lifecycleAdvance _ _ rel ret => wfImgHdr rel && wfImgHdr ret
  | .lifecycleTransitionDone => true
  | .returnChallenge _ _ => true
  | .secretProgram _ _ => true
  | .secretLock _ _ => true
  | .attestationGo _ _ => true
  | .attestationDone _ => true
  | .eventArchivePost _ _ => true
  | .eventArchiveWrite => true
  | .poweredHour => true
  | .debugAuthRequest _ _ => true
  | .debugTokenCheckDone tok => wfImgHdr tok
  | .debugChallengeRead _ => true
  | .debugTokenWrite _ _ => true
  | .debugLock _ _ => true
  | .colophonRead _ => true
  | .spornRelease => true
  | .pcieLinkUp _ _ => true
  | .pcieOutboundCompletion _ _ => true
  | .ethLinkChange _ _ _ => true
  | .canBusError _ _ _ _ => true
  | .smbTargetAccess _ _ wr _ => (match wr with | some l => atMost 33 l | none => true)
  | .stepPulse _ => true
  | .hubServiceTickStart => true

end Sys2Proof
end

