-- ==== Sys2Proof/Tests/Slice0.lean ====
section
/-! SUPPORT. Tests: commands that WellFormed refuses, results from the spec's own numbers, and for every statement that
has hypotheses, states and operands that meet them. -/

open Sys2Proof Sys2Proof.Machine

namespace Sys2Proof.Tests

/- One theorem after the other: each waits for the kernel, and all of them at once hold too many threads. -/
set_option Elab.async false
/- An operand that a clause's hypotheses do not mention is still one of its witnesses. -/
set_option linter.unusedVariables false

/-! ### Small states -/

/-- Core 0 as a sender. -/
def core0 : Sender := { agent := 0 }
/-- The state after reset with these registers. -/
def with' (l : List (Nat × Word)) (f : Block → Block := id) : State :=
  { State.reset with blk := f { State.reset.blk with regs := l.foldl (fun m p => sset regDefault m p.1 p.2) State.reset.blk.regs, tb := { State.reset.blk.tb with cycDone := 1 }, raw := false } }
/-- Registers of a coordinator (R1). -/
def coord (l : List (Nat × Word)) (f : Block → Block := id) : State := with' ((R.SYS_STRAP, 1#32) :: l) f
/-- A device held in reset. -/
def held : State := with' [] (fun b => { b with held := true })
/-- The page of `a` is unlocked for core 0 (R72). -/
def opened (a : Nat) (b : Block) : Block :=
  { b with locks := sset (fun _ => {}) b.locks (pageBase a) { isOpen := true, owner := 0, ep := 0, remain := 9 } }
/-- The header of an image of type `typ` that the verification accepts: a SAFETY image signed with key slot 0x10, else none. -/
def imgOf (typ : Nat) : ImgHdr := { typ := typ, slot := if typ = 3 then 0x10 else 0xFF, keyHash := if typ = 3 then Config.romKeyHash 0x10 else 0, ctrVal := 0 }
/-- A change of the Dispatch Unit. -/
def disp' (f : Disp → Disp) (b : Block) : Block := { b with disp := f b.disp }
/-- Thread 0 is `x`, and counter 3 is bound to it. -/
def thr (x : Thread) (b : Block) : Block :=
  disp' (fun d => { d with th := [(0, x)], dc := [(3, { tid := 0, en := true, subA := 0x190, subAEn := true, count := 1, reload := 4 })], rdy := if x.st = .ready then [0] else [] }) b
/-- A device whose port 0 is UP and in which a cycle exists, with endpoint 5, in Synzon state `st`, and these slots. -/
def linked (st : Nat) (l : List (Nat × Word)) (slots : List Slot) (f : Block → Block := id) : State :=
  with' ([(R.SZN_STAT, BitVec.ofNat 32 st), (R.TB_STAT, 2#32), (R.SZN_ID, 5#32), (R.SZP_STAT 0, 2#32), (R.SZP_STAT 1, 2#32),
    (R.TB_FB_DEADLINE, 2000#32)] ++ l)
    (fun b => f { b with szn := { b.szn with cat := [{ valid := true, slots := slots }, { valid := true }] } })
/-- A frame header from endpoint 7 to endpoint 5. -/
def hdr : FrameHdr := { src := 7, dst := 5, cycle := 0 }
/-- Routes to endpoints 7 (port 0) and 9 (port 1). -/
def routed (b : Block) : Block :=
  { b with fab := { b.fab with rt := [(7, { xv := true, xport := 0 }), (9, { xv := true, xport := 1 })] } }
/-- A frame to endpoint 9 on port 0 with this body. -/
def frame7 (b : FrameBody) : TxFrame := { port := 0, src := 7, dst := 9, cycle := 0, body := b }
/-- The page is enabled. -/
def enPage (p : Nat) (b : Block) : Block := b.setB (R.PAGE_CTRL p) 0 true
/-- Interface 2 with this FBK_CFG. -/
def fbk (cfg : Word) (l : List (Nat × Word)) (f : Block → Block := id) : State :=
  with' ((R.FBK_CFG 2, cfg) :: l) (fun b => f (enPage (fbkPage 2) b))
/-- Carrel 7, LOCAL, enabled, bound to interface 2 and in homing by method `m`. -/
def homing (m : Nat) (b : Block) : Block :=
  ({ b with enCars := [7], cfg := { b.cfg with cars := [7] }, prof := [(7, { method := m })] }.setF (R.CAR_BIND 7) 6 5 2).setF (R.PS_STAT 7) 0 3 7
/-- PWM channel 3 enabled and running with period 4000, leg U in use. -/
def pwm3 (l : List (Nat × Word)) (f : Block → Block := id) : State :=
  with' ([(R.PWM_CH_CTRL 3, 1#32), (R.PWM_CH_STAT 3, 9#32), (R.PWM_CH_CFG 3, 0x80#32), (R.PWM_CH_PERIOD_ACT 3, 4000#32)] ++ l)
    (fun b => f (enPage 0x40383000 (b.setPw1 3 { cnt := 900, dth := [640, 640, 640], dtl := [640, 640, 640] })))
/-- Carrel 7 has its current loop on channel 3; its loop state is `x`. -/
def loop7 (x : Loop) (b : Block) : Block :=
  ({ b with enCars := [7], cfg := { b.cfg with cars := [7] }, loop := [(7, x)] }.setF (R.CAR_BIND 7) 2 4 3).setB (R.LE_CFG 7) 8 true
/-- The same machine, with the Safety Island in this state (1 HOLD, 2 RUN, 3 LOCKOUT). -/
def isle (st : Nat) (s : State) (f : Island → Island := id) : State := { s with isl := f (({} : Island).setSt st) }
/-- Two supervised axes of STO group 1, on interfaces 2 and 3, and mailbox 4 for requests. -/
def axes2 (i : Island) : Island :=
  let a : List (Nat × AxisCfg) := [(0, { carrel := 7, group := 1, fbA := 2, fbB := 2, limits := [100, 200] }),
    (1, { carrel := 8, group := 1, fbA := 3, fbB := 3 })]
  { i with cfg := { i.cfg with mbx := 4, axes := a } }
/-- The island of a Coordinator with two machines. -/
def decider (i : Island) : Island :=
  { i with role := 1, cfg := { i.cfg with mbx := 4, machs := [(0, { cars := [(7, [5, 6])] }), (3, {})] } }
/-- A request for the Safety Island stands in mailbox 4. -/
def asked (w0 w1 w2 : Word) (f : Block → Block := id) : State :=
  with' [(R.MBX_STAT 4, 2#32), (R.MBX_CFG 4, 8#32), (R.MBX_DATA 4 0, w0), (R.MBX_DATA 4 1, w1), (R.MBX_DATA 4 2, w2)] f
/-- A scene of one machine with a track class. -/
def scene1 : SsmCfg :=
  { machs := [2], elems := [(0, { machine := 2, joint := none })], classes := [(1, { machs := 4, w := 9 })],
    units := [(1, { ep := 40, loss := 2, machs := 4, tmo := 100 })] }
/-- The scene of `scene1` configured. -/
def withScene (b : Block) : Block := { b with cfg := { b.cfg with safe := { b.cfg.safe with ssm := scene1 } } }
/-- The bytes of a Spectral Processor's descriptor (R430). -/
def descBytes (kind flags size param inp out aux : Nat) : List Byte :=
  bytesOf 2 kind ++ bytesOf 2 flags ++ bytesOf 4 0 ++ bytesOf 4 size ++ bytesOf 4 param ++ bytesOf 5 inp ++ bytesOf 5 out ++ bytesOf 5 aux
/-- Wing 1 with this state of its Spectral Processor, job 0x100, and its descriptor: an FIR of two outputs and two taps. -/
def spectral (st : Word) (l : List (Nat × Word)) (f : Block → Block := id) (flags : Nat := 0) : State :=
  { with' ([(R.DSP_STAT 1, st), (R.DSP_JOB 1, 0x40020#32), (R.DSP_CTRL 1, 1#32)] ++ l) (fun b => f (enPage (dspPage 1) b)) with
    mem := mstore (mstore [] 0x10000000 (bytesOf 4 5 ++ bytesOf 4 6 ++ bytesOf 4 7 ++ bytesOf 4 3 ++ bytesOf 4 0xFFFFFE))
      0x18200100 (descBytes 2 flags 0x20002 0 0x10000000 0x10000100 0x1000000C) }
/-- A Coordinator on its links with this redundancy state (1 ACTIVE, 2 STANDBY, 3 STALE), whose peer is endpoint 193. -/
def redun (st : Nat) (l : List (Nat × Word)) (f : Block → Block := id) (slots : List Slot := []) : State :=
  linked 4 ([(R.SYS_STRAP, 1#32), (R.RED_STAT, BitVec.ofNat 32 st), (R.RED_PEER, 193#32), (R.SZN_ID, 192#32), (R.SZN_STAT, 0x304#32)] ++ l) slots f
/-- A frame header from the peer coordinator. -/
def fromPeer : FrameHdr := { src := 193, dst := 192, cycle := 0 }
/-- CAN controller 2 with its page enabled, this CAN_STAT and this hidden state. -/
def canWith (st : Word) (l : List (Nat × Word)) (x : Can := {}) (f : Block → Block := id) : State :=
  with' ((R.CAN_STAT 2, st) :: l) (fun b => f (enPage (canPage 2) (b.setCan 2 x)))
/-- A classical CAN frame of two bytes. -/
def frameC : CanFrame := { ident := 0x123, dlc := 2, data := [7, 8] }
/-- Ethernet MAC 1, enabled, with its link up, and rings of eight descriptors at 0x10000000. -/
def eth1 (l : List (Nat × Word)) (f : Block → Block := id) : State :=
  { with' ([(R.ETH_CTRL 1, 9#32), (R.ETH_STAT 1, 1#32), (R.ETH_RING_BASE 1 0, 0x100000#32), (R.ETH_RING_SIZE 1 0, 8#32),
      (R.ETH_RING_BASE 1 1, 0x100000#32), (R.ETH_RING_SIZE 1 1, 8#32), (R.ETH_RING_TAIL 1 0, 3#32), (R.ETH_RING_TAIL 1 1, 3#32)] ++ l)
      (fun b => f (enPage (ethPage 1) b)) with
    mem := mstore [] 0x10000000 (bytesOf 8 0x10001000 ++ bytesOf 2 1500 ++ bytesOf 2 3 ++ bytesOf 4 77) }
/-- The machine with its fuses in this state. -/
def fused (n : Nv) (l : List (Nat × Word)) (f : Block → Block := id) : State := { with' l f with nv := n }
/-- A record of the Event Archive. -/
def recA : EaRec :=
  { source := 1, index := 0, code := 2, cls := 1, dt := 3, poh := 0, w5 := 0, err := 0, info := 0, addr := 0, args := [], safe := false }
/-- The verification rules accept the SAFETY image of the helper; its key hash is an open constant of Config. -/
theorem imgOf_three_ok (role : Nat) (hr : role = 0) :
    verifyImage role State.reset.nv.uid State.reset.nv (imgOf 3) = none := by
  subst hr
  have hk : (imgOf 3).keyHash = State.reset.nv.slotHash (imgOf 3).slot := rfl
  unfold verifyImage
  rw [if_neg (by decide), if_neg (by decide), if_neg (by decide), if_neg (by decide), if_neg (by decide),
    if_neg (by decide +kernel), if_neg (by rw [hk]; rintro ⟨-, h | h⟩; exact h rfl; exact absurd h (by decide)),
    if_neg (by decide), if_neg (by decide)]
/-- Both images of the helper pass, one after the other. -/
theorem imgOf_pair_ok (role : Nat) (hr : role = 0) :
    verifyAll role State.reset.nv.uid State.reset.nv [imgOf 3, imgOf 1] = none := by
  unfold verifyAll
  rw [imgOf_three_ok role hr]
  subst hr
  decide +kernel

/-! ### Ill-formed commands: each differs in one thing from a command that is well formed -/

/-- A body of the DISCOVERY operations, and a chunk of a LOAD. -/
def disc0 : DiscBody := { op := 0 }
def load0 : LoadBody := { img := 0, chunk := 0, length := 0 }
/-- Items of DATA frames. -/
def imu0 : ImuItem := { time := 0 }
def tgt0 : TgtItem := { time := 0, target := 0 }
/-- A safety payload of one item. -/
def safe0 (x : SafeItem) : SafePayload := { src := 0, kind := 1, seq := 0, items := [x] }
/-- The commands whose ill-formed variants follow are well formed. -/
theorem test_wf_accepts :
    ([.cycleStartFrameRx 0 hdr { deckTime := 0 }, .feedbackFrameRx 0 hdr [{}], .commandFrameRx 0 hdr [{}] 0,
      .dataFrameRx 0 hdr [imu0] [tgt0], .safetyFrameRx 0 hdr (safe0 (.command 0 0xFF 4 0)), .twinFrameRx 0 hdr {},
      .safetyFrameRx 0 hdr (safe0 (.status 23 0 0 0 0 0)), .identify 0 0 disc0, .load load0, .canFrameRx 0 frameC 0,
      .safetyFrameRx 0 hdr (safe0 (.track 0 [0, 0, 0] [0, 0, 0] 0 0 0 0 0 true true)), .imageFetchDone [imgOf 1],
      .accessReq 0 0 1 true 0 [0#32], .accessRsp 0 2 8 [], .feedbackLatch [(3, [0#8])], .overcurrentTrip 0 32] :
      List Instr).all Instr.wf = true := by decide +kernel
/-- R354: CYCLE, CLAIM and the acknowledgement of a header. -/
theorem test_wf_header :
    ([{ hdr with cycle := 2 ^ 32 }, { hdr with claim := 65536 }, { hdr with ack := some (8, 0) },
      { hdr with ack := some (0, 32) }] : List FrameHdr).any
      (fun h => Instr.wf (.joinFrameRx 0 h (frame7 .join) false)) = false := by decide +kernel
/-- R357: the fields of CYCLE_START. -/
theorem test_wf_cycle_start :
    ([{ deckTime := 2 ^ 64 }, { deckTime := 0, corr := 2 ^ 32 }, { deckTime := 0, entry := 8 },
      { deckTime := 0, swTarget := 8 }, { deckTime := 0, swId := 32 }, { deckTime := 0, swCount := 9 },
      { deckTime := 0, seat := 32 }, { deckTime := 0, digest := 2 ^ 64 }, { deckTime := 0, rev := 256 },
      { deckTime := 0, fwset := 2 ^ 24 }] : List CsBody).any
      (fun b => Instr.wf (.cycleStartFrameRx 0 hdr b)) = false := by decide +kernel
/-- R358: a feedback item, and at most 255 of them. -/
theorem test_wf_feedback :
    ([[{ pos := 2 ^ 31 }], [{ vfb := -2 ^ 31 - 1 }], [{ status := 8192 }], [{ age := 256 }], List.replicate 256 {}] :
      List (List FbItem)).any (fun l => Instr.wf (.feedbackFrameRx 0 hdr l)) = false := by decide +kernel
/-- R359: a command item, at most 255 of them, and the configuration tag. -/
theorem test_wf_command :
    ([([{ seq := 65536 }], 0), ([{ value := 2 ^ 31 }], 0), ([{ step := true, value := 2 ^ 63 }], 0),
      (List.replicate 256 {}, 0), ([], 2 ^ 32)] : List (List CmdItem × Nat)).any
      (fun p => Instr.wf (.commandFrameRx 0 hdr p.1 p.2)) = false := by decide +kernel
/-- R139: an IMU sample item. -/
theorem test_wf_imu :
    ([{ imu0 with time := 2 ^ 32 }, { imu0 with force := [0, 0] }, { imu0 with rate := [0, 0, 0, 0] },
      { imu0 with force := [0, 0, 2 ^ 31] }, { imu0 with rate := [2 ^ 31, 0, 0] }, { imu0 with age := 256 }] :
      List ImuItem).any (fun x => Instr.wf (.dataFrameRx 0 hdr [x] []) || Instr.wf (.slotFrameSend 0 [x] [] load0)) = false := by decide +kernel
/-- R142: a target pose item. -/
theorem test_wf_target :
    ([{ tgt0 with time := 2 ^ 32 }, { tgt0 with pos := [] }, { tgt0 with quat := [0, 0, 0] },
      { tgt0 with pos := [2 ^ 31, 0, 0] }, { tgt0 with quat := [0, 0, 0, 2 ^ 31] }, { tgt0 with age := 256 }] :
      List TgtItem).any (fun x => Instr.wf (.dataFrameRx 0 hdr [] [x]) || Instr.wf (.slotFrameSend 0 [] [x] load0)) =
      false := by decide +kernel
/-- R302, R332: the items of a safety payload. -/
theorem test_wf_safety_items :
    ([.track (2 ^ 32) [0, 0, 0] [0, 0, 0] 0 0 0 0 0 true true, .track 0 [0, 0] [0, 0, 0] 0 0 0 0 0 true true,
      .track 0 [0, 0, 0] [0] 0 0 0 0 0 true true, .track 0 [0, 0, 2 ^ 31] [0, 0, 0] 0 0 0 0 0 true true,
      .track 0 [0, 0, 0] [32768, 0, 0] 0 0 0 0 0 true true, .track 0 [0, 0, 0] [0, 0, 0] 65536 0 0 0 0 true true,
      .track 0 [0, 0, 0] [0, 0, 0] 0 65536 0 0 0 true true, .track 0 [0, 0, 0] [0, 0, 0] 0 0 65536 0 0 true true,
      .track 0 [0, 0, 0] [0, 0, 0] 0 0 0 64 0 true true, .track 0 [0, 0, 0] [0, 0, 0] 0 0 0 0 4 true true,
      .command 4096 0 0 0, .command 0 24 0 0, .command 0 0 5 0, .command 0 0 0 (2 ^ 32), .status 24 0 0 0 0 0,
      .status 0 5 0 0 0 0, .status 0 0 256 0 0 0, .status 0 0 0 16 0 0, .status 0 0 0 0 (2 ^ 32) 0,
      .status 0 0 0 0 0 (2 ^ 32)] : List SafeItem).any
      (fun x => Instr.wf (.safetyFrameRx 0 hdr (safe0 x))) = false := by decide +kernel
/-- R332: a safety payload. -/
theorem test_wf_safety :
    ([{ src := 4096, kind := 1, seq := 0 }, { src := 0, kind := 0, seq := 0 }, { src := 0, kind := 4, seq := 0 },
      { src := 0, kind := 1, seq := 65536 }] : List SafePayload).any
      (fun p => Instr.wf (.safetyFrameRx 0 hdr p)) = false := by decide +kernel
/-- R388: a DISCOVERY body, in each of its operations. -/
theorem test_wf_discovery :
    ([{ op := 256 }, { disc0 with hops := 9 }, { disc0 with hop := 9 }, { disc0 with path := List.replicate 9 0 },
      { disc0 with path := [32] }, { disc0 with ret := List.replicate 9 0 }, { disc0 with tag := 65536 }] :
      List DiscBody).any (fun b => Instr.wf (.identify 0 0 b) || Instr.wf (.assign 0 0 b) || Instr.wf (.write 0 0 b)
        || Instr.wf (.read 0 0 b) || Instr.wf (.seal 0 0 b) || Instr.wf (.discoveryFrameRx 0 hdr b true)) = false := by
  decide +kernel
/-- R394: a LOAD body. -/
theorem test_wf_load :
    ([{ load0 with img := 8 }, { load0 with chunk := 2 ^ 32 }, { load0 with length := 2 ^ 32 },
      { load0 with data := List.replicate 961 0 }] : List LoadBody).any
      (fun b => Instr.wf (.load b) || Instr.wf (.slotFrameSend 0 [] [] b)) = false := by decide +kernel
/-- R413: a TWIN body. -/
theorem test_wf_twin :
    ([[{ addr := 2 ^ 40, agent := 0, val := 0 }], [{ addr := 0, agent := 14, val := 0 }],
      List.replicate 9 { addr := 0, agent := 0, val := 0 }] : List (List TwinWrite)).any
      (fun l => Instr.wf (.twinFrameRx 0 hdr { writes := l })) = false := by decide +kernel
/-- R438, R450: a CAN frame's identifier and its data against its DLC. -/
theorem test_wf_can :
    ([{ ident := 2048 }, { ident := 0, dlc := 1, data := [0, 0] }, { ident := 0, dlc := 9, data := List.replicate 9 0 },
      { ident := 0, dlc := 9, fdf := true, data := List.replicate 13 0 }] : List CanFrame).any
      (fun f => Instr.wf (.canFrameRx 0 f 0)) = false := by decide +kernel
/-- R485: an image header, wherever a command carries one. -/
theorem test_wf_image :
    ([{ imgOf 1 with typ := 256 }, { imgOf 1 with slot := 256 }, { imgOf 1 with rev := 256 },
      { imgOf 1 with roles := 16 }, { imgOf 1 with ctr := 64 }, { imgOf 1 with ctrVal := 256 },
      { imgOf 1 with fwset := 2 ^ 24 }] : List ImgHdr).any
      (fun h => Instr.wf (.imageFetchDone [h]) || Instr.wf (.configImageAccept h {}) ||
        Instr.wf (.debugTokenCheckDone h)) = false := by decide +kernel
/-- The other checks: samples, counts and the fields of service messages and done commands. -/
theorem test_wf_others :
    ([.feedbackLatch [(4, [])], .sampleWindowEnd 0 [true] [] [], .ikBatchDone (2 ^ 32),
      .thrustAllocationDone (2 ^ 32), .overcurrentTrip 0 33, .ssiReadDone 0 (2 ^ 32) 0, .ssiReadDone 0 0 256,
      .delayResponseRx 0 (2 ^ 32), .frameForward 0 hdr (frame7 .join) 65536 false .none, .accessReq 0 65536 0 false 0 [],
      .accessReq 0 0 1 true 0 [], .accessRsp 65536 0 0 [], .accessRsp 0 3 0 [], .accessRsp 0 0 9 [],
      .accessRsp 0 0 0 (List.replicate 9 0), .accede 0 4096 0, .accede 0 0 2, .cutoff 4096 0, .cutoff 0 2, .conflict 32,
      .mismatch 0 0, .mismatch 0 4, .loadStat 0 2, .discReport 0 65536, .smbTransactionDone 0 none (List.replicate 34 0),
      .smbTargetAccess 0 0 (some (List.replicate 34 0)) 0] : List Instr).any Instr.wf = false := by decide +kernel

/-- A register after a command, where the command answers a next state. -/
def after (i : Instr) (s : State) (a : Nat) : Option Word :=
  match exec i s with
  | .next t => some (t.blk.rd a)
  | _ => none

/-! ### Results from the spec's own numbers -/

/-- R66: the carrel page of crane 1 joint 3 reads PAGE_ID = 0x0001_1215. -/
theorem test_page_id : State.reset.blk.view State.reset.nv 0x40152000 = 0x00011215 := by decide +kernel
/-- The example of 03_address_map_and_pages.md: a write by core 1 under core 0's window leaves PAGE_ERR = 0x0003_1071. -/
theorem test_locked_write :
    after (.registerWrite 0x300070 ⟨1, 0⟩ 0xA8C#32 .word 0#32 []) (with' [] (opened R.TB_APP_DEADLINE)) 0x40300024 = some 0x00031071#32 := by
  decide +kernel
/-- The same example: the next refusal, after the window closed, leaves 0x0003_0073 with OVERRUN. -/
theorem test_locked_overrun :
    after (.registerWrite 0x300070 core0 0xA8C#32 .word 0#32 []) (with' [(0x40300024, 0x00031071#32)]) 0x40300024 =
      some 0x00030073#32 := by
  decide +kernel
/-- The example of 08_profile_sequencer.md: D(v0) of winch 1, from v0 = 2^42, is 0x0001_E7FF_23A8_0000. -/
theorem test_winch_distance :
    Sys2Proof.Machine.dist { vb := 2 ^ 41, vstop := 2 ^ 36, a1 := 2 ^ 29, a2 := 2 ^ 30 } (2 ^ 42) = 0x0001E7FF23A80000 := by decide +kernel
/-- The example of 18_spectral_processors.md: rnd(3 200 000², 16) = 156 250 000 exactly. -/
theorem test_power_round : rnd (3200000 * 3200000) 16 = 156250000 := by decide
/-- R199: the sine of an eighth of a turn is T[512] = round(2^30 × sin 45°). -/
theorem test_sine_eighth : sinT (2 ^ 29) = 759250125 := by decide +kernel
/-- R199: the cosine of half a turn is −2^30. -/
theorem test_cosine_half : cosT (2 ^ 31) = -1073741824 := by decide +kernel
/-- R356: the published check value of CRC-32C, over the nine bytes 0x31 to 0x39. -/
theorem test_crc32c : crc32c [0x31#8, 0x32#8, 0x33#8, 0x34#8, 0x35#8, 0x36#8, 0x37#8, 0x38#8, 0x39#8] = 0xE3069283 := by
  decide +kernel

/-! ### The hypotheses of the statements can be met -/

/-- The hypotheses of each clause of Obligations.EmptyQueueTicks hold together somewhere. -/
theorem meets_EmptyQueueTicks :
    (∃ (s : State), s.pending = []) :=
  ⟨State.reset, by decide +kernel⟩

/-- The hypotheses of each clause of Obligations.SafeKept hold together somewhere. -/
theorem meets_SafeKept :
    (∃ (s : State) (t : State), s.safe ∧ step s = .next t) :=
  ⟨State.reset, { State.reset with blk := State.reset.blk.idle }, ⟨by decide +kernel, rfl⟩⟩

/-- The hypotheses of each clause of Obligations.ResetState hold together somewhere. -/
theorem meets_ResetState :
    (∃ (a : _), a ≠ R.SYS_RST_CAUSE ∧ a ≠ R.TB_CTRL ∧ a ≠ R.SZN_ID) :=
  ⟨0x40000010, by decide +kernel⟩

/-- The hypotheses of each clause of Obligations.HeldSideInert hold together somewhere. -/
theorem meets_HeldSideInert :
    (∃ (c : Instr) (s : State), s.blk.held = true ∧ actsInReset c = false) ∧
    (∃ (c : Instr) (s : State), s.blk.domState 4 ≠ 0 ∧ eventOfApp c = true) :=
  ⟨⟨.loopPassStart, held, by decide +kernel⟩,
   ⟨.loopPassStart, with' [(R.PWR_STAT, 0x1000#32)], by decide +kernel⟩⟩

/-- The hypotheses of each clause of Obligations.RefusedAccess hold together somewhere. -/
theorem meets_RefusedAccess :
    (∃ (c : Instr) (snd : Sender) (a : Nat) (wr : Bool) (r : Reason) (s : State), accessOf c = some (snd, a, wr) ∧
      s.hears snd ∧ (pageOf a).isSome = true ∧ s.blk.denial snd a wr = some r) :=
  ⟨.carrelEnable 0 core0, core0, R.CAR_CTRL 0, true, .locked, with' [], by decide +kernel⟩

/-- The hypotheses of each clause of Obligations.SystemResets hold together somewhere. -/
theorem meets_SystemResets :
    (∃ (s : State) (also : List RstSrc), s.blk.off = false ∧ s.blk.bt R.SYS_WDT_CTRL 0 = true ∧ ((s.blk.bt
      R.SYS_WDT_CTRL 1 = false ∨ (s.blk.bt R.PWM_COM_STAT 17 = false ∧ s.blk.sec.halted = []))) ∧ s.blk.rdN
      R.SYS_WDT_CNT ≤ 1) ∧
    (∃ (s : State) (snd : Sender) (v : Word) (also : List RstSrc), s.takesWrite snd R.SYS_RST_CTRL ∧ v.getLsbD 0 =
      true) ∧
    (∃ (s : State) (also : List RstSrc), s.isl.held = false) ∧
    (∃ (s : State) (snd : Sender) (v : Word) (also : List RstSrc), s.takesWrite snd R.DBG_SYSRST ∧ v.getLsbD 0 = true
      ∧ s.blk.bt R.DBG_AUTH_STAT 0 = true ∧ s.blk.bt R.DBG_AUTH_STAT 4 = true) ∧
    (∃ (s : State) (snd : Sender), s.takesWrite snd R.SYS_WDT_KICK) ∧
    (∃ (s : State) (snd : Sender) (v : Word), s.takesWrite snd R.SYS_WDT_KICK ∧ v ≠ 0x0000A5C3#32) ∧
    (∃ (s : State) (snd : Sender) (v : Word), s.takesWrite snd R.SYS_WDT_CTRL ∧ s.blk.bt R.SYS_WDT_CTRL 0 = false ∧
      fld v 16 16 ≠ 0) ∧
    (∃ (s : State) (snd : Sender) (v : Word), s.takesWrite snd R.SYS_WDT_CTRL ∧ (s.blk.bt R.SYS_WDT_CTRL 0 = true ∨
      fld v 16 16 = 0)) ∧
    (∃ (s : State) (also : List RstSrc), (s.blk.held = true ∨ s.blk.bt R.SYS_WDT_CTRL 0 = false ∨ (s.blk.bt
      R.SYS_WDT_CTRL 1 = true ∧ (s.blk.bt R.PWM_COM_STAT 17 = true ∨ s.blk.sec.halted ≠ [])) ∨ 1 < s.blk.rdN
      R.SYS_WDT_CNT)) :=
  ⟨⟨with' [(R.SYS_WDT_CTRL, 3#32), (R.SYS_WDT_CNT, 1#32)], [], by decide +kernel⟩,
   ⟨with' [] (opened R.SYS_RST_CTRL), core0, 1#32, [], by decide +kernel⟩,
   ⟨with' [], [], by decide +kernel⟩,
   ⟨with' [(R.DBG_AUTH_STAT, 0x19#32)] (opened R.DBG_SYSRST), { agent := 12 }, 1#32, [], by decide +kernel⟩,
   ⟨with' [], core0, by decide +kernel⟩,
   ⟨with' [], core0, 0#32, by decide +kernel⟩,
   ⟨with' [] (opened R.SYS_WDT_CTRL), core0, 0x20001#32, by decide +kernel⟩,
   ⟨with' [(R.SYS_WDT_CTRL, 1#32)] (opened R.SYS_WDT_CTRL), core0, 0x20001#32, by decide +kernel⟩,
   ⟨with' [], [], by decide +kernel⟩⟩

/-- The hypotheses of each clause of Obligations.ResetReleases hold together somewhere. -/
theorem meets_ResetReleases :
    (∃ (s : State) (v : Fin 8192), s.blk.rstSt = 2) ∧
    (∃ (s : State) (v : Fin 8192), s.blk.rstSt ≠ 2) ∧
    (∃ (s : State) (v : Fin 8192), s.blk.rstSt = 3) ∧
    (∃ (s : State) (v : Fin 8192), s.blk.rstSt ≠ 3) ∧
    (∃ (s : State), s.blk.held = true ∧ s.blk.rstSt = 1) ∧
    (∃ (s : State), (s.blk.held = false ∨ s.blk.rstSt ≠ 1)) :=
  ⟨⟨with' [] (fun b => { b with held := true, rstSt := 2 }), 8191, by decide +kernel⟩,
   ⟨with' [], 0, by decide +kernel⟩,
   ⟨with' [] (fun b => { b with held := true, rstSt := 3 }), 8191, by decide +kernel⟩,
   ⟨with' [], 0, by decide +kernel⟩,
   ⟨with' [] (fun b => { b with held := true, rstSt := 1 }), by decide +kernel⟩,
   ⟨with' [], by decide +kernel⟩⟩

/-- The hypotheses of each clause of Obligations.BootAndImages hold together somewhere. -/
theorem meets_BootAndImages :
    (∃ (s : State), s.blk.held = false ∧ s.blk.bootStage = 0) ∧
    (∃ (s : State), s.blk.held = false ∧ s.blk.bootStage = 1 ∧ s.blk.isHub = false) ∧
    (∃ (s : State), s.blk.off = false ∧ s.blk.isHub = true) ∧
    (∃ (s : State) (l : List ImgHdr) (sf : ImgHdr) (fw : ImgHdr), s.blk.off = false ∧ s.blk.fetches = true ∧ bestImage
      s.blk.role 3 l = some sf ∧ bestImage s.blk.role 1 l = some fw) ∧
    (∃ (s : State) (l : List ImgHdr), s.blk.off = false ∧ s.blk.bootStage = 2 ∧ s.blk.isHub = false ∧ (s.blk.fetches =
      true ∨ l = []) ∧ (bestImage s.blk.role 3 l = none ∨ bestImage s.blk.role 1 l = none)) ∧
    (∃ (s : State) (l : List ImgHdr), s.blk.fetches = false ∧ l ≠ []) ∧
    (∃ (s : State) (sf : ImgHdr) (fw : ImgHdr) (rest : List ImgHdr), s.blk.held = false ∧ s.blk.bootStage = 3 ∧
      s.blk.sec.cand = sf :: fw :: rest ∧ verifyAll s.blk.role s.nv.uid s.nv [sf, fw] = none) ∧
    (∃ (s : State) (sf : ImgHdr) (fw : ImgHdr) (rest : List ImgHdr) (c : Nat), s.blk.held = false ∧ s.blk.bootStage =
      3 ∧ s.blk.sec.cand = sf :: fw :: rest ∧ verifyAll s.blk.role s.nv.uid s.nv [sf, fw] = some c) ∧
    (∃ (s : State) (h : ImgHdr) (img : Image), s.blk.off = false ∧ s.blk.bootStage = 4 ∧ h.typ = 2 ∧ (s.blk.isCoord &&
      s.blk.anyCarrelEn) = false ∧ verifyImage s.blk.role s.nv.uid s.nv h = none ∧ timelineOk s.blk.role s.blk.seat
      (s.blk.fl R.SZN_ID 0 12) img = true ∧ imageOk s.blk.role s.blk.seat (s.blk.fl R.SZN_ID 0 12) img = true) ∧
    (∃ (s : State) (h : ImgHdr) (img : Image) (c : Nat), s.blk.off = false ∧ s.blk.bootStage = 4 ∧ h.typ = 2 ∧
      (s.blk.isCoord && s.blk.anyCarrelEn) = false ∧ verifyImage s.blk.role s.nv.uid s.nv h = some c) ∧
    (∃ (s : State) (k : Fin 8) (n : Nat) (h : ImgHdr) (img : Image), s.blk.off = false ∧ s.blk.fl R.SYS_BOOT_STAT 4 2
      = 2 ∧ 0 < n ∧ ((∀ c, c < n → ∃ x ∈ s.blk.fab.held, x.1 = k.val ∧ x.2.1 = c)) ∧ h.typ = 3 ∧ 2 ≤ s.blk.bootStage ∧
      s.blk.bootStage ≠ 0xF ∧ verifyImage s.blk.role s.nv.uid s.nv h = none) ∧
    (∃ (s : State) (k : Fin 8) (n : Nat) (h : ImgHdr) (img : Image), s.blk.off = false ∧ s.blk.fl R.SYS_BOOT_STAT 4 2
      = 2 ∧ 0 < n ∧ ((∀ c, c < n → ∃ x ∈ s.blk.fab.held, x.1 = k.val ∧ x.2.1 = c)) ∧ h.typ = 1 ∧ s.blk.bootStage = 3 ∧
      verifyImage s.blk.role s.nv.uid s.nv h = none) ∧
    (∃ (s : State), s.blk.off = false ∧ s.blk.fab.holdPend = true) ∧
    (∃ (s : State), s.blk.off = false ∧ s.blk.fab.holdPend = false) :=
  ⟨⟨with' [], by decide +kernel⟩,
   ⟨with' [(R.SYS_BOOT_STAT, 1#32)], by decide +kernel⟩,
   ⟨with' [(R.SYS_STRAP, 2#32)], by decide +kernel⟩,
   ⟨with' [(R.SYS_BOOT_STAT, 2#32)], [imgOf 1, imgOf 2, imgOf 3], imgOf 3, imgOf 1,
      ⟨by decide +kernel, by decide +kernel, rfl, rfl⟩⟩,
   ⟨with' [(R.SYS_BOOT_STAT, 2#32)], [], by decide +kernel⟩,
   ⟨with' [], [imgOf 1], by decide +kernel⟩,
   ⟨with' [(R.SYS_BOOT_STAT, 3#32)] (fun b => { b with sec := { b.sec with cand := [imgOf 3, imgOf 1] } }), imgOf 3,
      imgOf 1, [], ⟨rfl, by decide +kernel, rfl, imgOf_pair_ok _ (by decide +kernel)⟩⟩,
   ⟨with' [(R.SYS_BOOT_STAT, 3#32)] (fun b => { b with sec := { b.sec with cand := [imgOf 0, imgOf 1] } }), imgOf 0,
      imgOf 1, [], 2, by decide +kernel⟩,
   ⟨with' [(R.SYS_BOOT_STAT, 4#32)], imgOf 2, {}, by decide +kernel⟩,
   ⟨with' [(R.SYS_BOOT_STAT, 4#32)], { imgOf 2 with rev := 0xA0 }, {}, 5, by decide +kernel⟩,
   ⟨with' [(R.SYS_BOOT_STAT, 0x22#32)] (fun b => { b with fab := { b.fab with held := [(2, 0, [])] } }), 2, 1, imgOf 3,
      {},
      ⟨rfl, by decide +kernel, by decide, fun c hc => ⟨(2, 0, []), by decide +kernel, rfl, by show 0 = c; omega⟩, rfl, by decide +kernel, by decide +kernel, imgOf_three_ok _ (by decide +kernel)⟩⟩,
   ⟨with' [(R.SYS_BOOT_STAT, 0x23#32)] (fun b => { b with fab := { b.fab with held := [(2, 0, [])] } }), 2, 1, imgOf 1,
      {},
      ⟨rfl, by decide +kernel, by decide, fun c hc => ⟨(2, 0, []), by decide +kernel, rfl, by show 0 = c; omega⟩, rfl, by decide +kernel, by decide +kernel⟩⟩,
   ⟨with' [] (fun b => { b with fab := { b.fab with holdPend := true } }), by decide +kernel⟩,
   ⟨with' [], by decide +kernel⟩⟩

/-- The hypotheses of each clause of Obligations.RegisterWrites hold together somewhere. -/
theorem meets_RegisterWrites :
    (∃ (s : State) (a : Fin 16777216) (snd : Sender) (v : Word) (hi : Word) (p : PageDef), s.hears snd ∧ pageOf
      (regAddr a) = some p ∧ regAddr a % 4 = 0 ∧ s.blk.denial snd (regAddr a) true = none ∧ p.home ≠ .fab ∧ regAddr a
      % 0x1000 ≠ 0x20 ∧ twinnedPage (regAddr a) = false) ∧
    (∃ (s : State) (a : Fin 16777216) (snd : Sender) (v : Word) (hi : Word) (p : PageDef), s.hears snd ∧ pageOf
      (regAddr a) = some p ∧ regAddr a % 8 = 0 ∧ s.blk.denial snd (regAddr a) true = none ∧ s.blk.denial snd (regAddr
      a + 4) true = none ∧ p.home ≠ .fab ∧ regAddr a % 0x1000 ≠ 0x20 ∧ twinnedPage (regAddr a) = false ∧ (s.blk.queue
      (pageBase (regAddr a))).length < 3) ∧
    (∃ (s : State) (a : Fin 16777216) (b : Fin 16777216) (snd : Sender) (snd' : Sender) (v : Word) (v' : Word) (hi :
      Word) (hi' : Word) (p : PageDef), s.hears snd ∧ s.hears snd' ∧ pageOf (regAddr a) = some p ∧ pageBase (regAddr
      b) = pageBase (regAddr a) ∧ regAddr a % 4 = 0 ∧ regAddr b % 4 = 0 ∧ s.blk.denial snd (regAddr a) true = none ∧
      s.blk.denial snd' (regAddr b) true = none ∧ p.home ≠ .fab ∧ regAddr a % 0x1000 ≠ 0x20 ∧ regAddr b % 0x1000 ≠
      0x20 ∧ twinnedPage (regAddr a) = false ∧ (s.blk.queue (pageBase (regAddr a))).length < 3) ∧
    (∃ (s : State) (a : Fin 16777216) (snd : Sender) (v : Word) (hi : Word), s.blk.bt (R.PAGE_STAT 0x40000000) 1 =
      false) ∧
    (∃ (s : State) (a : Fin 16777216) (snd : Sender) (v : Word) (hi : Word), s.blk.held = false ∧ s.blk.agentHeld
      snd.agent.val = true) ∧
    (∃ (s : State) (a : Fin 16777216) (snd : Sender) (w : Width) (v : Word) (hi : Word), s.hears snd ∧ pageOf (regAddr
      a) = none) ∧
    (∃ (s : State) (a : Fin 16777216) (snd : Sender) (w : Width) (v : Word) (hi : Word) (p : PageDef), s.hears snd ∧
      pageOf (regAddr a) = some p ∧ ((w = .byte ∨ w = .half ∨ (w = .word ∧ regAddr a % 4 ≠ 0) ∨ (w = .dword ∧ regAddr
      a % 8 ≠ 0)))) ∧
    (∃ (s : State) (p : Fin 4096) (hw : HwUpd) (w : Posted) (rest : List Posted), s.blk.held = false ∧ s.blk.queue
      (pageNo p.val) = w :: rest ∧ s.blk.homeBusy (pageNo p.val) = false ∧ (hwFirst hw w.addr s.blk).domOn (pageNo
      p.val) = true ∧ hw.sets &&& clearBits w.addr = 0#32) ∧
    (∃ (s : State) (p : Fin 4096) (hw : HwUpd) (w : Posted) (rest : List Posted) (i : Nat), s.blk.held = false ∧
      s.blk.queue (pageNo p.val) = w :: rest ∧ s.blk.homeBusy (pageNo p.val) = false ∧ i < 32 ∧ (hw.sets &&& clearBits
      w.addr).getLsbD i = true) ∧
    (∃ (s : State) (p : Fin 4096) (hw : HwUpd) (w : Posted) (rest : List Posted), s.blk.held = false ∧ s.blk.queue
      (pageNo p.val) = w :: rest ∧ s.blk.homeBusy (pageNo p.val) = false ∧ (hwFirst hw w.addr s.blk).domOn (pageNo
      p.val) = false) ∧
    (∃ (s : State) (p : Fin 4096) (hw : HwUpd), s.blk.held = false ∧ (s.blk.queue (pageNo p.val) = [] ∨ s.blk.homeBusy
      (pageNo p.val) = true)) ∧
    (∃ (s : State) (p : Fin 4096), s.blk.held = false ∧ s.blk.bt (R.PAGE_STAT (pageNo p.val)) 1 = true ∧ s.blk.queue
      (pageNo p.val) = []) ∧
    (∃ (s : State) (p : Fin 4096), s.blk.held = false ∧ s.blk.bt (R.PAGE_STAT (pageNo p.val)) 1 = false) ∧
    (∃ (s : State) (a : Fin 16777216) (snd : Sender), s.takesRead snd (0x40000000 + a.val) ∧ isLo (0x40000000 + a.val)
      = true) ∧
    (∃ (s : State) (a : Fin 16777216) (snd : Sender), s.takesRead snd (0x40000000 + a.val) ∧ isLo (0x40000000 + a.val)
      = false ∧ isHi (0x40000000 + a.val) = true) ∧
    (∃ (s : State) (a : Fin 16777216) (b : Fin 16777216) (snd : Sender) (snd' : Sender), b.val = a.val + 4 ∧ snd' ≠
      snd ∧ s.takesRead snd (regAddr a) ∧ s.takesRead snd' (regAddr b) ∧ isLo (regAddr a) = true ∧ isHi (regAddr a) =
      false ∧ isHi (regAddr b) = true ∧ isLo (regAddr b) = false) ∧
    (∃ (s : State) (a : Fin 16777216) (snd : Sender), s.takesRead snd (0x40000000 + a.val) ∧ s.takesRead snd
      (0x40000000 + a.val + 4) ∧ isLo (0x40000000 + a.val) = true ∧ a.val % 8 = 0) ∧
    (∃ (s : State) (a : Fin 16777216) (snd : Sender) (v : Word) (p : PageDef) (lo : RegDef) (hi : RegDef),
      s.takesWrite snd (regAddr a) ∧ isHi (regAddr a) = true ∧ isLo (regAddr a) = false ∧ pageOf (regAddr a) = some p
      ∧ ownPair p (regAddr a % 0x1000) = false ∧ p.code ≠ 0x01 ∧ p.code ≠ 0x03 ∧ p.code ≠ 0x13 ∧ p.code ≠ 0x20 ∧
      twinnedPage (regAddr a) = false ∧ 0x40 ≤ regAddr a % 0x1000 ∧ regDef (regAddr a - 4) = some lo ∧ regDef (regAddr
      a) = some hi ∧ lo.sets = 0xFFFFFFFF ∧ hi.sets = 0xFFFFFFFF ∧ lo.w1c = 0 ∧ lo.w1s = 0 ∧ hi.w1c = 0 ∧ hi.w1s = 0) :=
  ⟨⟨with' [], 0x100054, core0, 5#32, 0#32, ⟨0x10, 0, 0, .wing, regs_wing⟩, by decide +kernel⟩,
   ⟨with' [], 0x100050, core0, 5#32, 6#32, ⟨0x10, 0, 0, .wing, regs_wing⟩, by decide +kernel⟩,
   ⟨with' [], 0x100054, 0x100050, core0, ⟨1, 0⟩, 5#32, 6#32, 0#32, 0#32, ⟨0x10, 0, 0, .wing, regs_wing⟩,
      by decide +kernel⟩,
   ⟨with' [], 0x54, core0, 5#32, 0#32, by decide +kernel⟩,
   ⟨with' [] (disp' (fun d => { d with held := [.core 0 5] })), 0x54, core0, 5#32, 0#32, by decide +kernel⟩,
   ⟨with' [], 0x5000, core0, .word, 1#32, 0#32, by decide +kernel⟩,
   ⟨with' [], 0x100042, core0, .word, 1#32, 0#32, ⟨0x10, 0, 0, .wing, regs_wing⟩, by decide +kernel⟩,
   ⟨with' [] (fun b => b.setQueue 0x40100000 [⟨core0, R.WING_TR_DECIM 0, 4#32⟩]), 0x100, {},
      ⟨core0, R.WING_TR_DECIM 0, 4#32⟩, [], by decide +kernel⟩,
   ⟨with' [] (fun b => b.setQueue 0x40100000 [⟨core0, 0x4010001C, 4#32⟩]), 0x100, { sets := 4#32 },
      ⟨core0, 0x4010001C, 4#32⟩, [], 2, by decide +kernel⟩,
   ⟨with' [(R.PWR_STAT, 3#32)] (fun b => b.setQueue 0x40100000 [⟨core0, R.WING_TR_DECIM 0, 4#32⟩]), 0x100, {},
      ⟨core0, R.WING_TR_DECIM 0, 4#32⟩, [], by decide +kernel⟩,
   ⟨with' [], 0x100, {}, by decide +kernel⟩,
   ⟨with' [(R.PAGE_STAT 0x40100000, 2#32)], 0x100, by decide +kernel⟩,
   ⟨with' [], 0x100, by decide +kernel⟩,
   ⟨with' [], 0x1005C, core0, by decide +kernel⟩,
   ⟨with' [], 0x48, core0, by decide +kernel⟩,
   ⟨with' [], 0x1005C, 0x10060, core0, ⟨1, 0⟩, by decide +kernel⟩,
   ⟨with' [], 0x300048, core0, by decide +kernel⟩,
   ⟨with' [], 0x510058, core0, 7#32, ⟨0x51, 0, 0, .fab, regs_eth⟩,
      ⟨"ETH_MCH_LO", 0x54, 0x4, 1, 0xFFFFFFFF, 0x0, 0x0, 0x0, 0x0, 0x0⟩,
      ⟨"ETH_MCH_HI", 0x58, 0x4, 1, 0xFFFFFFFF, 0x0, 0x0, 0x0, 0x0, 0x0⟩, by decide +kernel⟩⟩

/-- The hypotheses of each clause of Obligations.PageControl hold together somewhere. -/
theorem meets_PageControl :
    (∃ (s : State) (p : Fin 4096) (snd : Sender), s.takesWrite snd (R.PAGE_CTRL (pageNo p.val)) ∧ s.blk.pageActive
      (pageNo p.val) = false ∧ pageCode (pageNo p.val) ≠ 0x21) ∧
    (∃ (s : State) (p : Fin 4096) (snd : Sender), s.takesWrite snd (R.PAGE_CTRL (pageNo p.val)) ∧ s.blk.pageActive
      (pageNo p.val) = false ∧ pageCode (pageNo p.val) = 0x21) ∧
    (∃ (s : State) (p : Fin 4096) (snd : Sender), s.takesWrite snd (R.PAGE_CTRL (pageNo p.val)) ∧ twinnedPage (pageNo
      p.val) = false ∧ (alwaysRuns (pageCode (pageNo p.val)) = true ∨ s.blk.pageActive (pageNo p.val) = true)) ∧
    (∃ (s : State) (p : Fin 4096) (snd : Sender), s.takesWrite snd (R.PAGE_CTRL (pageNo p.val)) ∧ twinnedPage (pageNo
      p.val) = false ∧ s.blk.pageActive (pageNo p.val) = true) ∧
    (∃ (s : State) (p : Fin 4096) (snd : Sender), s.takesWrite snd (R.PAGE_CTRL (pageNo p.val)) ∧ alwaysRuns (pageCode
      (pageNo p.val)) = false ∧ ((pageCode (pageNo p.val) = 0x21 → s.blk.vmfSt = 0)) ∧ s.blk.pageActive (pageNo p.val)
      = false) ∧
    (∃ (s : State) (p : Fin 4096) (snd : Sender), s.takesWrite snd (R.PAGE_CTRL (pageNo p.val))) ∧
    (∃ (s : State) (p : Fin 4096) (snd : Sender), s.takesWrite snd (R.PAGE_LOCK (pageNo p.val))) ∧
    (∃ (s : State) (p : Fin 4096) (snd : Sender), s.takesWrite snd (R.PAGE_LOCK (pageNo p.val))) ∧
    (∃ (s : State) (p : Fin 4096), s.blk.off = false) ∧
    (∃ (s : State) (p : Fin 4096) (snd : Sender) (v : Word), s.takesWrite snd (R.IRQ_FORCE (pageNo p.val))) ∧
    (∃ (s : State) (p : Fin 4096) (snd : Sender) (v : Word) (hw : Word), s.takesWrite snd (R.IRQ_CLR (pageNo p.val))) ∧
    (∃ (s : State) (snd : Sender) (v : Word), s.takesWrite snd R.SYS_DECERR_HI ∧ v.getLsbD 13 = true) ∧
    (∃ (s : State) (snd : Sender) (v : Word), s.takesWrite snd R.SYS_DECERR_HI ∧ v.getLsbD 13 = false) :=
  ⟨⟨with' [] (opened 0x40520000), 0x520, core0, by decide +kernel⟩,
   ⟨coord [] (opened 0x40210000), 0x210, core0, by decide +kernel⟩,
   ⟨with' [] (opened 0x40520000), 0x520, core0, by decide +kernel⟩,
   ⟨with' [(R.PAGE_STAT 0x40500000, 4#32)] (opened 0x40500000), 0x500, core0, by decide +kernel⟩,
   ⟨with' [] (opened 0x40552000), 0x552, core0, by decide +kernel⟩,
   ⟨with' [] (opened 0x40552000), 0x552, core0, by decide +kernel⟩,
   ⟨with' [], 0x552, core0, by decide +kernel⟩,
   ⟨with' [], 0x552, core0, by decide +kernel⟩,
   ⟨with' [], 0x552, by decide +kernel⟩,
   ⟨with' [] (opened 0x40552000), 0x552, core0, 5#32, by decide +kernel⟩,
   ⟨with' [], 0x552, core0, 5#32, 0#32, by decide +kernel⟩,
   ⟨with' [], core0, 0x2000#32, by decide +kernel⟩,
   ⟨with' [], core0, 0#32, by decide +kernel⟩⟩

/-- The hypotheses of each clause of Obligations.RemoteAccesses hold together somewhere. -/
theorem meets_RemoteAccesses :
    (∃ (s : State) (src : Fin 4096) (tag : Nat) (cnt : Fin 9) (a : Fin (2 ^ 40)) (ws : List Word), s.blk.off = false ∧
      (sget (fun _ => ((0, []) : Nat × List Nat)) s.blk.szn.raLast src.val).1 ≠ tag + 1 ∧ 0 < cnt.val ∧ ws.length =
      cnt.val ∧ inSram a.val (4 * cnt.val)) ∧
    (∃ (s : State) (src : Fin 4096) (tag : Nat) (cnt : Fin 9) (a : Fin (2 ^ 40)) (ws : List Word), s.blk.off = false ∧
      (sget (fun _ => ((0, []) : Nat × List Nat)) s.blk.szn.raLast src.val).1 ≠ tag + 1 ∧ 0 < cnt.val ∧ inSram a.val
      (4 * cnt.val) ∧ s.blk.raw = false) ∧
    (∃ (s : State) (src : Fin 4096) (tag : Nat) (cnt : Fin 9) (wr : Bool) (a : Fin (2 ^ 40)) (ws : List Word) (body :
      List Nat), s.blk.off = false ∧ sget (fun _ => ((0, []) : Nat × List Nat)) s.blk.szn.raLast src.val = (tag + 1,
      body)) ∧
    (∃ (s : State) (k : PortIx) (src : Fin 4096) (b : DiscBody) (a : Nat) (ws : List Nat), s.blk.off = false ∧ (sget
      (fun _ => (0, ({ op := 0 } : DiscBody))) s.blk.fab.opLast src.val).1 ≠ b.tag + 1 ∧ s.blk.phase ≠ 2 ∧ b.operand =
      [a, ws.length] ++ ws ∧ 0 < ws.length ∧ ws.length ≤ 11 ∧ ((∀ w ∈ ws, w < 2 ^ 32)) ∧ inSram a (4 * ws.length)) ∧
    (∃ (s : State) (k : PortIx) (src : Fin 4096) (b : DiscBody), s.blk.off = false ∧ (sget (fun _ => (0, ({ op := 0 }
      : DiscBody))) s.blk.fab.opLast src.val).1 ≠ b.tag + 1 ∧ s.blk.phase = 2) ∧
    (∃ (s : State) (k : PortIx) (src : Fin 4096) (b : DiscBody) (a : Nat) (n : Nat), s.blk.off = false ∧ (sget (fun _
      => (0, ({ op := 0 } : DiscBody))) s.blk.fab.opLast src.val).1 ≠ b.tag + 1 ∧ b.operand = [a, n] ∧ 0 < n ∧ n ≤ 13
      ∧ inSram a (4 * n) ∧ s.blk.raw = false) ∧
    (∃ (s : State) (w : Fin 2) (off : Fin (2 ^ 24)) (v : Word), s.blk.off = false ∧ s.blk.bt R.PCIE_STAT 0 = true ∧
      s.blk.bt (R.PCIE_IB_CFG w.val) 0 = true ∧ inSram (s.blk.fl (R.PCIE_IB_BASE w.val) 0 16 * 2 ^ 24 + off.val) 4) ∧
    (∃ (s : State) (w : Fin 2) (off : Fin (2 ^ 24)) (v : Word), s.blk.off = false ∧ s.blk.bt R.PCIE_STAT 0 = true ∧
      s.blk.bt (R.PCIE_IB_CFG w.val) 0 = false) ∧
    (∃ (s : State) (tlp : PcieTlp), s.blk.off = false ∧ s.blk.bt R.PCIE_STAT 0 = false) ∧
    (∃ (s : State) (w : TwinWrite) (p : PageDef), s.blk.off = false ∧ 100 ≤ s.blk.tick ∧ s.blk.red.twNow = [w] ∧
      pageOf w.addr = some p ∧ p.home ≠ .fab ∧ w.addr % 0x1000 ≠ 0x20 ∧ s.blk.twinRefusal w.addr = none ∧ (s.blk.queue
      (pageBase w.addr)).length < 4) :=
  ⟨⟨with' [], 5, 7, 2, 0x10000000, [1#32, 2#32], by decide +kernel⟩,
   ⟨with' [], 5, 7, 2, 0x10000000, [], by decide +kernel⟩,
   ⟨with' [] (fun b => { b with szn := { b.szn with raLast := [(5, 8, [1])] } }), 5, 7, 2, true, 0, [], [1],
      by decide +kernel⟩,
   ⟨with' [], 3, 5, { op := 3, tag := 9, operand := [0x107FFFFC, 1, 77] }, 0x107FFFFC, [77], by decide +kernel⟩,
   ⟨with' [(R.FAB_STAT, 2#32)], 3, 5, { op := 3, tag := 9 }, by decide +kernel⟩,
   ⟨with' [], 3, 5, { op := 4, tag := 9, operand := [0x10000000, 13] }, 0x10000000, 13, by decide +kernel⟩,
   ⟨with' [(R.PCIE_STAT, 1#32), (R.PCIE_IB_CFG 1, 1#32), (R.PCIE_IB_BASE 1, 0x10#32)], 1, 64, 5#32, by decide +kernel⟩,
   ⟨with' [(R.PCIE_STAT, 1#32), (R.PCIE_IB_CFG 1, 0#32)], 1, 64, 5#32, by decide +kernel⟩,
   ⟨with' [], .control true true, by decide +kernel⟩,
   ⟨with' [(R.RED_STAT, 1#32)]
      (fun b => { b with tb := { b.tb with dt := 600 }, red := { b.red with twNow := [⟨R.PS_VMAX 0, 3, 9#32⟩] } }),
      ⟨R.PS_VMAX 0, 3, 9#32⟩, ⟨0x15, 16, 0, .wing, regs_car⟩, by decide +kernel⟩⟩

/-- The hypotheses of each clause of Obligations.FabricWalk hold together somewhere. -/
theorem meets_FabricWalk :
    (∃ (s : State) (snd : Sender) (d : Nat) (ds : List Nat), s.takesWrite snd R.FAB_CTRL ∧ s.blk.bt R.SZN_STAT 3 =
      true ∧ s.blk.phase ≠ 1 ∧ walkOrder s.blk.devs (fun _ => true) = d :: ds) ∧
    (∃ (s : State) (snd : Sender) (e : DevEntry) (d : Nat) (ds : List Nat), s.takesWrite snd R.FAB_CTRL ∧ s.blk.bt
      R.SZN_STAT 3 = true ∧ s.blk.phase ≠ 1 ∧ s.blk.devAt (s.blk.fl R.FAB_DEV_SEL 0 12) = some e ∧ walkOrder
      s.blk.devs (fun x => x.path.take e.path.length == e.path) = d :: ds) ∧
    (∃ (s : State) (snd : Sender) (c : _), s.takesWrite snd R.FAB_CTRL ∧ (s.blk.bt R.SZN_STAT 3 = false ∨ s.blk.phase
      = 1) ∧ c ∈ [Instr.discoveryWalkStart snd, .rediscovery snd]) ∧
    (∃ (s : State) (d : Nat), s.blk.off = false ∧ s.blk.fab.wait = some (d, 0x01) ∧ 64 ≤ s.blk.fab.waitCnt) ∧
    (∃ (s : State) (d : Nat) (op : Nat), s.blk.off = false ∧ s.blk.fab.wait = some (d, op) ∧ op ≠ 0x01 ∧ s.blk.fab.wrq
      = [] ∧ 64 ≤ s.blk.fab.waitCnt) ∧
    (∃ (s : State), s.blk.off = false ∧ (s.blk.fab.wait = none ∨ s.blk.fab.waitCnt < 64)) ∧
    (∃ (s : State) (k : PortIx) (h : FrameHdr) (b : DiscBody), s.blk.off = false ∧ (s.blk.frameCheck k.val h).2 = true
      ∧ s.blk.sznSt ≠ 0 ∧ b.reply = false ∧ b.hop < b.hops ∧ s.blk.isNode = false ∧ s.blk.bt (R.SZP_CFG k.val) 1 =
      true ∧ s.blk.portUp (b.path.getD b.hop 0 % 32 + (if k.val < 32 then 0 else 32)) = true ∧ s.blk.szn.joinSeen = []
      ∧ s.blk.pageEn (szpPage (b.path.getD b.hop 0 % 32 + (if k.val < 32 then 0 else 32))) = true) ∧
    (∃ (s : State) (src : Fin 4096) (why : Nat) (d : Nat), s.blk.off = false ∧ s.blk.bt R.SZN_STAT 3 = true ∧
      s.blk.devOfEp src.val = some d) ∧
    (∃ (s : State) (src : Fin 4096) (d : Nat), s.blk.off = false ∧ s.blk.bt R.SZN_STAT 3 = true ∧ s.blk.devOfEp
      src.val = some d) ∧
    (∃ (s : State) (src : Fin 4096) (result : Nat), s.blk.off = false ∧ s.blk.bt R.SZN_STAT 3 = true ∧ result ≠ 0) ∧
    (∃ (s : State) (src : Fin 4096) (n : Nat), s.blk.off = false ∧ s.blk.bt R.SZN_STAT 3 = false) ∧
    (∃ (s : State) (k : PortIx) (src : Fin 4096) (b : DiscBody), s.blk.off = false ∧ (sget (fun _ => (0, ({ op := 0 }
      : DiscBody))) s.blk.fab.opLast src.val).1 ≠ b.tag + 1) ∧
    (∃ (s : State) (k : PortIx) (src : Fin 4096) (b : DiscBody), s.blk.off = false ∧ (sget (fun _ => (0, ({ op := 0 }
      : DiscBody))) s.blk.fab.opLast src.val).1 ≠ b.tag + 1 ∧ s.blk.phase ≠ 2) ∧
    (∃ (s : State) (k : PortIx) (src : Fin 4096) (b : DiscBody), s.blk.off = false ∧ (sget (fun _ => (0, ({ op := 0 }
      : DiscBody))) s.blk.fab.opLast src.val).1 ≠ b.tag + 1 ∧ s.blk.phase ≠ 2) ∧
    (∃ (s : State) (k : PortIx) (src : Fin 4096) (b : DiscBody) (c : _), s.blk.off = false ∧ (sget (fun _ => (0, ({ op
      := 0 } : DiscBody))) s.blk.fab.opLast src.val).1 ≠ b.tag + 1 ∧ s.blk.phase = 2 ∧ c ∈ [Instr.assign k src b,
      .seal k src b]) ∧
    (∃ (s : State) (k : PortIx) (src : Fin 4096) (b : DiscBody) (r : DiscBody) (c : _), s.blk.off = false ∧ sget (fun
      _ => (0, ({ op := 0 } : DiscBody))) s.blk.fab.opLast src.val = (b.tag + 1, r) ∧ c ∈ [Instr.identify k src b,
      .assign k src b, .seal k src b]) ∧
    (∃ (s : State) (b : LoadBody), s.blk.off = false ∧ s.blk.fl R.SYS_BOOT_STAT 4 2 = 2 ∧ s.blk.sznSt = 3 ∧
      s.blk.ownEp ≠ 0xFFF ∧ s.blk.isHub = false ∧ ((∀ x ∈ s.blk.fab.held, x.1 = b.img → x.2.1 ≠ b.chunk)) ∧ ((b.chunk
      = 0 → s.blk.takesHdr b.data = true))) ∧
    (∃ (s : State) (b : LoadBody), s.blk.off = false ∧ (s.blk.sznSt ≠ 3 ∨ s.blk.ownEp = 0xFFF ∨ s.blk.isHub = true ∨
      s.blk.fl R.SYS_BOOT_STAT 4 2 ≠ 2 ∨ (∃ x ∈ s.blk.fab.held, x.1 = b.img ∧ x.2.1 = b.chunk) ∨ (b.chunk = 0 ∧
      s.blk.takesHdr b.data = false))) ∧
    (∃ (s : State) (snd : Sender) (v : Word), s.takesWrite snd R.FAB_CTRL) ∧
    (∃ (s : State) (snd : Sender) (v : Word), s.takesWrite snd R.FAB_RT_B ∧ s.blk.phase ≠ 2) ∧
    (∃ (s : State) (snd : Sender) (v : Word), s.takesWrite snd R.FAB_RT_B ∧ s.blk.phase = 2) ∧
    (∃ (s : State), s.blk.off = false ∧ s.blk.bt R.FAB_STAT 3 = true ∧ 64 ≤ s.blk.fab.misCnt) ∧
    (∃ (s : State), s.blk.off = false ∧ (s.blk.bt R.FAB_STAT 3 = false ∨ s.blk.fab.misCnt < 64)) :=
  ⟨⟨coord [(R.SZN_STAT, 8#32)]
     (fun b => opened R.FAB_CTRL { b with cfg := { devs := [{ endpoint := 1, role := 1, seat := 1 }, { path := [5], endpoint := 192, role := 0, seat := 8 }] } }),
     core0, 1, [], by decide +kernel⟩,
   ⟨coord [(R.SZN_STAT, 8#32), (R.FAB_DEV_SEL, 1#32)]
      (fun b => opened R.FAB_CTRL { b with cfg := { devs := [{ endpoint := 1, role := 1, seat := 1 }, { path := [5], endpoint := 192, role := 0, seat := 8 }] } }),
      core0, { path := [5], endpoint := 192, role := 0, seat := 8 }, 1, [], by decide +kernel⟩,
   ⟨coord [] (opened R.FAB_CTRL), core0, Instr.rediscovery core0, by decide +kernel⟩,
   ⟨with' [] (fun b => { b with fab := { b.fab with wait := some (3, 1), waitCnt := 64 } }), 3, by decide +kernel⟩,
   ⟨with' [] (fun b => { b with fab := { b.fab with wait := some (3, 2), waitCnt := 64 } }), 3, 2, by decide +kernel⟩,
   ⟨with' [], by decide +kernel⟩,
   ⟨coord [(R.SZP_STAT 3, 2#32), (R.SZN_STAT, 4#32), (R.SZP_CFG 3, 2#32), (R.SZP_STAT 9, 2#32)], 3,
      { src := 1, dst := 0xFFF, cycle := 0 }, { op := 1, hops := 2, hop := 1, path := [3, 9], ret := [1, 0] },
      by decide +kernel⟩,
   ⟨coord [(R.SZN_STAT, 8#32)] (fun b => { b with cfg := { devs := [{ endpoint := 192, role := 0, seat := 8 }] } }),
      192, 2, 0, by decide +kernel⟩,
   ⟨coord [(R.SZN_STAT, 8#32)] (fun b => { b with cfg := { devs := [{ endpoint := 192, role := 0, seat := 8 }] } }),
      192, 0, by decide +kernel⟩,
   ⟨coord [(R.SZN_STAT, 8#32)], 192, 1, by decide +kernel⟩,
   ⟨with' [], 192, 1, by decide +kernel⟩,
   ⟨with' [], 3, 5, { op := 1, tag := 9 }, by decide +kernel⟩,
   ⟨with' [], 3, 5, { op := 2, tag := 9, operand := [0x123] }, by decide +kernel⟩,
   ⟨with' [], 3, 5, { op := 5, tag := 9 }, by decide +kernel⟩,
   ⟨with' [(R.FAB_STAT, 2#32)], 3, 5, { op := 5, tag := 9 }, Instr.assign 3 5 { op := 5, tag := 9 }, by decide +kernel⟩,
   ⟨with' [] (fun b => { b with fab := { b.fab with opLast := [(5, 10, { op := 5, reply := true, tag := 9 })] } }), 3,
      5, { op := 5, tag := 9 }, { op := 5, reply := true, tag := 9 }, Instr.seal 3 5 { op := 5, tag := 9 },
      by decide +kernel⟩,
   ⟨with' [(R.SYS_BOOT_STAT, 0x20#32), (R.SZN_STAT, 3#32), (R.SZN_ID, 192#32)],
      { img := 2, chunk := 4, length := 5000, data := [1#8] }, by decide +kernel⟩,
   ⟨with' [], { img := 2, chunk := 4, length := 5000, data := [1#8] }, by refine ⟨rfl, Or.inl (by decide +kernel)⟩⟩,
   ⟨coord [] (opened R.FAB_CTRL), core0, 2#32, by decide +kernel⟩,
   ⟨coord [] (opened R.FAB_RT_B), core0, 3#32, by decide +kernel⟩,
   ⟨coord [(R.FAB_STAT, 2#32)] (opened R.FAB_RT_B), core0, 3#32, by decide +kernel⟩,
   ⟨with' [(R.FAB_STAT, 8#32)] (fun b => { b with fab := { b.fab with misCnt := 64 } }), by decide +kernel⟩,
   ⟨with' [], by decide +kernel⟩⟩

/-- The hypotheses of each clause of Obligations.ThreadCommands hold together somewhere. -/
theorem meets_ThreadCommands :
    (∃ (s : State) (snd : Sender), s.takesWrite snd R.DISP_TH_CMD ∧ (s.blk.thd s.blk.thSel).st = .free) ∧
    (∃ (s : State) (snd : Sender), s.takesWrite snd R.DISP_TH_CMD ∧ (s.blk.thd s.blk.thSel).st = .suspended) ∧
    (∃ (s : State) (snd : Sender), s.takesWrite snd R.DISP_TH_CMD ∧ ((s.blk.thd s.blk.thSel).st = .ready ∨ (s.blk.thd
      s.blk.thSel).st = .blocked)) ∧
    (∃ (s : State) (snd : Sender), s.takesWrite snd R.DISP_TH_CMD ∧ (s.blk.thd s.blk.thSel).st = .blocked) ∧
    (∃ (s : State) (snd : Sender), s.takesWrite snd R.DISP_TH_CMD ∧ (s.blk.thd s.blk.thSel).st = .suspended) ∧
    (∃ (s : State) (snd : Sender) (x : _), s.takesWrite snd R.DISP_TH_CMD ∧ x ∈ [(Instr.threadCreate snd,
      [ThSt.free]), (.threadResume snd, [.suspended]), (.threadSuspend snd, [.ready, .blocked]), (.threadWake snd,
      [.blocked]), (.threadDelete snd, [.suspended])] ∧ (s.blk.thd s.blk.thSel).st ∉ x.2) ∧
    (∃ (s : State) (h : CoreIx) (snd : Sender) (u : Nat), s.takesWrite snd (R.DISP_CMD h.val) ∧ snd.agent.val = h.val
      ∧ s.blk.runningOn h.val = some u) ∧
    (∃ (s : State) (h : CoreIx) (snd : Sender) (u : Nat), s.takesWrite snd (R.DISP_CMD h.val) ∧ snd.agent.val = h.val
      ∧ s.blk.runningOn h.val = some u) ∧
    (∃ (s : State) (h : CoreIx) (snd : Sender) (v : Word) (u : Nat) (d : Nat), s.takesWrite snd (R.DISP_CMD h.val) ∧
      snd.agent.val = h.val ∧ s.blk.runningOn h.val = some u ∧ (fld v 14 2 < 2 ∨ (fld v 14 2 = 2 ∧ s.blk.tact = true))
      ∧ (v.getLsbD 13 = true ∨ (s.blk.ctr (fld v 4 9)).tid = u) ∧ s.blk.firedFor u (fld v 4 9) (v.getLsbD 13) = some
      d) ∧
    (∃ (s : State) (h : CoreIx) (snd : Sender) (v : Word) (u : Nat), s.takesWrite snd (R.DISP_CMD h.val) ∧
      snd.agent.val = h.val ∧ s.blk.runningOn h.val = some u ∧ (v.getLsbD 13 = true ∨ (s.blk.ctr (fld v 4 9)).tid = u)
      ∧ s.blk.firedFor u (fld v 4 9) (v.getLsbD 13) = none ∧
      (let n := s.blk.rd64 (R.DISP_WAIT_LO h.val); fld v 14 2 = 0 ∨ (fld v 14 2 = 1 ∧ (s.blk.tact = true → 0 < n)) ∨
      (fld v 14 2 = 2 ∧ s.blk.tact = true ∧ s.blk.tb.dt < n))) ∧
    (∃ (s : State) (h : CoreIx) (snd : Sender) (v : Word) (u : Nat), s.takesWrite snd (R.DISP_CMD h.val) ∧
      snd.agent.val = h.val ∧ s.blk.runningOn h.val = some u ∧ (v.getLsbD 13 = true ∨ (s.blk.ctr (fld v 4 9)).tid = u)
      ∧ s.blk.firedFor u (fld v 4 9) (v.getLsbD 13) = none ∧ s.blk.tact = true ∧ ((fld v 14 2 = 1 ∧ s.blk.rd64
      (R.DISP_WAIT_LO h.val) = 0) ∨ (fld v 14 2 = 2 ∧ s.blk.rd64 (R.DISP_WAIT_LO h.val) ≤ s.blk.tb.dt))) ∧
    (∃ (s : State) (h : CoreIx) (snd : Sender) (v : Word) (u : Nat), s.takesWrite snd (R.DISP_CMD h.val) ∧
      snd.agent.val = h.val ∧ s.blk.runningOn h.val = some u ∧ fld v 14 2 ≠ 3 ∧ ((v.getLsbD 13 = false ∧ (s.blk.ctr
      (fld v 4 9)).tid ≠ u) ∨ (fld v 14 2 = 2 ∧ s.blk.tact = false))) ∧
    (∃ (s : State) (h : CoreIx) (snd : Sender) (v : Word), s.takesWrite snd (R.DISP_CMD h.val) ∧ snd.agent.val = h.val
      ∧ fld v 14 2 = 3) ∧
    (∃ (s : State) (h : CoreIx) (snd : Sender) (v : Word) (c : _), s.takesWrite snd (R.DISP_CMD h.val) ∧ c ∈
      [Instr.threadYield h snd, .threadExit h snd, .threadWait h snd v]) :=
  ⟨⟨with' [] (opened R.DISP_TH_CMD), core0, by decide +kernel⟩,
   ⟨with' [] (fun b => opened R.DISP_TH_CMD (thr { st := .suspended } b)), core0, by decide +kernel⟩,
   ⟨with' [] (fun b => opened R.DISP_TH_CMD (thr { st := .ready } b)), core0, by decide +kernel⟩,
   ⟨with' [] (fun b => opened R.DISP_TH_CMD (thr { st := .blocked, tmo := .svc 4 } b)), core0, by decide +kernel⟩,
   ⟨with' [] (fun b => opened R.DISP_TH_CMD (thr { st := .suspended } b)), core0, by decide +kernel⟩,
   ⟨with' [] (fun b => opened R.DISP_TH_CMD (thr { st := .running } b)), core0, (Instr.threadCreate core0, [ThSt.free]),
      by decide +kernel⟩,
   ⟨with' [] (thr { st := .running }), 0, core0, 0, by decide +kernel⟩,
   ⟨with' [] (thr { st := .running }), 0, core0, 0, by decide +kernel⟩,
   ⟨with' [] (fun b => disp' (fun d => { d with dc := [(3, { tid := 0, fired := 2 })] }) (thr { st := .running } b)), 0,
      core0, 0x31#32, 0, 3, by decide +kernel⟩,
   ⟨with' [] (thr { st := .running }), 0, core0, 0x31#32, 0, by decide +kernel⟩,
   ⟨with' [(R.DISP_CTRL, 2#32)] (thr { st := .running }), 0, core0, 0x4031#32, 0, by decide +kernel⟩,
   ⟨with' [(R.DISP_CTRL, 1#32)] (thr { st := .running }), 0, core0, 0x8031#32, 0, by decide +kernel⟩,
   ⟨with' [] (thr { st := .running }), 0, core0, 0xC031#32, by decide +kernel⟩,
   ⟨with' [], 0, core0, 0#32, Instr.threadYield 0 core0, by decide +kernel⟩⟩

/-- The hypotheses of each clause of Obligations.ThreadAssignment hold together somewhere. -/
theorem meets_ThreadAssignment :
    (∃ (s : State), s.blk.off = false) ∧
    (∃ (s : State) (h : CoreIx) (snd : Sender) (u : Nat), s.takesRead snd (R.DISP_NEXT h.val) ∧ snd.agent.val = h.val
      ∧ (s.blk.assignment.find? (fun p => p.1 == h.val)).map Prod.snd = some u) ∧
    (∃ (s : State) (h : CoreIx) (snd : Sender), s.takesRead snd (R.DISP_NEXT h.val) ∧ snd.agent.val = h.val ∧
      s.blk.assignment.find? (fun p => p.1 == h.val) = none) ∧
    (∃ (s : State) (h : CoreIx) (snd : Sender), s.takesRead snd (R.DISP_NEXT h.val) ∧ snd.agent.val ≠ h.val) :=
  ⟨⟨with' [] (thr { st := .ready, level := 5 }), by decide +kernel⟩,
   ⟨with' [] (thr { st := .ready, level := 5 }), 0, core0, 0, by decide +kernel⟩,
   ⟨with' [], 0, core0, by decide +kernel⟩,
   ⟨with' [], 0, { agent := 3 }, by decide +kernel⟩⟩

/-- The hypotheses of each clause of Obligations.EventDelivery hold together somewhere. -/
theorem meets_EventDelivery :
    (∃ (s : State), s.blk.off = false ∧ s.blk.disp.evq = []) ∧
    (∃ (s : State) (ev : Nat) (q : List Nat), s.blk.off = false ∧ s.blk.disp.evq = ev :: q) ∧
    (∃ (s : State), s.blk.off = false ∧ (1024 ≤ s.blk.disp.evq.length ∨ (∀ e, e < 512 → s.blk.bt (R.DISP_PEND (e /
      32)) (e % 32) = false))) ∧
    (∃ (s : State) (e : Nat), s.blk.off = false ∧ s.blk.disp.evq.length < 1024 ∧ e < 512 ∧ s.blk.bt (R.DISP_PEND (e /
      32)) (e % 32) = true ∧ ((∀ j, j < e → s.blk.bt (R.DISP_PEND (j / 32)) (j % 32) = false))) ∧
    (∃ (s : State) (snd : Sender) (v : Word), s.takesWrite snd R.DISP_EV_POST ∧ 0x180 ≤ fld v 0 10 ∧ fld v 0 10 ≤
      0x1FF ∧ s.blk.disp.evq.length < 960 ∧ s.blk.disp.held = []) ∧
    (∃ (s : State) (snd : Sender) (v : Word), s.takesWrite snd R.DISP_EV_POST ∧ 0x180 ≤ fld v 0 10 ∧ fld v 0 10 ≤
      0x1FF ∧ (960 ≤ s.blk.disp.evq.length ∨ s.blk.disp.held ≠ [])) ∧
    (∃ (s : State) (snd : Sender) (v : Word), s.takesWrite snd R.DISP_EV_POST ∧ (fld v 0 10 < 0x180 ∨ 0x1FF < fld v 0
      10)) ∧
    (∃ (s : State) (a : Nat) (ev : Nat) (rest : List StallSrc) (x : _), s.blk.off = false ∧ s.blk.disp.evq.length <
      960 ∧ x ∈ [(StallSrc.core a ev, ev), (.ack a ev ev, ev), (.gpio a, 0x160 + a)] ∧ s.blk.disp.held = x.1 :: rest) ∧
    (∃ (s : State) (i : Nat) (n : Nat) (rest : List StallSrc), s.blk.off = false ∧ s.blk.disp.evq.length < 960 ∧
      s.blk.disp.held = .can i n :: rest) ∧
    (∃ (s : State) (w : Nat) (rest : List StallSrc), s.blk.off = false ∧ s.blk.disp.evq.length < 960 ∧ s.blk.disp.held
      = .dsp w :: rest ∧ w < 4 ∧ s.blk.fl (R.DSP_STAT w) 0 2 = 2) ∧
    (∃ (s : State), s.blk.off = false ∧ (960 ≤ s.blk.disp.evq.length ∨ s.blk.disp.held = [])) :=
  ⟨⟨with' [], by decide +kernel⟩,
   ⟨with' [] (fun b => disp' (fun d => { d with evq := [0x190] }) (thr { st := .blocked, waitDc := 3 } b)), 0x190, [],
      by decide +kernel⟩,
   ⟨with' [], by decide +kernel⟩,
   ⟨with' [(R.DISP_PEND 0, 0x20#32)], 5, by decide +kernel⟩,
   ⟨with' [], core0, 0x190#32, by decide +kernel⟩,
   ⟨with' [] (disp' (fun d => { d with held := [.gpio 3] })), core0, 0x190#32, by decide +kernel⟩,
   ⟨with' [], core0, 0x200#32, by decide +kernel⟩,
   ⟨with' [] (disp' (fun d => { d with held := [.core 2 0x190] })), 2, 0x190, [], (StallSrc.core 2 0x190, 0x190),
      by decide +kernel⟩,
   ⟨with' [] (disp' (fun d => { d with held := [.can 2 1] })), 2, 1, [], by decide +kernel⟩,
   ⟨with' [(R.DSP_STAT 1, 2#32)] (disp' (fun d => { d with held := [.dsp 1] })), 1, [], by decide +kernel⟩,
   ⟨with' [], by decide +kernel⟩⟩

/-- The hypotheses of each clause of Obligations.WaitsAndCores hold together somewhere. -/
theorem meets_WaitsAndCores :
    (∃ (s : State) (u : Tid), s.blk.off = false ∧ (s.blk.thd u.val).st = .blocked ∧ ((s.blk.thd u.val).tmo = .svc 0 ∨
      (∃ d, (s.blk.thd u.val).tmo = .deck d ∧ d ≤ s.blk.tb.dt))) ∧
    (∃ (s : State) (u : Tid), s.blk.off = false ∧ ((s.blk.thd u.val).st ≠ .blocked ∨ (s.blk.thd u.val).tmo = .none ∨
      (∃ n, 0 < n ∧ (s.blk.thd u.val).tmo = .svc n) ∨ (∃ d, (s.blk.thd u.val).tmo = .deck d ∧ s.blk.tb.dt < d))) ∧
    (∃ (s : State) (snd : Sender) (v : Word), s.takesWrite snd R.DISP_CORE_REL ∧ s.blk.isHub = false) ∧
    (∃ (s : State) (snd : Sender) (v : Word), s.hears snd ∧ s.blk.denial snd R.DISP_CORE_REL true = none ∧
      s.blk.behind R.DISP_CORE_REL = false ∧ s.blk.isHub = true) ∧
    (∃ (s : State) (snd : Sender) (v : Word), s.takesWrite snd R.DISP_DC_COUNT) ∧
    (∃ (s : State) (h : CoreIx), s.blk.off = false) :=
  ⟨⟨with' [] (thr { st := .blocked, tmo := .svc 0 }), 0, ⟨rfl, by decide +kernel, Or.inl (by decide +kernel)⟩⟩,
   ⟨with' [], 0, ⟨rfl, Or.inl (by decide +kernel)⟩⟩,
   ⟨with' [(R.DISP_BOOT_ADDR_LO, 0x40#32)] (opened R.DISP_CORE_REL), core0, 6#32, by decide +kernel⟩,
   ⟨with' [(R.SYS_STRAP, 2#32)] (opened R.DISP_CORE_REL), core0, 6#32, by decide +kernel⟩,
   ⟨with' [(R.DISP_DC_SEL, 4#32)] (opened R.DISP_DC_COUNT), core0, 0x60004#32, by decide +kernel⟩,
   ⟨with' [], 3, by decide +kernel⟩⟩

/-- The hypotheses of each clause of Obligations.PlicAndErrors hold together somewhere. -/
theorem meets_PlicAndErrors :
    (∃ (s : State) (x : Fin 16) (snd : Sender) (src : Nat), s.takesRead snd (R.PLIC_CLAIM x.val) ∧ snd.agent.val < 8 ∧
      0 < src ∧ src < 512 ∧ 0 < s.blk.fl (R.PLIC_PRIO src) 0 3 ∧ s.blk.bt (R.PLIC_PEND (src / 32)) (src % 32) = true ∧
      s.blk.bt (R.PLIC_EN (16 * x.val + src / 32)) (src % 32) = true ∧ ((∀ j, j < 512 → s.blk.bt (R.PLIC_PEND (j /
      32)) (j % 32) = true → s.blk.bt (R.PLIC_EN (16 * x.val + j / 32)) (j % 32) = true → s.blk.fl (R.PLIC_PRIO j) 0 3
      < s.blk.fl (R.PLIC_PRIO src) 0 3 ∨ (s.blk.fl (R.PLIC_PRIO j) 0 3 = s.blk.fl (R.PLIC_PRIO src) 0 3 ∧ src ≤ j)))) ∧
    (∃ (s : State) (x : Fin 16) (snd : Sender), s.takesRead snd (R.PLIC_CLAIM x.val) ∧ (8 ≤ snd.agent.val ∨ (∀ j, j <
      512 → s.blk.bt (R.PLIC_PEND (j / 32)) (j % 32) = true → s.blk.bt (R.PLIC_EN (16 * x.val + j / 32)) (j % 32) =
      true → s.blk.fl (R.PLIC_PRIO j) 0 3 = 0))) ∧
    (∃ (s : State) (x : Fin 16) (snd : Sender) (v : Word), s.takesWrite snd (R.PLIC_CLAIM x.val) ∧ v.toNat < 512 ∧
      s.blk.bt (R.PLIC_EN (16 * x.val + v.toNat / 32)) (v.toNat % 32) = true ∧ v.toNat ∈ s.blk.disp.plicSvc) ∧
    (∃ (s : State) (x : Fin 16) (snd : Sender) (v : Word), s.takesWrite snd (R.PLIC_CLAIM x.val) ∧ (512 ≤ v.toNat ∨
      s.blk.bt (R.PLIC_EN (16 * x.val + v.toNat / 32)) (v.toNat % 32) = false ∨ v.toNat ∉ s.blk.disp.plicSvc)) ∧
    (∃ (s : State) (k : Fin 2) (i : Dc), s.blk.off = false) ∧
    (∃ (s : State) (i : Dc), s.blk.off = false) ∧
    (∃ (s : State) (i : Dc), s.blk.off = false) :=
  ⟨⟨with' [(R.PLIC_PRIO 40, 3#32), (R.PLIC_PEND 1, 0x100#32), (R.PLIC_EN 33, 0x100#32)], 2, core0, 40,
     by decide +kernel⟩,
   ⟨with' [], 2, { agent := 8 }, ⟨by decide +kernel, Or.inl (by decide)⟩⟩,
   ⟨with' [(R.PLIC_PRIO 40, 3#32), (R.PLIC_PEND 1, 0x100#32), (R.PLIC_EN 33, 0x100#32)] (disp' (fun d => { d with plicSvc := [40] })),
      2, core0, 40#32, by decide +kernel⟩,
   ⟨with' [], 2, core0, 40#32, by decide +kernel⟩,
   ⟨with' [], 1, 3, by decide +kernel⟩,
   ⟨with' [], 3, by decide +kernel⟩,
   ⟨with' [], 3, by decide +kernel⟩⟩

/-- The hypotheses of each clause of Obligations.MailboxMessages hold together somewhere. -/
theorem meets_MailboxMessages :
    (∃ (s : State) (m : MbxIx) (i : Fin 16) (snd : Sender) (v : Word), s.takesWrite snd (R.MBX_DATA m.val i.val) ∧
      s.blk.mbxPermits m.val snd = true ∧ s.blk.mbxSt m.val = 0) ∧
    (∃ (s : State) (m : MbxIx) (i : Fin 16) (snd : Sender) (v : Word), s.takesWrite snd (R.MBX_DATA m.val i.val) ∧
      s.blk.mbxPermits m.val snd = true ∧ s.blk.mbxSt m.val = 1 ∧ s.blk.mbxIsWriter m.val snd = true) ∧
    (∃ (s : State) (m : MbxIx) (i : Fin 16) (snd : Sender) (v : Word), s.takesWrite snd (R.MBX_DATA m.val i.val)) ∧
    (∃ (s : State) (m : MbxIx), s.blk.off = false) ∧
    (∃ (s : State) (m : MbxIx) (snd : Sender), s.takesWrite snd (R.MBX_CTRL m.val) ∧ s.blk.mbxPermits m.val snd = true
      ∧ s.blk.mbxSt m.val = 1 ∧ s.blk.mbxIsWriter m.val snd = true) ∧
    (∃ (s : State) (m : MbxIx) (snd : Sender), s.takesWrite snd (R.MBX_CTRL m.val) ∧ s.blk.mbxPermits m.val snd = true
      ∧ s.blk.mbxSt m.val = 2 ∧ s.blk.fl (R.MBX_STAMP m.val) 0 4 = snd.agent.val ∧ s.blk.fl (R.MBX_STAMP m.val) 4 12 =
      stampEp snd) ∧
    (∃ (s : State) (m : MbxIx) (snd : Sender), s.takesWrite snd (R.MBX_CTRL m.val)) ∧
    (∃ (s : State) (m : MbxIx) (snd : Sender) (v : Word), s.takesWrite snd (R.MBX_POST m.val) ∧ s.blk.mbxPermits m.val
      snd = true ∧ s.blk.mbxSt m.val = 1 ∧ s.blk.mbxIsWriter m.val snd = true ∧ (s.blk.bt (R.MBX_CFG m.val) 4 = false
      ∨ (∀ e ∈ s.blk.ackMem m.val, ¬ (e.agent = snd.agent.val ∧ e.ep = stampEp snd ∧ e.seq = fld v 0 16)))) ∧
    (∃ (s : State) (m : MbxIx) (snd : Sender) (v : Word) (e : AckEnt), s.takesWrite snd (R.MBX_POST m.val) ∧
      s.blk.mbxPermits m.val snd = true ∧ s.blk.mbxSt m.val = 1 ∧ s.blk.mbxIsWriter m.val snd = true ∧ s.blk.bt
      (R.MBX_CFG m.val) 4 = true ∧ (s.blk.ackMem m.val).find? (fun e => e.agent == snd.agent.val && e.ep == stampEp
      snd && e.seq == fld v 0 16) = some e ∧ e.rc < 2 ^ 16) ∧
    (∃ (s : State) (m : MbxIx) (snd : Sender) (v : Word), s.takesWrite snd (R.MBX_POST m.val)) ∧
    (∃ (s : State) (m : MbxIx) (snd : Sender) (snd' : Sender) (v : Word) (v' : Word), s.hears snd) ∧
    (∃ (s : State) (m : MbxIx) (i : Fin 16) (snd : Sender) (a : Fin 16777216), s.takesRead snd (R.MBX_DATA m.val
      i.val) ∧ 0x40000000 + a.val = R.MBX_DATA m.val i.val) ∧
    (∃ (s : State) (m : MbxIx) (snd : Sender) (v : Word), s.takesWrite snd (R.MBX_ACK m.val) ∧ snd.agent.val =
      s.blk.fl (R.MBX_CFG m.val) 0 4 ∧ s.blk.mbxSt m.val = 2) ∧
    (∃ (s : State) (m : MbxIx) (snd : Sender) (v : Word), s.takesWrite snd (R.MBX_ACK m.val)) :=
  ⟨⟨with' [(R.MBX_OWNER 2, 1#32)], 2, 3, core0, 7#32, by decide +kernel⟩,
   ⟨with' [(R.MBX_OWNER 2, 1#32), (R.MBX_STAT 2, 1#32)], 2, 3, core0, 7#32, by decide +kernel⟩,
   ⟨with' [], 2, 3, core0, 7#32, by decide +kernel⟩,
   ⟨with' [(R.MBX_STAT 2, 1#32)], 2, by decide +kernel⟩,
   ⟨with' [(R.MBX_OWNER 2, 1#32), (R.MBX_STAT 2, 1#32)], 2, core0, by decide +kernel⟩,
   ⟨with' [(R.MBX_OWNER 2, 1#32), (R.MBX_STAT 2, 2#32)], 2, core0, by decide +kernel⟩,
   ⟨with' [], 2, core0, by decide +kernel⟩,
   ⟨with' [(R.MBX_OWNER 2, 1#32), (R.MBX_STAT 2, 1#32), (R.MBX_CFG 2, 0x12#32)], 2, core0, 5#32, by decide +kernel⟩,
   ⟨with' [(R.MBX_OWNER 2, 1#32), (R.MBX_STAT 2, 1#32), (R.MBX_CFG 2, 0x12#32)]
      (fun b => { b with ackMemory := [(2, [⟨0, 0, 5, 77⟩])] }), 2, core0, 5#32, ⟨0, 0, 5, 77⟩, by decide +kernel⟩,
   ⟨with' [], 2, core0, 5#32, by decide +kernel⟩,
   ⟨with' [(R.MBX_OWNER 2, 1#32), (R.MBX_STAT 2, 1#32), (R.MBX_CFG 2, 0x12#32)], 2, core0, ⟨1, 0⟩, 5#32, 6#32,
      by decide +kernel⟩,
   ⟨with' [(R.MBX_OWNER 2, 1#32), (R.MBX_STAT 2, 1#32)], 2, 3, core0, ⟨R.MBX_DATA 2 3 - 0x40000000, by decide⟩,
      by decide +kernel⟩,
   ⟨with' [(R.MBX_STAT 2, 2#32), (R.MBX_STAMP 2, 0x50003#32), (R.MBX_ACK_EV 2, 0x8004#32)], 2, core0, 9#32,
      by decide +kernel⟩,
   ⟨with' [], 2, core0, 9#32, by decide +kernel⟩⟩

/-- The hypotheses of each clause of Obligations.Loans hold together somewhere. -/
theorem meets_Loans :
    (∃ (s : State) (n : Fin 64) (snd : Sender), s.takesRead snd (R.LOAN n.val) ∧ s.blk.loanOwner n.val = 0) ∧
    (∃ (s : State) (n : Fin 64) (snd : Sender), s.takesRead snd (R.LOAN n.val) ∧ s.blk.loanOwner n.val ≠ 0) ∧
    (∃ (s : State) (n : Fin 64) (snd : Sender) (snd' : Sender), s.takesRead snd (R.LOAN n.val) ∧ s.takesRead snd'
      (R.LOAN n.val) ∧ s.blk.loanOwner n.val = 0 ∧ grantRank snd'.agent.val < grantRank snd.agent.val) ∧
    (∃ (s : State) (n : Fin 64) (snd : Sender), s.takesWrite snd (R.LOAN n.val) ∧ s.blk.loanOwner n.val =
      snd.agent.val + 1) ∧
    (∃ (s : State) (n : Fin 64) (snd : Sender) (v : Word), s.takesWrite snd (R.LOAN n.val)) ∧
    (∃ (s : State) (snd : Sender) (v : Word), s.takesWrite snd R.LOAN_FORCE_HI) :=
  ⟨⟨with' [], 5, core0, by decide +kernel⟩,
   ⟨with' [(R.LOAN_PEEK 5, 4#32)], 5, core0, by decide +kernel⟩,
   ⟨with' [], 5, ⟨1, 0⟩, core0, by decide +kernel⟩,
   ⟨with' [(R.LOAN_PEEK 5, 1#32)], 5, core0, by decide +kernel⟩,
   ⟨with' [(R.LOAN_PEEK 5, 1#32)], 5, core0, 7#32, by decide +kernel⟩,
   ⟨with' [(R.LOAN_PEEK 5, 1#32), (R.LOAN_PEEK 40, 1#32)] (opened R.LOAN_FORCE_HI), core0, 0x100#32, by decide +kernel⟩⟩

/-- The hypotheses of each clause of Obligations.PowerRequests hold together somewhere. -/
theorem meets_PowerRequests :
    (∃ (s : State) (snd : Sender) (v : Word), s.takesWrite snd R.PWR_REQ ∧ 4 < fld v 0 3) ∧
    (∃ (s : State) (snd : Sender) (v : Word), s.takesWrite snd R.PWR_REQ ∧ fld v 0 3 ≤ 4 ∧ s.blk.pwrRefuse (fld v 0 3)
      (fld v 4 5) ≠ 0) ∧
    (∃ (s : State) (snd : Sender) (v : Word), s.takesWrite snd R.PWR_REQ ∧ fld v 0 3 ≤ 4 ∧ s.blk.pwrRefuse (fld v 0 3)
      (fld v 4 5) = 0) ∧
    (∃ (s : State), s.blk.bt R.PWR_STAT 15 = false) ∧
    (∃ (s : State) (w : Nat), s.blk.bt R.PWR_STAT 15 = true ∧ w < 4 ∧ nbit s.blk.pw.reqMask w = true ∧ s.blk.wingIrq w
      = true) ∧
    (∃ (s : State), s.blk.bt R.PWR_STAT 15 = true ∧ ((∀ w, w < 4 → nbit s.blk.pw.reqMask w = true → s.blk.wingIrq w =
      false))) ∧
    (∃ (s : State) (d : Fin 5) (z : Nat), s.blk.held = false ∧ (sget (fun _ => 0) s.blk.pw.exiting d.val = 0 ∨ (d.val
      ≠ 4 ∧ s.blk.domState 4 ≠ 0))) ∧
    (∃ (s : State) (d : Fin 5) (z : Nat), s.blk.held = false ∧ ((sget (fun _ => 0) s.blk.pw.exiting d.val = 1 ∨ (sget
      (fun _ => 0) s.blk.pw.exiting d.val = 2 ∧ d.val ≠ 4))) ∧ (d.val = 4 ∨ s.blk.domState 4 = 0)) ∧
    (∃ (s : State) (d : Fin 5) (z : Nat), s.blk.held = false ∧ 3 ≤ sget (fun _ => 0) s.blk.pw.exiting d.val ∧ d.val ≠
      4 ∧ s.blk.domState 4 = 0) ∧
    (∃ (s : State) (z : Nat), s.blk.held = false ∧ 2 ≤ sget (fun _ => 0) s.blk.pw.exiting 4) :=
  ⟨⟨with' [] (opened R.PWR_REQ), core0, 0x15#32, by decide +kernel⟩,
   ⟨with' [] (opened R.PWR_REQ), core0, 0x10#32, by decide +kernel⟩,
   ⟨with' [] (opened R.PWR_REQ), core0, 0x11#32, by decide +kernel⟩,
   ⟨with' [], by decide +kernel⟩,
   ⟨with' [(R.PWR_STAT, 0x8000#32), (R.DISP_IRQ_STAT 0, 1#32)]
      (fun b => { b with pw := { b.pw with reqState := 1, reqMask := 1 } }), 0, by decide +kernel⟩,
   ⟨with' [(R.PWR_STAT, 0x8000#32)] (fun b => { b with pw := { b.pw with reqState := 1, reqMask := 1 } }),
      by decide +kernel⟩,
   ⟨with' [], 1, 5, by decide +kernel⟩,
   ⟨with' [] (fun b => { b with pw := { b.pw with exiting := [(1, 1)] } }), 1, 5, by decide +kernel⟩,
   ⟨with' [] (fun b => { b with pw := { b.pw with exiting := [(1, 3)] } }), 1, 5, by decide +kernel⟩,
   ⟨with' [] (fun b => { b with pw := { b.pw with exiting := [(4, 3)] } }), 5, by decide +kernel⟩⟩

/-- The hypotheses of each clause of Obligations.Wakes hold together somewhere. -/
theorem meets_Wakes :
    (∃ (s : State) (l : Fin 8) (f : Bool), s.blk.bt R.PWR_WAKE_EN l.val = true ∧ s.blk.bt R.PWR_WAKE_POL l.val = f) ∧
    (∃ (s : State) (l : Fin 8) (f : Bool), (s.blk.bt R.PWR_WAKE_EN l.val = false ∨ s.blk.bt R.PWR_WAKE_POL l.val ≠ f)) ∧
    (∃ (s : State), s.blk.bt R.PWR_WAKE_EN 8 = true) ∧
    (∃ (s : State), s.blk.bt R.PWR_WAKE_EN 8 = false) ∧
    (∃ (s : State), s.blk.bt R.PWR_WAKE_EN 9 = true ∧ (s.blk.domState 4 < 3 ∨ s.blk.bt R.PWR_WAKE_EN 10 = true)) ∧
    (∃ (s : State), (s.blk.bt R.PWR_WAKE_EN 9 = false ∨ (3 ≤ s.blk.domState 4 ∧ s.blk.bt R.PWR_WAKE_EN 10 = false))) :=
  ⟨⟨with' [(R.PWR_WAKE_EN, 4#32), (R.PWR_WAKE_POL, 4#32), (R.PWR_STAT, 9#32)], 2, true, by decide +kernel⟩,
   ⟨with' [], 2, true, by decide +kernel⟩,
   ⟨with' [(R.PWR_WAKE_EN, 0x100#32), (R.PWR_STAT, 9#32)], by decide +kernel⟩,
   ⟨with' [], by decide +kernel⟩,
   ⟨with' [(R.PWR_WAKE_EN, 0x200#32), (R.PWR_STAT, 9#32)], by decide +kernel⟩,
   ⟨with' [], by decide +kernel⟩⟩

/-- The hypotheses of each clause of Obligations.CarrelCommands hold together somewhere. -/
theorem meets_CarrelCommands :
    (∃ (s : State) (c : Carrel) (snd : Sender), s.takesWrite snd (R.CAR_CTRL c.val)) ∧
    (∃ (s : State) (c : Carrel) (snd : Sender), s.takesWrite snd (R.CAR_CTRL c.val)) ∧
    (∃ (s : State) (c : Carrel) (snd : Sender), s.takesWrite snd (R.PS_CMD c.val) ∧ s.blk.carEn c.val = true ∧
      s.blk.psSt c.val ≠ 5) ∧
    (∃ (s : State) (c : Carrel) (snd : Sender), s.takesWrite snd (R.PS_CMD c.val)) ∧
    (∃ (s : State) (c : Carrel) (snd : Sender), s.takesWrite snd (R.PS_CMD c.val)) ∧
    (∃ (s : State) (c : Carrel) (snd : Sender), s.takesWrite snd (R.PS_CMD c.val)) ∧
    (∃ (s : State) (c : Carrel), s.blk.off = false) :=
  ⟨⟨with' [] (opened (R.CAR_CTRL 5)), 5, core0, by decide +kernel⟩,
   ⟨with' [] (opened (R.CAR_CTRL 5)), 5, core0, by decide +kernel⟩,
   ⟨with' [(R.PS_VSTOP 5, 1#32), (R.PS_A1 5, 1#32), (R.PS_A2 5, 1#32), (R.PS_VMAX 5, 9#32)]
      (fun b => { b with enCars := [5] }), 5, core0, by decide +kernel⟩,
   ⟨with' [], 5, core0, by decide +kernel⟩,
   ⟨with' [], 5, core0, by decide +kernel⟩,
   ⟨with' [], 5, core0, by decide +kernel⟩,
   ⟨with' [], 5, by decide +kernel⟩⟩

/-- The hypotheses of each clause of Obligations.PathCommands hold together somewhere. -/
theorem meets_PathCommands :
    (∃ (s : State) (m : PathIx) (snd : Sender), s.takesWrite snd (R.PATH_CMD (m.val / 4) (m.val % 4))) ∧
    (∃ (s : State) (m : PathIx) (snd : Sender), s.takesWrite snd (R.PATH_CMD (m.val / 4) (m.val % 4))) ∧
    (∃ (s : State) (m : PathIx) (snd : Sender), s.takesWrite snd (R.PATH_CMD (m.val / 4) (m.val % 4))) ∧
    (∃ (s : State) (m : PathIx) (snd : Sender), s.takesWrite snd (R.PATH_SEG_PUSH (m.val / 4) (m.val % 4))) ∧
    (∃ (a : List Int) (b : List Int) (q : List Int) (r : List Int) (rot : Nat), a.length = 3 ∧ b.length = 3 ∧ ((∀ x ∈
      a ++ b, -2 ^ 31 ≤ x ∧ x < 2 ^ 31))) :=
  ⟨⟨coord [], 5, core0, by decide +kernel⟩,
   ⟨coord [], 5, core0, by decide +kernel⟩,
   ⟨coord [], 5, core0, by decide +kernel⟩,
   ⟨coord [(R.PATH_SEG_X 1 1, 9#32)], 5, core0, by decide +kernel⟩,
   ⟨[1, 2, 3], [4, 2, -3], [], [], 0, by decide +kernel⟩⟩

/-- The hypotheses of each clause of Obligations.RateMultiplier hold together somewhere. -/
theorem meets_RateMultiplier :
    (∃ (r : Ramp) (v : Nat), r.a1 ≠ 0 ∧ r.a2 ≠ 0) ∧
    (∃ (s : State) (c : Nat), s.pending = [] ∧ s.blk.off = false ∧ c < 192 ∧ s.blk.enCars.count c = 1 ∧
      s.blk.mayArrive c = false) ∧
    (∃ (s : State) (c : Carrel) (n : Nat), s.blk.off = false ∧ c.val ∈ s.blk.enCars ∧ s.blk.ticksToTarget c.val = some
      n ∧ s.blk.tick + n < 3125) ∧
    (∃ (s : State) (c : Carrel), s.blk.off = false ∧ ((∀ n, s.blk.ticksToTarget c.val = some n → 3125 ≤ s.blk.tick +
      n))) ∧
    (∃ (s : State) (c : Carrel) (n : Nat), s.blk.off = false ∧ c.val ∈ s.blk.enCars ∧ s.blk.mayArrive c.val = false ∧
      s.blk.ticksToPulse c.val = some n ∧ s.blk.tick + n < 3125) ∧
    (∃ (s : State) (c : Carrel), s.blk.off = false ∧ ((∀ n, s.blk.ticksToPulse c.val = some n → 3125 ≤ s.blk.tick +
      n))) :=
  ⟨⟨{ vb := 0, vstop := 65536, a1 := 100, a2 := 100 }, 5, by decide +kernel⟩,
   ⟨with' [] (fun b => { b with enCars := [5] }), 5, by decide +kernel⟩,
   ⟨with' [(R.PS_CFG 5, 1#32), (R.PS_STAT 5, 2#32), (R.PS_TARGET 5, 1#32)]
      (fun b => { b with enCars := [5], prof := [(5, { p := 4294900000, v := 655360000, tgt := 1 })] }), 5, 7,
      by decide +kernel⟩,
   ⟨with' [], 5,
      ⟨rfl, fun n h => nomatch h.symm.trans (by decide +kernel : (with' []).blk.ticksToTarget (5 : Carrel).val = none)⟩⟩,
   ⟨with' [(R.PS_CFG 5, 8#32)] (fun b => { b with enCars := [5], prof := [(5, { p := 4294900000, v := 655360000 })] }),
      5, 7, by decide +kernel⟩,
   ⟨with' [], 5,
      ⟨rfl, fun n h => nomatch h.symm.trans (by decide +kernel : (with' []).blk.ticksToPulse (5 : Carrel).val = none)⟩⟩⟩

/-- The hypotheses of each clause of Obligations.DeckTimeSteps hold together somewhere. -/
theorem meets_DeckTimeSteps :
    (∃ (s : State) (snd : Sender) (v : Word), s.takesWrite snd R.TB_STEP_HI) ∧
    (∃ (s : State), s.blk.off = false ∧ s.blk.tb.stepPend = none) ∧
    (∃ (s : State) (d : Int), s.blk.off = false ∧ s.blk.tb.stepPend = some d ∧ s.blk.tb.dt % 15625 = 0 ∧
      s.blk.tb.cycDone ≤ s.blk.tb.dt / 15625 ∧ s.blk.enCars = []) ∧
    (∃ (s : State) (d : Int), s.blk.off = false ∧ s.blk.tb.stepPend = some d ∧ s.blk.tb.dt % 15625 = 0 ∧
      s.blk.tb.cycDone ≤ s.blk.tb.dt / 15625 ∧ s.blk.enCars ≠ []) ∧
    (∃ (s : State), (s.blk.held = true ∨ s.blk.tb.svcRun = false)) ∧
    (∃ (s : State), s.blk.off = false ∧ s.blk.tb.svcRun = true) :=
  ⟨⟨with' [] (opened R.TB_STEP_HI), core0, 0#32, by decide +kernel⟩,
   ⟨with' [], by decide +kernel⟩,
   ⟨with' [] (fun b => { b with tb := { b.tb with stepPend := some 15630, cycDone := 0 } }), 15630, by decide +kernel⟩,
   ⟨with' [] (fun b => { b with tb := { b.tb with stepPend := some 15630, cycDone := 0 }, enCars := [3] }), 15630,
      by decide +kernel⟩,
   ⟨with' [], by decide +kernel⟩,
   ⟨with' [] (fun b => { b with tb := { b.tb with svcRun := true } }), by decide +kernel⟩⟩

/-- The hypotheses of each clause of Obligations.CycleDeadlines hold together somewhere. -/
theorem meets_CycleDeadlines :
    (∃ (s : State) (d : Bool) (e : Ecc) (o : Fin 4096), s.blk.off = false ∧ s.blk.tb.stepPend = none) ∧
    (∃ (s : State) (d : Bool) (e : Ecc) (o : Fin 4096), s.blk.held = true) ∧
    (∃ (s : State) (spi : List (Nat × List Byte)), s.blk.off = false ∧ s.blk.isCoord = true ∧ s.blk.deadline s.blk.fbd
      = true) ∧
    (∃ (s : State) (spi : List (Nat × List Byte)), (s.blk.held = true ∨ s.blk.isCoord = false ∨ s.blk.deadline
      s.blk.fbd = false)) ∧
    (∃ (s : State), s.blk.off = false ∧ s.blk.isCoord = true ∧ s.blk.deadline (s.blk.fbd + 4) = true) ∧
    (∃ (s : State), (s.blk.held = true ∨ s.blk.isHub = true ∨ s.blk.deadline (s.blk.fbd + 4) = false)) ∧
    (∃ (s : State) (f : Fin 16), s.blk.off = false ∧ s.blk.isNode = true ∧ s.blk.deadline s.blk.apd = true) ∧
    (∃ (s : State) (f : Fin 16), (s.blk.held = true ∨ s.blk.isNode = false ∨ s.blk.deadline s.blk.apd = false)) :=
  ⟨⟨with' [(R.TB_STAT, 2#32)], false, .none, 0, by decide +kernel⟩,
   ⟨held, false, .none, 0, by decide +kernel⟩,
   ⟨coord [(R.TB_STAT, 2#32)], [], by decide +kernel⟩,
   ⟨with' [], [], by decide +kernel⟩,
   ⟨coord [(R.TB_STAT, 2#32)], by decide +kernel⟩,
   ⟨with' [], by decide +kernel⟩,
   ⟨with' [(R.TB_STAT, 2#32)], 0, by decide +kernel⟩,
   ⟨with' [], 0, by decide +kernel⟩⟩

/-- The hypotheses of each clause of Obligations.LoopPasses hold together somewhere. -/
theorem meets_LoopPasses :
    (∃ (s : State), s.blk.off = false ∧ s.blk.isCoord = true ∧ s.blk.deadline (s.blk.fbd + 20) = true) ∧
    (∃ (s : State), (s.blk.held = true ∨ s.blk.deadline (s.blk.fbd + 20) = false)) ∧
    (∃ (s : State), s.blk.off = false ∧ s.blk.isCoord = true ∧ s.blk.deadline (s.blk.fbd + 620) = true) ∧
    (∃ (s : State), (s.blk.held = true ∨ s.blk.deadline (s.blk.fbd + 620) = false)) ∧
    (∃ (s : State) (c : Carrel) (snd : Sender) (v : Word), s.takesWrite snd (R.LE_SWAP c.val)) ∧
    (∃ (s : State) (c : Carrel), s.blk.off = false) ∧
    (∃ (s : State) (w : WingIx) (snd : Sender) (v : Word), s.takesWrite snd (R.LE_GSWAP_HI w.val)) ∧
    (∃ (s : State) (c : Carrel) (shadow : Bool), s.blk.off = false) ∧
    (∃ (s : State) (c : Carrel), s.blk.off = false) ∧
    (∃ (s : State) (c : Carrel), s.blk.off = false) :=
  ⟨⟨coord [(R.TB_STAT, 2#32)], by decide +kernel⟩,
   ⟨with' [], by decide +kernel⟩,
   ⟨coord [(R.TB_STAT, 2#32)], by decide +kernel⟩,
   ⟨with' [], by decide +kernel⟩,
   ⟨with' [] (opened (R.LE_SWAP 5)), 5, core0, 1#32, by decide +kernel⟩,
   ⟨with' [(R.LE_STAT 5, 0x80#32)], 5, by decide +kernel⟩,
   ⟨with' [] (opened (R.LE_GSWAP_HI 1)), 1, core0, 5#32, by decide +kernel⟩,
   ⟨with' [], 5, true, by decide +kernel⟩,
   ⟨with' [], 5, by decide +kernel⟩,
   ⟨with' [], 5, by decide +kernel⟩⟩

/-- The hypotheses of each clause of Obligations.TuningHelp hold together somewhere. -/
theorem meets_TuningHelp :
    (∃ (s : State) (w : WingIx) (snd : Sender), s.takesWrite snd (R.WING_DIAG_CMD w.val)) ∧
    (∃ (s : State) (w : WingIx) (snd : Sender), s.takesWrite snd (R.WING_DIAG_CMD w.val)) ∧
    (∃ (s : State) (w : WingIx) (snd : Sender), s.takesWrite snd (R.WING_DIAG_CMD w.val)) ∧
    (∃ (s : State) (w : WingIx) (snd : Sender), s.takesWrite snd (R.WING_DIAG_CMD w.val)) ∧
    (∃ (s : State) (w : WingIx) (snd : Sender), s.takesRead snd (R.LEDGER_DATA w.val)) :=
  ⟨⟨with' [], 2, core0, by decide +kernel⟩,
   ⟨with' [], 2, core0, by decide +kernel⟩,
   ⟨with' [], 2, core0, by decide +kernel⟩,
   ⟨with' [], 2, core0, by decide +kernel⟩,
   ⟨with' [(R.LEDGER_ADDR 2, 5#32)] (fun b => { b with diag := [(2, { led := [(5, 77)] })] }), 2, core0,
      by decide +kernel⟩⟩

/-- The hypotheses of each clause of Obligations.SynzonPorts hold together somewhere. -/
theorem meets_SynzonPorts :
    (∃ (s : State) (k : PortIx) (snd : Sender) (v : Word), s.takesWrite snd (R.SZP_CFG k.val) ∧ (v.getLsbD 1 &&
      s.blk.isNode) = false ∧ (v.getLsbD 3 && k.val != 0) = false) ∧
    (∃ (s : State) (k : PortIx) (snd : Sender) (v : Word), s.takesWrite snd (R.SZP_CFG k.val) ∧ ((v.getLsbD 1 &&
      s.blk.isNode) = true ∨ (v.getLsbD 3 && k.val != 0) = true)) ∧
    (∃ (s : State) (k : PortIx), s.blk.off = false ∧ s.blk.pageEn (szpPage k.val) = true ∧ s.blk.bt (R.SZP_CFG k.val)
      0 = true ∧ s.blk.fl (R.SZP_STAT k.val) 0 2 = 0) ∧
    (∃ (s : State) (k : PortIx), s.blk.off = false ∧ s.blk.fl (R.SZP_STAT k.val) 0 2 ≠ 0) ∧
    (∃ (s : State) (k : PortIx), s.blk.off = false ∧ s.blk.fl (R.SZP_STAT k.val) 0 2 = 0) ∧
    (∃ (s : State) (k : PortIx), s.blk.off = false ∧ s.blk.fl (R.SZP_STAT k.val) 0 2 ≠ 0 ∧ s.blk.pageEn (szpPage
      k.val) = true ∧ ((s.blk.bt R.TB_STAT 1 = false ∨ (s.blk.cyc % 64 = 32 ∧ (s.blk.catEntry s.blk.entry).joinStart ≤
      s.blk.tick)))) ∧
    (∃ (s : State) (k : PortIx) (clash : Bool), s.blk.off = false ∧ s.blk.fl (R.SZP_STAT k.val) 0 2 ≠ 0 ∧ (s.blk.bt
      R.TB_STAT 1 && clash) = false) ∧
    (∃ (s : State) (k : PortIx) (clash : Bool), s.blk.off = false ∧ (s.blk.fl (R.SZP_STAT k.val) 0 2 = 0 ∨ (s.blk.bt
      R.TB_STAT 1 && clash) = true)) ∧
    (∃ (s : State) (k : PortIx) (rtt : Nat), s.blk.off = false ∧ s.blk.fl (R.SZP_STAT k.val) 0 2 = 1 ∧ (s.blk.dly
      k.val).wait = true ∧ (s.blk.dly k.val).acc.length = 15 ∧ (rtt - 4096) / 2 ≤ meanOf (s.blk.dly k.val).acc + 320 ∧
      meanOf (s.blk.dly k.val).acc ≤ (rtt - 4096) / 2 + 320) ∧
    (∃ (s : State) (k : PortIx) (rtt : Nat), s.blk.off = false ∧ s.blk.fl (R.SZP_STAT k.val) 0 2 ≠ 0 ∧ (s.blk.dly
      k.val).wait = true ∧ (s.blk.dly k.val).acc ≠ [] ∧ (((rtt - 4096) / 2 + 320 < meanOf ((s.blk.dly k.val).acc.take
      16) ∨ meanOf ((s.blk.dly k.val).acc.take 16) + 320 < (rtt - 4096) / 2))) ∧
    (∃ (s : State) (k : PortIx), s.blk.off = false ∧ (s.blk.dly k.val).wait = true) ∧
    (∃ (s : State) (k : PortIx), s.blk.off = false ∧ (s.blk.dly k.val).wait = false) ∧
    (∃ (s : State) (k : PortIx) (snd : Sender), s.takesWrite snd (R.SZP_CMD k.val) ∧ s.blk.portHasSlot k.val = false ∧
      s.blk.fl (R.SZP_STAT k.val) 0 2 ≠ 0) ∧
    (∃ (s : State) (k : PortIx) (snd : Sender), s.takesWrite snd (R.SZP_CMD k.val) ∧ s.blk.portHasSlot k.val = true) :=
  ⟨⟨with' [] (opened (R.SZP_CFG 3)), 3, core0, 1#32, by decide +kernel⟩,
   ⟨with' [] (opened (R.SZP_CFG 3)), 3, core0, 3#32, by decide +kernel⟩,
   ⟨with' [(R.SZP_CFG 3, 1#32)] (fun b => b.setB (R.PAGE_CTRL (szpPage 3)) 0 true), 3, by decide +kernel⟩,
   ⟨with' [(R.SZP_STAT 3, 1#32)], 3, by decide +kernel⟩,
   ⟨with' [], 3, by decide +kernel⟩,
   ⟨with' [(R.SZP_STAT 3, 1#32)] (fun b => b.setB (R.PAGE_CTRL (szpPage 3)) 0 true), 3, by decide +kernel⟩,
   ⟨with' [(R.SZP_STAT 3, 1#32)], 3, true, by decide +kernel⟩,
   ⟨with' [], 3, false, by decide +kernel⟩,
   ⟨with' [(R.SZP_STAT 3, 1#32)] (fun b => b.setDly 3 { wait := true, acc := List.replicate 15 1000 }), 3, 6096,
      by decide +kernel⟩,
   ⟨with' [(R.SZP_STAT 3, 1#32)] (fun b => b.setDly 3 { wait := true, acc := List.replicate 15 1000 }), 3, 9096,
      by decide +kernel⟩,
   ⟨with' [] (fun b => b.setDly 3 { wait := true }), 3, by decide +kernel⟩,
   ⟨with' [], 3, by decide +kernel⟩,
   ⟨with' [(R.SZP_STAT 3, 2#32)] (opened (R.SZP_CMD 3)), 3, core0, by decide +kernel⟩,
   ⟨linked 4 [] [{ start := 0, len := 50, sender := 5, kind := 2, dst := 9 }] (opened (R.SZP_CMD 0)), 0, core0,
      by decide +kernel⟩⟩

/-- The hypotheses of each clause of Obligations.SynzonStates hold together somewhere. -/
theorem meets_SynzonStates :
    (∃ (s : State) (snd : Sender) (v : Word), s.takesWrite snd R.SZN_CTRL ∧ (v.getLsbD 1 && !s.blk.isCoord) = false) ∧
    (∃ (s : State) (snd : Sender) (v : Word), s.takesWrite snd R.SZN_CTRL ∧ (v.getLsbD 1 && !s.blk.isCoord) = true) ∧
    (∃ (s : State) (snd : Sender) (v : Word), s.takesWrite snd R.SZN_CTRL ∧ (v.getLsbD 1 && !s.blk.isCoord) = false) ∧
    (∃ (s : State), s.blk.off = false ∧ s.blk.sznSt = 1 ∧ s.blk.fl R.SZN_STAT 10 7 = 0 ∧ s.blk.bt R.SZN_CTRL 1 = true) ∧
    (∃ (s : State), s.blk.off = false ∧ (s.blk.sznSt ≠ 1 ∨ s.blk.fl R.SZN_STAT 10 7 ≠ 0 ∨ s.blk.bt R.SZN_CTRL 1 =
      false)) ∧
    (∃ (s : State), s.blk.off = false ∧ s.blk.sznSt = 2 ∧ 8 ≤ s.blk.szn.coldSent) ∧
    (∃ (s : State), s.blk.off = false ∧ (s.blk.sznSt ≠ 2 ∨ s.blk.szn.coldSent < 8)) ∧
    (∃ (s : State), s.blk.off = false ∧ s.blk.bt R.SZN_STAT 3 = false ∧ s.blk.szn.csSeen = none ∧ s.blk.csDue < 3125 ∧
      (s.blk.dtState = 2 ∨ s.blk.sznSt = 4)) ∧
    (∃ (s : State), s.blk.off = false ∧ (s.blk.bt R.SZN_STAT 3 = true ∨ s.blk.szn.csSeen ≠ none ∨ 3125 ≤ s.blk.csDue ∨
      (s.blk.dtState ≠ 2 ∧ s.blk.sznSt ≠ 4))) ∧
    (∃ (s : State), s.blk.off = false ∧ s.blk.dtState = 1 ∧ 64 < s.blk.tb.lost) ∧
    (∃ (s : State), s.blk.off = false ∧ (s.blk.dtState ≠ 1 ∨ s.blk.tb.lost ≤ 64)) ∧
    (∃ (s : State), s.blk.off = false ∧ s.blk.sznSt = 5 ∧ s.blk.fl R.SZN_HOLD_MAX 0 8 ≤ s.blk.szn.holdCnt) ∧
    (∃ (s : State) (seat : Nat), s.blk.off = false ∧ s.blk.sznSt = 2 ∧ seat = s.blk.seat) ∧
    (∃ (s : State) (seat : Nat), s.blk.off = false ∧ (s.blk.sznSt ≠ 2 ∨ seat ≠ s.blk.seat)) :=
  ⟨⟨coord [] (opened R.SZN_CTRL), core0, 3#32, by decide +kernel⟩,
   ⟨with' [] (opened R.SZN_CTRL), core0, 3#32, by decide +kernel⟩,
   ⟨with' [(R.SZN_STAT, 0x304#32), (R.SZN_CTRL, 1#32)] (opened R.SZN_CTRL), core0, 0#32, by decide +kernel⟩,
   ⟨coord [(R.SZN_STAT, 1#32), (R.SZN_CTRL, 3#32)], by decide +kernel⟩,
   ⟨coord [], by decide +kernel⟩,
   ⟨coord [(R.SZN_STAT, 0xA#32)] (fun b => { b with szn := { b.szn with coldSent := 8 } }), by decide +kernel⟩,
   ⟨coord [], by decide +kernel⟩,
   ⟨with' [(R.SZN_STAT, 4#32), (R.TB_STAT, 8#32)], by decide +kernel⟩,
   ⟨coord [(R.SZN_STAT, 0xC#32)], by decide +kernel⟩,
   ⟨with' [(R.TB_STAT, 4#32)] (fun b => { b with tb := { b.tb with lost := 65 } }), by decide +kernel⟩,
   ⟨with' [(R.TB_STAT, 4#32)] (fun b => { b with tb := { b.tb with lost := 64 } }), by decide +kernel⟩,
   ⟨with' [(R.SZN_STAT, 5#32), (R.TB_STAT, 14#32)] (fun b => { b with szn := { b.szn with holdCnt := 255 } }),
      by decide +kernel⟩,
   ⟨coord [(R.SZN_STAT, 0xA#32)], 0, by decide +kernel⟩,
   ⟨coord [(R.SZN_STAT, 0xA#32)], 1, by decide +kernel⟩⟩

/-- The hypotheses of each clause of Obligations.SynzonFrames hold together somewhere. -/
theorem meets_SynzonFrames :
    (∃ (s : State) (k : PortIx) (h : FrameHdr) (items : List CmdItem) (tag : Nat) (imus : List ImuItem) (tgts : List
      TgtItem) (c : _), s.blk.off = false ∧ s.blk.portUp k.val = true ∧ h.codeOk = true ∧ h.crcOk = false ∧ c ∈
      [Instr.commandFrameRx k h items tag, .dataFrameRx k h imus tgts]) ∧
    (∃ (s : State) (k : PortIx) (h : FrameHdr) (p : SafePayload), s.blk.off = false ∧ s.blk.portUp k.val = true ∧
      h.codeOk = true ∧ h.crcOk = false) ∧
    (∃ (s : State) (k : PortIx) (h : FrameHdr) (items : List CmdItem) (tag : Nat) (imus : List ImuItem) (tgts : List
      TgtItem) (p : SafePayload) (c : _), s.blk.off = false ∧ (s.blk.frameCheck k.val h).2 = true ∧ s.blk.bt R.TB_STAT
      1 = false ∧ c ∈ [Instr.commandFrameRx k h items tag, .dataFrameRx k h imus tgts, .safetyFrameRx k h p]) ∧
    (∃ (s : State) (k : PortIx) (h : FrameHdr) (b : CsBody), s.blk.off = false ∧ s.blk.sznSt = 1 ∧ (s.blk.frameCheck
      k.val h).2 = true ∧ h.cycle % 2 ^ 32 = b.deckTime / 15625 % 2 ^ 32 ∧ s.blk.bt R.TB_STAT 1 = false ∧ s.blk.bt
      R.SZN_STAT 3 = false ∧ s.blk.szn.csSeen = none ∧ s.blk.dtState = 0) ∧
    (∃ (s : State) (k : PortIx) (h : FrameHdr) (it : FbItem) (sl : Slot) (c : Nat), s.blk.off = false ∧
      (s.blk.frameCheck k.val h).2 = true ∧ s.blk.forMe h = true ∧ s.blk.bt R.TB_STAT 1 = true ∧ s.blk.bt (R.SZP_CFG
      k.val) 1 = false ∧ s.blk.cycAge h = 0 ∧ ((∀ x ∈ s.blk.szn.copies, x.kind = 2 → x.src = h.src.val → x.dst ≠
      h.dst.val)) ∧ s.blk.slotOf h.src.val 2 h.dst.val = some sl ∧ sl.items = [.carrel c]) ∧
    (∃ (s : State) (k : PortIx) (h : FrameHdr) (items : List CmdItem) (tag : Nat), s.blk.off = false ∧
      (s.blk.frameCheck k.val h).2 = true ∧ s.blk.forMe h = true ∧ s.blk.bt R.TB_STAT 1 = true ∧ s.blk.bt (R.SZP_CFG
      k.val) 1 = false ∧ s.blk.cycAge h = 0 ∧ ((∀ x ∈ s.blk.szn.copies, x.kind = 3 → x.src = h.src.val → x.dst ≠
      h.dst.val)) ∧ s.blk.redSt ≠ 1 ∧ s.blk.isNode = true ∧ tag = s.blk.rdN R.FAB_DIGEST_LO) ∧
    (∃ (s : State) (k : PortIx) (h : FrameHdr) (it : ImuItem) (sl : Slot) (i : Nat), s.blk.off = false ∧
      (s.blk.frameCheck k.val h).2 = true ∧ s.blk.forMe h = true ∧ s.blk.bt R.TB_STAT 1 = true ∧ s.blk.bt (R.SZP_CFG
      k.val) 1 = false ∧ s.blk.cycAge h = 0 ∧ ((∀ x ∈ s.blk.szn.copies, x.kind = 5 → x.src = h.src.val → x.dst ≠
      h.dst.val)) ∧ s.blk.slotOf h.src.val 5 h.dst.val = some sl ∧ sl.items = [.imu i] ∧ i < 4 ∧ s.blk.vmfOn = true ∧
      s.blk.fl (R.VMF_IMU_CFG i) 0 2 = 1 ∧ s.blk.fl (R.VMF_IMU_CFG i) 2 12 = h.src.val) ∧
    (∃ (s : State) (k : PortIx) (h : FrameHdr) (p : SafePayload), s.blk.off = false ∧ (s.blk.frameCheck k.val h).2 =
      true ∧ s.blk.forMe h = true ∧ s.blk.bt R.TB_STAT 1 = true ∧ s.blk.bt (R.SZP_CFG k.val) 1 = false ∧ s.blk.cycAge
      h = 0) :=
  ⟨⟨with' [(R.SZP_STAT 3, 2#32)], 3, { hdr with crcOk := false }, [], 0, [], [],
     Instr.dataFrameRx 3 { hdr with crcOk := false } [] [], by decide +kernel⟩,
   ⟨with' [(R.SZP_STAT 3, 2#32)], 3, { hdr with crcOk := false }, { src := 7, kind := 0, seq := 1 }, by decide +kernel⟩,
   ⟨with' [(R.SZP_STAT 3, 2#32)], 3, hdr, [], 0, [], [], { src := 7, kind := 0, seq := 1 },
      Instr.dataFrameRx 3 hdr [] [], by decide +kernel⟩,
   ⟨with' [(R.SZP_STAT 3, 2#32), (R.SZN_STAT, 1#32), (R.SZP_DELAY 3, 1600#32)], 3,
      { src := 192, dst := 0xFFF, cycle := 2, arr := -16000 }, { deckTime := 31250 }, by decide +kernel⟩,
   ⟨linked 4 [] [{ start := 0, len := 50, sender := 7, kind := 2, dst := 5, items := [.carrel 12] }], 0, hdr,
      { pos := 44 }, { start := 0, len := 50, sender := 7, kind := 2, dst := 5, items := [.carrel 12] }, 12,
      by decide +kernel⟩,
   ⟨linked 4 [] [], 0, hdr, [{ value := 5 }], 0, by decide +kernel⟩,
   ⟨linked 4 [(R.SYS_STRAP, 1#32), (R.VMF_IMU_CFG 2, 29#32)] [{ start := 0, len := 50, sender := 7, kind := 5, dst := 5, items := [.imu 2] }],
      0, hdr, { time := 100 }, { start := 0, len := 50, sender := 7, kind := 5, dst := 5, items := [.imu 2] }, 2,
      by decide +kernel⟩,
   ⟨linked 4 [] [], 0, hdr, { src := 7, kind := 0, seq := 1 }, by decide +kernel⟩⟩

/-- The hypotheses of each clause of Obligations.SynzonStars hold together somewhere. -/
theorem meets_SynzonStars :
    (∃ (s : State) (k : PortIx) (h : FrameHdr) (f : TxFrame) (b : CsBody) (resid : Nat) (lower : Bool) (e : Ecc),
      s.blk.off = false ∧ s.blk.isNode = false ∧ s.blk.bt (R.SZP_CFG k.val) 1 = true ∧ (s.blk.frameCheck k.val h).2 =
      true ∧ f.body = .cycleStart b ∧ b.cold = false ∧ s.blk.bt (R.SZP_STAT k.val) 2 = false) ∧
    (∃ (s : State) (k : PortIx) (h : FrameHdr) (f : TxFrame) (resid : Nat) (lower : Bool) (e : Ecc) (items : List
      FbItem) (ps : List Nat), s.blk.off = false ∧ s.blk.isNode = false ∧ s.blk.bt (R.SZP_CFG k.val) 1 = true ∧
      (s.blk.frameCheck k.val h).2 = true ∧ f.body = .feedback items ∧ s.blk.isHub = false ∧ (s.blk.guard k.val h).2 =
      true ∧ h.dst.val ≠ s.blk.ownEp ∧ s.blk.routePorts k.val h.dst.val = some ps ∧ ((∀ p ∈ ps, p < 64)) ∧ ((e =
      .uncorr → h.dst.val = 0xFFF))) ∧
    (∃ (s : State) (k : PortIx) (h : FrameHdr) (f : TxFrame) (resid : Nat) (lower : Bool) (items : List FbItem),
      s.blk.off = false ∧ s.blk.isNode = false ∧ s.blk.bt (R.SZP_CFG k.val) 1 = true ∧ (s.blk.frameCheck k.val h).2 =
      true ∧ f.body = .feedback items ∧ s.blk.isHub = false ∧ (s.blk.guard k.val h).2 = true ∧ h.dst.val ≠ s.blk.ownEp
      ∧ h.dst.val ≠ 0xFFF) ∧
    (∃ (s : State) (k : PortIx) (h : FrameHdr) (f : TxFrame) (resid : Nat) (lower : Bool) (e : Ecc), s.blk.off = false
      ∧ (s.blk.isNode = true ∨ s.blk.bt (R.SZP_CFG k.val) 1 = false)) ∧
    (∃ (s : State) (k : PortIx) (h : FrameHdr) (f : TxFrame) (short : Bool), s.blk.off = false ∧ (s.blk.frameCheck
      k.val h).2 = true ∧ s.blk.sznSt ≠ 0 ∧ (s.blk.bt (R.SZP_CFG k.val) 1 = false ∨ h.dst.val = s.blk.ownEp ∨
      s.blk.isNode = true ∨ s.blk.hubEmpty = true)) ∧
    (∃ (s : State) (q : JoinQ) (qs : List JoinQ), s.blk.off = false ∧ s.blk.szn.joinQ = q :: qs) ∧
    (∃ (s : State), s.blk.off = false ∧ s.blk.szn.joinQ = []) ∧
    (∃ (s : State) (k : PortIx) (ep : Nat) (chan : Nat), s.blk.off = false) ∧
    (∃ (s : State) (ep : Nat) (chan : Nat), s.blk.off = false ∧ ep = s.blk.ownEp) ∧
    (∃ (s : State) (ep : Nat) (chan : Nat), s.blk.off = false ∧ ep ≠ s.blk.ownEp) ∧
    (∃ (s : State), s.blk.off = false ∧ ((∃ m ∈ s.blk.szn.svcq, 64 ≤ m.waited))) ∧
    (∃ (s : State), s.blk.off = false ∧ ((∀ m ∈ s.blk.szn.svcq, m.waited < 64))) ∧
    (∃ (s : State) (snd : Sender) (v : Word), s.takesWrite snd R.SZN_RA_CMD ∧ 1 ≤ fld v 0 4 ∧ fld v 0 4 ≤ 8 ∧
      v.getLsbD 5 = true ∧ s.blk.fl R.SZN_RA_STAT 0 2 ≠ 1) ∧
    (∃ (s : State) (snd : Sender) (v : Word), s.takesWrite snd R.SZN_RA_CMD ∧ ((fld v 0 4 = 0 ∨ 8 < fld v 0 4) ∨
      (v.getLsbD 5 = true ∧ s.blk.fl R.SZN_RA_STAT 0 2 = 1))) ∧
    (∃ (s : State) (tag : Nat) (result : Nat) (reason : Nat) (words : List Word), s.blk.off = false ∧ s.blk.fl
      R.SZN_RA_STAT 0 2 = 1 ∧ tag = s.blk.szn.raTag) ∧
    (∃ (s : State) (tag : Nat) (result : Nat) (reason : Nat) (words : List Word), s.blk.off = false ∧ (s.blk.fl
      R.SZN_RA_STAT 0 2 ≠ 1 ∨ tag ≠ s.blk.szn.raTag)) ∧
    (∃ (s : State), s.blk.off = false ∧ s.blk.fl R.SZN_RA_STAT 0 2 = 1 ∧ 64 ≤ s.blk.szn.raWait) ∧
    (∃ (s : State), s.blk.off = false ∧ (s.blk.fl R.SZN_RA_STAT 0 2 ≠ 1 ∨ s.blk.szn.raWait < 64)) ∧
    (∃ (s : State) (snd : Sender) (v : Word), s.takesWrite snd R.SZN_CAT_REQ ∧ v.getLsbD 3 = true ∧ s.blk.bt
      R.SZN_STAT 3 = true ∧ s.blk.bt R.SZN_STAT 7 = false ∧ fld v 0 3 ≠ s.blk.entry ∧ (s.blk.catEntry (fld v 0
      3)).valid = true) ∧
    (∃ (s : State) (snd : Sender) (v : Word), s.takesWrite snd R.SZN_CAT_REQ ∧ v.getLsbD 3 = true ∧ ((s.blk.bt
      R.SZN_STAT 3 = false ∨ s.blk.bt R.SZN_STAT 7 = true ∨ fld v 0 3 = s.blk.entry) ∨ (s.blk.catEntry (fld v 0
      3)).valid = false)) ∧
    (∃ (s : State) (w : Switch), s.blk.off = false ∧ s.blk.szn.sw = some w ∧ w.count = 1 ∧ w.go = false ∧ w.abort =
      false ∧ s.blk.bt R.SZN_STAT 3 = true ∧ ((∀ e ∈ s.blk.members s.blk.entry, e ∈ w.acked))) ∧
    (∃ (s : State) (w : Switch) (e : Nat), s.blk.off = false ∧ s.blk.szn.sw = some w ∧ w.count = 1 ∧ w.go = false ∧
      w.abort = false ∧ s.blk.bt R.SZN_STAT 3 = true ∧ e ∈ s.blk.members s.blk.entry ∧ e ∉ w.acked ∧ ((∀ d ∈
      s.blk.members s.blk.entry, d ∉ w.acked → e ≤ d))) ∧
    (∃ (s : State) (w : Switch), s.blk.off = false ∧ s.blk.szn.sw = some w ∧ w.count = 1 ∧ w.go = true) ∧
    (∃ (s : State) (w : Switch), s.blk.off = false ∧ s.blk.szn.sw = some w ∧ w.count ≠ 1) :=
  ⟨⟨coord [(R.SZP_STAT 0, 2#32), (R.SZP_STAT 1, 2#32), (R.SZP_CFG 0, 3#32)], 0, hdr,
     frame7 (.cycleStart { deckTime := 0 }), { deckTime := 0 }, 40, false, .none, by decide +kernel⟩,
   ⟨linked 4 [(R.SYS_STRAP, 1#32), (R.SZP_CFG 0, 3#32)] [{ start := 0, len := 50, sender := 7, kind := 2, dst := 9 }]
      (fun b => (routed b).setB (R.PAGE_CTRL (szpPage 1)) 0 true), 0, { hdr with dst := 9 }, frame7 (.feedback []), 40,
      false, .none, [], [1], by decide +kernel⟩,
   ⟨linked 4 [(R.SYS_STRAP, 1#32), (R.SZP_CFG 0, 3#32)] [{ start := 0, len := 50, sender := 7, kind := 2, dst := 9 }]
      (fun b => (routed b).setB (R.PAGE_CTRL (szpPage 1)) 0 true), 0, { hdr with dst := 9 }, frame7 (.feedback []), 40,
      false, [], by decide +kernel⟩,
   ⟨with' [], 0, hdr, frame7 .join, 40, true, .none, by decide +kernel⟩,
   ⟨linked 4 [] [], 0, hdr, frame7 .join, true, by decide +kernel⟩,
   ⟨with' [] (fun b => { b with szn := { b.szn with joinQ := [⟨2, 1, frame7 .join⟩] } }), ⟨2, 1, frame7 .join⟩, [],
      by decide +kernel⟩,
   ⟨with' [], by decide +kernel⟩,
   ⟨coord [(R.SZP_STAT 34, 4#32)], 2, 7, 1, by decide +kernel⟩,
   ⟨linked 4 [] [], 5, 1, by decide +kernel⟩,
   ⟨linked 4 [] [], 7, 1, by decide +kernel⟩,
   ⟨with' []
      (fun b => { b with szn := { b.szn with svcq := [{ typ := 4, waited := 64 }, { typ := 5, waited := 63 }] } }),
      by decide +kernel⟩,
   ⟨with' [] (fun b => { b with szn := { b.szn with svcq := [{ typ := 5, waited := 63 }] } }), by decide +kernel⟩,
   ⟨with' [] (opened R.SZN_RA_CMD), core0, 0x22#32, by decide +kernel⟩,
   ⟨with' [] (opened R.SZN_RA_CMD), core0, 0x20#32, by decide +kernel⟩,
   ⟨with' [(R.SZN_RA_STAT, 1#32)], 0, 1, 5, [9#32], by decide +kernel⟩,
   ⟨with' [(R.SZN_RA_STAT, 1#32)], 1, 1, 5, [9#32], by decide +kernel⟩,
   ⟨with' [(R.SZN_RA_STAT, 1#32)] (fun b => { b with szn := { b.szn with raWait := 64 } }), by decide +kernel⟩,
   ⟨with' [(R.SZN_RA_STAT, 1#32)] (fun b => { b with szn := { b.szn with raWait := 63 } }), by decide +kernel⟩,
   ⟨linked 12 [] [] (opened R.SZN_CAT_REQ), core0, 9#32, by decide +kernel⟩,
   ⟨linked 4 [] [] (opened R.SZN_CAT_REQ), core0, 9#32, by decide +kernel⟩,
   ⟨linked 12 [] [{ start := 0, len := 50, sender := 7, kind := 2, dst := 9 }]
      (fun b => { b with szn := { b.szn with sw := some { target := 1, id := 3, count := 1, acked := [7] } } }),
      { target := 1, id := 3, count := 1, acked := [7] }, by decide +kernel⟩,
   ⟨linked 12 [] [{ start := 0, len := 50, sender := 7, kind := 2, dst := 9 }, { start := 0, len := 50, sender := 6, kind := 2, dst := 9 }, { start := 0, len := 50, sender := 8, kind := 2, dst := 9 }]
      (fun b => { b with szn := { b.szn with sw := some { target := 1, id := 3, count := 1, acked := [6] } } }),
      { target := 1, id := 3, count := 1, acked := [6] }, 7, by decide +kernel⟩,
   ⟨linked 12 [] []
      (fun b => { b with szn := { b.szn with sw := some { target := 1, id := 3, count := 1, go := true } } }),
      { target := 1, id := 3, count := 1, go := true }, by decide +kernel⟩,
   ⟨linked 12 [] [] (fun b => { b with szn := { b.szn with sw := some { target := 1, id := 3, count := 2 } } }),
      { target := 1, id := 3, count := 2 }, by decide +kernel⟩⟩

/-- The hypotheses of each clause of Obligations.CountedFeedback hold together somewhere. -/
theorem meets_CountedFeedback :
    (∃ (s : State) (i : FbIx) (snd : Sender), s.takesWrite snd (R.FBK_CMD i.val)) ∧
    (∃ (s : State) (i : FbIx) (lv : Option Bool) (n : Nat), s.blk.off = false ∧ (s.blk.fbMode i.val ≠ 1 ∨ n ≤ s.blk.fl
      (R.FBK_CFG i.val) 4 4 ∨ lv = some (s.blk.bt (R.FBK_STAT i.val) 6))) ∧
    (∃ (s : State) (i : FbIx) (lv : Option Bool) (n : Nat), s.blk.off = false ∧ s.blk.fbMode i.val = 1 ∧ s.blk.fl
      (R.FBK_CFG i.val) 4 4 < n ∧ lv ≠ some (s.blk.bt (R.FBK_STAT i.val) 6) ∧ (lv = some (s.blk.bt (R.FBK_CFG i.val)
      10) ∨ (s.blk.bt (R.FBK_CFG i.val) 11 = true ∧ (s.blk.bt (R.FBK_STAT i.val) 4 && s.blk.bt (R.FBK_STAT i.val) 5) =
      false))) ∧
    (∃ (s : State) (i : FbIx) (lv : Option Bool) (n : Nat), s.blk.off = false ∧ s.blk.fbMode i.val = 1 ∧ s.blk.fl
      (R.FBK_CFG i.val) 4 4 < n ∧ lv ≠ some (s.blk.bt (R.FBK_STAT i.val) 6) ∧ lv ≠ some (s.blk.bt (R.FBK_CFG i.val)
      10) ∧ (s.blk.bt (R.FBK_CFG i.val) 11 = false ∨ (s.blk.bt (R.FBK_STAT i.val) 4 && s.blk.bt (R.FBK_STAT i.val) 5)
      = true) ∧ (s.blk.homingBy [1, 3]).filter (fun a => s.blk.fbOf a == i.val) = []) ∧
    (∃ (s : State) (i : FbIx) (a : Nat), s.blk.off = false ∧ s.blk.fbMode i.val = 1 ∧ a < 192 ∧ s.blk.bt (R.FBK_STAT
      i.val) 6 = s.blk.bt (R.FBK_CFG i.val) 10 ∧ s.blk.bt (R.FBK_CFG i.val) 11 = false ∧ (s.blk.prf a).method = 3 ∧
      s.blk.psSt a = 7 ∧ (s.blk.prf a).ref = false ∧ (s.blk.homingBy [1, 3]).filter (fun a => s.blk.fbOf a == i.val) =
      [a]) ∧
    (∃ (s : State) (i : FbIx) (snd : Sender) (high : Bool), s.blk.fbMode i.val = 3) ∧
    (∃ (s : State) (i : FbIx) (high : Bool), s.blk.off = false ∧ (s.blk.fbMode i.val ≠ 3 ∨ s.blk.deadline (s.blk.fl
      (R.FBK_SSI_START i.val) 0 12) = false)) ∧
    (∃ (s : State) (i : FbIx) (snd : Sender) (high : Bool), s.takesWrite snd (R.FBK_CMD i.val) ∧ (s.blk.fbMode i.val ≠
      3 ∨ s.blk.bt (R.FBK_STAT i.val) 14 = true)) ∧
    (∃ (s : State) (i : FbIx) (raw : Nat) (trail : Nat) (line : List Bool), s.blk.off = false) ∧
    (∃ (s : State) (i : FbIx) (raw : Nat) (trail : Nat) (line : List Bool), s.blk.off = false ∧ s.blk.fbMode i.val = 3
      ∧ s.blk.bt (R.FBK_STAT i.val) 14 = true ∧ (s.blk.homingBy [5]).filter (fun a => s.blk.fbOf a == i.val) = [] ∧
      (s.blk.fbi i.val).ssiT + 2 * s.blk.fl (R.FBK_SSI_CFG i.val) 12 8 * (1 + s.blk.fl (R.FBK_SSI_CFG i.val) 6 3 +
      s.blk.fl (R.FBK_SSI_CFG i.val) 0 6 + s.blk.fl (R.FBK_SSI_CFG i.val) 9 3) ≤ s.blk.tb.ticks) :=
  ⟨⟨fbk 1 [] (opened (R.FBK_CMD 2)), 2, core0, by decide +kernel⟩,
   ⟨fbk 2 [], 2, none, 16, by decide +kernel⟩,
   ⟨fbk 0x401 [], 2, some true, 16, by decide +kernel⟩,
   ⟨fbk 1 [], 2, none, 16, by decide +kernel⟩,
   ⟨fbk 1 [] (homing 3), 2, 7, by decide +kernel⟩,
   ⟨fbk 3 [(R.TB_STAT, 2#32)] (opened (R.FBK_CMD 2)), 2, core0, true, by decide +kernel⟩,
   ⟨fbk 2 [], 2, true, by decide +kernel⟩,
   ⟨fbk 3 [(R.FBK_STAT 2, 0x4000#32)] (opened (R.FBK_CMD 2)), 2, core0, true, by decide +kernel⟩,
   ⟨fbk 3 [], 2, 5, 0, [], by decide +kernel⟩,
   ⟨fbk 3 [(R.FBK_STAT 2, 0x4000#32), (R.FBK_SSI_CFG 2, 0x61A#32)], 2, 5, 6, [], by decide +kernel⟩⟩

/-- The hypotheses of each clause of Obligations.CompareAndCapture hold together somewhere. -/
theorem meets_CompareAndCapture :
    (∃ (s : State) (i : FbIx) (snd : Sender), s.takesWrite snd (R.FBK_CMD i.val)) ∧
    (∃ (s : State) (n : PwmIx), s.blk.off = false) ∧
    (∃ (s : State) (i : FbIx), s.blk.off = false) ∧
    (∃ (s : State) (i : FbIx) (l : Fin 3) (level : Bool) (n : Nat), s.blk.off = false) ∧
    (∃ (s : State) (n : PwmIx) (level : Bool) (held : Nat), s.blk.off = false ∧ held ≤ s.blk.fl (R.CAP_CFG n.val) 8 4) ∧
    (∃ (s : State) (n : PwmIx) (level : Bool) (held : Nat), s.blk.off = false ∧ s.blk.fl (R.CAP_CFG n.val) 8 4 < held
      ∧ s.blk.switchCars true n.val 0 = [] ∧ (s.blk.homingBy [7]).filter (fun a => s.blk.actF (R.PS_HOME_CFG a) 5 4 ==
      n.val) = []) ∧
    (∃ (s : State) (l : PortIx) (level : Bool) (n : Nat), s.blk.off = false ∧ (n ≤ s.blk.fl R.GPIO_FILT 0 4 ∨
      s.blk.gpioDrive l.val = some (!level))) ∧
    (∃ (s : State) (l : PortIx) (level : Bool) (n : Nat), s.blk.off = false ∧ s.blk.fl R.GPIO_FILT 0 4 < n ∧
      s.blk.gpioDrive l.val ≠ some (!level)) :=
  ⟨⟨fbk 1 [(R.FBK_STAT 2, 0x2180#32)] (opened (R.FBK_CMD 2)), 2, core0, by decide +kernel⟩,
   ⟨with' [(R.CMP_OUT 5, 4#32)] (fun b => { b with pins := { b.pins with pulse := [(4, 3), (5, 2)] } }), 5,
      by decide +kernel⟩,
   ⟨fbk 1 [(R.FBK_SPD_TMO 2, 5#32)] (fun b => { b with tb := { b.tb with ticks := 6 } }), 2, by decide +kernel⟩,
   ⟨fbk 4 [], 2, 1, true, 16, by decide +kernel⟩,
   ⟨with' [], 3, true, 0, by decide +kernel⟩,
   ⟨with' [], 3, true, 16, by decide +kernel⟩,
   ⟨with' [], 9, true, 0, by decide +kernel⟩,
   ⟨with' [], 9, true, 16, by decide +kernel⟩⟩

/-- The hypotheses of each clause of Obligations.PwmChannels hold together somewhere. -/
theorem meets_PwmChannels :
    (∃ (s : State) (p : PwmIx) (snd : Sender) (pd : Bool), s.takesWrite snd (R.PWM_CH_CTRL p.val)) ∧
    (∃ (s : State) (p : PwmIx) (snd : Sender) (pd : Bool), s.takesWrite snd (R.PWM_CH_CTRL p.val)) ∧
    (∃ (s : State) (p : PwmIx) (snd : Sender) (v : Word), s.takesWrite snd (R.PWM_CH_CMP_W p.val)) ∧
    (∃ (s : State) (p : PwmIx) (snd : Sender) (v : Word), s.takesWrite snd (R.PWM_CH_PERIOD p.val)) ∧
    (∃ (s : State) (p : PwmIx), s.blk.off = false ∧ s.blk.ticksToReload p.val = none) ∧
    (∃ (s : State) (p : PwmIx) (n : Nat), s.blk.off = false ∧ s.blk.ticksToReload p.val = some n) ∧
    (∃ (s : State) (p : PwmIx) (l : Fin 3) (high : Bool) (sn : Option Nat), s.blk.off = false ∧ (8 ≤ p.val ∨
      s.blk.running p.val = false ∨ s.blk.bt (R.PWM_CH_STAT p.val) 3 = false ∨ s.blk.legUsed p.val l.val = false ∨
      s.blk.hasEdge p.val l.val high = false)) ∧
    (∃ (s : State) (p : PwmIx) (l : Fin 3) (high : Bool) (sn : Option Nat), s.blk.off = false ∧ p.val < 8 ∧
      s.blk.running p.val = true ∧ s.blk.bt (R.PWM_CH_STAT p.val) 3 = true ∧ s.blk.legUsed p.val l.val = true ∧
      s.blk.hasEdge p.val l.val high = true) ∧
    (∃ (s : State) (snd : Sender) (ad : Bool), s.takesWrite snd R.PWM_COM_CFG) ∧
    (∃ (s : State) (core : Option (Fin 8)), s.blk.off = false ∧ (s.blk.bt R.DBG_AUTH_STAT 0 = false ∨ s.blk.bt
      R.DBG_AUTH_STAT (if core.isSome = true then 2 else 1) = false)) ∧
    (∃ (s : State) (h : Fin 8), s.blk.off = false ∧ s.blk.bt R.DBG_AUTH_STAT 0 = true ∧ s.blk.bt R.DBG_AUTH_STAT 2 =
      true) ∧
    (∃ (s : State) (h : Fin 8), s.blk.off = false) ∧
    (∃ (s : State), s.blk.off = false ∧ s.blk.bt R.DBG_AUTH_STAT 0 = true ∧ s.blk.bt R.DBG_AUTH_STAT 1 = true) ∧
    (∃ (s : State), s.blk.off = false ∧ s.blk.bt R.PWM_COM_STAT 17 = false) ∧
    (∃ (s : State), s.blk.off = false ∧ s.blk.bt R.PWM_COM_STAT 17 = true) :=
  ⟨⟨with' [] (opened (R.PWM_CH_CTRL 3)), 3, core0, false, by decide +kernel⟩,
   ⟨pwm3 [] (opened (R.PWM_CH_CTRL 3)), 3, core0, false, by decide +kernel⟩,
   ⟨with' [] (opened (R.PWM_CH_CMP_W 3)), 3, core0, 0x123456#32, by decide +kernel⟩,
   ⟨with' [] (opened (R.PWM_CH_PERIOD 3)), 3, core0, 2000#32, by decide +kernel⟩,
   ⟨with' [], 3, by decide +kernel⟩,
   ⟨pwm3 [(R.PWM_CH_PERIOD_ACT 3, 1200#32)], 3, 300, by decide +kernel⟩,
   ⟨with' [], 3, 0, true, some 5, by decide +kernel⟩,
   ⟨pwm3 [(R.PWM_CH_CMP_ACT_U 3, 700#32)], 3, 0, true, none, by decide +kernel⟩,
   ⟨pwm3 [] (opened R.PWM_COM_CFG), core0, true, by decide +kernel⟩,
   ⟨pwm3 [], none, by decide +kernel⟩,
   ⟨pwm3 [(R.DBG_AUTH_STAT, 5#32)], 2, by decide +kernel⟩,
   ⟨with' [] (fun b => { b with sec := { b.sec with halted := [2] } }), 2, by decide +kernel⟩,
   ⟨pwm3 [(R.DBG_AUTH_STAT, 3#32)], by decide +kernel⟩,
   ⟨pwm3 [], by decide +kernel⟩,
   ⟨pwm3 [(R.PWM_COM_STAT, 0x20008#32), (R.PWM_CH_STAT 3, 0x19#32)], by decide +kernel⟩⟩

/-- The hypotheses of each clause of Obligations.CurrentSensing hold together somewhere. -/
theorem meets_CurrentSensing :
    (∃ (s : State) (p : PwmIx) (u : List Bool) (v : List Bool) (w : List Bool), s.blk.off = false ∧ (s.blk.running
      p.val = false ∨ (s.blk.frozen p.val = true ∧ s.blk.sdmEn p.val = false) ∨ (s.blk.frozen p.val = false ∧
      s.blk.ticksToSe p.val = none))) ∧
    (∃ (s : State) (p : PwmIx) (u : List Bool) (v : List Bool) (w : List Bool) (m : Nat), s.blk.off = false ∧
      s.blk.running p.val = true ∧ (if s.blk.frozen p.val = true then some 0 else s.blk.ticksToSe p.val) = some m ∧
      s.blk.sdmEn p.val = true ∧ s.blk.pageEn sdmPage = true ∧ s.blk.fl (R.PWM_CH_SDM p.val) 0 6 ≤ 45) ∧
    (∃ (s : State) (p : PwmIx) (wait : Fin 25), s.blk.off = false ∧ ((∀ c ∈ s.blk.loopCars p.val, (s.blk.lp c).place =
      0 ∨ (s.blk.lp c).armed = true))) ∧
    (∃ (s : State) (p : PwmIx) (wait : Fin 25) (c : Nat), s.blk.off = false ∧ (s.blk.loopCars p.val).find? (fun c =>
      (s.blk.lp c).place != 0 && !(s.blk.lp c).armed) = some c ∧ (s.blk.lp c).missed = false) ∧
    (∃ (s : State) (p : PwmIx) (wait : Fin 25) (c : Nat), s.blk.off = false ∧ (s.blk.loopCars p.val).find? (fun c =>
      (s.blk.lp c).place != 0 && !(s.blk.lp c).armed) = some c ∧ (s.blk.lp c).missed = true) ∧
    (∃ (s : State) (i : Fin 48) (ones : Nat), s.blk.off = false) ∧
    (∃ (s : State) (j : Fin 8) (snd : Sender) (v : Word), s.takesWrite snd (R.SDM_CLK j.val)) :=
  ⟨⟨with' [], 3, [], [], [], by decide +kernel⟩,
   ⟨pwm3 [(R.PWM_CH_SDM 3, 0x106#32), (R.PWM_CH_SE 3, 1000#32)] (enPage sdmPage), 3, [true, false, true], [],
      [false, true], 100, by decide +kernel⟩,
   ⟨pwm3 [], 3, 4, by decide +kernel⟩,
   ⟨pwm3 [] (loop7 { place := 1 }), 3, 4, 7, by decide +kernel⟩,
   ⟨pwm3 [] (loop7 { place := 1, missed := true }), 3, 4, 7, by decide +kernel⟩,
   ⟨with' [], 20, 5, by decide +kernel⟩,
   ⟨with' [] (opened (R.SDM_CLK 2)), 2, core0, 0x10A#32, by decide +kernel⟩⟩

/-- The hypotheses of each clause of Obligations.VesselMotion hold together somewhere. -/
theorem meets_VesselMotion :
    (∃ (s : State) (snd : Sender) (v : Word), s.takesWrite snd R.VMF_NAV_T_HI) ∧
    (∃ (s : State) (snd : Sender) (v : Word), s.takesWrite snd R.VMF_CTRL ∧ v.getLsbD 3 = false) ∧
    (∃ (s : State) (snd : Sender) (v : Word), s.takesWrite snd R.VMF_CTRL) ∧
    (∃ (s : State) (snd : Sender) (v : Word), s.takesWrite snd R.VMF_CTRL) ∧
    (∃ (s : State) (snd : Sender) (v : Word), s.takesWrite snd R.VMF_PRED_T_HI) ∧
    (∃ (s : State) (m : PathIx) (snd : Sender) (v : Word), s.takesWrite snd (R.VMF_MFRAME m.val)) ∧
    (∃ (s : State), s.blk.off = false ∧ s.blk.vmf.busy = none) ∧
    (∃ (s : State) (u : Nat), s.blk.off = false ∧ s.blk.vmf.busy = some u) ∧
    (∃ (s : State), s.blk.off = false ∧ s.blk.vmf.fitBusy = false) ∧
    (∃ (s : State), s.blk.off = false ∧ s.blk.vmf.fitBusy = true) ∧
    (∃ (s : State), s.blk.off = false ∧ s.blk.bt R.VMF_PRED_STAT 0 = false) ∧
    (∃ (s : State), s.blk.off = false ∧ s.blk.bt R.VMF_PRED_STAT 0 = true) :=
  ⟨⟨coord [] (opened R.VMF_NAV_T_HI), core0, 5#32, by decide +kernel⟩,
   ⟨coord [] (opened R.VMF_CTRL), core0, 1#32, by decide +kernel⟩,
   ⟨coord [(R.VMF_CTRL, 1#32)] (opened R.VMF_CTRL), core0, 4#32, by decide +kernel⟩,
   ⟨coord [(R.VMF_CTRL, 1#32), (R.VMF_STAT, 10#32)] (opened R.VMF_CTRL), core0, 1#32, by decide +kernel⟩,
   ⟨coord [] (opened R.VMF_PRED_T_HI), core0, 1#32, by decide +kernel⟩,
   ⟨coord [] (opened (R.VMF_MFRAME 3)), 3, core0, 0#32, by decide +kernel⟩,
   ⟨coord [], by decide +kernel⟩,
   ⟨coord [] (fun b => { b with vmf := { b.vmf with busy := some 64 } }), 64, by decide +kernel⟩,
   ⟨coord [], by decide +kernel⟩,
   ⟨coord [] (fun b => { b with vmf := { b.vmf with fitBusy := true } }), by decide +kernel⟩,
   ⟨coord [], by decide +kernel⟩,
   ⟨coord [(R.VMF_PRED_STAT, 1#32)] (fun b => { b with vmf := { b.vmf with predT := 77, predClamp := true } }),
      by decide +kernel⟩⟩

/-- The hypotheses of each clause of Obligations.SolverPasses hold together somewhere. -/
theorem meets_SolverPasses :
    (∃ (s : State) (clk : Nat), s.blk.off = false ∧ s.blk.solv.fk = none) ∧
    (∃ (s : State) (clk : Nat) (n : Nat), s.blk.off = false ∧ s.blk.solv.fk = some n) ∧
    (∃ (s : State) (clk : Nat), s.blk.off = false ∧ (s.blk.solv.ikRun = none ∨ s.blk.solv.fk ≠ none)) ∧
    (∃ (s : State) (clk : Nat) (n : Nat), s.blk.off = false ∧ s.blk.solv.ikRun = some n ∧ s.blk.solv.fk = none) ∧
    (∃ (s : State) (clk : Nat), s.blk.off = false ∧ (s.blk.solv.taRun = none ∨ s.blk.bt R.SOLV_STAT 2 = false)) ∧
    (∃ (s : State) (clk : Nat) (n : Nat), s.blk.off = false ∧ s.blk.solv.taRun = some n ∧ s.blk.bt R.SOLV_STAT 2 =
      true) ∧
    (∃ (s : State) (snd : Sender) (v : Word), s.takesWrite snd R.TA_COMMIT) ∧
    (∃ (s : State) (m : PathIx) (snd : Sender) (v : Word), s.takesWrite snd (R.SOLV_M_VAR m.val)) ∧
    (∃ (s : State) (snd : Sender) (v : Word), s.takesWrite snd R.SOLV_DPJ_SUBMIT) ∧
    (∃ (s : State) (reason : Fin 6) (its : Nat) (pivot : Bool) (out : List Byte), s.blk.off = false) ∧
    (∃ (s : State) (k : Fin 3) (m : PathIx), s.blk.off = false) :=
  ⟨⟨coord [], 100, by decide +kernel⟩,
   ⟨coord [] (fun b => { b with solv := { b.solv with fk := some 8 } }), 100, 8, by decide +kernel⟩,
   ⟨coord [], 100, by decide +kernel⟩,
   ⟨coord [] (fun b => { b with solv := { b.solv with ikRun := some 8 } }), 100, 8, by decide +kernel⟩,
   ⟨coord [], 100, by decide +kernel⟩,
   ⟨coord [(R.SOLV_STAT, 4#32)] (fun b => { b with solv := { b.solv with taRun := some 8 } }), 100, 8,
      by decide +kernel⟩,
   ⟨coord [] (opened R.TA_COMMIT), core0, 1#32, by decide +kernel⟩,
   ⟨coord [] (opened (R.SOLV_M_VAR 3)), 3, core0, 0#32, by decide +kernel⟩,
   ⟨coord [(R.SOLV_CTRL, 4#32)] (opened R.SOLV_DPJ_SUBMIT), core0, 0x60000#32, by decide +kernel⟩,
   ⟨coord [], 0, 5, true, [], by decide +kernel⟩,
   ⟨coord [], 0, 3, by decide +kernel⟩⟩

/-- The hypotheses of each clause of Obligations.SeparationMonitor hold together somewhere. -/
theorem meets_SeparationMonitor :
    (∃ (s : State) (clk : Nat) (n : Nat), s.blk.off = false ∧ s.blk.ssmA.busy = some n) ∧
    (∃ (s : State) (clk : Nat) (n : Nat) (e : Fin 3), s.blk.off = false ∧ s.blk.ssmA.busy = some n ∧ e ≠ 2 ∧ ((∀ m ∈
      s.blk.cfg.safe.ssm.machs, m < 16))) ∧
    (∃ (s : State) (clk : Nat) (n : Nat), s.isl.ssmB.busy = some n) ∧
    (∃ (s : State) (clk : Nat) (n : Nat) (e : Fin 3), s.isl.ssmB.busy = some n ∧ e ≠ 2) ∧
    (∃ (s : State) (u : Fin 8), (s.blk.held = true ∨ s.blk.bt R.SSM_STAT 0 = false ∨ (s.blk.cfg.safe.ssm.units.find?
      (fun k => k.1 == u.val)) = none)) ∧
    (∃ (s : State) (u : Fin 8) (w : Nat) (k : SUnit), s.blk.off = false ∧ s.blk.bt R.SSM_STAT 0 = true ∧
      s.blk.cfg.safe.ssm.units.find? (fun k => k.1 == u.val) = some (w, k)) :=
  ⟨⟨coord [] (fun b => { b with ssmA := { b.ssmA with busy := some 8 } }), 100, 8, by decide +kernel⟩,
   ⟨coord [] (fun b => { b with ssmA := { b.ssmA with busy := some 8 } }), 100, 8, 1, by decide +kernel⟩,
   ⟨isle 1 (coord []) (fun i => { i with ssmB := { i.ssmB with busy := some 8 } }), 100, 8, by decide +kernel⟩,
   ⟨isle 1 (coord []) (fun i => { i with ssmB := { i.ssmB with busy := some 8 } }), 100, 8, 0, by decide +kernel⟩,
   ⟨with' [], 1, by decide +kernel⟩,
   ⟨coord [(R.SSM_STAT, 1#32)] withScene, 1, 1, { ep := 40, loss := 2, machs := 4, tmo := 100 }, by decide +kernel⟩⟩

/-- The hypotheses of each clause of Obligations.IslandStates hold together somewhere. -/
theorem meets_IslandStates :
    (∃ (s : State), s.isl.held = false) ∧
    (∃ (s : State) (k : Fin 11), s.isl.held = true) ∧
    (∃ (s : State), s.isl.alive = false) ∧
    (∃ (s : State) (g : Fin 8) (ch : Fin 2), s.isl.alive = true) ∧
    (∃ (s : State) (p : Bool), (s.isl.held = true ∨ s.isl.st ≠ 0)) ∧
    (∃ (s : State), s.isl.held = false ∧ s.isl.st = 0) ∧
    (∃ (s : State) (skew : Nat) (lo : Nat) (hi : Nat) (fault : Bool), (s.isl.held = true ∨ s.isl.st ≠ 3)) ∧
    (∃ (s : State) (skew : Nat) (lo : Nat) (hi : Nat) (fault : Bool), s.isl.held = false ∧ s.isl.st = 3) ∧
    (∃ (s : State), s.isl.held = false) ∧
    (∃ (s : State), s.isl.held = true) :=
  ⟨⟨isle 2 (with' []), by decide +kernel⟩,
   ⟨isle 0 (with' []) (fun _ => { held := true }), 4, by decide +kernel⟩,
   ⟨isle 3 (with' []), by decide +kernel⟩,
   ⟨isle 1 (with' []), 2, 1, by decide +kernel⟩,
   ⟨isle 1 (with' []), true, by decide +kernel⟩,
   ⟨with' [], by decide +kernel⟩,
   ⟨isle 1 (with' []), 0, 250000, 3000000, false, by decide +kernel⟩,
   ⟨isle 3 (with' []), 50000, 250000, 3000000, false, by decide +kernel⟩,
   ⟨isle 3 (with' []), by decide +kernel⟩,
   ⟨isle 0 (coord [(R.SYS_BOOT_STAT, 0x40#32)]) (fun _ => { held := true }), by decide +kernel⟩⟩

/-- The hypotheses of each clause of Obligations.SafeInputs hold together somewhere. -/
theorem meets_SafeInputs :
    (∃ (s : State) (n : PwmIx) (chB : Bool) (level : Bool), s.isl.held = true) ∧
    (∃ (s : State) (n : PwmIx) (chB : Bool) (level : Bool), s.isl.held = false) ∧
    (∃ (s : State) (n : PwmIx), (s.isl.held = true ∨ s.isl.demA n.val = s.isl.demB n.val)) ∧
    (∃ (s : State) (n : PwmIx), s.isl.held = false ∧ s.isl.demA n.val ≠ s.isl.demB n.val) ∧
    (∃ (s : State) (k : MbxIx) (w : Nat) (c : ConnCfg), s.isl.cfg.conns.find? (fun c => c.1 == k.val) = some (w, c)) ∧
    (∃ (s : State) (k : MbxIx), s.isl.cfg.conns.find? (fun c => c.1 == k.val) = none) ∧
    (∃ (s : State) (f : FbIx), (s.blk.off = true ∨ s.blk.role ≠ 0 ∨ s.blk.deadline (s.blk.nodeLatchTick f.val) =
      false)) ∧
    (∃ (s : State) (f : FbIx), s.blk.off = false ∧ s.blk.role = 0 ∧ s.blk.deadline (s.blk.nodeLatchTick f.val) = true) ∧
    (∃ (s : State) (f : FbIx), s.blk.off = false ∧ s.blk.role = 0 ∧ s.blk.deadline s.blk.tick = true ∧
      s.blk.nodeLatchTick f.val = s.blk.tick ∧ (s.isl.alive = false ∨ (∀ j ∈ s.isl.axIds, (s.isl.axc j).fbA ≠ f.val))) ∧
    (∃ (s : State) (f : FbIx) (j : Nat), s.blk.off = false ∧ s.blk.role = 0 ∧ s.blk.deadline (s.blk.nodeLatchTick
      f.val) = true ∧ s.isl.held = false ∧ s.isl.st = 2 ∧ s.isl.axIds.filter (fun j => (s.isl.axc j).fbA == f.val) =
      [j]) :=
  ⟨⟨isle 0 (with' []) (fun _ => { held := true }), 3, true, true, by decide +kernel⟩,
   ⟨with' [], 3, false, true, by decide +kernel⟩,
   ⟨with' [], 3, by decide +kernel⟩,
   ⟨isle 2 (with' []) (fun i => i.setB R.SAFE_SIN_A 3 true), 3, by decide +kernel⟩,
   ⟨isle 2 (with' []) (fun i => { i with cfg := { i.cfg with conns := [(3, { src := 7, kind := 2 })] } }), 3, 3,
      { src := 7, kind := 2 }, by decide +kernel⟩,
   ⟨with' [], 3, by decide +kernel⟩,
   ⟨coord [], 3, by decide +kernel⟩,
   ⟨isle 2 (with' [(R.TB_STAT, 2#32)]) axes2, 5, by decide +kernel⟩,
   ⟨isle 2 (with' [(R.TB_STAT, 2#32), (R.FBK_LATCH_TICK 5, 0#32)]) axes2, 5, by decide +kernel⟩,
   ⟨isle 2 (with' [(R.TB_STAT, 2#32)]) axes2, 2, 0, by decide +kernel⟩⟩

/-- The hypotheses of each clause of Obligations.SafeRequests hold together somewhere. -/
theorem meets_SafeRequests :
    (∃ (s : State) (kfb : Fin 16) (p : (Fin 3 → Instr) × Nat), (p ∈ ([(fun o => .safeRelease o kfb, 1),
      (.safeStopRequest, 2), (.safeSlsSet, 3), (.safeSlsClear, 4), (.safeClearEvents, 5)] : List ((Fin 3 → Instr) ×
      Nat)))) ∧
    (∃ (s : State) (kfb : Fin 16), requestIn s.blk s.isl = true ∧ reqWord s.blk s.isl 0 % 256 = 1) ∧
    (∃ (s : State), requestIn s.blk s.isl = true ∧ reqWord s.blk s.isl 0 % 256 = 2) ∧
    (∃ (s : State), requestIn s.blk s.isl = true) ∧
    (∃ (s : State), requestIn s.blk s.isl = true ∧ reqWord s.blk s.isl 0 % 256 = 3 ∧ 3 < reqWord s.blk s.isl 2) ∧
    (∃ (s : State), requestIn s.blk s.isl = true ∧ reqWord s.blk s.isl 0 % 256 = 5) :=
  ⟨⟨isle 2 (asked 1#32 2#32 0#32) axes2, 0, (fun o => .safeRelease o 0, 1), by decide +kernel⟩,
   ⟨isle 1 (asked 1#32 2#32 0#32) axes2, 0, by decide +kernel⟩,
   ⟨isle 2 (asked 2#32 1#32 1#32) axes2, by decide +kernel⟩,
   ⟨isle 2 (asked 3#32 1#32 1#32) axes2, by decide +kernel⟩,
   ⟨isle 2 (asked 3#32 9#32 4#32) decider, by decide +kernel⟩,
   ⟨isle 2 (asked 5#32 9#32 4#32) (fun i => decider ((i.evt 0).evt 1)), by decide +kernel⟩⟩

/-- The hypotheses of each clause of Obligations.SlotFrames hold together somewhere. -/
theorem meets_SlotFrames :
    (∃ (s : State) (j : Fin 65) (imus : List ImuItem) (tgts : List TgtItem) (ld : LoadBody) (x : Slot), s.blk.off =
      false ∧ j.val < 64 ∧ s.blk.slots[j.val]? = some x ∧ x.sender = s.blk.ownEp ∧ s.blk.tick = x.start ∧
      s.blk.mayUseSlots = true ∧ (let ports := (s.blk.slotPorts x.dst).filter s.blk.onChannel; ports ≠ []) ∧
      (let ports := (s.blk.slotPorts x.dst).filter s.blk.onChannel; (∀ p ∈ ports, p < 64))) ∧
    (∃ (s : State) (j : Fin 65) (imus : List ImuItem) (tgts : List TgtItem) (ld : LoadBody) (x : Slot), s.blk.off =
      false ∧ j.val < 64 ∧ s.blk.slots[j.val]? = some x ∧ x.kind = 8 ∧ s.blk.isCoord = true ∧ s.blk.redSt = 1 ∧
      s.blk.tick = x.start ∧ s.blk.mayUseSlots = true ∧
      (let ports := (s.blk.upPorts.filter s.blk.twinPort).filter s.blk.onChannel; ports ≠ [])) ∧
    (∃ (s : State) (imus : List ImuItem) (tgts : List TgtItem) (ld : LoadBody) (m : SvcMsg), s.blk.off = false ∧
      s.blk.sznSt ≠ 0 ∧ s.blk.sznSt ≠ 6 ∧ (s.blk.catEntry s.blk.entry).joinStart ≤ s.blk.tick ∧ s.blk.szn.svcq.find?
      (fun m => decide (4 + svcLen m ≤ 76)) = some m ∧ s.blk.joinPorts m.dst ≠ [] ∧ ((∀ p ∈ s.blk.joinPorts m.dst, p <
      64))) :=
  ⟨⟨linked 4 [(R.SZN_STAT, 0x304#32)] [{ start := 0, len := 50, sender := 5, kind := 2, dst := 9, items := [.carrel 7], allow := 20 }],
     0, [], [], { img := 0, chunk := 0, length := 0 },
     { start := 0, len := 50, sender := 5, kind := 2, dst := 9, items := [.carrel 7], allow := 20 }, by decide +kernel⟩,
   ⟨redun 1 [(R.SZP_CFG 1, 4#32)] id [{ start := 0, len := 50, sender := 192, kind := 8, dst := 193 }], 0, [], [],
      { img := 0, chunk := 0, length := 0 }, { start := 0, len := 50, sender := 192, kind := 8, dst := 193 },
      by decide +kernel⟩,
   ⟨linked 4 [] [] (fun b => { b with szn := { b.szn with svcq := [{ typ := 0x03, body := [1, 2] }] } }), [], [],
      { img := 0, chunk := 0, length := 0 }, { typ := 0x03, body := [1, 2] }, by decide +kernel⟩⟩

/-- The hypotheses of each clause of Obligations.TwinLink hold together somewhere. -/
theorem meets_TwinLink :
    (∃ (s : State) (k : PortIx) (h : FrameHdr) (b : TwinBody), s.blk.off = false ∧ s.blk.twinPort k.val = false) ∧
    (∃ (s : State) (k : PortIx) (h : FrameHdr) (b : TwinBody), s.blk.off = false ∧ s.blk.twinPort k.val = true ∧
      (s.blk.frameCheck k.val h).2 = true ∧ s.blk.forMe h = true ∧ s.blk.bt R.TB_STAT 1 = true ∧ s.blk.bt (R.SZP_CFG
      k.val) 1 = false ∧ s.blk.cycAge h = 0 ∧ ((∀ x ∈ s.blk.szn.copies, x.kind = 8 → x.src = h.src.val → x.dst ≠
      h.dst.val)) ∧ s.blk.redSt ≠ 1 ∧ h.src.val = s.blk.peerEp) ∧
    (∃ (s : State) (snd : Sender), s.takesWrite snd R.RED_TW_GO) ∧
    (∃ (s : State) (src : Fin 4096), s.blk.off = false) ∧
    (∃ (s : State) (snd : Sender) (v : Word), s.takesWrite snd R.RED_CTRL) ∧
    (∃ (s : State), s.blk.off = false) :=
  ⟨⟨redun 2 [], 1, fromPeer, {}, by decide +kernel⟩,
   ⟨redun 2 [(R.SZP_CFG 1, 4#32)], 1, fromPeer, { handover := true }, by decide +kernel⟩,
   ⟨redun 1 [] (opened R.RED_TW_GO), core0, by decide +kernel⟩,
   ⟨redun 1 [], 193, by decide +kernel⟩,
   ⟨redun 3 [] (opened R.RED_CTRL), core0, 4#32, by decide +kernel⟩,
   ⟨redun 3 [(R.SZP_CFG 1, 4#32)] (fun b => { b with red := { b.red with reqCnt := 64 } }), by decide +kernel⟩⟩

/-- The hypotheses of each clause of Obligations.TakeOverAndHandOver hold together somewhere. -/
theorem meets_TakeOverAndHandOver :
    (∃ (s : State), s.blk.off = false ∧ s.blk.tick = 200) ∧
    (∃ (b : Block), b.red.hoArm = true ∧ b.red.hoRx = false ∧ b.red.hoWait = 0) ∧
    (∃ (s : State) (snd : Sender), s.takesWrite snd R.RED_CTRL ∧ s.blk.isNode = false) ∧
    (∃ (s : State) (src : Fin 4096), s.blk.off = false) ∧
    (∃ (s : State), s.blk.off = false) ∧
    (∃ (s : State) (src : Fin 4096) (n : Nat), s.blk.off = false) ∧
    (∃ (s : State), s.blk.off = false) :=
  ⟨⟨redun 2 [] (fun b => { b with tb := { b.tb with dt := 1000 } }), by decide +kernel⟩,
   ⟨(redun 1 [] (fun b => b.modRed (fun r => { r with hoArm := true }))).blk, by decide +kernel⟩,
   ⟨redun 1 [] (opened R.RED_CTRL), core0, by decide +kernel⟩,
   ⟨redun 1 [], 7, by decide +kernel⟩,
   ⟨redun 1 [], by decide +kernel⟩,
   ⟨redun 1 [], 7, 70000, by decide +kernel⟩,
   ⟨with' [(R.RED_DISC_CNT, 5#32)], by decide +kernel⟩⟩

/-- The hypotheses of each clause of Obligations.ClaimOrder hold together somewhere. -/
theorem meets_ClaimOrder :
    (∃ (a : Nat) (b : Nat), a < 2 ^ 16 ∧ b < 2 ^ 16) :=
  ⟨0x0040, 0x0021, by decide +kernel⟩

/-- The hypotheses of each clause of Obligations.SpectralJobs hold together somewhere. -/
theorem meets_SpectralJobs :
    (∃ (s : State) (w : WingIx) (snd : Sender) (v : Word), s.takesWrite snd (R.DSP_SUBMIT w.val)) ∧
    (∃ (s : State) (w : WingIx), (s.blk.dspSt w.val ≠ 0 ∨ s.blk.bt (R.DSP_CTRL w.val) 0 = false ∨ s.blk.pageEn
      (dspPage w.val) = false ∨ s.blk.domState w.val ≠ 0 ∨ ((s.blk.dspAt w.val).vmfJobs = 0 ∧ (s.blk.dspAt w.val).jobs
      = []))) ∧
    (∃ (s : State) (w : WingIx), s.blk.off = false ∧ s.blk.dspSt w.val = 0 ∧ s.blk.bt (R.DSP_CTRL w.val) 0 = true ∧
      s.blk.pageEn (dspPage w.val) = true ∧ s.blk.domState w.val = 0) ∧
    (∃ (s : State) (w : WingIx) (clk : Nat) (ecc : Bool), s.blk.dspSt w.val ≠ 1) ∧
    (∃ (s : State) (w : WingIx) (clk : Nat), s.blk.off = false ∧ s.blk.dspSt w.val = 1) ∧
    (∃ (s : State), s.blk.off = false) ∧
    (∃ (s : State) (w : WingIx) (snd : Sender) (v : Word) (n : Nat), s.takesWrite snd (R.DSP_CMD w.val)) ∧
    (∃ (s : State) (w : WingIx) (n : Nat), s.blk.off = false) :=
  ⟨⟨spectral 0 [] (opened (R.DSP_SUBMIT 1)), 1, core0, 0x100#32, by decide +kernel⟩,
   ⟨spectral 1 [], 1, by decide +kernel⟩,
   ⟨spectral 0 [], 1, by decide +kernel⟩,
   ⟨spectral 0 [], 1, 5, false, by decide +kernel⟩,
   ⟨spectral 1 [], 1, 5, by decide +kernel⟩,
   ⟨coord [], by decide +kernel⟩,
   ⟨spectral 1 [] (opened (R.DSP_CMD 1)), 1, core0, 1#32, 1, by decide +kernel⟩,
   ⟨spectral 1 [], 1, 1, by decide +kernel⟩⟩

/-- The hypotheses of each clause of Obligations.SpectralAborts hold together somewhere. -/
theorem meets_SpectralAborts :
    (∃ (s : State) (w : WingIx) (snd : Sender) (v : Word) (n : Nat), s.takesWrite snd (R.DSP_CMD w.val) ∧ fld v 0 4 =
      8) :=
  ⟨spectral 1 [] (opened (R.DSP_CMD 1)), 1, core0, 8#32, 1, by decide +kernel⟩

/-- The hypotheses of each clause of Obligations.FirKernel hold together somewhere. -/
theorem meets_FirKernel :
    (∃ (s : State) (w : WingIx) (clk : Nat), s.blk.off = false ∧ s.blk.dspSt w.val = 1 ∧ s.blk.dspVmf w.val = false ∧
      (s.blk.dspAt w.val).done = 0 ∧ (let a := dspAddr w.val (s.blk.dspJob w.val); let d := dspDesc s.mem a; d.kind =
      2) ∧ (let a := dspAddr w.val (s.blk.dspJob w.val); let d := dspDesc s.mem a; dspReason w.val d = 0) ∧
      (let a := dspAddr w.val (s.blk.dspJob w.val); let d := dspDesc s.mem a; a + 8 ≤ d.out ∨ d.out + outLen d ≤ a +
      4)) :=
  ⟨spectral 1 [], 1, 5, by decide +kernel⟩

/-- The hypotheses of each clause of Obligations.CanTraffic hold together somewhere. -/
theorem meets_CanTraffic :
    (∃ (s : State) (i : CanIx) (f : CanFrame) (ago : Nat), (s.blk.canMode i.val = 0 ∨ s.blk.canFc i.val = 2 ∨
      s.blk.pageEn (canPage i.val) = false)) ∧
    (∃ (s : State) (i : CanIx) (f : CanFrame) (ago : Nat) (n : Option Nat), s.blk.off = false ∧ s.blk.canMode i.val ≠
      0 ∧ s.blk.canFc i.val ≠ 2 ∧ s.blk.pageEn (canPage i.val) = true ∧ s.blk.rec_ i.val = 0 ∧ (s.blk.canAt
      i.val).initPend = false ∧ s.blk.canChosen i.val f n) ∧
    (∃ (s : State) (i : CanIx) (f : CanFrame) (ago : Nat), s.blk.off = false ∧ s.blk.canMode i.val = 1 ∧ s.blk.canFc
      i.val = 0 ∧ s.blk.pageEn (canPage i.val) = true ∧ 0 < s.blk.rec_ i.val ∧ s.blk.rec_ i.val ≤ 127 ∧ s.blk.tec
      i.val ≤ 127) ∧
    (∃ (s : State) (i : CanIx) (snd : Sender) (v : Word), s.takesWrite snd (R.CAN_RXF_POP i.val)) ∧
    (∃ (s : State) (i : CanIx) (snd : Sender), s.takesRead snd (R.CAN_HP_ID i.val)) ∧
    (∃ (s : State) (i : CanIx) (snd : Sender) (v : Word), v.getLsbD 0 = true) ∧
    (∃ (s : State) (i : CanIx), s.blk.off = false) ∧
    (∃ (s : State) (i : CanIx) (up : Bool) (d : Option Nat) (o : Fin 3), (s.blk.canAt i.val).onBus = none) ∧
    (∃ (s : State) (i : CanIx) (up : Bool) (direct : Bool), s.blk.off = false ∧ (s.blk.canAt i.val).onBus = some
      direct ∧ (s.blk.canAt i.val).initPend = false) :=
  ⟨⟨canWith 0 [], 2, frameC, 100, by decide +kernel⟩,
   ⟨canWith 0x11 [], 2, frameC, 100, none,
      by refine ⟨rfl, by decide +kernel, by decide +kernel, by decide +kernel, by decide +kernel, by decide +kernel, ?_⟩; show ∀ m,
      m < 64 → _; decide +kernel⟩,
   ⟨canWith 0x11 [(R.CAN_ECNT 2, 0x503#32)], 2, frameC, 100, by decide +kernel⟩,
   ⟨canWith 0x11 [] {} (opened (R.CAN_RXF_POP 2)), 2, core0, 1#32, by decide +kernel⟩,
   ⟨canWith 0x11 [] { hp := { id := 3, ctl := 9, data := [1, 2] } }, 2, core0, by decide +kernel⟩,
   ⟨canWith 0x11 [] {} (fun b => opened (R.CAN_TXF_PUSH 2) b), 2, core0, 1#32, by decide +kernel⟩,
   ⟨canWith 0x11 [], 2, by decide +kernel⟩,
   ⟨canWith 0x11 [], 2, true, none, 1, by decide +kernel⟩,
   ⟨canWith 0x11 [] { txf := [{ id := 3 }, { id := 4 }], onBus := some false }, 2, true, false, by decide +kernel⟩⟩

/-- The hypotheses of each clause of Obligations.CanAborts hold together somewhere. -/
theorem meets_CanAborts :
    (∃ (s : State) (i : CanIx) (snd : Sender) (v : Word), s.takesWrite snd (R.CAN_TXCMD i.val)) ∧
    (∃ (s : State) (i : CanIx) (up : Bool) (o : Fin 3) (direct : Bool), s.blk.off = false ∧ (s.blk.canAt i.val).onBus
      = some direct ∧ (s.blk.canAt i.val).initPend = false ∧ s.blk.canFc i.val ≠ 2 ∧ (let x := s.blk.canAt i.val; (if
      direct = true then x.abortD else x.abortF) = true)) ∧
    (∃ (s : State) (i : CanIx) (up : Bool) (o : Fin 3) (direct : Bool), s.blk.off = false ∧ (s.blk.canAt i.val).onBus
      = some direct ∧ (s.blk.canAt i.val).initPend = false) :=
  ⟨⟨canWith 0x11 [] { txf := [{ id := 3 }, { id := 4 }], onBus := some false, txd := some {} } (opened (R.CAN_TXCMD 2)),
     2, core0, 3#32, by decide +kernel⟩,
   ⟨canWith 0x11 [] { txf := [{ id := 3 }], onBus := some false, abortF := true }, 2, true, 1, false,
      by decide +kernel⟩,
   ⟨canWith 0x11 [] { txf := [{ id := 3 }], onBus := some false }, 2, true, 1, false, by decide +kernel⟩⟩

/-- The hypotheses of each clause of Obligations.CanModes hold together somewhere. -/
theorem meets_CanModes :
    (∃ (s : State) (i : CanIx) (snd : Sender) (v : Word) (busy : Bool), s.takesWrite snd (R.CAN_CTRL i.val)) ∧
    (∃ (s : State) (i : CanIx) (direct : Bool) (up : Bool), s.blk.off = false ∧ (s.blk.canAt i.val).onBus = some
      direct ∧ (s.blk.canAt i.val).initPend = true) ∧
    (∃ (s : State) (i : CanIx), s.blk.off = false) ∧
    (∃ (s : State) (i : CanIx) (at_ : Fin 3) (heavy : Bool), s.blk.off = false) ∧
    (∃ (s : State) (i : CanIx) (at_ : Fin 3) (heavy : Bool), s.blk.off = false) :=
  ⟨⟨canWith 0 [] {} (opened (R.CAN_CTRL 2)), 2, core0, 1#32, false, by decide +kernel⟩,
   ⟨canWith 0x11 [] { onBus := some false, txf := [{}], initPend := true }, 2, false, true, by decide +kernel⟩,
   ⟨canWith 0x11 [], 2, by decide +kernel⟩,
   ⟨canWith 0x11 [], 2, 0, true, by decide +kernel⟩,
   ⟨canWith 0x11 [], 2, 0, true, by decide +kernel⟩⟩

/-- The hypotheses of each clause of Obligations.PcieHost hold together somewhere. -/
theorem meets_PcieHost :
    (∃ (s : State) (v : Fin 64), v.val ∉ s.blk.host.rises) ∧
    (∃ (s : State) (v : Fin 64), s.blk.off = false ∧ v.val ∈ s.blk.host.rises) ∧
    (∃ (s : State) (snd : Sender) (hi : Bool) (v : Word), s.takesWrite snd (if hi = true then R.PCIE_MSIX_FIRE_HI else
      R.PCIE_MSIX_FIRE_LO)) ∧
    (∃ (s : State) (v : Fin 64), s.blk.off = false) ∧
    (∃ (s : State), s.blk.off = false) ∧
    (∃ (s : State) (w : Fin 3) (g : Fin 3), s.blk.off = false) ∧
    (∃ (s : State), s.blk.held = false) ∧
    (∃ (s : State) (snd : Sender) (x : Fin (2 ^ 35)) (wr : Option Word), s.blk.held = false) ∧
    (∃ (s : State) (ok : Bool) (d : Word), s.blk.off = false ∧ s.blk.host.obRd = []) ∧
    (∃ (s : State) (d : Word) (x : Sender) (l : List Sender), s.blk.off = false ∧ s.blk.host.obRd = x :: l) :=
  ⟨⟨with' [], 5, by decide +kernel⟩,
   ⟨with' [(R.PCIE_MSIX_SRC 5, 7#32)] (fun b => { b with host := { b.host with rises := [5, 5] } }), 5,
      by decide +kernel⟩,
   ⟨with' [] (opened R.PCIE_MSIX_FIRE_HI), core0, true, 0x21#32, by decide +kernel⟩,
   ⟨with' [], 5, by decide +kernel⟩,
   ⟨with' [], by decide +kernel⟩,
   ⟨with' [], 2, 1, by decide +kernel⟩,
   ⟨with' [], by decide +kernel⟩,
   ⟨with' [], core0, 64, none, by decide +kernel⟩,
   ⟨with' [], true, 5#32, by decide +kernel⟩,
   ⟨with' [] (fun b => { b with host := { b.host with obRd := [core0, core0] } }), 5#32, core0, [core0],
      by decide +kernel⟩⟩

/-- The hypotheses of each clause of Obligations.EthernetFrames hold together somewhere. -/
theorem meets_EthernetFrames :
    (∃ (s : State) (i : EthIx) (f : EthFrame), (s.blk.bt (R.ETH_CTRL i.val) 0 = false ∨ s.blk.bt (R.ETH_STAT i.val) 0
      = false ∨ s.blk.pageEn (ethPage i.val) = false)) ∧
    (∃ (s : State) (i : EthIx) (f : EthFrame), s.blk.off = false ∧ s.blk.bt (R.ETH_CTRL i.val) 0 = true ∧ s.blk.bt
      (R.ETH_STAT i.val) 0 = true ∧ s.blk.pageEn (ethPage i.val) = true ∧ f.fcsOk = true) ∧
    (∃ (s : State) (snd : Sender) (i : EthIx) (q : Fin 3) (v : Word), s.takesWrite snd (R.ETH_RING_TAIL i.val q.val)) ∧
    (∃ (s : State) (i : EthIx), (s.blk.ethAt i.val).cur = none) ∧
    (∃ (s : State) (i : EthIx) (q : Nat), s.blk.off = false ∧ (s.blk.ethAt i.val).cur = some q ∧ q < 2) ∧
    (∃ (s : State) (i : EthIx) (speed : Fin 3), s.blk.off = false) :=
  ⟨⟨with' [], 1, { data := List.replicate 60 5#8 }, by decide +kernel⟩,
   ⟨eth1 [], 1, { data := List.replicate 60 5#8 }, by decide +kernel⟩,
   ⟨eth1 [] (opened (R.ETH_RING_TAIL 1 1)), core0, 1, 1, 5#32, by decide +kernel⟩,
   ⟨eth1 [], 1, by decide +kernel⟩,
   ⟨eth1 [] (fun b => b.setEth 1 { cur := some 0 }), 1, 0, by decide +kernel⟩,
   ⟨eth1 [], 1, 2, by decide +kernel⟩⟩

/-- The hypotheses of each clause of Obligations.SdramAndSerial hold together somewhere. -/
theorem meets_SdramAndSerial :
    (∃ (s : State) (ok : Bool), s.blk.bt R.SDC_STAT 0 = true) ∧
    (∃ (s : State), s.blk.off = false ∧ s.blk.bt R.SDC_STAT 0 = false) ∧
    (∃ (s : State), s.blk.off = false) ∧
    (∃ (s : State) (a : Fin (2 ^ 40)), s.blk.off = false) ∧
    (∃ (s : State) (ce : Bool), s.blk.off = false) ∧
    (∃ (s : State) (snd : Sender) (p : _), s.takesWrite snd R.XSPI_CMD ∧ p ∈ [(Instr.xspiProgram snd, 1), (.xspiErase
      snd, 2)]) ∧
    (∃ (s : State) (ok : Bool), s.blk.bt R.XSPI_STAT 0 = false) ∧
    (∃ (s : State) (ok : Bool), s.blk.off = false ∧ s.blk.bt R.XSPI_STAT 0 = true ∧ s.blk.host.xaddr < 2 ^ 28) ∧
    (∃ (s : State) (snd : Sender) (k : Fin 2) (v : Word), s.takesWrite snd (R.SPI_CMD k.val)) ∧
    (∃ (s : State) (k : Fin 2) (rx : List Byte), s.blk.bt (R.SPI_STAT k.val) 0 = false) ∧
    (∃ (s : State) (k : Fin 2) (rx : List Byte), s.blk.off = false ∧ s.blk.bt (R.SPI_STAT k.val) 0 = true) ∧
    (∃ (s : State) (snd : Sender) (c : Fin 2) (v : Word), s.takesWrite snd (R.SMB_CMD c.val)) ∧
    (∃ (s : State) (c : Fin 2) (err : Option (Fin 3)) (rx : List Byte), s.blk.bt (R.SMB_STAT c.val) 0 = false) ∧
    (∃ (s : State) (c : Fin 2) (err : Fin 3) (rx : List Byte), s.blk.off = false ∧ s.blk.bt (R.SMB_STAT c.val) 0 =
      true) ∧
    (∃ (s : State) (c : Fin 2) (addr : Fin 128) (wr : Option (List Byte)) (n : Nat), s.blk.off = false) :=
  ⟨⟨with' [(R.SDC_STAT, 1#32)], true, by decide +kernel⟩,
   ⟨with' [], by decide +kernel⟩,
   ⟨with' [], by decide +kernel⟩,
   ⟨with' [], 0x100000009, by decide +kernel⟩,
   ⟨with' [], true, by decide +kernel⟩,
   ⟨with' [] (opened R.XSPI_CMD), core0, (Instr.xspiProgram core0, 1), by decide +kernel⟩,
   ⟨with' [], true, by decide +kernel⟩,
   ⟨with' [(R.XSPI_STAT, 1#32)] (fun b => { b with host := { b.host with xop := 1, xbuf := [(0x30000005, 0x0F)] } }),
      true, by decide +kernel⟩,
   ⟨with' [] (opened (R.SPI_CMD 1)), core0, 1, 0#32, by decide +kernel⟩,
   ⟨with' [], 1, [1, 2], by decide +kernel⟩,
   ⟨with' [(R.SPI_STAT 1, 1#32)] (fun b => b.setSpi 1 { len := 3 }), 1, [1, 2], by decide +kernel⟩,
   ⟨with' [] (opened (R.SMB_CMD 1)), core0, 1, 0x80000004#32, by decide +kernel⟩,
   ⟨with' [], 1, none, [1], by decide +kernel⟩,
   ⟨with' [(R.SMB_STAT 1, 1#32)], 1, 2, [1], by decide +kernel⟩,
   ⟨with' [], 1, 5, none, 1, by decide +kernel⟩⟩

/-- The hypotheses of each clause of Obligations.KeysAndLifecycle hold together somewhere. -/
theorem meets_KeysAndLifecycle :
    (∃ (s : State) (snd : Sender), s.takesWrite snd R.SEC_KEY_CMD) ∧
    (∃ (s : State) (ok : Bool), (s.blk.held = true ∨ (∀ k h, s.blk.sec.otp ≠ some (.prog k h)) ∧ (∀ k, s.blk.sec.otp ≠
      some (.revoke k)))) ∧
    (∃ (s : State) (ok : Bool) (op : OtpOp), s.blk.held = false ∧ s.blk.sec.otp = some op ∧ ((∀ t, op ≠ .life t))) ∧
    (∃ (s : State) (snd : Sender) (v : Word), s.takesWrite snd R.SEC_CTR_ADV) ∧
    (∃ (s : State) (snd : Sender) (v : Word), s.takesWrite snd R.SEC_SECRET_PROG) ∧
    (∃ (s : State) (snd : Sender) (v : Word), s.takesWrite snd R.SEC_SECRET_LOCK ∧ v.getLsbD 0 = true) ∧
    (∃ (s : State) (snd : Sender) (v : Word) (rel : ImgHdr) (ret : ImgHdr), s.takesWrite snd R.SEC_LC_ADV) ∧
    (∃ (s : State), (s.blk.held = true ∨ (∀ k, s.blk.sec.otp ≠ some (.life k)))) ∧
    (∃ (s : State) (k : Nat), s.blk.held = false ∧ s.blk.sec.otp = some (.life k)) ∧
    (∃ (s : State) (snd : Sender) (v : Word), s.takesWrite snd R.SEC_RET_CMD ∧ v.getLsbD 0 = true) :=
  ⟨⟨with' [] (opened R.SEC_KEY_CMD), core0, by decide +kernel⟩,
   ⟨with' [], true, Or.inr ⟨by intro k h; simp [with', State.reset], by intro k; simp [with', State.reset]⟩⟩,
   ⟨with' [] (fun b => { b with sec := { b.sec with otp := some (.prog 1 7) } }), true, .prog 1 7,
      by refine ⟨rfl, rfl, ?_⟩; intro t; simp⟩,
   ⟨with' [] (opened R.SEC_CTR_ADV), core0, 5#32, by decide +kernel⟩,
   ⟨with' [] (opened R.SEC_SECRET_PROG), core0, 5#32, by decide +kernel⟩,
   ⟨with' [] (opened R.SEC_SECRET_LOCK), core0, 1#32, by decide +kernel⟩,
   ⟨with' [] (opened R.SEC_LC_ADV), core0, 0#32, imgOf 5, imgOf 6, by decide +kernel⟩,
   ⟨with' [], Or.inr (by intro k; simp [with', State.reset])⟩,
   ⟨with' [] (fun b => { b with sec := { b.sec with otp := some (.life 1) } }), 1, by decide +kernel⟩,
   ⟨with' [] (opened R.SEC_RET_CMD), core0, 1#32, by decide +kernel⟩⟩

/-- The hypotheses of each clause of Obligations.DebugAuthorisation hold together somewhere. -/
theorem meets_DebugAuthorisation :
    (∃ (s : State) (snd : Option Sender) (v : Word), s.authTakes snd R.DBG_AUTH_REQ) ∧
    (∃ (s : State) (tok : ImgHdr), (s.blk.off = true ∨ s.blk.sec.checking = false)) ∧
    (∃ (s : State) (tok : ImgHdr), s.blk.off = false ∧ s.blk.sec.checking = true) ∧
    (∃ (s : State) (snd : Option Sender), ((snd = none ∧ s.blk.held = false) ∨ (∃ x, snd = some x ∧ s.takesRead x
      (R.DBG_CHAL 0)))) ∧
    (∃ (s : State) (snd : Option Sender) (v : Word), s.authTakes snd R.DBG_TOK_DATA) ∧
    (∃ (s : State) (snd : Sender) (v : Word), s.takesWrite snd R.DBG_CTRL) :=
  ⟨⟨with' [], none, 1#32, Or.inl ⟨rfl, rfl⟩⟩,
   ⟨with' [], imgOf 4, by decide +kernel⟩,
   ⟨with' [] (fun b => { b with sec := { b.sec with checking := true } }), imgOf 4, by decide +kernel⟩,
   ⟨with' [], none, Or.inl ⟨rfl, rfl⟩⟩,
   ⟨with' [], none, 7#32, Or.inl ⟨rfl, rfl⟩⟩,
   ⟨with' [] (opened R.DBG_CTRL), core0, 1#32, by decide +kernel⟩⟩

/-- The hypotheses of each clause of Obligations.ReportsAndRecords hold together somewhere. -/
theorem meets_ReportsAndRecords :
    (∃ (s : State) (snd : Sender) (v : Word), s.takesWrite snd R.SEC_ATT_CMD ∧ v.getLsbD 0 = true) ∧
    (∃ (s : State) (r : Bool), s.blk.fl R.SEC_ATT_STAT 0 2 ≠ 1) ∧
    (∃ (s : State), s.blk.off = false ∧ s.blk.fl R.SEC_ATT_STAT 0 2 = 1) ∧
    (∃ (s : State) (snd : Sender), s.takesRead snd R.SEC_COL_DATA) ∧
    (∃ (s : State) (snd : Sender) (v : Word), s.takesWrite snd R.SEC_EA_POST ∧ v.getLsbD 0 = true) ∧
    (∃ (s : State), s.blk.eaq = []) ∧
    (∃ (s : State) (r : EaRec) (l : List EaRec), s.blk.eaq = r :: l) :=
  ⟨⟨with' [] (opened R.SEC_ATT_CMD), core0, 1#32, by decide +kernel⟩,
   ⟨with' [], true, by decide +kernel⟩,
   ⟨with' [(R.SEC_ATT_STAT, 1#32)], by decide +kernel⟩,
   ⟨with' [], core0, by decide +kernel⟩,
   ⟨with' [] (opened R.SEC_EA_POST), core0, 1#32, by decide +kernel⟩,
   ⟨with' [], by decide +kernel⟩,
   ⟨with' [] (fun b => { b with eaq := [recA, recA] }), recA, [recA], by decide +kernel⟩⟩

end Sys2Proof.Tests
end

section
/-! The order of claims (R402): a claim's rank against another is the lead of its epoch modulo 2048, with the seat
deciding between equal epochs. -/

namespace Sys2Proof.Machine

/-- How far claim a's epoch is ahead of claim b's: (EPOCH_a − EPOCH_b) mod 2048 (R402). -/
def epochLead (a b : Nat) : Nat := (a / 32 + 2048 - b / 32 % 2048) % 2048

theorem claimAbove_iff (a b : Nat) :
    claimAbove a b = true ↔
      (1 ≤ epochLead a b ∧ epochLead a b ≤ 1023) ∨ (epochLead a b = 0 ∧ b % 32 < a % 32) := by
  have lead_zero : epochLead a b = 0 ↔ a / 32 % 2048 = b / 32 % 2048 := by unfold epochLead; omega
  rw [lead_zero]
  simp [claimAbove, epochLead]

/-- The two leads of a pair of claims cancel modulo 2048: both are zero, or they make a whole turn. -/
theorem epochLead_swap (a b : Nat) :
    (epochLead a b = 0 ∧ epochLead b a = 0) ∨ epochLead a b + epochLead b a = 2048 := by
  unfold epochLead; omega

theorem epochLead_eq_iff {a b k : Nat} (ha : a < 2 ^ 16) (hk : k < 2048) :
    epochLead a b = k ↔ a / 32 = (b / 32 + k) % 2048 := by
  unfold epochLead; omega

theorem claimAbove_asymm {a b : Nat} (hab : claimAbove a b = true) : ¬ claimAbove b a = true := by
  rw [claimAbove_iff] at hab ⊢
  obtain ⟨ha, hb⟩ | turn := epochLead_swap a b
  · -- equal epochs: each seat would be the higher one
    omega
  · -- two leads of at most 1023 do not make a turn
    omega

theorem claimEq_iff (a b : Nat) : claimEq a b = true ↔ ¬ claimAbove a b = true ∧ ¬ claimAbove b a = true := by
  simp [claimEq]

theorem claimEq_comm (a b : Nat) : claimEq a b = claimEq b a := Bool.and_comm _ _

theorem claimEq_of_half_turn {a b : Nat} (h : epochLead a b = 1024) : claimEq a b = true := by
  have h' : epochLead b a = 1024 := by
    have := epochLead_swap a b
    omega
  simp [claimEq_iff, claimAbove_iff, h, h']

/-- R402 in the form the statement gives it: an epoch 1 to 1023 further on, or the higher seat of the same epoch. -/
theorem claimAbove_iff_epoch_seat {a b : Nat} (ha : a < 2 ^ 16) (hb : b < 2 ^ 16) :
    claimAbove a b = true ↔
      (∃ k, 1 ≤ k ∧ k ≤ 1023 ∧ a / 32 = (b / 32 + k) % 2048) ∨ (a / 32 = b / 32 ∧ b % 32 < a % 32) := by
  have ahead : (1 ≤ epochLead a b ∧ epochLead a b ≤ 1023) ↔
      ∃ k, 1 ≤ k ∧ k ≤ 1023 ∧ a / 32 = (b / 32 + k) % 2048 := by
    constructor
    · rintro ⟨h1, h2⟩
      exact ⟨_, h1, h2, (epochLead_eq_iff ha (by omega)).mp rfl⟩
    · rintro ⟨k, h1, h2, hk⟩
      rw [(epochLead_eq_iff ha (by omega)).mpr hk]
      exact ⟨h1, h2⟩
  have level : epochLead a b = 0 ↔ a / 32 = b / 32 := by
    rw [epochLead_eq_iff ha (by omega)]
    omega
  rw [claimAbove_iff, ahead, level]

/-- Settles O48: above means ahead by less than half a turn of the epochs, which at most one of two claims is. -/
theorem claimOrder : Obligations.ClaimOrder := by
  intro a b ha hb
  refine ⟨claimAbove_iff_epoch_seat ha hb, fun ⟨hab, hba⟩ => claimAbove_asymm hab hba, ?_⟩
  intro apart
  have half : epochLead a b = 1024 := (epochLead_eq_iff ha (by omega)).mpr (by omega)
  have heq := claimEq_of_half_turn half
  exact ⟨heq, claimEq_comm a b ▸ heq⟩

end Sys2Proof.Machine
end

section
/-! What a write that stores in memory does where it is taken, what a refusal records (R73), what a step keeps of the
registers, and what memory reads as after stores. -/

namespace Sys2Proof.Machine

/-! ### A write taken, a write refused -/

/-- A write with a meaning that stores in memory, taken on a page that the coordinators do not keep alike. -/
theorem onMem_write {s : State} {snd : Sender} {a : Nat} (v : Word) (act : Block → Mem → Block × List MemOp)
    (h : s.takesWrite snd a) (ht : twinnedPage a = false) :
    onMem (busWriteM snd a v act) s =
      .next { s with blk := (act s.blk.fresh s.mem).1, mem := mapply s.mem (act s.blk.fresh s.mem).2 } := by
  obtain ⟨⟨live, free⟩, admitted, ready, on⟩ := h
  rw [onMem_live _ live, busWriteM_taken v act s.mem free admitted ready on, noteDirect_of_not_twinned _ ht]

theorem fld_pageErr_reason (wr overrun : Bool) (a : Nat) (snd : Sender) (r : Reason) :
    fld (BitVec.ofNat 32 (pageErr wr overrun a snd r)) 16 4 = r.code := by
  have code : r.code < 16 := by cases r <;> decide
  have agent := snd.agent.isLt
  have low : (if wr then 1 else 0) + (if overrun then 2 else 0) + a % 0x1000 / 4 * 4 < 2 ^ 12 := by
    cases wr <;> cases overrun <;> simp <;> omega
  simp only [fld, pageErr, BitVec.toNat_ofNat, Nat.shiftRight_eq_div_pow]
  generalize (if wr = true then 1 else 0) + (if overrun = true then 2 else 0) + a % 0x1000 / 4 * 4 = flags at low ⊢
  split <;> omega

/-- A refusal of an access to a page away from the PLIC is the one that statements speak of (R73). -/
theorem refused_refuse (s : State) (a : Nat) (snd : Sender) (r : Reason) (wr : Bool)
    (h : notPend (R.PAGE_ERR (pageBase a))) :
    s.refused { s with blk := s.blk.refuse wr a snd r } a r [] := by
  refine ⟨⟨⟨rfl, rfl, rfl, rfl⟩, sameHidden_refuse .., keeps_refuse _ _ _ _ _ (by simp) (by simp)⟩, ?_, rfl⟩
  have apart : R.PAGE_ERR (pageBase a) ≠ R.IRQ_RAW (pageBase a) := by simp [R.PAGE_ERR, R.IRQ_RAW]
  calc (s.blk.refuse wr a snd r).fl (R.PAGE_ERR (pageBase a)) 16 4
      = (s.blk.wrN (R.PAGE_ERR (pageBase a))
          (pageErr wr (s.blk.fl (R.PAGE_ERR (pageBase a)) 16 4 != 0) a snd r)).fl (R.PAGE_ERR (pageBase a)) 16 4 :=
        Block.fl_raise _ _ 31 _ _ _ apart h
    _ = r.code := by rw [Block.fl, Block.wrN, Block.rd_wr_self, fld_pageErr_reason]

/-! ### Registers kept by a step -/

theorem keeps_mono {b c : Block} {A B : List Nat} (h : b.keeps c A) (sub : A ⊆ B) : b.keeps c B :=
  fun a ha => h a (fun x => ha (sub x))

theorem Block.bt_congr {b c : Block} {a : Nat} (h : c.rd a = b.rd a) (i : Nat) : c.bt a i = b.bt a i := by
  rw [Block.bt, h, Block.bt]

theorem Block.fl_congr {b c : Block} {a : Nat} (h : c.rd a = b.rd a) (lo len : Nat) : c.fl a lo len = b.fl a lo len := by
  rw [Block.fl, h, Block.fl]

@[simp] theorem raise_disp (s : Block) (page i : Nat) : (s.raise page i).disp = s.disp := by
  rw [sameHidden_raise s page i]

/-- An interrupt that is raised already stays so when another is raised. -/
theorem bt_raise_of_bt {s : Block} {page j : Nat} (i : Nat) (hi : i < 32) (hn : notPend (R.IRQ_RAW page))
    (h : s.bt (R.IRQ_RAW page) j = true) : (s.raise page i).bt (R.IRQ_RAW page) j = true := by
  unfold Block.raise
  obtain ⟨l, e0⟩ := s.noteRise_spec (s.setB (R.IRQ_RAW page) i true) page
  have bit : (s.setB (R.IRQ_RAW page) i true).bt (R.IRQ_RAW page) j = true := by
    rw [Block.bt_setB _ _ _ _ _ _ hi]
    split
    · rfl
    · exact h
  rw [e0]
  rcases Block.plicSense_spec _ page with e | ⟨src, hs, e⟩ <;> rw [e]
  · exact bit
  · exact (Block.bt_congr (Block.rd_setB_ne _ _ _ (ne_pend hn src hs)) j).trans bit

/-! ### Memory after stores -/

theorem mapply_append (m : Mem) (l k : List MemOp) : mapply m (l ++ k) = mapply (mapply m l) k := List.foldl_append

@[simp] theorem mrdBytes_length (m : Mem) (a n : Nat) : (mrdBytes m a n).length = n := by
  induction n generalizing a with
  | zero => rfl
  | succ n ih => simp [mrdBytes, ih]

theorem mrdBytes_getD (m : Mem) (a n i : Nat) (h : i < n) : (mrdBytes m a n).getD i 0#8 = mrd m (a + i) := by
  induction n generalizing a i with
  | zero => omega
  | succ n ih =>
    cases i with
    | zero => rfl
    | succ i =>
      rw [mrdBytes, List.getD_cons_succ, ih _ _ (by omega), Nat.add_assoc, Nat.add_comm 1]

/-- Storing what memory holds already leaves every byte as it reads. -/
theorem mrd_mstore_mrdBytes {m m' : Mem} (h : ∀ x, mrd m x = mrd m' x) (a n x : Nat) :
    mrd (mstore m a (mrdBytes m' a n)) x = mrd m' x := by
  rw [mrd_mstore, mrdBytes_length]
  split
  · next inside => rw [mrdBytes_getD _ _ _ _ (by omega), Nat.add_sub_cancel' inside.1]
  · exact h x

theorem bytesOf_getD (n v j : Nat) (h : j < n) : (bytesOf n v).getD j 0#8 = BitVec.ofNat 8 (v / 256 ^ j) := by
  induction n generalizing v j with
  | zero => omega
  | succ n ih =>
    cases j with
    | zero => simp [bytesOf]
    | succ j => rw [bytesOf, List.getD_cons_succ, ih _ _ (by omega), Nat.div_div_eq_div_mul, Nat.pow_succ']

theorem wordsAt_mstore_bytesOf (m : Mem) (a v : Nat) : wordsAt (mstore m a (bytesOf 4 v)) a [v] := by
  intro i w hw j hj
  obtain ⟨rfl, rfl⟩ : i = 0 ∧ v = w := by
    cases i with
    | zero => simpa using hw
    | succ i => simp at hw
  rw [mrd_mstore, bytesOf_length, if_pos (by omega), ← bytesOf_getD 4 v j hj]
  congr 1
  omega

theorem memKeeps_refl (m : Mem) (L : List (Nat × Nat)) : memKeeps m m L := fun _ _ => rfl

theorem memKeeps_mstore {m n : Mem} {L : List (Nat × Nat)} (a : Nat) (bs : List Byte) (h : memKeeps m n L)
    (hr : (a, bs.length) ∈ L) : memKeeps m (mstore n a bs) L :=
  fun x out => (mrd_mstore_of_out bs n (out _ hr)).trans (h x out)

end Sys2Proof.Machine
end

section
/-! The end of a job on a Spectral Processor (R431) and the elements it finished (R429): which registers and which
hidden state each step changes, and the values it leaves. -/

namespace Sys2Proof.Machine

/-! ### The frame of a Spectral Processor's own steps -/

/-- Beside the registers of wing w's Spectral Processor, its hidden state and the Dispatch Unit nothing of the
application side differs. -/
def Block.dspFrame (b c : Block) (w : Nat) : Prop := b.onlyDsp { c with disp := b.disp } w (dspRegs w)

theorem dspFrame_of_sameHidden {b c : Block} {w : Nat} {A : List Nat} (kept : b.keeps c A) (sub : A ⊆ dspRegs w)
    (same : b.sameHidden c) : b.dspFrame c w := by
  refine ⟨fun a ha => kept a (fun h => ha (sub h)), ?_, fun v _ => ?_⟩
  · rw [Block.sameHidden] at same ⊢
    rw [same]
  · rw [Block.sameHidden] at same
    rw [same]
    rfl

theorem dspFrame_trans {b c d : Block} {w : Nat} (h : b.dspFrame c w) (k : c.dspFrame d w) : b.dspFrame d w := by
  obtain ⟨keeps1, same1, other1⟩ := h
  obtain ⟨keeps2, same2, other2⟩ := k
  refine ⟨keeps_trans (t := c) keeps1 keeps2, ?_, fun v hv => (other2 v hv).trans (other1 v hv)⟩
  exact sameHidden_trans same1 (congrArg (fun e : Block => { e with disp := b.disp, dsp := b.dsp }) same2)

theorem dspFrame_refl (s : Block) (w : Nat) : s.dspFrame s w := ⟨keeps_refl s _, rfl, fun _ _ => rfl⟩

theorem dspFrame_fresh (s : Block) (w : Nat) : s.dspFrame s.fresh w :=
  dspFrame_of_sameHidden (A := []) (keeps_fresh s _) (by simp) (sameHidden_fresh s)

theorem dspFrame_setDsp (s : Block) (w : Nat) (x : Dsp) : s.dspFrame (s.setDsp w x) w :=
  ⟨keeps_refl s _, rfl, fun v hv => (sget_sset (fun _ => ({} : Dsp)) s.dsp w v x).trans (if_neg hv)⟩

/-- The state with another Dispatch Unit. -/
def Block.setDisp (s : Block) (x : Disp) : Block := { s with disp := x }

@[simp] theorem setDisp_disp (s : Block) (x : Disp) : (s.setDisp x).disp = x := rfl

@[simp] theorem rd_setDisp (s : Block) (x : Disp) (a : Nat) : (s.setDisp x).rd a = s.rd a := rfl

@[simp] theorem dspAt_setDisp (s : Block) (x : Disp) (w : Nat) : (s.setDisp x).dspAt w = s.dspAt w := rfl

theorem keeps_setDisp (s : Block) (x : Disp) (A : List Nat) : s.keeps (s.setDisp x) A := fun a _ _ => rd_setDisp s x a

theorem dspFrame_setDisp (s : Block) (w : Nat) (x : Disp) : s.dspFrame (s.setDisp x) w :=
  ⟨keeps_refl s _, rfl, fun _ _ => rfl⟩

/-! ### One step: registers -/

theorem dspAt_congr {b c : Block} (h : c.dsp = b.dsp) (w : Nat) : c.dspAt w = b.dspAt w := by
  rw [Block.dspAt, h, Block.dspAt]

@[simp] theorem dspAt_raise (s : Block) (page i w : Nat) : (s.raise page i).dspAt w = s.dspAt w :=
  dspAt_congr (by rw [sameHidden_raise s page i]) w

@[simp] theorem dspFlag_disp (s : Block) (w i : Nat) : (s.dspFlag w i).disp = s.disp := by
  rw [Block.dspFlag, Block.flag, raise_disp]
  exact Block.wr_disp ..

@[simp] theorem dspAt_dspFlag (s : Block) (w i v : Nat) : (s.dspFlag w i).dspAt v = s.dspAt v := by
  rw [Block.dspFlag, Block.flag, dspAt_raise]
  exact dspAt_congr (Block.wr_dsp ..) v

@[simp] theorem setDspSt_disp (s : Block) (w st : Nat) : (s.setDspSt w st).disp = s.disp := by
  rw [Block.setDspSt, Block.setB, Block.wr_disp, Block.setF, Block.wr_disp]

@[simp] theorem dspAt_setDspSt (s : Block) (w st v : Nat) : (s.setDspSt w st).dspAt v = s.dspAt v :=
  dspAt_congr (by rw [Block.setDspSt, Block.setB, Block.wr_dsp, Block.setF, Block.wr_dsp]) v

@[simp] theorem rd_setDsp (s : Block) (w : Nat) (x : Dsp) (a : Nat) : (s.setDsp w x).rd a = s.rd a := rfl

@[simp] theorem setDsp_disp (s : Block) (w : Nat) (x : Dsp) : (s.setDsp w x).disp = s.disp := rfl

theorem keeps_setDsp (s : Block) (w : Nat) (x : Dsp) (A : List Nat) : s.keeps (s.setDsp w x) A :=
  fun a _ _ => rd_setDsp s w x a

theorem notPend_dspPage (w o : Nat) : notPend (dspPage w + o) := by
  right
  unfold R.PLIC_PEND dspPage
  omega

theorem keeps_dspFlag (s : Block) (w i : Nat) : s.keeps (s.dspFlag w i) [R.DSP_ERR w, R.IRQ_RAW (dspPage w)] :=
  keeps_flag _ _ _ _ _ (by simp) (by simp)

theorem keeps_setDspSt (s : Block) (w st : Nat) :
    s.keeps (s.setDspSt w st) [R.DSP_STAT w, R.PAGE_STAT (dspPage w)] :=
  keeps_trans (keeps_wr s _ _ (by simp)) (keeps_wr _ _ _ (by simp))

theorem dspStat_ne_pageStat (w : Nat) : R.DSP_STAT w ≠ R.PAGE_STAT (dspPage w) := by
  simp [R.DSP_STAT, R.PAGE_STAT, dspPage]

theorem dspSt_setDspSt (s : Block) (w : Nat) {st : Nat} (h : st < 4) : (s.setDspSt w st).dspSt w = st := by
  unfold Block.setDspSt Block.dspSt
  rw [Block.fl_setB _ _ _ _ _ _ _ (by decide) (.inl (dspStat_ne_pageStat w)), Block.fl_setF_self _ _ _ _ _ (by decide)]
  exact Nat.mod_eq_of_lt h

@[simp] theorem dspAt_setDsp (s : Block) (w : Nat) (x : Dsp) : (s.setDsp w x).dspAt w = x :=
  (sget_sset (fun _ => ({} : Dsp)) s.dsp w w x).trans (if_pos rfl)

theorem bt_dspFlag_self (s : Block) (w i : Nat) (hi : i < 32) : (s.dspFlag w i).bt (R.DSP_ERR w) i = true := by
  have apart : R.DSP_ERR w ≠ R.IRQ_RAW (dspPage w) := by simp [R.DSP_ERR, R.IRQ_RAW, dspPage]
  exact (Block.bt_raise _ _ _ _ _ apart (notPend_dspPage w 0x48)).trans (s.bt_setB_self _ i true hi)

theorem dspFrame_dspFlag (s : Block) (w i : Nat) : s.dspFrame (s.dspFlag w i) w :=
  dspFrame_of_sameHidden (keeps_dspFlag s w i) (by simp [dspRegs]) (sameHidden_flag ..)

theorem dspFrame_setDspSt (s : Block) (w st : Nat) : s.dspFrame (s.setDspSt w st) w :=
  dspFrame_of_sameHidden (keeps_setDspSt s w st) (by simp [dspRegs])
    (sameHidden_trans (sameHidden_setF ..) (sameHidden_setB ..))

/-! ### The processor between jobs -/

theorem dspFree_idle {s : Block} {w : Nat} (h : (s.dspAt w).susp = false) : s.dspFree w = s.setDspSt w 0 := by
  have h' : (sget (fun _ => ({} : Dsp)) s.dsp w).susp = false := h
  simp [Block.dspFree, Block.setDspSt, h', dspPage]

theorem dspFree_suspended {s : Block} {w : Nat} (h : (s.dspAt w).susp = true) :
    s.dspFree w = ((s.setDspSt w 3).setDsp w { s.dspAt w with susp := false }).raise (dspPage w) 1 := by
  have h' : (sget (fun _ => ({} : Dsp)) s.dsp w).susp = true := h
  simp [Block.dspFree, Block.setDspSt, Block.setDsp, Block.dspAt, h', dspPage]

theorem dspFree_disp (s : Block) (w : Nat) : (s.dspFree w).disp = s.disp := by
  cases h : (s.dspAt w).susp with
  | false => rw [dspFree_idle h, setDspSt_disp]
  | true => rw [dspFree_suspended h, raise_disp, setDsp_disp, setDspSt_disp]

theorem dspAt_dspFree (s : Block) (w : Nat) : (s.dspFree w).dspAt w = { s.dspAt w with susp := false } := by
  cases h : (s.dspAt w).susp with
  | false => rw [dspFree_idle h, dspAt_setDspSt, ← h]
  | true => rw [dspFree_suspended h, dspAt_raise, dspAt_setDsp]

/-- Where no suspension waits the processor is IDLE, else SUSPENDED (R431, R432). -/
theorem dspSt_dspFree (s : Block) (w : Nat) : (s.dspFree w).dspSt w = if (s.dspAt w).susp = true then 3 else 0 := by
  cases h : (s.dspAt w).susp with
  | false => rw [dspFree_idle h, dspSt_setDspSt _ _ (by decide)]; rfl
  | true =>
    have apart : R.DSP_STAT w ≠ R.IRQ_RAW (dspPage w) := by simp [R.DSP_STAT, R.IRQ_RAW, dspPage]
    rw [dspFree_suspended h, Block.dspSt, Block.fl_raise _ _ _ _ _ _ apart (notPend_dspPage w 0x44),
      Block.fl_congr (rd_setDsp ..)]
    exact dspSt_setDspSt s w (by decide)

theorem keeps_dspFree (s : Block) (w : Nat) :
    s.keeps (s.dspFree w) [R.DSP_STAT w, R.PAGE_STAT (dspPage w), R.IRQ_RAW (dspPage w)] := by
  have state (st : Nat) := keeps_mono (keeps_setDspSt s w st)
    (B := [R.DSP_STAT w, R.PAGE_STAT (dspPage w), R.IRQ_RAW (dspPage w)]) (by simp)
  cases h : (s.dspAt w).susp with
  | false => rw [dspFree_idle h]; exact state 0
  | true =>
    rw [dspFree_suspended h]
    exact keeps_trans (keeps_trans (state 3) (keeps_setDsp _ w _ _)) (keeps_raise _ _ _ (by simp))

theorem irqRaw_setDspSt (s : Block) (w st : Nat) :
    (s.setDspSt w st).rd (R.IRQ_RAW (dspPage w)) = s.rd (R.IRQ_RAW (dspPage w)) :=
  keeps_setDspSt s w st _ (by simp [R.DSP_STAT, R.PAGE_STAT, R.IRQ_RAW, dspPage]) (notPend_dspPage w 0x10)

theorem bt_irqRaw_dspFree {s : Block} {w j : Nat} (h : s.bt (R.IRQ_RAW (dspPage w)) j = true) :
    (s.dspFree w).bt (R.IRQ_RAW (dspPage w)) j = true := by
  have state (st : Nat) : (s.setDspSt w st).bt (R.IRQ_RAW (dspPage w)) j = true :=
    (Block.bt_congr (irqRaw_setDspSt s w st) j).trans h
  cases hs : (s.dspAt w).susp with
  | false => rw [dspFree_idle hs]; exact state 0
  | true =>
    rw [dspFree_suspended hs]
    exact bt_raise_of_bt 1 (by decide) (notPend_dspPage w 0x10) ((Block.bt_congr (rd_setDsp ..) j).trans (state 3))

theorem dspFrame_raise (s : Block) (w i : Nat) : s.dspFrame (s.raise (dspPage w) i) w :=
  dspFrame_of_sameHidden (keeps_raise (A := [R.IRQ_RAW (dspPage w)]) _ _ _ (by simp)) (by simp [dspRegs])
    (sameHidden_raise ..)

theorem dspFrame_dspFree (s : Block) (w : Nat) : s.dspFrame (s.dspFree w) w := by
  cases h : (s.dspAt w).susp with
  | false => rw [dspFree_idle h]; exact dspFrame_setDspSt s w 0
  | true =>
    rw [dspFree_suspended h]
    exact dspFrame_trans (dspFrame_trans (dspFrame_setDspSt s w 3) (dspFrame_setDsp _ w _)) (dspFrame_raise _ w 1)

/-! ### The event of a job's end (R114, R431) -/

theorem enqueue_eq (s : Block) (ev : Nat) :
    s.enqueue ev = (s.setDisp { s.disp with evq := s.disp.evq ++ [ev] }).noteHwm := rfl

theorem enqueue_disp (s : Block) (ev : Nat) : (s.enqueue ev).disp = { s.disp with evq := s.disp.evq ++ [ev] } := by
  unfold Block.enqueue Block.noteHwm
  split <;> rfl

theorem dspAt_enqueue (s : Block) (ev w : Nat) : (s.enqueue ev).dspAt w = s.dspAt w := by
  unfold Block.enqueue Block.noteHwm
  split <;> rfl

theorem keeps_enqueue (s : Block) (ev : Nat) : s.keeps (s.enqueue ev) [R.DISP_QHWM] := by
  have queued := keeps_setDisp s { s.disp with evq := s.disp.evq ++ [ev] } [R.DISP_QHWM]
  rw [enqueue_eq, Block.noteHwm]
  split
  · exact keeps_trans queued (keeps_wr _ _ _ (by simp))
  · exact queued

theorem dspFrame_enqueue (s : Block) (ev w : Nat) : s.dspFrame (s.enqueue ev) w := by
  have queued := dspFrame_setDisp s w { s.disp with evq := s.disp.evq ++ [ev] }
  rw [enqueue_eq, Block.noteHwm]
  split
  · exact dspFrame_trans queued
      (dspFrame_of_sameHidden (A := [R.DISP_QHWM]) (keeps_wr _ _ _ (by simp)) (by simp [dspRegs]) rfl)
  · exact queued

/-- The last step of `dspEnd`: the event is posted, and the processor is free unless its source holds the event. -/
def Block.dspPost (s : Block) (w : Nat) : Block :=
  let s := (s.setDspSt w 2).postStall (.dsp w)
  if s.disp.held.contains (.dsp w) then s else s.dspFree w

theorem dspPost_admitted {s : Block} {w : Nat} (room : s.disp.evq.length < 960) (unheld : s.disp.held = []) :
    s.dspPost w = ((s.setDspSt w 2).enqueue (0x0D0 + w)).dspFree w := by
  simp [Block.dspPost, Block.postStall, Block.qfill, room, unheld, StallSrc.event, enqueue_disp]

theorem dspPost_held {s : Block} {w : Nat} (h : 960 ≤ s.disp.evq.length ∨ s.disp.held ≠ []) :
    s.dspPost w = (s.setDspSt w 2).setDisp { s.disp with held := s.disp.held ++ [.dsp w] } := by
  have full : ¬ (s.disp.evq.length < 960 ∧ s.disp.held = []) := by
    rintro ⟨room, unheld⟩
    exact h.elim (fun full => absurd room (Nat.not_lt.mpr full)) (fun waits => waits unheld)
  simp [Block.dspPost, Block.postStall, Block.qfill, full, StallSrc.storeOf, Block.setDisp]

theorem dspPost_cases (s : Block) (w : Nat) :
    ((s.disp.evq.length < 960 ∧ s.disp.held = []) ∧
      s.dspPost w = ((s.setDspSt w 2).enqueue (0x0D0 + w)).dspFree w) ∨
    ((960 ≤ s.disp.evq.length ∨ s.disp.held ≠ []) ∧
      s.dspPost w = (s.setDspSt w 2).setDisp { s.disp with held := s.disp.held ++ [.dsp w] }) := by
  by_cases h : s.disp.evq.length < 960 ∧ s.disp.held = []
  · obtain ⟨room, unheld⟩ := h
    exact .inl ⟨⟨room, unheld⟩, dspPost_admitted room unheld⟩
  · rw [not_and_or, Nat.not_lt] at h
    exact .inr ⟨h, dspPost_held h⟩

theorem keeps_dspPost (s : Block) (w : Nat) :
    s.keeps (s.dspPost w) [R.DSP_STAT w, R.PAGE_STAT (dspPage w), R.IRQ_RAW (dspPage w), R.DISP_QHWM] := by
  have state := keeps_mono (keeps_setDspSt s w 2)
    (B := [R.DSP_STAT w, R.PAGE_STAT (dspPage w), R.IRQ_RAW (dspPage w), R.DISP_QHWM]) (by simp)
  obtain ⟨-, e⟩ | ⟨-, e⟩ := dspPost_cases s w <;> rw [e]
  · exact keeps_trans (keeps_trans state (keeps_mono (keeps_enqueue _ _) (by simp)))
      (keeps_mono (keeps_dspFree _ w) (by simp))
  · exact keeps_trans state (keeps_setDisp _ _ _)

/-- A register of the page other than DSP_STAT, PAGE_STAT and IRQ_RAW does not change with the event. -/
theorem rd_dspPost (s : Block) (w o : Nat) (h : o ∉ [0x44, 0x0C, 0x10]) :
    (s.dspPost w).rd (dspPage w + o) = s.rd (dspPage w + o) := by
  refine keeps_dspPost s w _ ?_ (notPend_dspPage w o)
  simp only [R.DSP_STAT, R.PAGE_STAT, R.IRQ_RAW, R.DISP_QHWM, dspPage, List.mem_cons, List.not_mem_nil, or_false] at h ⊢
  omega

theorem dspFrame_dspPost (s : Block) (w : Nat) : s.dspFrame (s.dspPost w) w := by
  obtain ⟨-, e⟩ | ⟨-, e⟩ := dspPost_cases s w <;> rw [e]
  · exact dspFrame_trans (dspFrame_trans (dspFrame_setDspSt s w 2) (dspFrame_enqueue ..)) (dspFrame_dspFree ..)
  · exact dspFrame_trans (dspFrame_setDspSt s w 2) (dspFrame_setDisp ..)

theorem irqRaw_ne_qhwm (w : Nat) : R.IRQ_RAW (dspPage w) ≠ R.DISP_QHWM := by
  unfold R.IRQ_RAW R.DISP_QHWM dspPage
  omega

theorem bt_irqRaw_dspPost {s : Block} {w j : Nat} (h : s.bt (R.IRQ_RAW (dspPage w)) j = true) :
    (s.dspPost w).bt (R.IRQ_RAW (dspPage w)) j = true := by
  have state := (Block.bt_congr (irqRaw_setDspSt s w 2) j).trans h
  obtain ⟨-, e⟩ | ⟨-, e⟩ := dspPost_cases s w <;> rw [e]
  · have queued := keeps_enqueue (s.setDspSt w 2) (0x0D0 + w) (R.IRQ_RAW (dspPage w))
      (by simpa using irqRaw_ne_qhwm w) (notPend_dspPage w 0x10)
    exact bt_irqRaw_dspFree ((Block.bt_congr queued j).trans state)
  · exact (Block.bt_congr (rd_setDisp ..) j).trans state

/-- Of the processor's hidden state only a suspension that waited may change with the event. -/
theorem dspAt_dspPost (s : Block) (w : Nat) : ∃ b, (s.dspPost w).dspAt w = { s.dspAt w with susp := b } := by
  obtain ⟨-, e⟩ | ⟨-, e⟩ := dspPost_cases s w <;> rw [e]
  · exact ⟨false, by rw [dspAt_dspFree, dspAt_enqueue, dspAt_setDspSt]⟩
  · exact ⟨(s.dspAt w).susp, by rw [dspAt_setDisp, dspAt_setDspSt]⟩

/-- What `dspEnded` says of the event's admission. -/
theorem dspPost_outcome (s : Block) (w : Nat) :
    (s.disp.evq.length < 960 → s.disp.held = [] →
      (s.dspPost w).disp = { s.disp with evq := s.disp.evq ++ [0x0D0 + w] } ∧
      (s.dspPost w).dspSt w = (if (s.dspAt w).susp = true then 3 else 0) ∧ ((s.dspPost w).dspAt w).susp = false) ∧
    (960 ≤ s.disp.evq.length ∨ s.disp.held ≠ [] →
      (s.dspPost w).disp = { s.disp with held := s.disp.held ++ [.dsp w] } ∧
      (s.dspPost w).dspSt w = 2 ∧ ((s.dspPost w).dspAt w).susp = (s.dspAt w).susp) := by
  constructor
  · intro room unheld
    rw [dspPost_admitted room unheld, dspFree_disp, enqueue_disp, setDspSt_disp, dspSt_dspFree, dspAt_dspFree,
      dspAt_enqueue, dspAt_setDspSt]
    exact ⟨rfl, rfl, rfl⟩
  · intro h
    rw [dspPost_held h, dspAt_setDisp, dspAt_setDspSt, Block.dspSt, Block.fl_congr (rd_setDisp ..)]
    exact ⟨rfl, dspSt_setDspSt s w (by decide), rfl⟩

/-! ### The job counted (R431) -/

/-- The middle step of `dspEnd`: no job is in hand, the one that ended is counted, DONE is raised. -/
def Block.dspCount (s : Block) (w : Nat) : Block :=
  let s := s.wrN (R.DSP_JOB w) 0
  (s.wrN (R.DSP_DONE_CNT w) (s.rdN (R.DSP_DONE_CNT w) + 1)).raise (dspPage w) 0

theorem keeps_dspCount (s : Block) (w : Nat) :
    s.keeps (s.dspCount w) [R.DSP_JOB w, R.DSP_DONE_CNT w, R.IRQ_RAW (dspPage w)] :=
  keeps_trans (keeps_trans (keeps_wr s _ _ (by simp)) (keeps_wr _ _ _ (by simp))) (keeps_raise _ _ _ (by simp))

theorem dspFrame_dspCount (s : Block) (w : Nat) : s.dspFrame (s.dspCount w) w :=
  dspFrame_of_sameHidden (keeps_dspCount s w) (by simp [dspRegs])
    (sameHidden_trans (sameHidden_trans (sameHidden_wrN ..) (sameHidden_wrN ..)) (sameHidden_raise ..))

theorem dspCount_disp (s : Block) (w : Nat) : (s.dspCount w).disp = s.disp := by
  rw [Block.dspCount, raise_disp, Block.wrN, Block.wr_disp, Block.wrN, Block.wr_disp]

theorem dspAt_dspCount (s : Block) (w : Nat) : (s.dspCount w).dspAt w = s.dspAt w := by
  rw [Block.dspCount, dspAt_raise]
  exact dspAt_congr (by rw [Block.wrN, Block.wr_dsp, Block.wrN, Block.wr_dsp]) w

theorem rd_job_dspCount (s : Block) (w : Nat) : (s.dspCount w).rd (R.DSP_JOB w) = 0#32 := by
  have raised : R.DSP_JOB w ≠ R.IRQ_RAW (dspPage w) := by simp [R.DSP_JOB, R.IRQ_RAW, dspPage]
  rw [Block.dspCount, Block.rd_raise _ _ _ _ raised (notPend_dspPage w 0x54),
    Block.wrN, Block.rd_wr_ne _ _ (by simp [R.DSP_JOB, R.DSP_DONE_CNT]), Block.wrN, Block.rd_wr_self]

theorem rd_doneCnt_dspCount (s : Block) (w : Nat) :
    (s.dspCount w).rd (R.DSP_DONE_CNT w) = s.rd (R.DSP_DONE_CNT w) + 1#32 := by
  have apart : R.DSP_DONE_CNT w ≠ R.DSP_JOB w := by simp [R.DSP_JOB, R.DSP_DONE_CNT]
  have raised : R.DSP_DONE_CNT w ≠ R.IRQ_RAW (dspPage w) := by simp [R.DSP_DONE_CNT, R.IRQ_RAW, dspPage]
  rw [Block.dspCount, Block.rd_raise _ _ _ _ raised (notPend_dspPage w 0x68),
    Block.wrN, Block.rd_wr_self, Block.rdN, Block.wrN, Block.rd_wr_ne _ _ apart]
  simp [BitVec.ofNat_add]

theorem bt_done_dspCount (s : Block) (w : Nat) : (s.dspCount w).bt (R.IRQ_RAW (dspPage w)) 0 = true :=
  Block.bt_raise_self _ _ 0 (by decide) (notPend_dspPage w 0x10)

/-- A job counted and its event posted: it has ended. -/
theorem dspEnded_count_post (s : Block) (w : Nat) : s.dspEnded ((s.dspCount w).dspPost w) w := by
  have outcome := dspPost_outcome (s.dspCount w) w
  rw [dspCount_disp, dspAt_dspCount] at outcome
  refine ⟨?_, ?_, bt_irqRaw_dspPost (bt_done_dspCount s w), outcome⟩
  · exact (rd_dspPost (s.dspCount w) w 0x54 (by decide)).trans (rd_job_dspCount s w)
  · exact (rd_dspPost (s.dspCount w) w 0x68 (by decide)).trans (rd_doneCnt_dspCount s w)

/-! ### A flag set under a condition -/

section
variable (s : Block) (w i : Nat) (c : Prop) [Decidable c]

theorem keeps_dspFlag_ite : s.keeps (if c then s.dspFlag w i else s) [R.DSP_ERR w, R.IRQ_RAW (dspPage w)] := by
  split
  · exact keeps_dspFlag s w i
  · exact keeps_refl s _

theorem dspFrame_dspFlag_ite : s.dspFrame (if c then s.dspFlag w i else s) w := by
  split
  · exact dspFrame_dspFlag s w i
  · exact dspFrame_refl s w

theorem dspFlag_ite_disp : (if c then s.dspFlag w i else s).disp = s.disp := by
  split
  · exact dspFlag_disp s w i
  · rfl

theorem dspAt_dspFlag_ite : (if c then s.dspFlag w i else s).dspAt w = s.dspAt w := by
  split
  · exact dspAt_dspFlag s w i w
  · rfl

end

/-! ### The end of a job (R431) -/

theorem dspEnd_fst (s : Block) (w st reason : Nat) :
    (s.dspEnd w st reason).1 = ((if st = 3 then s.dspFlag w 0 else s).dspCount w).dspPost w := rfl

theorem dspEnd_snd (s : Block) (w st reason : Nat) :
    (s.dspEnd w st reason).2 = [.store (dspAddr w (s.dspJob w) + 4)
      (dspStatus st reason (s.dspAt w).bexp (s.dspAt w).sat)] := rfl

/-- `dspEnded` speaks of the state before by its count, its events and the suspension that waits alone. -/
theorem dspEnded_of_dspEnded {b b' c : Block} {w : Nat} (h : b'.dspEnded c w)
    (count : b'.rd (R.DSP_DONE_CNT w) = b.rd (R.DSP_DONE_CNT w)) (disp : b'.disp = b.disp)
    (susp : (b'.dspAt w).susp = (b.dspAt w).susp) : b.dspEnded c w := by
  rw [Block.dspEnded] at h ⊢
  rwa [count, disp, susp] at h

theorem rd_doneCnt_of_keeps {b c : Block} {w : Nat} (h : b.keeps c [R.DSP_ERR w, R.IRQ_RAW (dspPage w)]) :
    c.rd (R.DSP_DONE_CNT w) = b.rd (R.DSP_DONE_CNT w) :=
  h _ (by simp [R.DSP_DONE_CNT, R.DSP_ERR, R.IRQ_RAW, dspPage]) (notPend_dspPage w 0x68)

theorem dspEnded_dspEnd (s : Block) (w st reason : Nat) : s.dspEnded (s.dspEnd w st reason).1 w := by
  rw [dspEnd_fst]
  refine dspEnded_of_dspEnded (dspEnded_count_post _ w) (rd_doneCnt_of_keeps (keeps_dspFlag_ite _ _ _ _))
    (dspFlag_ite_disp ..) ?_
  rw [dspAt_dspFlag_ite]

theorem dspFrame_dspEnd (s : Block) (w st reason : Nat) : s.dspFrame (s.dspEnd w st reason).1 w := by
  rw [dspEnd_fst]
  exact dspFrame_trans (dspFrame_trans (dspFrame_dspFlag_ite ..) (dspFrame_dspCount ..)) (dspFrame_dspPost ..)

theorem dspAt_dspEnd (s : Block) (w st reason : Nat) :
    ∃ b, (s.dspEnd w st reason).1.dspAt w = { s.dspAt w with susp := b } := by
  obtain ⟨b, h⟩ := dspAt_dspPost ((if st = 3 then s.dspFlag w 0 else s).dspCount w) w
  rw [dspAt_dspCount, dspAt_dspFlag_ite] at h
  exact ⟨b, h⟩

/-- A failed job raises DSP_ERR.JOB_FAIL (R436). -/
theorem bt_jobFail_dspEnd (s : Block) (w reason : Nat) : (s.dspEnd w 3 reason).1.bt (R.DSP_ERR w) 0 = true := by
  rw [dspEnd_fst, if_pos rfl]
  have posted := rd_dspPost ((s.dspFlag w 0).dspCount w) w 0x48 (by decide)
  have counted := keeps_dspCount (s.dspFlag w 0) w (R.DSP_ERR w)
    (by simp [R.DSP_ERR, R.DSP_JOB, R.DSP_DONE_CNT, R.IRQ_RAW, dspPage]) (notPend_dspPage w 0x48)
  exact (Block.bt_congr (posted.trans counted) 0).trans (bt_dspFlag_self s w 0 (by decide))

/-! ### The elements of a job (R429) -/

/-- The run that `dspExec` makes of n more elements of the job in hand. -/
def Block.dspRunOn (s : Block) (mem : Mem) (w n : Nat) : DspRun :=
  let x := s.dspAt w
  dspRun (dspDesc mem (dspAddr w (s.dspJob w))) x.done n { mem := mem, bexp := x.bexp, s := x.s, sat := x.sat }

theorem dspRunOn_zero_mem (s : Block) (mem : Mem) (w : Nat) : (s.dspRunOn mem w 0).mem = mem := rfl

theorem dspExec_fst (s : Block) (mem : Mem) (w n : Nat) :
    (s.dspExec mem w n).1 =
      (if (s.dspRunOn mem w n).sat = true then s.dspFlag w 2 else s).setDsp w
        { s.dspAt w with
          done := (s.dspAt w).done + n, bexp := (s.dspRunOn mem w n).bexp, s := (s.dspRunOn mem w n).s,
          sat := (s.dspRunOn mem w n).sat } := rfl

theorem keeps_dspExec (s : Block) (mem : Mem) (w n : Nat) :
    s.keeps (s.dspExec mem w n).1 [R.DSP_ERR w, R.IRQ_RAW (dspPage w)] := by
  rw [dspExec_fst]
  exact keeps_trans (keeps_dspFlag_ite _ _ _ _) (keeps_setDsp _ w _ _)

theorem dspFrame_dspExec (s : Block) (mem : Mem) (w n : Nat) : s.dspFrame (s.dspExec mem w n).1 w := by
  rw [dspExec_fst]
  exact dspFrame_trans (dspFrame_dspFlag_ite ..) (dspFrame_setDsp ..)

theorem dspExec_disp (s : Block) (mem : Mem) (w n : Nat) : (s.dspExec mem w n).1.disp = s.disp := by
  rw [dspExec_fst, setDsp_disp, dspFlag_ite_disp]

theorem dspAt_dspExec (s : Block) (mem : Mem) (w n : Nat) :
    (s.dspExec mem w n).1.dspAt w =
      { s.dspAt w with
        done := (s.dspAt w).done + n, bexp := (s.dspRunOn mem w n).bexp, s := (s.dspRunOn mem w n).s,
        sat := (s.dspRunOn mem w n).sat } := by
  rw [dspExec_fst, dspAt_setDsp]

theorem dspJob_dspExec (s : Block) (mem : Mem) (w n : Nat) : (s.dspExec mem w n).1.dspJob w = s.dspJob w := by
  have job := keeps_dspExec s mem w n (R.DSP_JOB w) (by simp [R.DSP_JOB, R.DSP_ERR, R.IRQ_RAW, dspPage])
    (notPend_dspPage w 0x54)
  rw [Block.dspJob, Block.fl_congr job, Block.dspJob]

/-- The job that `dspExec` carried on and `dspEnd` ended has ended since the state before both. -/
theorem dspEnded_dspExec_dspEnd (s : Block) (mem : Mem) (w n st reason : Nat) :
    s.dspEnded ((s.dspExec mem w n).1.dspEnd w st reason).1 w := by
  refine dspEnded_of_dspEnded (dspEnded_dspEnd _ w st reason) (rd_doneCnt_of_keeps (keeps_dspExec s mem w n))
    (dspExec_disp s mem w n) ?_
  rw [dspAt_dspExec]

section
variable (s : Block) (mem : Mem) (w n : Nat) (d : DspDesc) (hd : d = dspDesc mem (dspAddr w (s.dspJob w)))
include hd

theorem mapply_dspExec :
    mapply mem (s.dspExec mem w n).2 =
      let stored := mstore mem d.out (mrdBytes (s.dspRunOn mem w n).mem d.out (outLen d))
      if d.kind = 3 then mstore stored d.aux (mrdBytes (s.dspRunOn mem w n).mem d.aux (auxLen d)) else stored := by
  subst hd
  unfold Block.dspExec
  dsimp only
  split <;> rfl

/-- Finished elements store in OUT, and the sections of a BIQ in AUX, and nowhere else. -/
theorem memKeeps_dspExec {L : List (Nat × Nat)} (out : (d.out, outLen d) ∈ L)
    (aux : d.kind = 3 → (d.aux, auxLen d) ∈ L) : memKeeps mem (mapply mem (s.dspExec mem w n).2) L := by
  have stored := memKeeps_mstore d.out (mrdBytes (s.dspRunOn mem w n).mem d.out (outLen d)) (memKeeps_refl mem L)
    (by simpa using out)
  rw [mapply_dspExec s mem w n d hd]
  dsimp only
  split
  · next biq => exact memKeeps_mstore _ _ stored (by simpa using aux biq)
  · exact stored

/-- Without a further element the stores put back what memory holds. -/
theorem memKeeps_dspExec_zero (L : List (Nat × Nat)) : memKeeps mem (mapply mem (s.dspExec mem w 0).2) L := by
  intro x _
  have stored := mrd_mstore_mrdBytes (fun x => rfl) (m := mem) d.out (outLen d)
  rw [mapply_dspExec s mem w 0 d hd, dspRunOn_zero_mem]
  dsimp only
  split
  · exact mrd_mstore_mrdBytes stored _ _ _
  · exact stored x

end

/-! ### A job carried on and ended: context, STATUS and memory -/

theorem wordsAt_dspStatus (m : Mem) (a st reason bexp : Nat) (sat : Bool) :
    wordsAt (mapply m [.store a (dspStatus st reason bexp sat)]) a
      [st + reason * 2 ^ 8 + bexp % 256 * 2 ^ 16 + (if sat = true then 2 ^ 24 else 0)] := by
  rw [mapply_store, dspStatus]
  exact wordsAt_mstore_bytesOf m a _

theorem dspEnd_snd_dspExec (s : Block) (mem : Mem) (w n st reason : Nat) :
    ((s.dspExec mem w n).1.dspEnd w st reason).2 =
      [.store (dspAddr w (s.dspJob w) + 4)
        (dspStatus st reason ((s.dspExec mem w n).1.dspAt w).bexp ((s.dspExec mem w n).1.dspAt w).sat)] := by
  rw [dspEnd_snd, dspJob_dspExec]

theorem memKeeps_dspStatus {m n : Mem} {L : List (Nat × Nat)} (a st reason bexp : Nat) (sat : Bool)
    (h : memKeeps m n L) (hr : (a, 4) ∈ L) : memKeeps m (mapply n [.store a (dspStatus st reason bexp sat)]) L := by
  rw [mapply_store, dspStatus]
  exact memKeeps_mstore a _ h (by rwa [bytesOf_length])

/-- A job carried on by some elements and then ended: the context it leaves, its STATUS, and what memory keeps. -/
theorem dspExec_dspEnd_memory (s : Block) (mem : Mem) (w n st reason : Nat) :
    let x := s.dspAt w
    let a := dspAddr w (s.dspJob w)
    let d := dspDesc mem a
    let q := (s.dspExec mem w n).1.dspEnd w st reason
    let y := q.1.dspAt w
    let m := mapply mem ((s.dspExec mem w n).2 ++ q.2)
    y.done = x.done + n ∧
    wordsAt m (a + 4) [st + reason * 2 ^ 8 + y.bexp % 256 * 2 ^ 16 + (if y.sat = true then 2 ^ 24 else 0)] ∧
    memKeeps mem m ([(a + 4, 4), (d.out, outLen d)] ++ (if d.kind = 3 then [(d.aux, auxLen d)] else [])) ∧
    (n = 0 → memKeeps mem m [(a + 4, 4)]) := by
  obtain ⟨b, ctx⟩ := dspAt_dspEnd (s.dspExec mem w n).1 w st reason
  dsimp only
  rw [mapply_append, dspEnd_snd_dspExec, ctx]
  dsimp only
  refine ⟨?_, wordsAt_dspStatus _ _ _ _ _ _, ?_, ?_⟩
  · rw [dspAt_dspExec]
  · refine memKeeps_dspStatus _ _ _ _ _ (memKeeps_dspExec s mem w n _ rfl (by simp) fun biq => ?_) (by simp)
    simp [biq]
  · rintro rfl
    exact memKeeps_dspStatus _ _ _ _ _ (memKeeps_dspExec_zero s mem w _ rfl _) (by simp)

end Sys2Proof.Machine
end

section
/-! DSP_CMD.ABORT (R434). -/

namespace Sys2Proof.Machine

theorem twinnedPage_DSP_CMD (w : WingIx) : twinnedPage (R.DSP_CMD w.val) = false := by
  revert w
  decide

theorem exec_dspAbort {s : State} {w : WingIx} {snd : Sender} {v : Word} (n : Nat)
    (h : s.takesWrite snd (R.DSP_CMD w.val)) (abort : fld v 0 4 = 8) :
    exec (.dspAbort w snd v n) s =
      .next { s with
        blk := (opDspAbort w.val n snd s.blk.fresh s.mem).1
        mem := mapply s.mem (opDspAbort w.val n snd s.blk.fresh s.mem).2 } := by
  have taken := onMem_write v (dspCmd w.val snd v (opDspAbort w.val n snd)) h (twinnedPage_DSP_CMD w)
  have cmd (b : Block) (m : Mem) : dspCmd w.val snd v (opDspAbort w.val n snd) b m = opDspAbort w.val n snd b m := by
    simp [dspCmd, abort]
  rw [cmd] at taken
  exact taken

/-- The elements that a job still finishes before its abort: none where it is suspended. -/
def Block.dspAbortRuns (s : Block) (mem : Mem) (w n : Nat) : Nat :=
  if s.dspSt w = 3 then 0
  else min n (dspTotal (dspDesc mem (dspAddr w (s.dspJob w))) - (s.dspAt w).done)

theorem opDspAbort_refused {s : Block} {w : Nat} (n : Nat) (snd : Sender) (mem : Mem)
    (h : (s.dspSt w ≠ 1 ∧ s.dspSt w ≠ 3) ∨ (s.dspValid w && !s.dspVmf w) = false) :
    opDspAbort w n snd s mem = (s.refuse true (R.DSP_CMD w) snd .state, []) := by
  unfold opDspAbort
  refine if_pos ?_
  obtain ⟨h1, h3⟩ | h := h
  · simp [h1, h3]
  · have other : (!s.dspValid w || s.dspVmf w) = true := by
      simpa [Bool.and_eq_false_iff, -Bool.and_eq_false_imp] using h
    rw [Bool.or_assoc, other, Bool.or_true]

theorem opDspAbort_ends {s : Block} {w : Nat} (n : Nat) (snd : Sender) (mem : Mem)
    (h : s.dspSt w = 1 ∨ s.dspSt w = 3) (fw : (s.dspValid w && !s.dspVmf w) = true) :
    opDspAbort w n snd s mem =
      (((s.dspExec mem w (s.dspAbortRuns mem w n)).1.dspEnd w 3 5).1,
        (s.dspExec mem w (s.dspAbortRuns mem w n)).2 ++ ((s.dspExec mem w (s.dspAbortRuns mem w n)).1.dspEnd w 3 5).2) := by
  unfold opDspAbort
  refine if_neg ?_
  rw [Bool.and_eq_true, Bool.not_eq_true'] at fw
  simpa [fw.1, fw.2] using fun h1 => h.resolve_left h1

/-- An abort of a job that cannot be aborted is refused with reason STATE. -/
theorem dspAbort_refused {s : State} {w : WingIx} {snd : Sender} {v : Word} (n : Nat)
    (h : s.takesWrite snd (R.DSP_CMD w.val)) (abort : fld v 0 4 = 8)
    (no : (s.blk.dspSt w.val ≠ 1 ∧ s.blk.dspSt w.val ≠ 3) ∨ (s.blk.dspValid w.val && !s.blk.dspVmf w.val) = false) :
    ∃ t, exec (.dspAbort w snd v n) s = .next t ∧ s.refused t (R.DSP_CMD w.val) .state [] := by
  have away : notPend (R.PAGE_ERR (pageBase (R.DSP_CMD w.val))) := by
    right
    unfold R.PAGE_ERR pageBase R.DSP_CMD R.PLIC_PEND
    omega
  refine ⟨_, exec_dspAbort n h abort, ?_⟩
  rw [opDspAbort_refused (s := s.blk.fresh) n snd s.mem no]
  exact refused_refuse { s with blk := s.blk.fresh } (R.DSP_CMD w.val) snd .state true away

theorem dspAbortRuns_eq_zero {s : Block} {w n : Nat} (mem : Mem) (h : s.dspSt w = 3 ∨ n = 0) :
    s.dspAbortRuns mem w n = 0 := by
  unfold Block.dspAbortRuns
  obtain h | rfl := h
  · exact if_pos h
  · simp

/-- Settles O50: an abort is `dspExec` of the elements still finished and `dspEnd` with reason 5, or a refused access. -/
theorem spectralAborts : Obligations.SpectralAborts := by
  intro s w snd v n h abort
  refine ⟨dspAbort_refused n h abort, fun active fw => ⟨_, exec_dspAbort n h abort, rfl, ?_⟩⟩
  rw [opDspAbort_ends (s := s.blk.fresh) n snd s.mem active fw]
  obtain ⟨done, status, stored, idle⟩ :=
    dspExec_dspEnd_memory s.blk.fresh s.mem w.val (s.blk.fresh.dspAbortRuns s.mem w.val n) 3 5
  exact ⟨rfl, rfl, dspEnded_dspExec_dspEnd s.blk.fresh s.mem w.val _ 3 5, bt_jobFail_dspEnd _ _ 5,
    ⟨done, status⟩, stored,
    fun still => idle (dspAbortRuns_eq_zero (s := s.blk.fresh) s.mem still),
    dspFrame_trans (dspFrame_fresh s.blk w.val) (dspFrame_trans (dspFrame_dspExec ..) (dspFrame_dspEnd _ _ 3 5))⟩

end Sys2Proof.Machine
end

section
/-! What a CAN controller's own steps leave unchanged (R442, R445, R448): their frame, and the steps that report no end
of an attempt. -/

namespace Sys2Proof.Machine

/-! ### The frame of a CAN controller's steps -/

/-- Beside registers of `A`, the hidden state of CAN controller i and the Dispatch Unit nothing of the application side
differs. -/
structure Block.canFrame (b c : Block) (i : Nat) (A : List Nat) : Prop where
  kept : b.keeps c A
  hidden : b.sameHidden { c with can := b.can, disp := b.disp }
  others : ∀ k, k ≠ i → c.canAt k = b.canAt k

theorem canFrame_trans {b c d : Block} {i : Nat} {A : List Nat} (h : b.canFrame c i A) (k : c.canFrame d i A) :
    b.canFrame d i A where
  kept := keeps_trans h.kept k.kept
  hidden := sameHidden_trans h.hidden (congrArg (fun e : Block => { e with can := b.can, disp := b.disp }) k.hidden)
  others j hj := (k.others j hj).trans (h.others j hj)

theorem canFrame_mono {b c : Block} {i : Nat} {A B : List Nat} (h : b.canFrame c i A) (sub : A ⊆ B) :
    b.canFrame c i B :=
  ⟨keeps_mono h.kept sub, h.hidden, h.others⟩

theorem canAt_of_sameHidden {b c : Block} (h : b.sameHidden c) (k : Nat) : c.canAt k = b.canAt k := by
  rw [h]
  rfl

theorem disp_of_sameHidden {b c : Block} (h : b.sameHidden c) : c.disp = b.disp := by
  rw [h]

theorem canFrame_of_sameHidden {b c : Block} {A : List Nat} (i : Nat) (kept : b.keeps c A) (same : b.sameHidden c) :
    b.canFrame c i A where
  kept := kept
  hidden := congrArg (fun e : Block => { e with can := b.can, disp := b.disp }) same
  others k _ := canAt_of_sameHidden same k

@[simp] theorem canAt_setCan (s : Block) (i : Nat) (x : Can) : (s.setCan i x).canAt i = x :=
  (sget_sset (fun _ => ({} : Can)) s.can i i x).trans (if_pos rfl)

@[simp] theorem canAt_setDisp (s : Block) (x : Disp) (i : Nat) : (s.setDisp x).canAt i = s.canAt i := rfl

@[simp] theorem rd_setCan (s : Block) (i : Nat) (x : Can) (a : Nat) : (s.setCan i x).rd a = s.rd a := rfl

@[simp] theorem setCan_disp (s : Block) (i : Nat) (x : Can) : (s.setCan i x).disp = s.disp := rfl

@[simp] theorem canAt_raise (s : Block) (page j i : Nat) : (s.raise page j).canAt i = s.canAt i :=
  canAt_of_sameHidden (sameHidden_raise s page j) i

@[simp] theorem canAt_canFlag (s : Block) (i j k : Nat) : (s.canFlag i j).canAt k = s.canAt k :=
  canAt_of_sameHidden (sameHidden_flag ..) k

theorem canFrame_setCan (s : Block) (i : Nat) (x : Can) (A : List Nat) : s.canFrame (s.setCan i x) i A where
  kept a _ _ := rd_setCan s i x a
  hidden := rfl
  others k hk := (sget_sset (fun _ => ({} : Can)) s.can i k x).trans (if_neg hk)

theorem canFrame_setDisp (s : Block) (i : Nat) (x : Disp) (A : List Nat) : s.canFrame (s.setDisp x) i A where
  kept := keeps_setDisp s x A
  hidden := rfl
  others _ _ := rfl

/-! ### Steps that report no end of an attempt -/

/-- The registers of CAN controller i that a step may change beside its errors, its count of lost frames and its
interrupts. -/
def canViewRegs (i : Nat) : List Nat :=
  [R.CAN_STAT i, R.CAN_ECNT i, R.CAN_RXF_ID i, R.CAN_RXF_CTL i, R.CAN_RXF_TS i, R.DISP_QHWM] ++
    (List.range 16).map (R.CAN_RXF_DATA i)

theorem canViewRegs_subset_canRegs (i : Nat) : canViewRegs i ⊆ canRegs i := by
  intro a h
  simp only [canViewRegs, canRegs, List.mem_append, List.mem_cons, List.not_mem_nil, or_false] at h ⊢
  tauto

theorem notPend_canPage (i o : Nat) : notPend (canPage i + o) := by
  right
  unfold R.PLIC_PEND canPage
  omega

/-- Flags, count of lost frames and interrupts of the page are not in `canViewRegs`. -/
theorem not_mem_canViewRegs (i o : Nat) (h : o ∈ [0x10, 0x48, 0x60]) : canPage i + o ∉ canViewRegs i := by
  simp only [List.mem_cons, List.not_mem_nil, or_false] at h
  simp only [canViewRegs, R.CAN_STAT, R.CAN_ECNT, R.CAN_RXF_ID, R.CAN_RXF_CTL, R.CAN_RXF_TS, R.CAN_RXF_DATA,
    R.DISP_QHWM, canPage, List.mem_append, List.mem_cons, List.mem_map, List.mem_range, List.not_mem_nil, or_false,
    not_or, not_exists, not_and]
  refine ⟨by omega, fun j _ => by omega⟩

section
variable {b c : Block} {i : Nat} (kept : b.keeps c (canViewRegs i))
include kept

theorem rd_canErr_of_keeps : c.rd (R.CAN_ERR i) = b.rd (R.CAN_ERR i) :=
  kept _ (not_mem_canViewRegs i 0x48 (by decide)) (notPend_canPage i 0x48)

theorem rd_canLostCnt_of_keeps : c.rd (R.CAN_LOST_CNT i) = b.rd (R.CAN_LOST_CNT i) :=
  kept _ (not_mem_canViewRegs i 0x60 (by decide)) (notPend_canPage i 0x60)

theorem rd_canIrq_of_keeps : c.rd (R.IRQ_RAW (canPage i)) = b.rd (R.IRQ_RAW (canPage i)) :=
  kept _ (not_mem_canViewRegs i 0x10 (by decide)) (notPend_canPage i 0x10)

end

/-- A step of CAN controller i that reports neither a frame sent nor one abandoned, and of the controller's hidden state
changes whether it recovers from bus-off alone. -/
structure Block.canQuiet (b c : Block) (i : Nat) : Prop where
  frame : b.canFrame c i (canRegs i)
  abandoned : c.bt (R.CAN_ERR i) 2 = b.bt (R.CAN_ERR i) 2
  lost : c.rd (R.CAN_LOST_CNT i) = b.rd (R.CAN_LOST_CNT i)
  sent : c.bt (R.IRQ_RAW (canPage i)) 2 = b.bt (R.IRQ_RAW (canPage i)) 2
  state : ∃ r, c.canAt i = { b.canAt i with recov := r }

theorem canQuiet_trans {b c d : Block} {i : Nat} (h : b.canQuiet c i) (k : c.canQuiet d i) : b.canQuiet d i where
  frame := canFrame_trans h.frame k.frame
  abandoned := k.abandoned.trans h.abandoned
  lost := k.lost.trans h.lost
  sent := k.sent.trans h.sent
  state := by
    obtain ⟨r, hr⟩ := h.state
    obtain ⟨q, hq⟩ := k.state
    exact ⟨q, by rw [hq, hr]⟩

theorem canQuiet_of_canFrame {b c : Block} {i : Nat} (h : b.canFrame c i (canViewRegs i))
    (state : ∃ r, c.canAt i = { b.canAt i with recov := r }) : b.canQuiet c i where
  frame := canFrame_mono h (canViewRegs_subset_canRegs i)
  abandoned := Block.bt_congr (rd_canErr_of_keeps h.kept) 2
  lost := rd_canLostCnt_of_keeps h.kept
  sent := Block.bt_congr (rd_canIrq_of_keeps h.kept) 2
  state := state

theorem canQuiet_of_sameHidden {b c : Block} {i : Nat} (kept : b.keeps c (canViewRegs i)) (same : b.sameHidden c) :
    b.canQuiet c i :=
  canQuiet_of_canFrame (canFrame_of_sameHidden i kept same) ⟨_, canAt_of_sameHidden same i⟩

theorem canQuiet_refl (s : Block) (i : Nat) : s.canQuiet s i :=
  canQuiet_of_sameHidden (keeps_refl s _) (sameHidden_refl s)

theorem canQuiet_setRecov (s : Block) (i : Nat) (r : Bool) : s.canQuiet (s.setCan i { s.canAt i with recov := r }) i :=
  canQuiet_of_canFrame (canFrame_setCan ..) ⟨r, canAt_setCan ..⟩

theorem canQuiet_wr (s : Block) {i a : Nat} (v : Word) (h : a ∈ canViewRegs i) : s.canQuiet (s.wr a v) i :=
  canQuiet_of_sameHidden (keeps_wr s a v h) (sameHidden_wr s a v)

/-! ### Interrupts and flags -/

/-- An interrupt raised leaves the page's other interrupts as they are. -/
theorem bt_raise_ne (s : Block) {page i j : Nat} (hi : i < 32) (hn : notPend (R.IRQ_RAW page)) (hj : j ≠ i) :
    (s.raise page i).bt (R.IRQ_RAW page) j = s.bt (R.IRQ_RAW page) j := by
  have bit : (s.setB (R.IRQ_RAW page) i true).bt (R.IRQ_RAW page) j = s.bt (R.IRQ_RAW page) j := by
    rw [Block.bt_setB _ _ _ _ _ _ hi, if_neg (fun h => hj h.2)]
  unfold Block.raise
  obtain ⟨l, noted⟩ := s.noteRise_spec (s.setB (R.IRQ_RAW page) i true) page
  rw [noted]
  obtain e | ⟨src, hs, e⟩ := Block.plicSense_spec _ page <;> rw [e]
  · exact bit
  · exact (Block.bt_congr (Block.rd_setB_ne _ _ _ (ne_pend hn src hs)) j).trans bit

theorem canFrame_raise (s : Block) (i j : Nat) : s.canFrame (s.raise (canPage i) j) i (canRegs i) :=
  canFrame_of_sameHidden i (keeps_raise s _ j (by simp [canRegs])) (sameHidden_raise ..)

theorem rd_canErr_raise (s : Block) (i j : Nat) : (s.raise (canPage i) j).rd (R.CAN_ERR i) = s.rd (R.CAN_ERR i) :=
  Block.rd_raise _ _ _ _ (by simp [R.CAN_ERR, R.IRQ_RAW, canPage]) (notPend_canPage i 0x48)

theorem rd_canLostCnt_raise (s : Block) (i j : Nat) :
    (s.raise (canPage i) j).rd (R.CAN_LOST_CNT i) = s.rd (R.CAN_LOST_CNT i) :=
  Block.rd_raise _ _ _ _ (by simp [R.CAN_LOST_CNT, R.IRQ_RAW, canPage]) (notPend_canPage i 0x60)

theorem canQuiet_raise (s : Block) (i : Nat) {j : Nat} (hj : j < 32) (h : j ≠ 2) :
    s.canQuiet (s.raise (canPage i) j) i where
  frame := canFrame_raise s i j
  abandoned := Block.bt_congr (rd_canErr_raise s i j) 2
  lost := rd_canLostCnt_raise s i j
  sent := bt_raise_ne s hj (notPend_canPage i 0x10) (Ne.symm h)
  state := ⟨_, canAt_raise ..⟩

/-- Every flag of CAN_ERR but ABANDONED is set quietly. -/
theorem canQuiet_canFlag (s : Block) (i : Nat) {j : Nat} (hj : j < 24) (h : j ≠ 2) : s.canQuiet (s.canFlag i j) i := by
  have flagged : s.canQuiet (s.setB (R.CAN_ERR i) j true) i :=
    { frame := canFrame_of_sameHidden i (keeps_wr s _ _ (by simp [canRegs])) (sameHidden_setB ..)
      abandoned := by rw [Block.bt_setB _ _ _ _ _ _ (by omega), if_neg (fun e => h e.2.symm)]
      lost := Block.rd_setB_ne _ _ _ (by simp [R.CAN_LOST_CNT, R.CAN_ERR])
      sent := Block.bt_congr (Block.rd_setB_ne _ _ _ (by simp [R.IRQ_RAW, R.CAN_ERR, canPage])) 2
      state := ⟨_, canAt_of_sameHidden (sameHidden_setB ..) i⟩ }
  exact canQuiet_trans flagged (canQuiet_raise _ i (by omega) (by omega))

/-! ### The controller's events (R114, R448) -/

/-- The Dispatch Unit with a stall-class event of CAN controller i admitted, or held by its source. -/
def Disp.canPost (d : Disp) (i n : Nat) : Disp :=
  if StallSrc.can i n ∈ d.held then d
  else if d.evq.length < 960 ∧ d.held = [] then { d with evq := d.evq ++ [0x120 + 4 * i + n] }
  else { d with held := d.held ++ [.can i n] }

theorem canPosted_iff (b c : Block) (i n : Nat) : b.canPosted c i n ↔ c.disp = b.disp.canPost i n := Iff.rfl

theorem enqueue_cases (s : Block) (ev : Nat) :
    s.enqueue ev = s.setDisp { s.disp with evq := s.disp.evq ++ [ev] } ∨
      ∃ v, s.enqueue ev = (s.setDisp { s.disp with evq := s.disp.evq ++ [ev] }).wr R.DISP_QHWM v := by
  rw [enqueue_eq, Block.noteHwm]
  split
  · exact .inr ⟨_, rfl⟩
  · exact .inl rfl

theorem canQuiet_setDisp (s : Block) (i : Nat) (x : Disp) : s.canQuiet (s.setDisp x) i :=
  canQuiet_of_canFrame (canFrame_setDisp ..) ⟨_, canAt_setDisp ..⟩

theorem canQuiet_enqueue (s : Block) (i ev : Nat) : s.canQuiet (s.enqueue ev) i := by
  have queued := canQuiet_setDisp s i { s.disp with evq := s.disp.evq ++ [ev] }
  obtain e | ⟨v, e⟩ := enqueue_cases s ev <;> rw [e]
  · exact queued
  · exact canQuiet_trans queued (canQuiet_wr _ v (by simp [canViewRegs]))

theorem postStall_can (s : Block) (i n : Nat) :
    s.postStall (.can i n) =
      if s.disp.evq.length < 960 ∧ s.disp.held = [] then s.enqueue (0x120 + 4 * i + n)
      else s.setDisp { s.disp with held := s.disp.held ++ [.can i n] } := by
  have guard : (s.qfill < 960 && s.disp.held.isEmpty) = true ↔ s.disp.evq.length < 960 ∧ s.disp.held = [] := by
    rw [Bool.and_eq_true, decide_eq_true_iff, List.isEmpty_iff]
    rfl
  unfold Block.postStall
  by_cases room : s.disp.evq.length < 960 ∧ s.disp.held = []
  · rw [if_pos (guard.mpr room), if_pos room]
    rfl
  · rw [if_neg (mt guard.mp room), if_neg room]
    rfl

/-- An event that its source holds already changes nothing; another is posted, and HELD shows what is held then. -/
theorem canEvent_cases (s : Block) (i n : Nat) :
    (StallSrc.can i n ∈ s.disp.held ∧ s.canEvent i n = s) ∨
    (StallSrc.can i n ∉ s.disp.held ∧
      ∃ h, s.canEvent i n = (s.postStall (.can i n)).setB (R.CAN_STAT i) 22 h) := by
  by_cases held : StallSrc.can i n ∈ s.disp.held
  · exact .inl ⟨held, by simp [Block.canEvent, held]⟩
  · exact .inr ⟨held, _, by simp [Block.canEvent, held]; rfl⟩

theorem canEvent_disp (s : Block) (i n : Nat) : (s.canEvent i n).disp = s.disp.canPost i n := by
  unfold Disp.canPost
  obtain ⟨held, e⟩ | ⟨free, h, e⟩ := canEvent_cases s i n <;> rw [e]
  · rw [if_pos held]
  · rw [if_neg free, Block.setB, Block.wr_disp, postStall_can]
    split
    · exact enqueue_disp ..
    · exact setDisp_disp ..

theorem canQuiet_canEvent (s : Block) (i n : Nat) : s.canQuiet (s.canEvent i n) i := by
  obtain ⟨-, e⟩ | ⟨-, h, e⟩ := canEvent_cases s i n <;> rw [e]
  · exact canQuiet_refl s i
  · refine canQuiet_trans ?_ (canQuiet_wr _ _ (by simp [canViewRegs]))
    rw [postStall_can]
    split
    · exact canQuiet_enqueue ..
    · exact canQuiet_setDisp ..

/-! ### The window and the fills (R442, R450) -/

theorem sameHidden_canWindow (s : Block) (id ctl ts : Nat) (data : Nat → Nat) (x : CanBuf) :
    s.sameHidden (s.canWindow id ctl ts data x) := by
  unfold Block.canWindow forN
  refine List.foldlRecOn _ _ (motive := s.sameHidden) ?_ (fun c h j _ => sameHidden_trans h (sameHidden_wrN ..))
  exact sameHidden_trans (sameHidden_trans (sameHidden_wrN ..) (sameHidden_wrN ..)) (sameHidden_wrN ..)

theorem keeps_canWindow (s : Block) {A : List Nat} {id ctl ts : Nat} {data : Nat → Nat} (x : CanBuf) (hid : id ∈ A)
    (hctl : ctl ∈ A) (hts : ts ∈ A) (hdata : ∀ j < 16, data j ∈ A) : s.keeps (s.canWindow id ctl ts data x) A := by
  unfold Block.canWindow forN
  refine List.foldlRecOn _ _ (motive := fun c => s.keeps c A) ?_
    (fun c h j hj => keeps_trans h (keeps_wr _ _ _ (hdata j (List.mem_range.mp hj))))
  exact keeps_trans (keeps_trans (keeps_wr _ _ _ hid) (keeps_wr _ _ _ hctl)) (keeps_wr _ _ _ hts)

theorem sameHidden_canShow (s : Block) (i : Nat) : s.sameHidden (s.canShow i) := by
  have window := sameHidden_canWindow s (R.CAN_RXF_ID i) (R.CAN_RXF_CTL i) (R.CAN_RXF_TS i) (R.CAN_RXF_DATA i)
    ((s.canAt i).rxf.headD {})
  exact sameHidden_trans (sameHidden_trans (sameHidden_trans (sameHidden_trans window (sameHidden_setF ..))
    (sameHidden_setF ..)) (sameHidden_setB ..)) (sameHidden_setB ..)

theorem keeps_canShow (s : Block) (i : Nat) : s.keeps (s.canShow i) (canViewRegs i) := by
  have stat : R.CAN_STAT i ∈ canViewRegs i := by simp [canViewRegs]
  have window := keeps_canWindow s (A := canViewRegs i) (id := R.CAN_RXF_ID i) (ctl := R.CAN_RXF_CTL i)
    (ts := R.CAN_RXF_TS i) (data := R.CAN_RXF_DATA i) ((s.canAt i).rxf.headD {}) (by simp [canViewRegs])
    (by simp [canViewRegs]) (by simp [canViewRegs])
    (fun j hj => List.mem_append_right _ (List.mem_map_of_mem (List.mem_range.mpr hj)))
  exact keeps_trans (keeps_trans (keeps_trans (keeps_trans window (keeps_wr _ _ _ stat)) (keeps_wr _ _ _ stat))
    (keeps_wr _ _ _ stat)) (keeps_wr _ _ _ stat)

@[simp] theorem canAt_canShow (s : Block) (i k : Nat) : (s.canShow i).canAt k = s.canAt k :=
  canAt_of_sameHidden (sameHidden_canShow s i) k

theorem canShow_disp (s : Block) (i : Nat) : (s.canShow i).disp = s.disp :=
  disp_of_sameHidden (sameHidden_canShow s i)

theorem canQuiet_canShow (s : Block) (i : Nat) : s.canQuiet (s.canShow i) i :=
  canQuiet_of_sameHidden (keeps_canShow s i) (sameHidden_canShow s i)

/-! ### Fault confinement (R445) -/

/-- The last part of `setCounters`: the controller enters the state `fc`, which is an interrupt and an event. -/
def Block.enterFc (s : Block) (i fc : Nat) : Block :=
  let s := s.setF (R.CAN_STAT i) 2 2 fc
  let s := if fc = 2 then (s.canFlag i 3).setCan i { s.canAt i with recov := s.bt (R.CAN_CTRL i) 3 }
    else if fc = 1 then s.canFlag i 4 else s
  (s.raise (canPage i) 4).canEvent i 3

/-- The state of fault confinement that counters bring about (R445). -/
def Block.nextFc (s : Block) (i tec rec_ : Nat) : Nat :=
  if s.canFc i = 2 ∨ 256 ≤ tec then 2 else if 127 < tec ∨ 127 < rec_ then 1 else 0

/-- The first part of `setCounters`: CAN_ECNT holds the counters. -/
def Block.wrEcnt (s : Block) (i tec rec_ : Nat) : Block :=
  s.wrN (R.CAN_ECNT i) (min tec 255 + min rec_ 255 * 2 ^ 8 + (if 127 < rec_ then 2 ^ 16 else 0))

theorem setCounters_eq (s : Block) (i tec rec_ : Nat) :
    s.setCounters i tec rec_ =
      if s.nextFc i tec rec_ = s.canFc i then s.wrEcnt i tec rec_
      else (s.wrEcnt i tec rec_).enterFc i (s.nextFc i tec rec_) := rfl

/-- Bus-off starts a recovery or waits for one; either way it is flagged quietly. -/
theorem canQuiet_busOff (s : Block) (i : Nat) (r : Bool) :
    s.canQuiet ((s.canFlag i 3).setCan i { s.canAt i with recov := r }) i := by
  have start := canQuiet_setRecov (s.canFlag i 3) i r
  rw [canAt_canFlag] at start
  exact canQuiet_trans (canQuiet_canFlag s i (by decide) (by decide)) start

theorem canQuiet_enterFc (s : Block) (i fc : Nat) : s.canQuiet (s.enterFc i fc) i := by
  unfold Block.enterFc
  refine canQuiet_trans (canQuiet_trans ?_ (canQuiet_raise _ i (by decide) (by decide))) (canQuiet_canEvent ..)
  have shown : s.canQuiet (s.setF (R.CAN_STAT i) 2 2 fc) i := canQuiet_wr _ _ (by simp [canViewRegs])
  split
  · exact canQuiet_trans shown (canQuiet_busOff ..)
  · split
    · exact canQuiet_trans shown (canQuiet_canFlag _ i (by decide) (by decide))
    · exact shown

theorem canQuiet_countErr (s : Block) (i tec rec_ : Nat) : s.canQuiet (s.countErr i tec rec_) i := by
  have counted : s.canQuiet (s.wrEcnt i tec rec_) i := canQuiet_wr _ _ (by simp [canViewRegs])
  unfold Block.countErr
  split
  · exact canQuiet_refl s i
  · rw [setCounters_eq]
    split
    · exact counted
    · exact canQuiet_trans counted (canQuiet_enterFc ..)

/-- Counters of up to 127 leave an error-active controller so, and post nothing. -/
theorem countErr_disp_active {s : Block} {i tec rec_ : Nat} (active : s.canFc i = 0) (ht : tec ≤ 127) (hr : rec_ ≤ 127) :
    (s.countErr i tec rec_).disp = s.disp := by
  unfold Block.countErr
  split
  · rfl
  · have stays : s.nextFc i tec rec_ = s.canFc i := by
      rw [Block.nextFc, active, if_neg (by omega), if_neg (by omega)]
    rw [setCounters_eq, if_pos stays, Block.wrEcnt, Block.wrN, Block.wr_disp]

end Sys2Proof.Machine
end

section
/-! The end of an attempt to send (R445, R446): what each of its parts does to the frame that was on the bus. -/

namespace Sys2Proof.Machine

/-! ### The parts of an attempt's end -/

theorem canQuiet_canFrameEnd {s : Block} {i : Nat} (h : (s.canAt i).initPend = false) :
    s.canQuiet (s.canFrameEnd i) i := by
  have shown : s.canFrameEnd i = s.setB (R.CAN_STAT i) 6 false := by simp [Block.canFrameEnd, h]
  rw [shown]
  exact canQuiet_wr _ _ (by simp [canViewRegs])

/-- The last part of every attempt: the fills follow the FIFOs, and the frame on the bus has ended. -/
def Block.canEnded (s : Block) (i : Nat) : Block := (s.canShow i).canFrameEnd i

theorem canQuiet_canEnded {s : Block} {i : Nat} (h : (s.canAt i).initPend = false) : s.canQuiet (s.canEnded i) i :=
  canQuiet_trans (canQuiet_canShow s i) (canQuiet_canFrameEnd (by rwa [canAt_canShow]))

theorem canEnded_disp {s : Block} {i : Nat} (h : (s.canAt i).initPend = false) : (s.canEnded i).disp = s.disp := by
  rw [Block.canEnded, Block.canFrameEnd, if_neg (by simp [h]), Block.setB, Block.wr_disp, canShow_disp]

/-- The frame on the bus is removed, and its success reported. -/
def Block.canSent (s : Block) (i : Nat) : Block :=
  ((s.setCan i (s.canAt i).dropBus).raise (canPage i) 2).canEvent i 2

/-- The error that ended an attempt is flagged and counted; lost arbitration is none. -/
def Block.canAttemptErr (s : Block) (i outcome : Nat) (tecUp : Bool) : Block :=
  if outcome = 2 then
    if tecUp then (s.canFlag i 5).countErr i ((s.canFlag i 5).tec i + 8) ((s.canFlag i 5).rec_ i) else s.canFlag i 5
  else s

theorem canQuiet_canAttemptErr (s : Block) (i outcome : Nat) (tecUp : Bool) :
    s.canQuiet (s.canAttemptErr i outcome tecUp) i := by
  have flagged : s.canQuiet (s.canFlag i 5) i := canQuiet_canFlag s i (by decide) (by decide)
  unfold Block.canAttemptErr
  split
  · split
    · exact canQuiet_trans flagged (canQuiet_countErr ..)
    · exact flagged
  · exact canQuiet_refl s i

section
variable {s : Block} {i : Nat} {direct : Bool} (bus : (s.canAt i).onBus = some direct)
include bus

theorem opCanTxAttemptEnd_success (tecUp : Bool) :
    opCanTxAttemptEnd i 0 tecUp none s = ((s.countErr i (s.tec i - 1) (s.rec_ i)).canSent i).canEnded i := by
  simp [opCanTxAttemptEnd, bus, Block.canSent, Block.canEnded]

theorem opCanTxAttemptEnd_failure {outcome : Nat} (h : outcome ≠ 0) (tecUp : Bool) :
    opCanTxAttemptEnd i outcome tecUp none s = ((s.canAttemptErr i outcome tecUp).canFail i).canEnded i := by
  simp [opCanTxAttemptEnd, bus, h, Block.canAttemptErr, Block.canEnded]

end

/-! ### The frame that was on the bus -/

/-- The abort that waits for the end of the attempt (R446): of the direct-send frame, or of the FIFO's head. -/
def Can.abortOf (x : Can) (direct : Bool) : Bool := if direct = true then x.abortD else x.abortF

theorem dropBus_direct {x : Can} (h : x.onBus = some true) :
    x.dropBus = { x with txd := none, failD := 0, abortD := false, onBus := none } := by
  simp [Can.dropBus, h]

theorem dropBus_fifo {x : Can} (h : x.onBus = some false) :
    x.dropBus = { x with txf := x.txf.drop 1, failF := 0, abortF := false, onBus := none } := by
  simp [Can.dropBus, h]

@[simp] theorem dropBus_initPend (x : Can) : x.dropBus.initPend = x.initPend := by
  unfold Can.dropBus
  split <;> rfl

@[simp] theorem dropBus_recov (x : Can) (r : Bool) :
    ({ x with recov := r } : Can).dropBus = { x.dropBus with recov := r } := by
  rcases hx : x.onBus with _ | _ | _ <;> simp [Can.dropBus, hx]

theorem dropBus_abort_other {x : Can} {direct : Bool} (h : x.onBus = some direct) :
    x.dropBus.abortOf (!direct) = x.abortOf (!direct) := by
  cases direct with
  | false => rw [dropBus_fifo h]; rfl
  | true => rw [dropBus_direct h]; rfl

/-- The controller once an attempt of a frame that stays has failed. -/
def Can.attemptFailed (x : Can) (n : Nat) : Can :=
  if x.onBus == some true then { x with failD := n, onBus := none } else { x with failF := n, onBus := none }

theorem attemptFailed_abortOf (x : Can) (n : Nat) (direct : Bool) :
    (x.attemptFailed n).abortOf direct = x.abortOf direct := by
  unfold Can.attemptFailed
  split <;> rfl

@[simp] theorem attemptFailed_initPend (x : Can) (n : Nat) : (x.attemptFailed n).initPend = x.initPend := by
  unfold Can.attemptFailed
  split <;> rfl

/-- The failures of the frame on the bus before this attempt. -/
def Can.fails (x : Can) : Nat := if x.onBus == some true then x.failD else x.failF

/-- The frame on the bus is removed, and its abandonment reported (R445). -/
def Block.canAbandon (s : Block) (i : Nat) : Block :=
  ((((s.setCan i (s.canAt i).dropBus).canFlag i 2).canLost i 16).raise (canPage i) 3).canEvent i 2

theorem canFail_eq (s : Block) (i : Nat) :
    s.canFail i =
      if (s.canAt i).abortOf ((s.canAt i).onBus == some true) then s.setCan i (s.canAt i).dropBus
      else if s.fl (R.CAN_RETRY i) 0 8 ≤ (s.canAt i).fails then s.canAbandon i
      else s.setCan i ((s.canAt i).attemptFailed ((s.canAt i).fails + 1)) := by
  unfold Block.canFail Can.attemptFailed
  rfl

/-- An aborted frame is discarded where its attempt fails, and nothing is reported. -/
theorem canFail_aborted {s : Block} {i : Nat} {direct : Bool} (bus : (s.canAt i).onBus = some direct)
    (aborted : (s.canAt i).abortOf direct = true) : s.canFail i = s.setCan i (s.canAt i).dropBus := by
  have which : ((s.canAt i).onBus == some true) = direct := by simp [bus]
  rw [canFail_eq, which, if_pos aborted]

@[simp] theorem canAt_canLost (s : Block) (i lo k : Nat) : (s.canLost i lo).canAt k = s.canAt k :=
  canAt_of_sameHidden (sameHidden_setF ..) k

theorem canAt_canEvent (s : Block) (i n : Nat) : ∃ r, (s.canEvent i n).canAt i = { s.canAt i with recov := r } :=
  (canQuiet_canEvent s i n).state

theorem canAt_canAbandon (s : Block) (i : Nat) :
    ∃ r, (s.canAbandon i).canAt i = { (s.canAt i).dropBus with recov := r } := by
  have posted := canAt_canEvent ((((s.setCan i (s.canAt i).dropBus).canFlag i 2).canLost i 16).raise (canPage i) 3) i 2
  rwa [canAt_raise, canAt_canLost, canAt_canFlag, canAt_setCan] at posted

/-- Where an attempt fails its frame is gone, aborted or abandoned, or stays with one more failure. -/
theorem canAt_canFail (s : Block) (i : Nat) :
    (∃ r, (s.canFail i).canAt i = { (s.canAt i).dropBus with recov := r }) ∨
      ∃ n, (s.canFail i).canAt i = (s.canAt i).attemptFailed n := by
  rw [canFail_eq]
  split
  · exact .inl ⟨_, canAt_setCan ..⟩
  · split
    · exact .inl (canAt_canAbandon s i)
    · exact .inr ⟨_, canAt_setCan ..⟩

/-! ### How the end of an attempt leaves the frame -/

theorem canQuiet_initPend {b c : Block} {i : Nat} (h : b.canQuiet c i) :
    (c.canAt i).initPend = (b.canAt i).initPend := by
  obtain ⟨r, e⟩ := h.state
  rw [e]

theorem canQuiet_onBus {b c : Block} {i : Nat} (h : b.canQuiet c i) : (c.canAt i).onBus = (b.canAt i).onBus := by
  obtain ⟨r, e⟩ := h.state
  rw [e]

theorem canQuiet_abortOf {b c : Block} {i : Nat} (h : b.canQuiet c i) (direct : Bool) :
    (c.canAt i).abortOf direct = (b.canAt i).abortOf direct := by
  obtain ⟨r, e⟩ := h.state
  rw [e]
  rfl

/-- A step that removes the frame on the bus and reports no abandonment. -/
structure Block.canDropped (b c : Block) (i : Nat) : Prop where
  frame : b.canFrame c i (canRegs i)
  abandoned : c.bt (R.CAN_ERR i) 2 = b.bt (R.CAN_ERR i) 2
  lost : c.rd (R.CAN_LOST_CNT i) = b.rd (R.CAN_LOST_CNT i)
  state : ∃ r, c.canAt i = { (b.canAt i).dropBus with recov := r }

theorem canDropped_initPend {b c : Block} {i : Nat} (h : b.canDropped c i) :
    (c.canAt i).initPend = (b.canAt i).initPend := by
  obtain ⟨r, e⟩ := h.state
  rw [e]
  exact dropBus_initPend _

theorem canDropped_of_canQuiet_left {b c d : Block} {i : Nat} (h : b.canQuiet c i) (k : c.canDropped d i) :
    b.canDropped d i where
  frame := canFrame_trans h.frame k.frame
  abandoned := k.abandoned.trans h.abandoned
  lost := k.lost.trans h.lost
  state := by
    obtain ⟨r, hr⟩ := h.state
    obtain ⟨q, hq⟩ := k.state
    exact ⟨q, by rw [hq, hr, dropBus_recov]⟩

theorem canDropped_of_canQuiet_right {b c d : Block} {i : Nat} (h : b.canDropped c i) (k : c.canQuiet d i) :
    b.canDropped d i where
  frame := canFrame_trans h.frame k.frame
  abandoned := k.abandoned.trans h.abandoned
  lost := k.lost.trans h.lost
  state := by
    obtain ⟨r, hr⟩ := h.state
    obtain ⟨q, hq⟩ := k.state
    exact ⟨q, by rw [hq, hr]⟩

theorem canDropped_setCan (s : Block) (i : Nat) : s.canDropped (s.setCan i (s.canAt i).dropBus) i where
  frame := canFrame_setCan ..
  abandoned := rfl
  lost := rfl
  state := ⟨_, canAt_setCan ..⟩

theorem canDropped_canSent (s : Block) (i : Nat) : s.canDropped (s.canSent i) i := by
  have posted := canQuiet_canEvent ((s.setCan i (s.canAt i).dropBus).raise (canPage i) 2) i 2
  have state := posted.state
  rw [canAt_raise, canAt_setCan] at state
  exact
    { frame := canFrame_trans (canFrame_trans (canFrame_setCan ..) (canFrame_raise ..)) posted.frame
      abandoned := posted.abandoned.trans (Block.bt_congr (rd_canErr_raise ..) 2)
      lost := posted.lost.trans (rd_canLostCnt_raise ..)
      state := state }

theorem canDropped_counted_canSent (s : Block) (i : Nat) :
    s.canDropped ((s.countErr i (s.tec i - 1) (s.rec_ i)).canSent i) i :=
  canDropped_of_canQuiet_left (canQuiet_countErr ..) (canDropped_canSent ..)

theorem counted_canSent_initPend {s : Block} {i : Nat} (pend : (s.canAt i).initPend = false) :
    (((s.countErr i (s.tec i - 1) (s.rec_ i)).canSent i).canAt i).initPend = false :=
  (canDropped_initPend (canDropped_counted_canSent s i)).trans pend

/-- A success is reported: the page's interrupt of a frame sent. -/
theorem bt_canIrq_canSent (s : Block) (i : Nat) : (s.canSent i).bt (R.IRQ_RAW (canPage i)) 2 = true :=
  (canQuiet_canEvent _ i 2).sent.trans (Block.bt_raise_self _ _ 2 (by decide) (notPend_canPage i 0x10))

theorem canSent_disp (s : Block) (i : Nat) : (s.canSent i).disp = s.disp.canPost i 2 := by
  rw [Block.canSent, canEvent_disp, raise_disp, setCan_disp]

section
variable {s : Block} {i : Nat} {direct : Bool} (bus : (s.canAt i).onBus = some direct)
  (pend : (s.canAt i).initPend = false)
include bus pend

theorem canDropped_attempt_success (tecUp : Bool) : s.canDropped (opCanTxAttemptEnd i 0 tecUp none s) i := by
  rw [opCanTxAttemptEnd_success bus]
  exact canDropped_of_canQuiet_right (canDropped_counted_canSent s i) (canQuiet_canEnded (counted_canSent_initPend pend))

theorem bt_canIrq_attempt_success (tecUp : Bool) :
    (opCanTxAttemptEnd i 0 tecUp none s).bt (R.IRQ_RAW (canPage i)) 2 = true := by
  rw [opCanTxAttemptEnd_success bus]
  exact (canQuiet_canEnded (counted_canSent_initPend pend)).sent.trans (bt_canIrq_canSent ..)

theorem canPosted_attempt_success (tecUp : Bool) (active : s.canFc i = 0) (ht : s.tec i ≤ 127) (hr : s.rec_ i ≤ 127) :
    s.canPosted (opCanTxAttemptEnd i 0 tecUp none s) i 2 := by
  rw [canPosted_iff, opCanTxAttemptEnd_success bus, canEnded_disp (counted_canSent_initPend pend),
    canSent_disp, countErr_disp_active active (by omega) hr]

/-- The failure of an attempt whose frame is aborted: the error counted, the frame discarded, and nothing more. -/
theorem opCanTxAttemptEnd_aborted (aborted : (s.canAt i).abortOf direct = true) {outcome : Nat} (h : outcome ≠ 0)
    (tecUp : Bool) :
    ∃ c, s.canQuiet c i ∧ (c.setCan i (c.canAt i).dropBus).canQuiet (opCanTxAttemptEnd i outcome tecUp none s) i := by
  have counted := canQuiet_canAttemptErr s i outcome tecUp
  refine ⟨_, counted, ?_⟩
  rw [opCanTxAttemptEnd_failure bus h,
    canFail_aborted ((canQuiet_onBus counted).trans bus) ((canQuiet_abortOf counted direct).trans aborted)]
  exact canQuiet_canEnded ((canDropped_initPend (canDropped_setCan ..)).trans ((canQuiet_initPend counted).trans pend))

theorem canDropped_attempt_aborted (aborted : (s.canAt i).abortOf direct = true) (outcome : Nat) (tecUp : Bool) :
    s.canDropped (opCanTxAttemptEnd i outcome tecUp none s) i := by
  by_cases h : outcome = 0
  · rw [h]
    exact canDropped_attempt_success bus pend tecUp
  · obtain ⟨c, counted, ended⟩ := opCanTxAttemptEnd_aborted bus pend aborted h tecUp
    exact canDropped_of_canQuiet_right (canDropped_of_canQuiet_left counted (canDropped_setCan ..)) ended

theorem bt_canIrq_attempt_aborted (aborted : (s.canAt i).abortOf direct = true) {outcome : Nat} (h : outcome ≠ 0)
    (tecUp : Bool) :
    (opCanTxAttemptEnd i outcome tecUp none s).bt (R.IRQ_RAW (canPage i)) 2 = s.bt (R.IRQ_RAW (canPage i)) 2 := by
  obtain ⟨c, counted, ended⟩ := opCanTxAttemptEnd_aborted bus pend aborted h tecUp
  exact ended.sent.trans ((Block.bt_congr (rd_setCan ..) 2).trans counted.sent)

/-- However an attempt ends, the abort of the frame that was not on the bus stays as it was. -/
theorem abortOf_other_attempt (outcome : Nat) (tecUp : Bool) :
    ((opCanTxAttemptEnd i outcome tecUp none s).canAt i).abortOf (!direct) = (s.canAt i).abortOf (!direct) := by
  by_cases h : outcome = 0
  · obtain ⟨r, e⟩ := (canDropped_attempt_success bus pend tecUp).state
    rw [h, e]
    exact dropBus_abort_other bus
  · have counted := canQuiet_canAttemptErr s i outcome tecUp
    have bus' := (canQuiet_onBus counted).trans bus
    have pend' := (canQuiet_initPend counted).trans pend
    have kept := canQuiet_abortOf counted (!direct)
    rw [opCanTxAttemptEnd_failure bus h, ← kept]
    obtain ⟨r, e⟩ | ⟨n, e⟩ := canAt_canFail (s.canAttemptErr i outcome tecUp) i
    · rw [canQuiet_abortOf (canQuiet_canEnded (by rw [e]; exact (dropBus_initPend _).trans pend')), e]
      exact dropBus_abort_other bus'
    · rw [canQuiet_abortOf (canQuiet_canEnded (by rw [e]; exact (attemptFailed_initPend _ n).trans pend')), e]
      exact attemptFailed_abortOf ..

end

end Sys2Proof.Machine
end

section
/-! CAN_TXCMD and the end of an attempt to send (R446). -/

namespace Sys2Proof.Machine

/-! ### The commands -/

/-- TXF_ABORT: the frames of the FIFO that are not on the bus are discarded, one that is at the end of its attempt. -/
def Can.abortFifo (x : Can) : Can :=
  if x.onBus = some false then { x with txf := x.txf.take 1, abortF := true } else { x with txf := [], failF := 0 }

/-- TXD_ABORT, of the direct-send frame. -/
def Can.abortDirect (x : Can) : Can :=
  if x.onBus = some true then { x with abortD := true } else { x with txd := none, failD := 0 }

/-- A write of CAN_TXCMD with its two bits. -/
def Can.txcmd (x : Can) (fifo direct : Bool) : Can :=
  let x := if fifo = true then x.abortFifo else x
  if direct = true then x.abortDirect else x

theorem txcmd_direct (x : Can) (fifo : Bool) :
    x.txcmd fifo true = if fifo = true then x.abortFifo.abortDirect else x.abortDirect :=
  apply_ite Can.abortDirect ..

/-- A step that sets the hidden state of CAN controller i to x, and beside that changes at most what shows it. -/
structure Block.canSet (b c : Block) (i : Nat) (x : Can) : Prop where
  frame : b.canFrame c i (canViewRegs i)
  disp : c.disp = b.disp
  state : c.canAt i = x

theorem canSet_trans {b c d : Block} {i : Nat} {x y : Can} (h : b.canSet c i x) (k : c.canSet d i y) : b.canSet d i y :=
  ⟨canFrame_trans h.frame k.frame, k.disp.trans h.disp, k.state⟩

theorem canSet_of_sameHidden {b c : Block} {i : Nat} (kept : b.keeps c (canViewRegs i)) (same : b.sameHidden c) :
    b.canSet c i (b.canAt i) :=
  ⟨canFrame_of_sameHidden i kept same, disp_of_sameHidden same, canAt_of_sameHidden same i⟩

theorem canSet_refl (s : Block) (i : Nat) : s.canSet s i (s.canAt i) :=
  canSet_of_sameHidden (keeps_refl s _) (sameHidden_refl s)

theorem canSet_fresh (s : Block) (i : Nat) : s.canSet s.fresh i (s.canAt i) :=
  canSet_of_sameHidden (keeps_fresh s _) (sameHidden_fresh s)

theorem canSet_setCan (s : Block) (i : Nat) (x : Can) : s.canSet (s.setCan i x) i x :=
  ⟨canFrame_setCan .., setCan_disp .., canAt_setCan ..⟩

theorem canSet_setCan_canShow (s : Block) (i : Nat) (x : Can) : s.canSet ((s.setCan i x).canShow i) i x := by
  have shown := canSet_of_sameHidden (keeps_canShow (s.setCan i x) i) (sameHidden_canShow ..)
  rw [canAt_setCan] at shown
  exact canSet_trans (canSet_setCan s i x) shown

theorem canSet_opCanTxfAbort (s : Block) (i : Nat) (v : Word) :
    s.canSet (opCanTxfAbort i v s) i (if v.getLsbD 0 = true then (s.canAt i).abortFifo else s.canAt i) := by
  unfold opCanTxfAbort Can.abortFifo
  cases v.getLsbD 0 with
  | false => exact canSet_refl s i
  | true =>
    by_cases bus : (s.canAt i).onBus = some false
    · simpa [bus] using canSet_setCan_canShow s i { s.canAt i with txf := (s.canAt i).txf.take 1, abortF := true }
    · simpa [bus] using canSet_setCan_canShow s i { s.canAt i with txf := [], failF := 0 }

theorem canSet_opCanTxdAbort (s : Block) (i : Nat) (v : Word) :
    s.canSet (opCanTxdAbort i v s) i (if v.getLsbD 1 = true then (s.canAt i).abortDirect else s.canAt i) := by
  unfold opCanTxdAbort Can.abortDirect
  cases v.getLsbD 1 with
  | false => exact canSet_refl s i
  | true =>
    by_cases bus : (s.canAt i).onBus = some true
    · simpa [bus] using canSet_setCan s i { s.canAt i with abortD := true }
    · simpa [bus] using canSet_setCan_canShow s i { s.canAt i with txd := none, failD := 0 }

/-- Both bits of CAN_TXCMD act, TXF_ABORT first. -/
theorem canSet_opCanTxcmd (s : Block) (i : Nat) (v : Word) :
    s.canSet (opCanTxcmd i v s.fresh) i ((s.canAt i).txcmd (v.getLsbD 0) (v.getLsbD 1)) := by
  have first := canSet_trans (canSet_fresh s i) (canSet_opCanTxfAbort s.fresh i v)
  have second := canSet_opCanTxdAbort (opCanTxfAbort i v s.fresh) i v
  rw [first.state] at second
  exact canSet_trans first second

theorem onlyCan_of_canFrame {s : State} {b : Block} {i : Nat} {A : List Nat} (h : s.blk.canFrame b i A) :
    s.onlyCan { s with blk := b } i A :=
  ⟨⟨rfl, rfl, rfl, rfl⟩, h.kept, h.hidden, h.others⟩

/-- What the statement says of a command that sets the hidden state and shows it. -/
theorem canSet_outcome {s : State} {b : Block} {i : Nat} {x : Can} {c : Instr}
    (run : exec c s = .next { s with blk := b })
    (h : s.blk.canSet b i x) :
    ∃ t, exec c s = .next t ∧ s.onlyCan t i (canRegs i) ∧ t.blk.disp = s.blk.disp ∧
      t.blk.canAt i = x ∧ t.blk.rd (R.CAN_ERR i) = s.blk.rd (R.CAN_ERR i) ∧
      t.blk.rd (R.CAN_LOST_CNT i) = s.blk.rd (R.CAN_LOST_CNT i) :=
  ⟨_, run, onlyCan_of_canFrame (canFrame_mono h.frame (canViewRegs_subset_canRegs i)), h.disp, h.state,
    rd_canErr_of_keeps h.frame.kept, rd_canLostCnt_of_keeps h.frame.kept⟩

theorem twinnedPage_CAN_TXCMD (i : CanIx) : twinnedPage (R.CAN_TXCMD i.val) = false := by
  revert i
  decide

section
variable {s : State} {i : CanIx} {snd : Sender} (v : Word) (h : s.takesWrite snd (R.CAN_TXCMD i.val))
include h

theorem exec_canTxfAbort :
    exec (.canTxfAbort i snd v) s = .next { s with blk := opCanTxcmd i.val (setBit v 0 true) s.blk.fresh } :=
  onApp_write _ _ h (twinnedPage_CAN_TXCMD i)

theorem exec_canTxdAbort :
    exec (.canTxdAbort i snd v) s = .next { s with blk := opCanTxcmd i.val (setBit v 1 true) s.blk.fresh } :=
  onApp_write _ _ h (twinnedPage_CAN_TXCMD i)

end

/-! ### The end of an attempt -/

theorem held_of_off {s : Block} (h : s.off = false) : s.held = false := (Bool.or_eq_false_iff.mp h).1

theorem exec_canTxAttemptEnd {s : State} (i : CanIx) (o : Fin 3) (up : Bool) (d : Option Nat) (h : s.blk.off = false) :
    exec (.canTxAttemptEnd i o up d) s = .next { s with blk := opCanTxAttemptEnd i.val o.val up d s.blk } :=
  (ifRun_live _ h).trans (onApp_live _ (held_of_off h))

/-- The frame that was on the bus is gone, its abort with it. -/
theorem dropBus_gone {x : Can} {direct : Bool} (bus : x.onBus = some direct) :
    (if direct = true then x.dropBus.txd = none ∧ x.dropBus.abortD = false
      else x.dropBus.txf = x.txf.drop 1 ∧ x.dropBus.abortF = false) ∧ x.dropBus.onBus = none := by
  cases direct with
  | false => rw [dropBus_fifo bus]; exact ⟨⟨rfl, rfl⟩, rfl⟩
  | true => rw [dropBus_direct bus]; exact ⟨⟨rfl, rfl⟩, rfl⟩

theorem canDropped_gone {b c : Block} {i : Nat} {direct : Bool} (h : b.canDropped c i)
    (bus : (b.canAt i).onBus = some direct) :
    (if direct = true then (c.canAt i).txd = none ∧ (c.canAt i).abortD = false
      else (c.canAt i).txf = (b.canAt i).txf.drop 1 ∧ (c.canAt i).abortF = false) ∧ (c.canAt i).onBus = none := by
  obtain ⟨r, e⟩ := h.state
  rw [e]
  exact dropBus_gone bus

/-- Settles O53: a command sets the hidden state alone; an aborted frame is dropped however its attempt ends, reported as
sent or not at all; and no end of an attempt reaches the other frame's abort. -/
theorem canAborts : Obligations.CanAborts := by
  refine ⟨fun s i snd v h => ⟨?_, ?_⟩, ?_, ?_⟩
  · have acted := canSet_opCanTxcmd s.blk i.val (setBit v 0 true)
    simp only [getLsbD_setBit _ 0 _ _ (by decide), ↓reduceIte, one_ne_zero] at acted
    exact canSet_outcome (exec_canTxfAbort v h) acted
  · have acted := canSet_opCanTxcmd s.blk i.val (setBit v 1 true)
    simp only [getLsbD_setBit _ 1 _ _ (by decide), ↓reduceIte, zero_ne_one, txcmd_direct] at acted
    exact canSet_outcome (exec_canTxdAbort v h) acted
  · intro s i up o direct run bus pend _ x aborted
    have dropped := canDropped_attempt_aborted bus pend aborted o.val up
    obtain ⟨gone, idle⟩ := canDropped_gone dropped bus
    refine ⟨_, exec_canTxAttemptEnd i o up none run, onlyCan_of_canFrame dropped.frame, gone, idle, dropped.abandoned,
      Block.fl_congr dropped.lost 16 16, ?_, ?_⟩
    · rintro rfl
      exact ⟨bt_canIrq_attempt_success bus pend up, canPosted_attempt_success bus pend up⟩
    · exact fun failed => bt_canIrq_attempt_aborted bus pend aborted (Fin.val_ne_of_ne failed) up
  · intro s i up o direct run bus pend
    have other := abortOf_other_attempt bus pend o.val up
    refine ⟨_, exec_canTxAttemptEnd i o up none run, ?_⟩
    cases direct with
    | false => exact other
    | true => exact other

end Sys2Proof.Machine
end
